-- ==== Sys2Proof/Word.lean ====
section
/-! DEFINITION. The word types of the register window, the messages and the policy cores. -/

namespace Sys2Proof

/-- One byte. -/
abbrev Byte := BitVec 8
/-- One 32-bit register of the window (R13). -/
abbrev Word := BitVec 32
/-- A 64-bit quantity: a register pair (R13) or a policy core register (R498). -/
abbrev DWord := BitVec 64
/-- A Sluice message of 15 bytes, byte 0 in bits 7 to 0 (R3, R213). -/
abbrev Msg := BitVec 120

/-- What one power stage answers over PMBus and AVSBus (R188, R189, R194): whether it answered within its tries, STATUS_WORD,
STATUS_TEMPERATURE and STATUS_IOUT, READ_TEMPERATURE_1 in degrees, MFR_MODEL's low byte, and its output voltage in mV. -/
structure StageRead where
  answered : Bool := false
  word : BitVec 16 := 0
  stTemp : Byte := 0
  stIout : Byte := 0
  temp : BitVec 9 := 0
  model : Byte := 0
  avs : BitVec 12 := 0
deriving DecidableEq, Repr

end Sys2Proof
end

