-- ==== Sys2Proof/Syntax.lean ====
section
/-! DEFINITION. The commands of the block: one constructor per row of spec/opcode_table.json, with the row's operands. -/

namespace Sys2Proof

/-- A command sent to the governor: a register access, a pin, supply or clock event, a message on a link, the end of a
timer or of a step of an engine, or one instruction of a policy core. The docstring of each constructor is the row's
summary and the rule of spec/ it follows. -/
inductive Instr where
  /-- REGISTER_WRITE: A host write to a register with no row of its own; every field takes the write under its access code, with locks, W1C, range clamping and reserved bits applied (R18) -/
  | registerWrite (a : BitVec 26) (wide : Bool) (v : DWord)
  /-- UNMAPPED_READ: A read of an undefined offset returns zero and sets GL_STATUS.UNMAPPED (R21) -/
  | unmappedRead (a : BitVec 26)
  /-- UNMAPPED_WRITE: A write to an undefined offset is discarded and sets GL_STATUS.UNMAPPED (R22) -/
  | unmappedWrite (a : BitVec 26) (v : Word)
  /-- MISALIGNED_ACCESS: An access that is not 32-bit aligned, nor a valid 64-bit pair access, reads zero or is discarded and sets GL_STATUS.MISALIGNED (R23) -/
  | misalignedAccess (a : BitVec 26) (sz : Fin 4) (write : Bool) (v : DWord)
  /-- PAIR_LOW_READ: A 32-bit read of the low word of a 64-bit pair latches the high word for that requester (R14) -/
  | pairLowRead (a : BitVec 26) (wide : Bool)
  /-- PAIR_HIGH_READ: A read of the high word of a 64-bit pair returns the value latched by that requester's low-word read (R14) -/
  | pairHighRead (a : BitVec 26)
  /-- COLD_START: VDD33_AO rises through 3.0 V after a power cycle and every island is held in reset (R121) -/
  | coldStart (roleSel testen : Bool)
  /-- AO_RESET_RELEASE: AO leaves reset 10 us after VDD33_AO reaches 3.0 V and begins its boot steps (R838) -/
  | aoResetRelease
  /-- AO_BOOT_STEPS_DONE: AO completes the fuse read, power-cycle count, THRESH load and lock, meter restore, configuration read and Ledger sector location (R839) -/
  | aoBootStepsDone (flashOk : Bool)
  /-- RESET_RELEASE: The reset hold of an island ends and islands leave reset in the order TWN, HST, FRI, REG, SLU, FAB, POL, each after the previous island's first heartbeat (R122) -/
  | resetRelease
  /-- POWER_OFF: VDD33_AO falls below 2.4 V and the package is Off, losing AO state (R10) -/
  | powerOff
  /-- RST_N_LOW: RST_N held low for 1 us requests a warm reset, or wakes the package from Keep (R100) -/
  | rstNLow (low : Bool := true)
  /-- SUPPLY_OUT_OF_WINDOW: VDD_CORE, VDDIO or VDDA leaves its power-good window after the filter; the die releases ownership and holds every island but AO in reset (R114) -/
  | supplyOutOfWindow (n : Fin 3)
  /-- SUPPLY_RESTORED: Every supply has been back in its window for 1 ms and the die restarts by a warm reset with an island reset of REG (R114) -/
  | supplyRestored
  /-- VDD33_AO_LOW: VDD33_AO falls below 3.0 V without PFAIL_N, treated as a power-fail warning with a tail flush (R114) -/
  | vdd33AoLow
  /-- VDD33_AO_BELOW_2V9: VDD33_AO falls below 2.9 V and the die releases ownership and holds every output but TRIP_N at high impedance (R114) -/
  | vdd33AoBelow2v9
  /-- VDD33_AO_HIGH: VDD33_AO above 3.50 V is handled as a supply out of window, with AO and the trip latch running on (R114) -/
  | vdd33AoHigh
  /-- REFCLK_LOSS: REFCLK_100 absent or off frequency for 1 us switches the derived islands to the AO oscillator (R114) -/
  | refclkLoss
  /-- VXREF_LOSS: VXREF absent or off frequency for 1 us takes every Vexurn port down (R114) -/
  | vxrefLoss
  /-- XT32_LOSS: The 32.768 kHz crystal shows no edge for 100 us and the AO oscillator runs undisciplined (R114) -/
  | xt32Loss
  /-- EXTERNAL_TRIP: TRIP_N reads low while neither die's latch is set; recorded as an external trip (R114) -/
  | externalTrip (low : Bool := true)
  /-- PFAIL_N_LOW: PFAIL_N low for 1 us is accepted as a bus-failure warning, starting a tail flush and checkpoints (R97) -/
  | pfailNLow
  /-- SHED_IN_CHANGE: A level of SHED_IN stable for 10 us is accepted, putting shed in force at the node or ending the local assertion (R96) -/
  | shedInChange (high : Bool)
  /-- DROOP_N_PULSE: A DROOP_N_Dn low pulse of 2 ns or longer raises the backoff of every domain with an open tile on that die (R302) -/
  | droopNPulse (n : Fin 16)
  /-- PSFLT_ASSERT: PSFLT_Gn asserts; every non-failed phase of the group becomes suspect and goes high impedance, and location begins (R194) -/
  | psfltAssert (g : Fin 16)
  /-- ISLAND_HUNG: No heartbeat from an island for 8 us; the island is declared hung and reset, held, or ownership released (R141) -/
  | islandHung (n : Fin 7)
  /-- CROSSING_UNANSWERED: A crossing handshake stays unanswered for 4 times its latency and the receiving island is treated as hung (R141) -/
  | crossingUnanswered (n : Fin 7) (row : Fin 20)
  /-- RESET_REQ_WR: IS_RESET_REQ.WR requests a warm reset, deferred with a handover request on the owner in Run or Doze (R124) -/
  | resetReqWr (v : Word)
  /-- RESET_REQ_IR: IS_RESET_REQ.IR requests an island reset of ISLAND, refused under the conditions of Table 3.5 (R128) -/
  | resetReqIr (v : Word)
  /-- RESET_REQ_HR: IS_RESET_REQ.HR requests a host link reset of host-facing state (R121) -/
  | resetReqHr (v : Word)
  /-- RESET_REQ_FR: IS_RESET_REQ.FR requests a fabric reset, clearing neighbours, LSAs and routes (R667) -/
  | resetReqFr (v : Word)
  /-- RESET_REQ_DR: IS_RESET_REQ.DR requests a debug reset of the TAP, the IEEE 1687 network and the counters, after debug unlock (R117) -/
  | resetReqDr (v : Word)
  /-- CANCEL_WR: IS_RESET_REQ.CANCEL_WR cancels a pending deferred warm reset (R126) -/
  | cancelWr (v : Word)
  /-- HOST_TUNNEL_DOWN: The Host Tunnel link is down for 10 us and a host link reset follows (R121) -/
  | hostTunnelDown
  /-- TRST_N_LOW: TRST_N low causes a debug reset (R117) -/
  | trstNLow
  /-- DEFERRED_WR_PROCEED: A deferred warm reset proceeds once the other die is Active or the package has reached Nap (R124) -/
  | deferredWrProceed
  /-- WR_WAIT_END: The warm reset wait ends when no fault record is unflushed or 20 ms have passed, and reset is asserted (R127) -/
  | wrWaitEnd
  /-- ENERGY_CHECKPOINT: Every 1 s AO checkpoints the energy meter, operating seconds, power-cycle count and next sequence number to flash (R139) -/
  | energyCheckpoint
  /-- PKG_CMD_GO: IS_PKG_CMD with GO starts the package state transition to TARGET, through intermediate states where needed (R131) -/
  | pkgCmdGo (v : Word)
  /-- PKG_TRANSITION_DONE: The sequence of a package state transition completes and the new state is recorded with 0x1010 (R131) -/
  | pkgTransitionDone
  /-- PKG_TRANSITION_TIMEOUT: A transition not complete within its bound is abandoned, retried or forced to Nap (R141) -/
  | pkgTransitionTimeout
  /-- WAKE_TIMER_EXPIRY: The Keep wake timer expires and the package leaves Keep for Nap (R131) -/
  | wakeTimerExpiry
  /-- SAVE_COMPLETE: A save of a configuration block to flash completes, and a queued save of that block starts (R872) -/
  | saveComplete (b : Fin 11)
  /-- PROFILE_LOAD_DONE: REG accepts or refuses the rail profile read from flash, recording 0x2002 on refusal (R840) -/
  | profileLoadDone (err : Word)
  /-- PROFILE_SAVE: PC_PROFILE_CTL.SAVE writes the whole rail profile and its CRC to flash (R145) -/
  | profileSave (v : Word)
  /-- PHASE_CLR: PC_PHASE_CLR returns a failed phase to healthy and sends CLEAR_FAULTS (R197) -/
  | phaseClr (v : Word)
  /-- CLEAR_FAULT: PC_RAIL_CTL.CLEAR_FAULT takes a rail out of the regulation fault state into soft-start (R193) -/
  | clearFault (r : Fin 8) (v : Word)
  /-- SWITCHING_CYCLE: At the start of a phase's switching cycle REG computes its on-time from the latest error, balance trim and dead-time correction (R153) -/
  | switchingCycle (n : Fin 256) (e : BitVec 12) (busv isn : BitVec 16)
  /-- PHASE_ADD: Rail current above N times I_ADD for 2 us adds a phase (R159) -/
  | phaseAdd (r : Fin 8) (isn : List (BitVec 16))
  /-- PHASE_SHED: Rail current below (N-1) times I_SHED for 50 us sheds a phase (R159) -/
  | phaseShed (r : Fin 8) (isn : List (BitVec 16))
  /-- PHASE_IMBALANCE: A trim at its limit for 100 us with a large share error fails the phase with IMBALANCE (R158) -/
  | phaseImbalance (n : Fin 256) (isn : List (BitVec 16))
  /-- RAIL_CURRENT_LIMIT: Rail current reaches the limit in force and every on-time is capped (R166) -/
  | railCurrentLimit (r : Fin 8) (isn : List (BitVec 16))
  /-- RAIL_POWER_GOOD: A rail held within 20 mV of its setpoint for 50 us becomes power-good (R170) -/
  | railPowerGood (r : Fin 8) (raw : BitVec 12)
  /-- SS_TIMEOUT: A rail not power-good within SS_TIMEOUT enters the regulation fault state with cause START (R170) -/
  | ssTimeout (r : Fin 8)
  /-- BURST_ENTRY: Rail current below 3 % of its derated rating for 200 us puts the rail in burst mode (R172) -/
  | burstEntry (r : Fin 8) (isn : List (BitVec 16))
  /-- BURST_PULSE: In burst mode the rail falls to setpoint minus 6 mV and the burst phases fire high-side pulses (R173) -/
  | burstPulse (r : Fin 8) (raw : BitVec 12)
  /-- BURST_EXIT: A burst-exit command, upward grade step, current rise or undervoltage ends burst mode (R175) -/
  | burstExit (r : Fin 8) (cause : Fin 4) (isn : List (BitVec 16)) (raw : BitVec 12)
  /-- FLOODGATE_STROBE: On a Floodgate strobe REG drives every enabled phase of the rail high-side (R178) -/
  | floodgateStrobe (r : Fin 8)
  /-- FLOODGATE_HOLD_END: The hold ends on strobe withdrawal or after 120 ns, the integrator is preset and phases resume (R180) -/
  | floodgateHoldEnd (r : Fin 8) (isn : List (BitVec 16))
  /-- DEAD_TIME_CHANGE: A change of dead-time table or row writes the new dead time to each stage over PMBus (R185) -/
  | deadTimeChange (i : Fin 264) (ack : Bool)
  /-- PMBUS_POLL_ROUND: A segment polls STATUS_WORD, temperature and AVSBus voltage of each of its stages (R188) -/
  | pmbusPollRound (seg : Fin 4) (l : List StageRead) (alert : Bool := false)
  /-- AVS_WRITE: The owner writes a new setpoint target over AVSBus to every stage of a rail (R189) -/
  | avsWrite (r : Fin 8)
  /-- VSN_SENSE_FAULT: An open VSN input puts the rail in the regulation fault state (R191) -/
  | vsnSenseFault (r : Fin 8) (raw : BitVec 12)
  /-- RAIL_UNDERVOLTAGE: A rail more than 100 mV below setpoint for 20 us enters the regulation fault state (R191) -/
  | railUndervoltage (r : Fin 8) (raw : BitVec 12)
  /-- RAIL_OVERVOLTAGE: A rail above setpoint plus OV_MARGIN for 200 ns is driven low-side (R192) -/
  | railOvervoltage (r : Fin 8) (raw : BitVec 12)
  /-- OV_DISCHARGE_DONE: The sensed voltage reaches the setpoint and the rail enters the regulation fault state (R192) -/
  | ovDischargeDone (r : Fin 8) (raw : BitVec 12)
  /-- RAIL_GROSS_OVERCURRENT: Rail current above 1.25 times its limit for 2 us enters the regulation fault state (R191) -/
  | railGrossOvercurrent (r : Fin 8) (isn : List (BitVec 16))
  /-- GROUP_LOCATION_DONE: Location of a group fault completes: reported stages are failed and turned off and the others leave suspect (R194) -/
  | groupLocationDone (g : Fin 16) (l : List StageRead) (still : Bool)
  /-- PHASE_SENSE_FAULT: An ISN reading at a rail end for 4 us fails the phase with SENSE (R196) -/
  | phaseSenseFault (n : Fin 256) (isn : BitVec 16)
  /-- PMBUS_SEGMENT_STUCK: A PMBus segment stuck low for 35 ms receives bus recovery or is declared lost (R202) -/
  | pmbusSegmentStuck (seg : Fin 4) (recovered : Bool)
  /-- LINK_TRAIN_ATTEMPT_FAIL: A Sluice link not active within 2 ms fails the attempt and, after three, is disabled (R208) -/
  | linkTrainAttemptFail (n : Fin 16)
  /-- LINK_RETRY: 10 us after a failed attempt or loss, the KG8 starts a new training attempt (R208) -/
  | linkRetry (n : Fin 16)
  /-- LINK_ACTIVE: A Sluice link reaches the active state and the Active sends SYNC on it (R250) -/
  | linkActive (n : Fin 16) (rate : Fin 3) (x8 : Bool)
  /-- RETRAIN: SL_LINK_CTL.RETRAIN starts training of a link and re-enables it if disabled (R208) -/
  | retrain (v : Word)
  /-- FLIT_RECEIVED: A flit is received, its CRC and FSEQ checked, and its messages or a replay request handled (R212) -/
  | flitReceived (n : Fin 16) (f : BitVec 512) (side : Fin 3 := 0)
  /-- LINK_LOSS: A link is declared lost; tiles clamp, their INTENTs are discarded and barrier counts reduced (R248) -/
  | linkLoss (n : Fin 16) (cause : Fin 3)
  /-- LINK_LOSS_RETURN: 2 us after a link loss every reservation of that die's tiles is returned (R248) -/
  | linkLossReturn (n : Fin 16)
  /-- INTENT_RECEIVED: An INTENT passes the intake and intent queue, is checked, judged on budget, and parked, listed, answered or refused (R436) -/
  | intentReceived (n : Fin 16) (m : Msg)
  /-- RELEASE_RECEIVED: A RELEASE lowers, cancels or is ignored against the tile's reservation (R232) -/
  | releaseReceived (n : Fin 16) (m : Msg)
  /-- OPEN_RECEIVED: An OPEN runs the conformance checks, a PROBE, and CONFIG or CLOSE (R252) -/
  | openReceived (n : Fin 16) (m : Msg)
  /-- STATE_RECEIVED: A STATE report sets the tile's allowance and lease in the new Active (R251) -/
  | stateReceived (n : Fin 16) (m : Msg)
  /-- TEMP_RECEIVED: A TEMP report overwrites the tile's report table entry (R236) -/
  | tempReceived (n : Fin 16) (m : Msg)
  /-- DROOP_RECEIVED: A DROOP report updates the report table and counters (R236) -/
  | droopReceived (n : Fin 16) (m : Msg)
  /-- PROBEREPLY_RECEIVED: A PROBEREPLY is judged against the pending PROBE for check 5 (R252) -/
  | probereplyReceived (n : Fin 16) (m : Msg)
  /-- PROBE_TIMEOUT: No correct PROBEREPLY within 2 us fails check 5 and closes the tile (R252) -/
  | probeTimeout (t : Fin 16384)
  /-- RESERVATION_RETURN: At GRANT issue plus LEASE plus LEASE_GUARD the reservation returns to its domain (R228) -/
  | reservationReturn (t : Fin 16384)
  /-- BUDGET_REPEAT: Every 10 ms while a tile of a partition is HELD, BUDGET is sent again (R235) -/
  | budgetRepeat (p : Fin 64)
  /-- TILE_NEEDS_CURRENT: A tile needing current above its allowance sends an INTENT and enters ASKING (R223) -/
  | tileNeedsCurrent (t : Fin 16384) (cls : Byte) (lease : BitVec 12) (arrive : Bool) (grp : BitVec 12) (op : BitVec 16) (layer : BitVec 12)
  /-- TILE_RENEW: A tile sends an INTENT with RENEW before its lease expires (R230) -/
  | tileRenew (t : Fin 16384) (cls : Byte) (lease : BitVec 12)
  /-- TILE_NEEDS_LESS: A running tile reduces its draw and sends RELEASE with the new class (R223) -/
  | tileNeedsLess (t : Fin 16384) (cls : Byte)
  /-- TILE_WITHDRAWS: An asking tile sends RELEASE with CANCEL for its outstanding INTENT (R223) -/
  | tileWithdraws (t : Fin 16384)
  /-- GRANT_RECEIVED: A tile receives a matching GRANT, ramps to the granted class and restarts its lease (R223) -/
  | grantReceived (t : Fin 16384) (m : Msg)
  /-- MGRANT_RECEIVED: A tile in ASKING with a matching BARRIER_GRP accepts an MGRANT (R224) -/
  | mgrantReceived (t : Fin 16384) (m : Msg)
  /-- NAK_RECEIVED: A tile responds to a NAK by backoff, HELD wait, clamping or discard (R233) -/
  | nakReceived (t : Fin 16384) (m : Msg)
  /-- BUDGET_RECEIVED: A BUDGET clearing the NAK reason releases a HELD tile (R223) -/
  | budgetReceived (t : Fin 16384) (m : Msg)
  /-- CONFIG_RECEIVED: A tile applies floor, partition, domain, RAMP, grade and frequency and opens (R223) -/
  | configReceived (t : Fin 16384) (m : Msg)
  /-- GROUP_RECEIVED: A tile sets or empties one of its four multicast group slots (R218) -/
  | groupReceived (t : Fin 16384) (m : Msg)
  /-- FSTEP_RECEIVED: A tile changes its clock to FREQ, or gates its compute clocks for FREQ 0 (R242) -/
  | fstepReceived (t : Fin 16384) (m : Msg)
  /-- PAUSE_RECEIVED: A tile applies the PAUSE duty within 1 us (R243) -/
  | pauseReceived (t : Fin 16384) (m : Msg)
  /-- REFRESH_RECEIVED: A tile forwards the refresh code to its memory controllers (R243) -/
  | refreshReceived (t : Fin 16384) (m : Msg)
  /-- PROBE_RECEIVED: A tile answers a PROBE with a PROBEREPLY of the inverted DATA (R218) -/
  | probeReceived (t : Fin 16384) (m : Msg)
  /-- CLOSE_RECEIVED: A tile drops to floor class and enters CLAMPED (R223) -/
  | closeReceived (t : Fin 16384) (m : Msg)
  /-- SYNC_RECEIVED: The die port moves tile traffic to the link carrying SYNC, resends unacknowledged messages and tiles report STATE or OPEN (R250) -/
  | syncReceived (n : Fin 16) (other : Bool)
  /-- RAMP_COMPLETE: A granted tile finishes its ramp and enters RUNNING (R226) -/
  | rampComplete (t : Fin 16384)
  /-- ENDPOINT_LEASE_EXPIRY: A tile's lease expires and it is back at floor class (R227) -/
  | endpointLeaseExpiry (t : Fin 16384)
  /-- QFULL_BACKOFF_EXPIRY: The backoff after a QFULL ends and the tile resends the message (R234) -/
  | qfullBackoffExpiry (t : Fin 16384) (ty : Fin 8 := 1)
  /-- HELD_WAIT_EXPIRY: The 1 ms wait after a SHED or THERMAL NAK ends and the tile leaves HELD (R233) -/
  | heldWaitExpiry (t : Fin 16384)
  /-- OPEN_RETRY: A clamped tile on a live link resends OPEN every 1 ms (R223) -/
  | openRetry (t : Fin 16384)
  /-- TEMP_REPORT: A tile reports a sensor with TEMP every 64 us or on a change of 1 degC (R239) -/
  | tempReport (t : Fin 16384) (j : Fin 4) (valid : Bool) (mdeg : Word) (change : Bool)
  /-- DROOP_REPORT: A tile with a droop reporter sends DROOP after local droop events (R240) -/
  | droopReport (t : Fin 16384) (count : Byte) (longest : BitVec 16)
  /-- CLAMP_ACCEPT: The die port accepts a CLAMP code held stable for 500 ns (R245) -/
  | clampAccept (n code : Fin 16)
  /-- ENDPOINT_LINK_LOSS: The die port informs every tile of a lost traffic link and tiles fall to floor class (R247) -/
  | endpointLinkLoss (n : Fin 16) (other : Bool)
  /-- WAVE_START: At each wave start FRI walks the domain's list, judging again and granting entries within capacity, rail limit and budget (R264) -/
  | waveStart (d : Fin 8)
  /-- BARRIER_TIMEOUT: A round not released within BAR_TIMEOUT is released with the members that have arrived (R275) -/
  | barrierTimeout (g : Fin 4095)
  /-- PREDICT_TICK: Every 1 us FRI recomputes t_pred of a round under prediction (R278) -/
  | predictTick (g : Fin 4095)
  /-- PREBOOST_START: At t_pred plus stagger less LEAD the domain's offset ramps up and burst exits (R280) -/
  | preboostStart (g : Fin 4095) (d : Fin 8)
  /-- PREBOOST_MAXHOLD: A full offset with no release within MAXHOLD is withdrawn (R281) -/
  | preboostMaxhold (g : Fin 4095) (d : Fin 8)
  /-- GRADE_REQ_WRITE: A write of AD_GRADE_REQ sets the domain's target grade and starts a step (R292) -/
  | gradeReqWrite (d : Fin 8) (v : Word)
  /-- GRADE_SETTLED: After an upward slew the rail settles and FSTEP with the new grade is issued (R286) -/
  | gradeSettled (d : Fin 8)
  /-- GRADE_DOWN_FALL: 2 us after a downward FSTEP the grade voltage begins to fall (R287) -/
  | gradeDownFall (d : Fin 8)
  /-- GRADE_SETTLE_TIMEOUT: A rail not settled within 50 us returns to the grade in force (R289) -/
  | gradeSettleTimeout (d : Fin 8)
  /-- LIMIT_STEP: A rail current-limited for LIMIT_DWELL lowers the domain's target by one grade (R291) -/
  | limitStep (d : Fin 8)
  /-- PAUSE_DUTY_CHANGE: A change of thermal, budget or policy duty sends PAUSE, rises at once and falls one step per list entry (R294) -/
  | pauseDutyChange (n : Fin 8) (v : Word)
  /-- FLOODGATE_DETECT: The QUAL-th qualifying sample launches the Floodgate strobe and sets backoff (R297) -/
  | floodgateDetect (r : Fin 8) (l : List (BitVec 12))
  /-- STROBE_WITHDRAW: Two samples above setpoint minus REC, or HOLD, withdraw the strobe (R298) -/
  | strobeWithdraw (r : Fin 8) (l : List (BitVec 12))
  /-- FLOODGATE_REARM: REG reports the handback complete and detection re-arms (R299) -/
  | floodgateRearm (r : Fin 8)
  /-- FREEZE_END: 100 us with no fire ends a storm freeze (R301) -/
  | freezeEnd (d : Fin 8)
  /-- AX_RUN: AX_CTL.RUN starts the auxiliary sequence (R312) -/
  | axRun (v : Word)
  /-- AX_STOP: AX_CTL.STOP turns every channel off in reverse order (R334) -/
  | axStop (v : Word)
  /-- AX_CLEAR: AX_CTL.CLEAR clears the fault of CHANNEL, which enters WAITING (R323) -/
  | axClear (v : Word)
  /-- AX_RESTART: AX_CTL.RESTART restarts a stopped group (R329) -/
  | axRestart (v : Word)
  /-- AUX_READY: A waiting channel becomes ready after its predecessors are GOOD for DELAY (R313) -/
  | auxReady (n : Fin 24)
  /-- AUX_ADMIT_TICK: Every 10 us ready channels are admitted to soft-start within GRP_INRUSH (R314) -/
  | auxAdmitTick
  /-- AUX_GOOD: A channel at PG_PCT of its source for 100 us becomes GOOD and is driven fully on (R318) -/
  | auxGood (n : Fin 24) (agv v : BitVec 12)
  /-- AUX_SS_TIMEOUT: A channel not GOOD within SS_TIMER faults with TIMER (R319) -/
  | auxSsTimeout (n : Fin 24) (c : BitVec 12)
  /-- AUX_FAST: The fast comparator fires and the channel faults with FAST (R320) -/
  | auxFast (n : Fin 24) (c : BitVec 12)
  /-- AUX_OVERLOAD: A GOOD channel above RUN_LIM for RUN_T faults with OVERLOAD (R321) -/
  | auxOverload (n : Fin 24) (c : BitVec 12)
  /-- AUX_UV: A GOOD channel below PG_PCT minus 5 % for 20 us faults with UV (R322) -/
  | auxUv (n : Fin 24) (agv v : BitVec 12)
  /-- AUX_SENSE: An AUXC or AUXV reading at full scale for 4 us faults with SENSE (R336) -/
  | auxSense (n : Fin 24) (c : BitVec 12) (v : BitVec 12 := 0)
  /-- GROUP_WARN: Group current at GRP_WARN for 1 ms records 0x4013 and raises an Urgent event (R325) -/
  | groupWarn (g : Fin 4) (cs : List (BitVec 12))
  /-- SAG_BEGIN: Two low AGV samples begin a sag, pausing soft-starting channels (R327) -/
  | sagBegin (g : Fin 4) (a b : BitVec 12)
  /-- SAG_END: Ten recovered samples end the sag and paused channels resume (R326) -/
  | sagEnd (g : Fin 4) (agv : BitVec 12)
  /-- SAG_MAX_EXPIRY: A sag longer than SAG_MAX stops the group (R328) -/
  | sagMaxExpiry (g : Fin 4)
  /-- REVERSE_OFF_STEP: A channel is turned off once its dependents are below 10 % or 1 ms has passed (R330) -/
  | reverseOffStep (n : Fin 24) (v : BitVec 12)
  /-- RES_TICK: Every 10 us REG recomputes g, the converter command, p_res and the allowance (R348) -/
  | resTick (busv : Option (BitVec 16)) (busi convW : Int) (rvstk : Nat) (rvis : Int)
  /-- BLEED_START: The bleed slot begins and cells of parity p bleed (R356) -/
  | bleedStart
  /-- BLEED_OFF: At 85 ms bleeding stops on every cell (R355) -/
  | bleedOff
  /-- READING_A: At 90 ms all cells, RVSTK and RVIS are read clean (R355) -/
  | readingA (cells : List (BitVec 16)) (rvstk : Nat) (rvis : Int)
  /-- PROBE_ON: At 90 ms the owner sources and sinks probe currents on the taps (R357) -/
  | probeOn
  /-- READING_B: At 95 ms the cells are read, probes stop and each tap is judged (R359) -/
  | readingB (cells : List (BitVec 16)) (rvstk : Nat)
  /-- STACK_OVERCURRENT: Stack current above 1.25 IMAX for 10 us stops the converter (R368) -/
  | stackOvercurrent (rvis : Int)
  /-- CTH_SAMPLE: Every 10 ms each thermistor is sampled and judged (R352) -/
  | cthSample (vs : List (BitVec 16))
  /-- CAUSE_CLEAR_TIMER: The timer of a BYPASS cause ends and the reservoir returns to CHECK (R346) -/
  | causeClearTimer (c : Fin 12)
  /-- NEW_MODULE: RV_CTL.NEW_MODULE resets endurance and enters CHECK (R374) -/
  | newModule (v : Word)
  /-- RECHECK: RV_CTL.RECHECK clears causes that it may clear (R346) -/
  | recheck (v : Word)
  /-- RV_SAVE: RV_CTL.SAVE writes every reservoir Config field to flash (R383) -/
  | rvSave (v : Word)
  /-- CHECK_DONE: CHECK passes or fails after its thermistor, cell and probe checks (R378) -/
  | checkDone
  /-- PRECHARGE_DONE: V_low reaches VMIN and precharge ends (R379) -/
  | prechargeDone
  /-- PRECHARGE_TIMEOUT: Precharge times out into BYPASS with PRECHARGE (R379) -/
  | prechargeTimeout
  /-- ESR_SAMPLE: A fast stack-current step yields an ESR sample for each cell (R372) -/
  | esrSample (step : Int) (dv : List (BitVec 16))
  /-- ESR_UNMEASURED: No ESR sample for 7 days records 0x5041 (R372) -/
  | esrUnmeasured
  /-- ENDURANCE_CHECKPOINT: Every 1 h endurance state is checkpointed to flash (R375) -/
  | enduranceCheckpoint
  /-- SHED_FLAG: The shed flag reaches REG, releasing the reserve and following G_CEIL (R376) -/
  | shedFlag
  /-- ZONE_TICK: Every 10 us FRI recomputes each zone temperature and band (R386) -/
  | zoneTick
  /-- SENSOR_READING: A sensor reading completes and is judged for plausibility and against THRESH (R389) -/
  | sensorReading (cls : Fin 4) (i : BitVec 16) (ok : Bool) (v : BitVec 17)
  /-- READING_SILENT: A declared tile sensor silent for 256 us is broken (R389) -/
  | readingSilent (t : Fin 16384) (j : Fin 4)
  /-- READING_STUCK: A code unchanged for 10 s while neighbours move is broken (R389) -/
  | readingStuck (cls : Fin 4) (i : BitVec 16)
  /-- READING_RESTORED: A reading passing every test for 1 s returns to use (R391) -/
  | readingRestored (cls : Fin 4) (i : BitVec 16)
  /-- DIE_UNPINNED: 10 s at or below 25 % broken unpins a die (R393) -/
  | dieUnpinned (n : Fin 16)
  /-- STEP_TICK: Every 10 ms step counts and thermal duties update (R400) -/
  | stepTick
  /-- ORDERLY_STOP_RECOMPUTE: Every 100 us during a stop the projection is recomputed (R405) -/
  | orderlyStopRecompute
  /-- DRAIN_END: Reservations returned or DRAIN_MAX ends the drain phase (R406) -/
  | drainEnd
  /-- FLUSH_END: No fault record unflushed or FLUSH_MAX ends the flush phase (R406) -/
  | flushEnd
  /-- GRADE0_REACHED: Every rail holds its grade 0 voltage and the trip is latched (R406) -/
  | grade0Reached
  /-- AO_TRIP_COMPARE: Every 10 us AO compares governor sensors with THRESH (R411) -/
  | aoTripCompare (j : Fin 16) (ok : Bool) (v : BitVec 10)
  /-- THRESH_WRITE: A write to TH_TRIP.THRESH is judged as RWD and written to flash (R408) -/
  | threshWrite (v : Word)
  /-- TH_SAVE: TH_CTL.SAVE writes every thermal Config field to flash (R419) -/
  | thSave (v : Word)
  /-- ALLOCATION: Every PERIOD the engine recomputes partition allocations (R432) -/
  | allocation
  /-- BUDGET_DUTY_TICK: Every PERIOD measured demand is compared with B and duties adjusted (R445) -/
  | budgetDutyTick
  /-- ESTIMATE_TICK: Every 10 us each partition's energy estimate advances (R447) -/
  | estimateTick
  /-- EST_CLEAR: BG_CTL.EST_CLEAR zeroes the estimates (R449) -/
  | estClear (v : Word)
  /-- BG_SAVE: BG_CTL.SAVE writes every budget Config field to flash (R452) -/
  | bgSave (v : Word)
  /-- PART_CFG_WRITE: A write to BG_PART_CFG is checked for validity and applied or refused (R427) -/
  | partCfgWrite (p : Fin 64) (hi : Bool) (v : Word)
  /-- HELD_ASK_EXPIRY: A HELD ask stops counting in demand 10 ms after its refusal (R431) -/
  | heldAskExpiry (t : Fin 16384)
  /-- RGA_TIMEOUT: RGA not received for 10 us decays (R451) -/
  | rgaTimeout
  /-- QCFG_WRITE: A write to ME_QCFG enables a queue from the pool, or disables it (R457) -/
  | qcfgWrite (q : Fin 4096) (v : Word)
  /-- ME_POP_READ: A read of ME_POP by the READER removes the head message and latches it (R482) -/
  | mePopRead (req : Fin 9) (q : Fin 4096)
  /-- ME_POP64_READ: A 64-bit read of ME_POP returns words 0 and 1 and latches the rest (R484) -/
  | mePop64Read (req : Fin 9) (q : Fin 4096)
  /-- COLLECT_TIMEOUT: A collection round delivers partial after TIMEOUT (R481) -/
  | collectTimeout (g : Fin 4096)
  /-- COLLECT_RETRY: Delivery of a collection result is retried every 1 us for 100 us (R481) -/
  | collectRetry (g : Fin 4096)
  /-- NORMAL_DISPATCH: A dispatch queue at a wait point starts a Normal handler (R507) -/
  | normalDispatch (c : Fin 8)
  /-- URGENT_DISPATCH: An Urgent message preempts the thread or Normal handler (R510) -/
  | urgentDispatch (c : Fin 8)
  /-- BUDGET_OVERRUN: A count exceeding its budget resets the core (R513) -/
  | budgetOverrun (c : Fin 8)
  /-- CORE_EXCEPTION: An exception stops and resets the core (R516) -/
  | coreException (c : Fin 8) (e : Fin 8)
  /-- CORE_RESTART: 1 ms after a fault reset the core restarts at ENTRY (R516) -/
  | coreRestart (c : Fin 8)
  /-- IK_STOP: IK_CTL.STOP stops the named cores (R529) -/
  | ikStop (v : Word)
  /-- IK_RESTART: IK_CTL.RESTART starts a held core at ENTRY (R517) -/
  | ikRestart (v : Word)
  /-- IK_SAVE: IK_CTL.SAVE writes every Ikiva Config field to flash (R529) -/
  | ikSave (v : Word)
  /-- BUDGET_WRITE: A write of IK_BUDGET below a declared WCET is discarded (R523) -/
  | budgetWrite (v : Word)
  /-- IMAGE_LOAD: The image is read, checked and loaded, and passing cores start at ENTRY (R522) -/
  | imageLoad
  /-- ADD: rd = rs1 + rs2 (R539) -/
  | ikAdd (c : Fin 8) (rd rs1 rs2 : Fin 32)
  /-- SUB: rd = rs1 - rs2 (R539) -/
  | ikSub (c : Fin 8) (rd rs1 rs2 : Fin 32)
  /-- AND: Bitwise AND (R539) -/
  | ikAnd (c : Fin 8) (rd rs1 rs2 : Fin 32)
  /-- OR: Bitwise OR (R539) -/
  | ikOr (c : Fin 8) (rd rs1 rs2 : Fin 32)
  /-- XOR: Bitwise XOR (R539) -/
  | ikXor (c : Fin 8) (rd rs1 rs2 : Fin 32)
  /-- SLL: Logical left shift (R539) -/
  | ikSll (c : Fin 8) (rd rs1 rs2 : Fin 32)
  /-- SRL: Logical right shift (R539) -/
  | ikSrl (c : Fin 8) (rd rs1 rs2 : Fin 32)
  /-- SRA: Arithmetic right shift (R539) -/
  | ikSra (c : Fin 8) (rd rs1 rs2 : Fin 32)
  /-- SLT: Signed set-less-than (R539) -/
  | ikSlt (c : Fin 8) (rd rs1 rs2 : Fin 32)
  /-- SLTU: Unsigned set-less-than (R539) -/
  | ikSltu (c : Fin 8) (rd rs1 rs2 : Fin 32)
  /-- MIN: Signed minimum (R539) -/
  | ikMin (c : Fin 8) (rd rs1 rs2 : Fin 32)
  /-- MAX: Signed maximum (R539) -/
  | ikMax (c : Fin 8) (rd rs1 rs2 : Fin 32)
  /-- MINU: Unsigned minimum (R539) -/
  | ikMinu (c : Fin 8) (rd rs1 rs2 : Fin 32)
  /-- MAXU: Unsigned maximum (R539) -/
  | ikMaxu (c : Fin 8) (rd rs1 rs2 : Fin 32)
  /-- MUL: Low 64 bits of product (R539) -/
  | ikMul (c : Fin 8) (rd rs1 rs2 : Fin 32)
  /-- MULH: High 64 bits of signed product (R539) -/
  | ikMulh (c : Fin 8) (rd rs1 rs2 : Fin 32)
  /-- MULHU: High 64 bits of unsigned product (R539) -/
  | ikMulhu (c : Fin 8) (rd rs1 rs2 : Fin 32)
  /-- DIV: Signed quotient in 24 cycles with defined zero-divisor result (R540) -/
  | ikDiv (c : Fin 8) (rd rs1 rs2 : Fin 32)
  /-- DIVU: Unsigned quotient (R540) -/
  | ikDivu (c : Fin 8) (rd rs1 rs2 : Fin 32)
  /-- REM: Signed remainder (R540) -/
  | ikRem (c : Fin 8) (rd rs1 rs2 : Fin 32)
  /-- REMU: Unsigned remainder (R540) -/
  | ikRemu (c : Fin 8) (rd rs1 rs2 : Fin 32)
  /-- CMP: Sets flags from rs1 - rs2 (R538) -/
  | ikCmp (c : Fin 8) (rs1 rs2 : Fin 32)
  /-- CLZ: Count leading zeros (R539) -/
  | ikClz (c : Fin 8) (rd rs1 : Fin 32)
  /-- POPC: Count one bits (R539) -/
  | ikPopc (c : Fin 8) (rd rs1 : Fin 32)
  /-- ADDI: Add sign-extended immediate (R541) -/
  | ikAddi (c : Fin 8) (rd rs1 : Fin 32) (imm : BitVec 15)
  /-- ANDI: AND zero-extended immediate (R541) -/
  | ikAndi (c : Fin 8) (rd rs1 : Fin 32) (imm : BitVec 15)
  /-- ORI: OR zero-extended immediate (R541) -/
  | ikOri (c : Fin 8) (rd rs1 : Fin 32) (imm : BitVec 15)
  /-- XORI: XOR zero-extended immediate (R541) -/
  | ikXori (c : Fin 8) (rd rs1 : Fin 32) (imm : BitVec 15)
  /-- SHI: Shift by immediate amount (R541) -/
  | ikShi (c : Fin 8) (rd rs1 : Fin 32) (sel : Fin 4) (amt : Fin 64)
  /-- SLTI: Signed compare with immediate (R541) -/
  | ikSlti (c : Fin 8) (rd rs1 : Fin 32) (imm : BitVec 15)
  /-- SLTIU: Unsigned compare with immediate (R541) -/
  | ikSltiu (c : Fin 8) (rd rs1 : Fin 32) (imm : BitVec 15)
  /-- CMPI: Sets flags from rs1 minus immediate (R538) -/
  | ikCmpi (c : Fin 8) (rs1 : Fin 32) (imm : BitVec 15)
  /-- LITL: Loads a sign-extended 32-bit literal (R541) -/
  | ikLitl (c : Fin 8) (rd : Fin 32) (lit : Word)
  /-- LITH: Loads the high word from a literal (R541) -/
  | ikLith (c : Fin 8) (rd : Fin 32) (lit : Word)
  /-- LB: Load signed byte (R542) -/
  | ikLb (c : Fin 8) (rt rb : Fin 32) (off : BitVec 15)
  /-- LBU: Load unsigned byte (R542) -/
  | ikLbu (c : Fin 8) (rt rb : Fin 32) (off : BitVec 15)
  /-- LH: Load signed halfword (R542) -/
  | ikLh (c : Fin 8) (rt rb : Fin 32) (off : BitVec 15)
  /-- LHU: Load unsigned halfword (R542) -/
  | ikLhu (c : Fin 8) (rt rb : Fin 32) (off : BitVec 15)
  /-- LW: Load signed word (R542) -/
  | ikLw (c : Fin 8) (rt rb : Fin 32) (off : BitVec 15)
  /-- LWU: Load unsigned word (R542) -/
  | ikLwu (c : Fin 8) (rt rb : Fin 32) (off : BitVec 15)
  /-- LD: Load doubleword (R542) -/
  | ikLd (c : Fin 8) (rt rb : Fin 32) (off : BitVec 15)
  /-- SB: Store byte (R542) -/
  | ikSb (c : Fin 8) (rt rb : Fin 32) (off : BitVec 15)
  /-- SH: Store halfword (R542) -/
  | ikSh (c : Fin 8) (rt rb : Fin 32) (off : BitVec 15)
  /-- SW: Store word (R542) -/
  | ikSw (c : Fin 8) (rt rb : Fin 32) (off : BitVec 15)
  /-- SD: Store doubleword (R542) -/
  | ikSd (c : Fin 8) (rt rb : Fin 32) (off : BitVec 15)
  /-- ACLR: Clear accumulator (R544) -/
  | ikAclr (c ad : Fin 8)
  /-- ALD: Load accumulator from Q32.32 (R544) -/
  | ikAld (c ad : Fin 8) (rs1 : Fin 32)
  /-- ALDI: Load accumulator from integer (R544) -/
  | ikAldi (c ad : Fin 8) (rs1 : Fin 32)
  /-- ALDR: Load accumulator raw (R544) -/
  | ikAldr (c ad : Fin 8) (rs1 rs2 : Fin 32)
  /-- AADD: Saturating accumulator add (R544) -/
  | ikAadd (c ad asr : Fin 8)
  /-- ASUB: Saturating accumulator subtract (R544) -/
  | ikAsub (c ad asr : Fin 8)
  /-- AMOV: Copy accumulator (R544) -/
  | ikAmov (c ad asr : Fin 8)
  /-- MULQ: Fixed-point multiply into accumulator (R544) -/
  | ikMulq (c ad : Fin 8) (rs1 rs2 : Fin 32)
  /-- MACQ: Fixed-point multiply-accumulate (R544) -/
  | ikMacq (c ad : Fin 8) (rs1 rs2 : Fin 32)
  /-- MSUQ: Fixed-point multiply-subtract (R544) -/
  | ikMsuq (c ad : Fin 8) (rs1 rs2 : Fin 32)
  /-- ASHR: Arithmetic right shift of accumulator (R544) -/
  | ikAshr (c ad : Fin 8) (k : Fin 32)
  /-- ASHL: Saturating left shift of accumulator (R544) -/
  | ikAshl (c ad : Fin 8) (k : Fin 32)
  /-- ARD: Read accumulator saturated to Q32.32 (R544) -/
  | ikArd (c asr : Fin 8) (rd : Fin 32)
  /-- ARDL: Read accumulator low bits raw (R544) -/
  | ikArdl (c asr : Fin 8) (rd : Fin 32)
  /-- ARDH: Read accumulator high bits raw (R544) -/
  | ikArdh (c asr : Fin 8) (rd : Fin 32)
  /-- BEQ: Branch if equal (R545) -/
  | ikBeq (c : Fin 8) (ra rb : Fin 32) (off : BitVec 15)
  /-- BNE: Branch if not equal (R545) -/
  | ikBne (c : Fin 8) (ra rb : Fin 32) (off : BitVec 15)
  /-- BLT: Branch if signed less (R545) -/
  | ikBlt (c : Fin 8) (ra rb : Fin 32) (off : BitVec 15)
  /-- BGE: Branch if signed not less (R545) -/
  | ikBge (c : Fin 8) (ra rb : Fin 32) (off : BitVec 15)
  /-- BLTU: Branch if unsigned less (R545) -/
  | ikBltu (c : Fin 8) (ra rb : Fin 32) (off : BitVec 15)
  /-- BGEU: Branch if unsigned not less (R545) -/
  | ikBgeu (c : Fin 8) (ra rb : Fin 32) (off : BitVec 15)
  /-- JAL: Jump and link (R545) -/
  | ikJal (c : Fin 8) (ra : Fin 32) (off : BitVec 15)
  /-- JALR: Jump to register plus offset and link (R545) -/
  | ikJalr (c : Fin 8) (rd rs1 : Fin 32) (imm : BitVec 15)
  /-- NOP: No operation (R546) -/
  | ikNop (c : Fin 8)
  /-- RTE: Return from a Normal or Urgent handler (R510) -/
  | ikRte (c : Fin 8)
  /-- MFS: Read special register (R546) -/
  | ikMfs (c : Fin 8) (rd : Fin 32) (n : Fin 32)
  /-- MTS: Write special register (R546) -/
  | ikMts (c : Fin 8) (n : Fin 32) (rs1 : Fin 32)
  /-- MFM: Read a message register (R546) -/
  | ikMfm (c : Fin 8) (rd : Fin 32) (k : Fin 32)
  /-- SEND: Send a datagram or channel message and return a result (R548) -/
  | ikSend (c : Fin 8) (rd rs1 rs2 : Fin 32) (mode : Fin 4)
  /-- RECV: Pop a queue into four registers (R549) -/
  | ikRecv (c : Fin 8) (rd rs1 : Fin 32)
  /-- WAITQ: Wait for a message in the selection set, taking dispatch (R550) -/
  | ikWaitq (c : Fin 8) (rd : Fin 32)
  /-- WAITQ_COMPLETE: A queue of the set holds a message and WAITQ returns its number (R550) -/
  | waitqComplete (c : Fin 8) (n : BitVec 16)
  /-- QSEL: Select the selection set (R547) -/
  | ikQsel (c : Fin 8) (set : Fin 4)
  /-- CHOPEN: Open a channel to a queue (R551) -/
  | ikChopen (c : Fin 8) (rd rs1 : Fin 32)
  /-- CHCLOSE: Close an owned channel (R551) -/
  | ikChclose (c : Fin 8) (rd rs1 : Fin 32)
  /-- GRADE: Write a domain's target grade under duty GRADE_d (R552) -/
  | ikGrade (c : Fin 8) (rd rs1 : Fin 32) (d : Fin 8)
  /-- ADMIT: Write an AD_PLAN entry under duty PLAN (R552) -/
  | ikAdmit (c : Fin 8) (rd rs1 rs2 : Fin 32)
  /-- BARX: Write a barrier group's EXPECT under duty PLAN (R552) -/
  | ikBarx (c : Fin 8) (rd rs1 rs2 : Fin 32)
  /-- PAUSE: Write a partition's policy pause duty (R552) -/
  | ikPause (c : Fin 8) (rd rs1 rs2 : Fin 32)
  /-- PGRADE: Write a partition's grant grade (R552) -/
  | ikPgrade (c : Fin 8) (rd rs1 rs2 : Fin 32)
  /-- RLIM: Write a rail's policy current limit (R552) -/
  | ikRlim (c : Fin 8) (rd rs1 : Fin 32) (r : Fin 8)
  /-- LOGEV: Write a policy Ledger record, or request handover with 0x9FFF (R553) -/
  | ikLogev (c : Fin 8) (rd rs1 rs2 : Fin 32)
  /-- DRD: Read the register window without changing state (R554) -/
  | ikDrd (c : Fin 8) (rd rs1 : Fin 32) (mode : Fin 4)
  /-- PSTATE: Request a Run or Doze transition under duty PKGSTATE (R552) -/
  | ikPstate (c : Fin 8) (rd rs1 : Fin 32)
  /-- RING_DOORBELL: A write of CF_RING_TAIL submits descriptors (R561) -/
  | ringDoorbell (r : Fin 1024) (v : Word)
  /-- RING_TURN: A ring takes a turn of parsing and starting (R583) -/
  | ringTurn
  /-- DESCRIPTOR_FETCHED: A descriptor arrives, is checked, and HEAD advances (R564) -/
  | descriptorFetched (r : Fin 1024) (bytes : List Byte) (ok : Bool)
  /-- BUFFER_FETCHED: Command buffer data arrives for parsing (R585) -/
  | bufferFetched (r : Fin 1024) (bytes : List Byte) (ok : Bool)
  /-- SETCAP: Write a partition's CEILING, WEIGHT and ENABLE (R570) -/
  | setcap
  /-- SETFLOOR: Write a partition's FLOOR (R570) -/
  | setfloor
  /-- LOADTBL: Load host data into the inactive bank of a table (R573) -/
  | loadtbl
  /-- TABLE_PUBLISH: Transfer complete: directory word written and ACTIVE inverted (R573) -/
  | tablePublish (n : Fin 6)
  /-- RUNPOL: Send a launch to a core's launch queue (R576) -/
  | runpol
  /-- PROFILE: Send a launch with profile entries to the PROFILE core (R580) -/
  | profile
  /-- SIGNAL: Send a write, datagram or interrupt signal (R581) -/
  | signal
  /-- FENCE: Wait for all earlier commands (R568) -/
  | fence
  /-- CHAIN: Set the chained descriptor address (R582) -/
  | chain
  /-- LAUNCH_RETRY: A launch without room is retried each 1 us (R579) -/
  | launchRetry
  /-- LAUNCH_TIMEOUT: A launch is given up after LAUNCH_TIMEOUT (R579) -/
  | launchTimeout (r : Fin 1024) (i : Fin 4096)
  /-- RING_ABORT: CF_RING_CTL.ABORT ends the descriptor with ABORTED (R588) -/
  | ringAbort (r : Fin 1024) (v : Word)
  /-- RING_RESUME: CF_RING_CTL.RESUME takes a ring out of STOPPED (R588) -/
  | ringResume (r : Fin 1024) (v : Word)
  /-- RING_CFG_WRITE: A write of CF_RING_CFG enables a ring, or aborts and disables it (R563) -/
  | ringCfgWrite (r : Fin 1024) (v : Word)
  /-- VEC_MASK_WRITE: Clearing MASK with PENDING sends one interrupt (R559) -/
  | vecMaskWrite (n : Fin 256) (v : Word)
  /-- CF_SAVE: CF_CTL.SAVE writes front-end Config to flash (R590) -/
  | cfSave (v : Word)
  /-- FL_START: FL_CH_CTL.START begins a host channel transfer (R594) -/
  | flStart (n : Fin 16) (v : Word)
  /-- FL_RESUME: FL_CH_CTL.RESUME continues a halted transfer (R614) -/
  | flResume (n : Fin 16) (v : Word)
  /-- FL_ABORT: FL_CH_CTL.ABORT ends a halted transfer (R614) -/
  | flAbort (n : Fin 16) (v : Word)
  /-- GRANULE_ARRIVED: A granule's data arrives and is written in order, advancing DONE (R596) -/
  | granuleArrived (n : Fin 16) (k : Fin 16384) (bytes : List Byte) (ok : Bool)
  /-- WALK_READ_DONE: A page-table entry read completes and the walk continues, fills the TLB or faults (R605) -/
  | walkReadDone (u : Fin 1041) (e : DWord) (ok : Bool)
  /-- UPSTREAM_READ_TIMEOUT: A read with no completion in 100 us is a BUS fault (R599) -/
  | upstreamReadTimeout (u : Fin 1041) (k : Fin 16384)
  /-- HOLD_EXPIRY: A halted table channel is aborted after HOLD (R615) -/
  | holdExpiry (n : Fin 6)
  /-- FL_INV_GO: FL_INV.GO removes TLB entries of a context (R607) -/
  | flInvGo (v : Word)
  /-- INV_COMPLETE: Invalidation completes and BUSY clears (R607) -/
  | invComplete
  /-- CTX_WRITE: A write of FL_CTX sets ROOT or ENABLE (R602) -/
  | ctxWrite (c : Fin 65) (hi : Bool) (v : Word)
  /-- FL_SAVE: FL_CFG.SAVE writes Flume Config to flash (R623) -/
  | flSave (v : Word)
  /-- PORT_UP: A Vexurn port holds block lock for 1 ms and is up (R625) -/
  | portUp (p : Fin 6) (fec : Bool)
  /-- PORT_DOWN: A port goes down and flushes its egress (R626) -/
  | portDown (p : Fin 6) (cause : Fin 3)
  /-- AUTONEG_RESTART: A KR port not up within 600 ms restarts auto-negotiation (R625) -/
  | autonegRestart (p : Fin 6)
  /-- HELLO_TIMER: Every 100 us each up port sends HELLO (R637) -/
  | helloTimer
  /-- HELLO_RECEIVED: A HELLO advances the neighbour state machine (R638) -/
  | helloReceived (p : Fin 6) (l : List Byte)
  /-- NEIGHBOUR_DEAD: No HELLO for 400 us puts the neighbour DOWN (R638) -/
  | neighbourDead (p : Fin 6)
  /-- TREQ_TIMER: Every 250 us a child sends TREQ (R658) -/
  | treqTimer
  /-- TREQ_RECEIVED: A parent answers TREQ with TRSP (R658) -/
  | treqReceived (p : Fin 6) (l : List Byte)
  /-- TRSP_RECEIVED: The child computes theta and steps or slews Weir time (R662) -/
  | trspReceived (p : Fin 6) (l : List Byte)
  /-- HOLDOVER: No TRSP for 1 ms enters holdover (R663) -/
  | holdover
  /-- LSA_RECEIVED: An LSA replaces the held one and is forwarded (R641) -/
  | lsaReceived (p : Fin 6) (l : List Byte)
  /-- LSA_REFRESH: Every 30 s a node originates its LSA (R640) -/
  | lsaRefresh
  /-- LSA_AGE_OUT: An LSA reaching 120 s is removed (R641) -/
  | lsaAgeOut (id : DWord)
  /-- ADDRESS_CLAIM: 20 ms after its first port came up with no same-group neighbour FULL, the node claims its address (R634) -/
  | addressClaim
  /-- ROUTE_RECOMPUTE: Routes are recomputed after an LSA database change (R644) -/
  | routeRecompute
  /-- SUMMARY_TIMER: Every 1 s a border node sends SUMMARY (R646) -/
  | summaryTimer
  /-- SUMMARY_RECEIVED: A SUMMARY is held and flooded into the group (R647) -/
  | summaryReceived (p : Fin 6) (l : List Byte)
  /-- SUMMARY_EXPIRY: A SUMMARY not refreshed for 4 s is dropped (R647) -/
  | summaryExpiry (origin : Word)
  /-- DGRAM_RECEIVED: A DGRAM is forwarded, delivered or refused (R655) -/
  | dgramReceived (p : Fin 6) (l : List Byte)
  /-- DGNAK_RECEIVED: A DGNAK updates VX_REP notices and may deliver a notice (R656) -/
  | dgnakReceived (p : Fin 6) (l : List Byte)
  /-- PPS_EDGE: A rising edge on PPS_IN (R665) -/
  | ppsEdge
  /-- PPS_LOST: No edge 1.1 s after the last marks PPS_IN lost (R665) -/
  | ppsLost
  /-- TIME_SET_APPLY: VX_TIME_CTL.APPLY sets Weir time on the Catchment root (R665) -/
  | timeSetApply (v : Word)
  /-- VX_SAVE: VX_CTL.SAVE writes Vexurn Config to flash (R673) -/
  | vxSave (v : Word)
  /-- CEIL_INJECT: VX_CB_CTL.INJECT injects a ceiling (R681) -/
  | ceilInject (v : Word)
  /-- CEILING_RECEIVED: A CEILING replaces the held one and is flooded (R682) -/
  | ceilingReceived (p : Fin 6) (l : List Byte)
  /-- REPORT_SLOT: At its slot a node sends REPORT to its parent (R686) -/
  | reportSlot
  /-- REPORT_RECEIVED: A child's REPORT is used in this period or the next (R688) -/
  | reportReceived (p : Fin 6) (l : List Byte)
  /-- ROOT_COMPUTE: The root judges majority and divides the ceiling (R689) -/
  | rootCompute
  /-- ALLOT_RECEIVED: An ALLOT sets the share and is divided among children (R690) -/
  | allotReceived (p : Fin 6) (l : List Byte)
  /-- CHILD_MISSING: A child's REPORT missing three periods holds it down (R691) -/
  | childMissing (p : Fin 6) (elsewhere : Bool)
  /-- CHILD_DROP: A held-down child is dropped after 7 ms (R691) -/
  | childDrop (p : Fin 6)
  /-- ORPHAN_TIMEOUT: No MAJORITY ALLOT for 5 ms orphans the Active (R693) -/
  | orphanTimeout
  /-- SHED_REFRESH: While SHED_IN is high a SHED is originated every SHED_REFRESH (R694) -/
  | shedRefresh
  /-- SHED_RECEIVED: A SHED sets or extends shed_until and is forwarded (R695) -/
  | shedReceived (p : Fin 6) (l : List Byte)
  /-- SHED_COPY1: 50 us after forwarding, the COPY 1 SHED is sent (R695) -/
  | shedCopy1
  /-- SHED_EXPIRY: shed_until passes and the shed ends (R696) -/
  | shedExpiry
  /-- TWIN_SHARE_COPY: Every 1 ms the Active sends its share to the Standby (R675) -/
  | twinShareCopy (watts level : Word) (slot : Byte) (orphan : Bool)
  /-- STAGGER_WRITE: A write of VX_STAGGER.SLOT passes to FRI (R699) -/
  | staggerWrite (v : Word)
  /-- QUIET_EXPIRY: TW_OWN_N reads high for T_QUIET and the eligible die sinks it (R706) -/
  | quietExpiry (low : Bool)
  /-- CLAIM_CHECK: 40 ns after sinking the die measures its current and holds or releases ownership (R706) -/
  | claimCheck (ua : BitVec 16) (cause : Fin 5)
  /-- CLAIM_BACKOFF_EXPIRY: After BACKOFF the die resumes claiming (R706) -/
  | claimBackoffExpiry
  /-- OWNER_CONTENTION: An owner with low sink current for 100 ns records contention (R709) -/
  | ownerContention (ua : BitVec 16)
  /-- OWNERSHIP_RELEASE: A die releases ownership and becomes BARRED (R710) -/
  | ownershipRelease (cause : Fin 5)
  /-- BARRED_EXPIRY: After 1 ms the BARRED die becomes STANDBY (R710) -/
  | barredExpiry
  /-- TWIN_FRAME_TIMER: Every 1 us each die sends a mirror or status frame (R712) -/
  | twinFrameTimer
  /-- TWIN_FRAME_RECEIVED: A twin frame is checked and its mirror state taken (R712) -/
  | twinFrameReceived (l : List Byte) (swept : Bool)
  /-- OUT_OF_STEP: No good frame for 4 us takes the Standby out of step (R716) -/
  | outOfStep
  /-- TW_HANDOVER: TW_CTL.HANDOVER requests a voluntary handover (R722) -/
  | twHandover (v : Word)
  /-- FORCE_CLAIM: TW_CTL.FORCE_CLAIM resets the attempt count (R706) -/
  | forceClaim (v : Word)
  /-- HANDOVER_READY_TIMEOUT: No HANDOVER_READY within 2 us refuses the handover (R724) -/
  | handoverReadyTimeout
  /-- TWIN_LINK_LOSS: Loss of the twin link puts the Standby in split (R725) -/
  | twinLinkLoss (low : Bool)
  /-- RECORD_ARRIVAL: A record arrives at AO, is rate-limited, admitted, stamped and numbered (R737) -/
  | recordArrival
  /-- TOKEN_REFILL: Every REFILL_MS a code's bucket gains a token (R737) -/
  | tokenRefill (code : BitVec 16)
  /-- SUMMARY_SECOND: At each whole second AO writes 0xF001 and 0xF007 summaries (R739) -/
  | summarySecond
  /-- LEDGER_FLUSH_START: A flush begins on 8 records, 50 ms age or a fault record (R745) -/
  | ledgerFlushStart
  /-- DATA_PASS_DONE: A page data pass completes and read-back follows (R743) -/
  | dataPassDone
  /-- READBACK_DONE: Read-back matches and the mark pass starts, or mismatches and records move (R746) -/
  | readbackDone (ok : Bool)
  /-- MARK_PASS_DONE: The mark pass completes and the page's records are flushed (R743) -/
  | markPassDone
  /-- ERASE_DONE: A sector erase completes (R754) -/
  | eraseDone (ms typ top : BitVec 16) (failed : Bool)
  /-- LEDGER_SCAN_DONE: The cold-start scan sets the next sequence number (R751) -/
  | ledgerScanDone (abandoned : Bool)
  /-- LG_CURSOR_WRITE: A write of LG_CURSOR starts a window fill (R760) -/
  | lgCursorWrite (kind : Fin 3) (v : DWord)
  /-- WINDOW_FILL_DONE: The window fill completes and READY reads 1 (R760) -/
  | windowFillDone
  /-- LG_CLEAR: LG_CTL.CLEAR requests an authorised clear (R765) -/
  | lgClear (v : Word)
  /-- LG_FLUSH: LG_CTL.FLUSH starts a flush (R745) -/
  | lgFlush (v : Word)
  /-- LG_SAVE: LG_CTL.SAVE writes Ledger Config to flash (R770) -/
  | lgSave (v : Word)
  /-- STREAM_VEC_TIMER: Stream interrupt at most once per 1 ms (R763) -/
  | streamVecTimer
  /-- LG_RL_WRITE: A write to an LG_RL entry refills affected buckets (R866) -/
  | lgRlWrite (i : Fin 1025) (hi : Bool) (v : Word)
  /-- SE_COMMIT: SE_CTL.COMMIT raises the anti-rollback counter (R779) -/
  | seCommit (v : Word)
  /-- SE_VERIFY: SE_CTL.VERIFY checks a slot (R783) -/
  | seVerify (v : Word)
  /-- SE_RELOCK: SE_CTL.RELOCK ends unlock and closes the window (R789) -/
  | seRelock (v : Word)
  /-- SLOT_ACTIVE_WRITE: A write of SE_SLOT.ACTIVE selects the next image slot (R783) -/
  | slotActiveWrite (v : Word)
  /-- CHAL_REQUEST: SE_CHAL_CTL.REQUEST issues a challenge (R785) -/
  | chalRequest (v : Word)
  /-- CHAL_SUBMIT: SE_CHAL_CTL.SUBMIT checks the signed response (R786) -/
  | chalSubmit (v : Word)
  /-- CHAL_CANCEL: SE_CHAL_CTL.CANCEL ends a pending challenge (R787) -/
  | chalCancel (v : Word)
  /-- CHAL_TIMEOUT: A challenge without a response in 60 s is refused (R787) -/
  | chalTimeout
  /-- UPD_GO: SE_UPD_CTL.GO programs the update window into the inactive slot (R781) -/
  | updGo (v : Word)
  /-- UPD_PROGRAM_DONE: Programming and read-back complete (R781) -/
  | updProgramDone (ok : Bool)
  /-- MBOX_GO: SE_MBOX_CTL.GO submits an SPDM request (R791) -/
  | mboxGo (v : Word)
  /-- MBOX_RESPONSE: The SPDM response is ready and VEC raised (R791) -/
  | mboxResponse
  /-- PROV_WINDOW_CLOSE: The provisioning window closes 10 s after grant (R790) -/
  | provWindowClose
  /-- OB_ENABLE: OB_CTL.ENABLE powers the counters (R799) -/
  | obEnable (v : Word)
  /-- OB_DISABLE: OB_CTL.DISABLE gates the counters (R799) -/
  | obDisable (v : Word)
  /-- OB_CLEAR: OB_CTL.CLEAR zeroes every counter (R804) -/
  | obClear (v : Word)
  /-- OB_UNFREEZE: OB_CTL.UNFREEZE resumes counting (R807) -/
  | obUnfreeze (v : Word)
  /-- OB_ARM: OB_CTL.ARM arms the trigger (R805) -/
  | obArm (v : Word)
  /-- OB_FIRE: OB_CTL.FIRE fires the trigger (R805) -/
  | obFire (v : Word)
  /-- TRIG_IN_EDGE: A rising edge on TRIG_IN (R805) -/
  | trigInEdge
  /-- OB_GRP_WRITE: A write of OB_GRP reconfigures and zeroes a group (R804) -/
  | obGrpWrite (g : Fin 512) (j : Fin 4) (v : Word)
  /-- OB_HALT: OB_HALT.HALT requests a Halt Sweep (R809) -/
  | obHalt (v : Word)
  /-- JTAG_HALT: The JTAG HALT instruction requests a Halt Sweep (R809) -/
  | jtagHalt
  /-- OB_RELEASE: OB_HALT.RELEASE releases the Halt Sweep (R815) -/
  | obRelease (v : Word)
  /-- JTAG_RELEASE: The JTAG RELEASE instruction releases the Halt Sweep (R815) -/
  | jtagRelease
  /-- HALT_MAX_EXPIRY: HALT_MAX expiry releases the Halt Sweep (R815) -/
  | haltMaxExpiry
  /-- HALTED_CLAIM: A halted die reading the net high releases and claims (R816) -/
  | haltedClaim
  /-- HALT_ORPHAN: 5 ms into a halt FRI takes the orphan share (R814) -/
  | haltOrphan
  /-- EXPORT_TICK: Each PERIOD a counter snapshot is exported (R819) -/
  | exportTick
  /-- INTAKE_FULL_REPORT: End of each 1 ms period with a full intake records 0x3008 (R835) -/
  | intakeFullReport (n : Fin 16)
  /-- AUTO_RUN_START: The owner issues Run when conditions and waits hold (R843) -/
  | autoRunStart
  /-- WAIT_MAX_EXPIRY: WAIT_MAX passes and Run is issued with waits unmet (R843) -/
  | waitMaxExpiry
  /-- SUPPLIES_LATE: A supply not in window 50 ms after VDD33_AO records 0x1016 (R851) -/
  | suppliesLate (n : Fin 3)
  /-- PROFILE_SAVE_SL: SL_CTL.SAVE writes Sluice configuration to flash (R256) -/
  | profileSaveSl (v : Word)
  /-- AD_SAVE: AD_CTL.SAVE writes admission Config to flash (R306) -/
  | adSave (v : Word)
  /-- HOST_TUNNEL_UP: The Host Tunnel finishes training, ending a host link reset and recording degraded training with 0x0030 (R121) -/
  | hostTunnelUp (rate : Fin 3) (x8 : Bool)
  /-- REFCLK_RETURN: REFCLK_100 returns within tolerance, and the islands leave the AO-derived reference and may retrain links (R114) -/
  | refclkReturn
  /-- VXREF_RETURN: VXREF returns and the Vexurn ports may train again, with VXREF_OK set (R114) -/
  | vxrefReturn
  /-- XT32_RETURN: The 32.768 kHz crystal runs again and AO disciplines its RC oscillator from it once more (R111) -/
  | xt32Return
  /-- TWIN_LINK_TRAINED: The twin link finishes training, which ends a split with 0xC015 and starts frames and resynchronisation (R725) -/
  | twinLinkTrained
  /-- PFAIL_N_HIGH: PFAIL_N returns high, after which a Ledger erase suspended for a tail flush may resume (R747) -/
  | pfailNHigh
  /-- NET_STUCK_LOW: TW_OWN_N stays low for 20 ms with no die owning after both are eligible, recording interlock fault 0xC016 with parameter 0 = 0 (R729) -/
  | netStuckLow
  /-- COMMIT_DONE: The anti-rollback fuse blowing completes, raising the counter and recording 0xE004, or ends as a fuse fault (R779) -/
  | commitDone (blown : Fin 65) (ok : Bool)
  /-- VERIFY_DONE: Checks 1 to 3 on a slot complete and set that slot's result in SE_SLOT (R783) -/
  | verifyDone
  /-- RESPONSE_CHECK_DONE: The check of a submitted signed response completes within 10 ms and grants or refuses the authorisation (R786) -/
  | responseCheckDone (fuseOk : Bool)
  /-- PPS_OUT_SECOND: At each whole second of Weir time the owner raises PPS_OUT for 1 ms (R92) -/
  | ppsOutSecond
  /-- RETIRE_WAIT_END: RETIRE us after the previous publication of a handle, a waiting LOADTBL may begin writing its bank (R574) -/
  | retireWaitEnd (h : Fin 4096)
  /-- CROSSING_RETRY: A sender whose crossing met a receiving island in reset retries it each microsecond until it is answered (R120) -/
  | crossingRetry
deriving DecidableEq, Repr

end Sys2Proof
end

