-- ==== Sys2Proof/Config.lean ====
section
/-! DEFINITION. What an implementation fixes, and the free values: constants with no body, of which nothing can be
proved. -/

namespace Sys2Proof.Config

/-- A value the spec leaves open, drawn afresh at each use: use number `n` of kind `k`. DESIGN CHOICE, log entry 3. -/
opaque freeValue (k n : Nat) : Nat

/-- How far one cycle's share error, in 0.1 A, moves a balance trim, in T/512: the loop of R156 has its crossover stated and no gain.
DESIGN CHOICE, log entry 103. -/
opaque balStep (err : Nat) : Nat

/-- SHA-384 of a list of bytes, as a number: the hardware digest of R771 and R773, of which the spec gives no algorithm (log entry
40). DESIGN CHOICE, log entry 40. -/
opaque sha384 (bytes : List Nat) : Nat

/-- An ECDSA P-384 signature (r‖s) of a digest verifies under a public key (X‖Y) (R773, log entry 40). -/
opaque ecdsaOk (pub sig : List Nat) (digest : Nat) : Bool

/-- The SPDM response to a request, given the measurements of Table 20.6 and a fresh number (R791, R792). DESIGN CHOICE, log entry 41. -/
opaque spdm (request measurements : List Nat) (fresh : Nat) : List Nat

/-- The TTL of a link-local frame of a TYPE, which no rule states (R630). DESIGN CHOICE, log entry 140. -/
opaque linkTtl (type : Nat) : Byte

/-- The boot floor that the integrator designs into tile `t` (R220). -/
opaque bootFloor (t : Nat) : Nat

end Sys2Proof.Config
end

