-- ==== Sys2Proof/Machine/Bits.lean ====
section
/-! DEFINITION. Bit fields, sign extension, saturation, byte order and the checksums the spec names. -/

namespace Sys2Proof.Machine
open Sys2Proof

/-- Bits [hi:lo] of a natural number. -/
def bitsOf (v hi lo : Nat) : Nat := (v / 2 ^ lo) % 2 ^ (hi + 1 - lo)

/-- `v` with bits [hi:lo] replaced by the low bits of `x`. -/
def setBitsOf (v hi lo x : Nat) : Nat :=
  v - bitsOf v hi lo * 2 ^ lo + (x % 2 ^ (hi + 1 - lo)) * 2 ^ lo

/-- Bit `n` of `v`. -/
def bitOf (v n : Nat) : Bool := v / 2 ^ n % 2 == 1

/-- The two's complement value of the low `w` bits of `v`. -/
def signedOf (w v : Nat) : Int :=
  let m := v % 2 ^ w
  if m < 2 ^ (w - 1) then (m : Int) else (m : Int) - (2 ^ w : Nat)

/-- The `w`-bit two's complement code of an integer, wrapping. -/
def codeOf (w : Nat) (x : Int) : Nat := (x % ((2 ^ w : Nat) : Int)).toNat

/-- An unsigned quantity saturated to `w` bits. -/
def satU (w n : Nat) : Nat := if n < 2 ^ w then n else 2 ^ w - 1

/-- An integer clamped to a range. -/
def clampI (lo hi x : Int) : Int := if x < lo then lo else if hi < x then hi else x

/-- A natural number clamped to a range. -/
def clampN (lo hi x : Nat) : Nat := if x < lo then lo else if hi < x then hi else x

/-- A signed parameter of an event: two's complement, saturating at the ends of 32 bits (R864). -/
def pI (x : Int) : Nat := codeOf 32 (clampI (-2147483648) 2147483647 x)

/-- 1 for true, 0 for false. -/
def b01 (b : Bool) : Nat := if b then 1 else 0

/-- The `n` little-endian bytes of a number, byte 0 first (R3). -/
def leBytes : Nat → Nat → List Nat
  | 0, _ => []
  | n + 1, v => v % 256 :: leBytes n (v / 256)

/-- The number that little-endian bytes spell (R3). -/
def ofLe : List Nat → Nat
  | [] => 0
  | b :: t => b % 256 + 256 * ofLe t

/-- One bit step of a most-significant-bit-first CRC of width `w`. -/
def crcStep (w poly c : Nat) : Nat :=
  if c / 2 ^ (w - 1) % 2 = 1 then ((c * 2) % 2 ^ w) ^^^ poly else (c * 2) % 2 ^ w

/-- One byte of a most-significant-bit-first CRC of width `w` (8, 16). -/
def crcByte (w poly c b : Nat) : Nat :=
  let s := crcStep w poly
  s (s (s (s (s (s (s (s (c ^^^ (b * 2 ^ (w - 8))))))))))

/-- CRC-8, polynomial 0x07, initial value 0, no reflection and no final XOR (R732). -/
def crc8 (l : List Nat) : Nat := l.foldl (crcByte 8 0x07) 0

/-- CRC-16 of the flits, polynomial 0x1021, initial value 0xFFFF (R211). -/
def crc16 (l : List Nat) : Nat := l.foldl (crcByte 16 0x1021) 0xFFFF

/-- One bit step of the reflected CRC-32. -/
def crc32Step (c : Nat) : Nat := if c % 2 = 1 then (c / 2) ^^^ 0xEDB88320 else c / 2

/-- One byte of the reflected CRC-32. -/
def crc32Byte (c b : Nat) : Nat :=
  let s := crc32Step
  s (s (s (s (s (s (s (s (c ^^^ b))))))))

/-- CRC-32 of IEEE 802.3 (R633, R874). -/
def crc32 (l : List Nat) : Nat := (l.foldl crc32Byte 0xFFFFFFFF) ^^^ 0xFFFFFFFF

/-- The 32-bit words of a number, low word first. -/
def loWord (n : Nat) : Nat := n % 2 ^ 32

/-- The high word of a 64-bit number. -/
def hiWord (n : Nat) : Nat := n / 2 ^ 32 % 2 ^ 32

end Sys2Proof.Machine
end

