-- ==== Sys2Proof/Machine/SMap.lean ====
section
/-! DEFINITION. Sparse storage in one canonical form: keys strictly rising, and no entry equal to what an unlisted key
reads as. -/

namespace Sys2Proof.Machine
open Sys2Proof

/-- What key `k` reads as: its entry, else the default `d`. -/
def mget {β : Type} (d : β) (m : List (Nat × β)) (k : Nat) : β :=
  match m with
  | [] => d
  | e :: t => if e.1 = k then e.2 else mget d t k

/-- Insert or replace the entry of `k`, keeping the keys rising. -/
def mins {β : Type} (m : List (Nat × β)) (k : Nat) (v : β) : List (Nat × β) :=
  match m with
  | [] => [(k, v)]
  | e :: t => if k < e.1 then (k, v) :: e :: t else if e.1 = k then (k, v) :: t else e :: mins t k v

/-- Remove every entry of `k`. -/
def mdel {β : Type} (m : List (Nat × β)) (k : Nat) : List (Nat × β) := m.filter (fun e => e.1 != k)

/-- Store `v` at `k`; storing the default removes the entry. -/
def mput {β : Type} [DecidableEq β] (d : β) (m : List (Nat × β)) (k : Nat) (v : β) : List (Nat × β) :=
  if v = d then mdel m k else mins m k v

/-- Change the value at `k`. -/
def mmod {β : Type} [DecidableEq β] (d : β) (m : List (Nat × β)) (k : Nat) (f : β → β) : List (Nat × β) :=
  mput d m k (f (mget d m k))

/-- The canonical form, as a Bool. -/
def mwf {β : Type} [DecidableEq β] (d : β) : List (Nat × β) → Bool
  | [] => true
  | e :: t => decide (e.2 ≠ d) && t.all (fun x => decide (e.1 < x.1)) && mwf d t

/-- The canonical form of a memory of the block: addresses strictly rising, and no byte listed that reads 0 as an unlisted one does
(log entry 8). -/
def Memory.wf (m : List Host.Cell) : Bool := mwf (0 : Byte) m

/-- The keys from `a`, `n` of them, in ascending order. -/
def keysFrom (a : Nat) : Nat → List Nat
  | 0 => []
  | n + 1 => a :: keysFrom (a + 1) n

end Sys2Proof.Machine
end

