-- ==== Sys2Proof/Machine/Regs.lean ====
section
/-! DEFINITION. The register window: every register of the spec's register tables (address, indices, holding island) and
every field (bits, access code, reset value, reset classes it survives, range), taken from the tables of spec/. -/

namespace Sys2Proof.Machine

/-- Access codes of Table 0.6; `live` is a read-only field computed from the rest of the state, `rsvd` a reserved field. -/
inductive Acc where
  | ro | rw | w1c | wo | rwl | rwd | live | rsvd
deriving DecidableEq, Repr

/-- One field of a register: bits, access, reset value, the reset classes it survives (1 WR, 2 IR, 4 HR, 8 TT, 16 FR,
32 DR, 64 Keep, 128 CS), its range, which indices the reset value holds for (0 and from 7 up all of them; from 7
up the code names a range that is no interval, moves or is signed), and its class: 1 Config, 2 Rail profile,
3 Persistent, 0 none. -/
structure FDesc where
  hi : Nat
  lo : Nat
  acc : Acc
  rst : Nat
  kept : Nat
  rlo : Nat
  rhi : Nat
  sel : Nat
  cls : Nat
deriving DecidableEq, Repr

/-- One row of the register index: first address, count and stride of each of two indices, the holding island's code
(7 for AO), and its fields. -/
structure RDesc where
  base : Nat
  count : Nat
  stride : Nat
  count2 : Nat
  stride2 : Nat
  isl : Nat
  fields : List FDesc
deriving DecidableEq, Repr

/-- A named field: the address of its register, its bits and its value at reset. -/
structure Fld where
  addr : Nat
  hi : Nat
  lo : Nat
  rst : Nat
deriving DecidableEq, Repr

/-- The key of a field in the field store. -/
def Fld.key (f : Fld) : Nat := 32 * f.addr + f.lo

/-- Register tables, part 0. -/
def regTable0 : List RDesc := [
  ⟨0x0, 1, 0, 1, 0, 5,
    [⟨31, 16, .ro, 2938, 127, 0, 65535, 0, 0⟩, ⟨15, 0, .ro, 2568, 127, 0, 65535, 0, 0⟩]⟩,
  ⟨0x4, 1, 0, 1, 0, 5,
    [⟨31, 16, .rsvd, 0, 0, 0, 65535, 0, 0⟩, ⟨15, 8, .ro, 0, 127, 0, 255, 0, 0⟩, ⟨7, 0, .ro, 0, 127, 0, 255, 0, 0⟩]⟩,
  ⟨0x8, 1, 0, 1, 0, 5,
    [⟨31, 0, .ro, 0, 127, 0, 4294967295, 0, 0⟩]⟩,
  ⟨0xC, 1, 0, 1, 0, 5,
    [⟨31, 0, .ro, 0, 127, 0, 4294967295, 0, 0⟩]⟩,
  ⟨0x10, 1, 0, 1, 0, 5,
    [⟨31, 5, .rsvd, 0, 0, 0, 134217727, 0, 0⟩, ⟨4, 4, .w1c, 0, 56, 0, 1, 0, 0⟩, ⟨3, 3, .w1c, 0, 56, 0, 1, 0, 0⟩, ⟨2, 2, .w1c, 0, 56, 0, 1, 0, 0⟩, ⟨1, 1, .w1c, 0, 56, 0, 1, 0, 0⟩, ⟨0, 0, .rsvd, 0, 0, 0, 1, 0, 0⟩]⟩,
  ⟨0x14, 1, 0, 1, 0, 5,
    [⟨31, 26, .rsvd, 0, 0, 0, 63, 0, 0⟩, ⟨25, 0, .ro, 0, 56, 0, 67108863, 0, 0⟩]⟩,
  ⟨0x20, 1, 0, 1, 0, 5,
    [⟨31, 18, .rsvd, 0, 0, 0, 16383, 0, 0⟩, ⟨17, 17, .live, 0, 0, 0, 1, 0, 0⟩, ⟨16, 16, .live, 0, 0, 0, 1, 0, 0⟩, ⟨15, 8, .w1c, 0, 56, 0, 255, 0, 0⟩, ⟨7, 0, .live, 0, 0, 0, 255, 0, 0⟩]⟩,
  ⟨0x24, 1, 0, 1, 0, 5,
    [⟨31, 10, .rsvd, 0, 0, 0, 4194303, 0, 0⟩, ⟨9, 9, .live, 0, 127, 0, 1, 0, 0⟩, ⟨8, 8, .live, 0, 127, 0, 1, 0, 0⟩, ⟨7, 7, .live, 0, 0, 0, 1, 0, 0⟩, ⟨6, 6, .ro, 0, 127, 0, 1, 0, 0⟩, ⟨5, 5, .live, 0, 0, 0, 1, 0, 0⟩, ⟨4, 4, .live, 0, 0, 0, 1, 0, 0⟩, ⟨3, 3, .live, 0, 0, 0, 1, 0, 0⟩, ⟨2, 2, .live, 0, 0, 0, 1, 0, 0⟩, ⟨1, 1, .live, 0, 0, 0, 1, 0, 0⟩, ⟨0, 0, .rsvd, 0, 0, 0, 1, 0, 0⟩]⟩,
  ⟨0x40, 1, 0, 1, 0, 5,
    [⟨31, 12, .rsvd, 0, 0, 0, 1048575, 0, 0⟩, ⟨11, 8, .w1c, 0, 56, 0, 15, 0, 0⟩, ⟨7, 4, .rsvd, 0, 0, 0, 15, 0, 0⟩, ⟨3, 0, .live, 0, 0, 0, 15, 0, 0⟩]⟩,
  ⟨0x44, 1, 0, 1, 0, 5,
    [⟨31, 7, .rsvd, 0, 0, 0, 33554431, 0, 0⟩, ⟨6, 4, .w1c, 0, 56, 0, 7, 0, 0⟩, ⟨3, 3, .rsvd, 0, 0, 0, 1, 0, 0⟩, ⟨2, 2, .live, 0, 0, 0, 1, 0, 0⟩, ⟨1, 1, .live, 0, 0, 0, 1, 0, 0⟩, ⟨0, 0, .live, 0, 0, 0, 1, 0, 0⟩]⟩,
  ⟨0x48, 1, 0, 1, 0, 5,
    [⟨31, 8, .rsvd, 0, 0, 0, 16777215, 0, 0⟩, ⟨7, 7, .w1c, 0, 56, 0, 1, 0, 0⟩, ⟨6, 6, .ro, 0, 127, 0, 1, 0, 0⟩, ⟨5, 5, .ro, 0, 127, 0, 1, 0, 0⟩, ⟨4, 4, .live, 0, 0, 0, 1, 0, 0⟩, ⟨3, 3, .live, 0, 0, 0, 1, 0, 0⟩, ⟨2, 2, .live, 0, 0, 0, 1, 0, 0⟩, ⟨1, 1, .live, 0, 0, 0, 1, 0, 0⟩, ⟨0, 0, .live, 0, 0, 0, 1, 0, 0⟩]⟩,
  ⟨0x10000, 1, 0, 1, 0, 5,
    [⟨31, 15, .rsvd, 0, 0, 0, 131071, 0, 0⟩, ⟨14, 8, .w1c, 0, 127, 0, 127, 0, 0⟩, ⟨7, 7, .rsvd, 0, 0, 0, 1, 0, 0⟩, ⟨6, 0, .live, 0, 0, 0, 127, 0, 0⟩]⟩,
  ⟨0x10004, 1, 0, 1, 0, 5,
    [⟨31, 24, .wo, 0, 0, 0, 255, 0, 0⟩, ⟨23, 11, .rsvd, 0, 0, 0, 8191, 0, 0⟩, ⟨10, 8, .wo, 0, 0, 0, 7, 0, 0⟩, ⟨7, 6, .rsvd, 0, 0, 0, 3, 0, 0⟩, ⟨5, 5, .wo, 0, 0, 0, 1, 0, 0⟩, ⟨4, 4, .wo, 0, 0, 0, 1, 0, 0⟩, ⟨3, 3, .wo, 0, 0, 0, 1, 0, 0⟩, ⟨2, 2, .wo, 0, 0, 0, 1, 0, 0⟩, ⟨1, 1, .wo, 0, 0, 0, 1, 0, 0⟩, ⟨0, 0, .wo, 0, 0, 0, 1, 0, 0⟩]⟩,
  ⟨0x10008, 1, 0, 1, 0, 5,
    [⟨31, 3, .rsvd, 0, 0, 0, 536870911, 0, 0⟩, ⟨2, 2, .w1c, 0, 127, 0, 1, 0, 0⟩, ⟨1, 1, .live, 0, 0, 0, 1, 0, 0⟩, ⟨0, 0, .live, 0, 0, 0, 1, 0, 0⟩]⟩,
  ⟨0x1000C, 1, 0, 1, 0, 5,
    [⟨31, 16, .rsvd, 0, 0, 0, 65535, 0, 0⟩, ⟨15, 8, .ro, 0, 127, 0, 255, 0, 0⟩, ⟨7, 4, .ro, 0, 127, 0, 15, 0, 0⟩, ⟨3, 0, .ro, 0, 127, 0, 15, 0, 0⟩]⟩,
  ⟨0x10010, 1, 0, 1, 0, 5,
    [⟨31, 9, .rsvd, 0, 0, 0, 8388607, 0, 0⟩, ⟨8, 8, .live, 0, 127, 0, 1, 0, 0⟩, ⟨7, 6, .rsvd, 0, 0, 0, 3, 0, 0⟩, ⟨5, 4, .live, 0, 0, 0, 3, 0, 0⟩, ⟨3, 2, .rsvd, 0, 0, 0, 3, 0, 0⟩, ⟨1, 0, .live, 0, 0, 0, 3, 0, 0⟩]⟩,
  ⟨0x10014, 1, 0, 1, 0, 5,
    [⟨31, 24, .wo, 0, 0, 0, 255, 0, 0⟩, ⟨23, 3, .rsvd, 0, 0, 0, 2097151, 0, 0⟩, ⟨2, 2, .wo, 0, 0, 0, 1, 0, 0⟩, ⟨1, 0, .wo, 0, 0, 0, 3, 0, 0⟩]⟩,
  ⟨0x10018, 1, 0, 1, 0, 5,
    [⟨31, 0, .rw, 0, 127, 0, 4294967295, 0, 0⟩]⟩,
  ⟨0x1001C, 1, 0, 1, 0, 5,
    [⟨31, 24, .rsvd, 0, 0, 0, 255, 0, 0⟩, ⟨23, 0, .ro, 0, 255, 0, 16777215, 0, 3⟩]⟩,
  ⟨0x10020, 1, 0, 1, 0, 5,
    [⟨31, 0, .ro, 0, 255, 0, 4294967295, 0, 3⟩]⟩,
  ⟨0x10024, 1, 0, 1, 0, 5,
    [⟨31, 8, .rsvd, 0, 0, 0, 16777215, 0, 0⟩, ⟨7, 4, .ro, 0, 56, 0, 15, 0, 0⟩, ⟨3, 1, .rsvd, 0, 0, 0, 7, 0, 0⟩, ⟨0, 0, .w1c, 0, 56, 0, 1, 0, 0⟩]⟩,
  ⟨0x20000, 1, 0, 1, 0, 1,
    [⟨31, 31, .rwl, 0, 255, 0, 1, 0, 2⟩, ⟨30, 16, .rsvd, 0, 0, 0, 32767, 0, 0⟩, ⟨15, 8, .rwl, 0, 255, 0, 255, 0, 2⟩, ⟨7, 3, .rsvd, 0, 0, 0, 31, 0, 0⟩, ⟨2, 2, .wo, 0, 0, 0, 1, 0, 0⟩, ⟨1, 1, .live, 0, 0, 0, 1, 0, 0⟩, ⟨0, 0, .live, 0, 0, 0, 1, 0, 0⟩]⟩,
  ⟨0x20010, 1, 0, 1, 0, 1,
    [⟨31, 16, .live, 0, 0, 0, 65535, 0, 0⟩, ⟨15, 0, .live, 0, 0, 0, 65535, 0, 0⟩]⟩,
  ⟨0x20014, 1, 0, 1, 0, 1,
    [⟨31, 16, .rsvd, 0, 0, 0, 65535, 0, 0⟩, ⟨15, 0, .w1c, 0, 61, 0, 65535, 0, 0⟩]⟩,
  ⟨0x20020, 1, 0, 1, 0, 1,
    [⟨31, 27, .rsvd, 0, 0, 0, 31, 0, 0⟩, ⟨26, 18, .rwl, 24, 255, 4, 400, 0, 2⟩, ⟨17, 9, .rwl, 20, 255, 4, 400, 0, 2⟩, ⟨8, 0, .rwl, 16, 255, 4, 400, 0, 2⟩]⟩,
  ⟨0x20024, 1, 0, 1, 0, 1,
    [⟨31, 27, .rsvd, 0, 0, 0, 31, 0, 0⟩, ⟨26, 18, .rwl, 28, 255, 4, 400, 0, 2⟩, ⟨17, 9, .rwl, 24, 255, 4, 400, 0, 2⟩, ⟨8, 0, .rwl, 20, 255, 4, 400, 0, 2⟩]⟩,
  ⟨0x20028, 1, 0, 1, 0, 1,
    [⟨31, 27, .rsvd, 0, 0, 0, 31, 0, 0⟩, ⟨26, 18, .rwl, 120, 255, 4, 400, 0, 2⟩, ⟨17, 9, .rwl, 100, 255, 4, 400, 0, 2⟩, ⟨8, 0, .rwl, 80, 255, 4, 400, 0, 2⟩]⟩,
  ⟨0x2002C, 1, 0, 1, 0, 1,
    [⟨31, 27, .rsvd, 0, 0, 0, 31, 0, 0⟩, ⟨26, 18, .rwl, 150, 255, 4, 400, 0, 2⟩, ⟨17, 9, .rwl, 120, 255, 4, 400, 0, 2⟩, ⟨8, 0, .rwl, 100, 255, 4, 400, 0, 2⟩]⟩,
  ⟨0x20030, 1, 0, 1, 0, 1,
    [⟨31, 26, .rwl, 0, 255, 0, 63, 0, 2⟩, ⟨25, 24, .rsvd, 0, 0, 0, 3, 0, 0⟩, ⟨23, 16, .rwl, 100, 255, 40, 120, 0, 2⟩, ⟨15, 8, .rwl, 70, 255, 40, 120, 0, 2⟩, ⟨7, 0, .rwl, 0, 255, 0, 255, 7, 2⟩]⟩,
  ⟨0x20040, 1, 0, 1, 0, 1,
    [⟨31, 24, .rwl, 135, 255, 60, 150, 0, 2⟩, ⟨23, 16, .rwl, 125, 255, 50, 150, 8, 2⟩, ⟨3, 3, .rsvd, 0, 0, 0, 1, 0, 0⟩, ⟨2, 2, .rwl, 0, 255, 0, 1, 0, 2⟩, ⟨1, 0, .rwl, 2, 255, 0, 2, 0, 2⟩, ⟨7, 7, .rsvd, 0, 0, 0, 1, 0, 0⟩, ⟨6, 6, .rwl, 0, 255, 0, 1, 0, 2⟩, ⟨5, 4, .rwl, 2, 255, 0, 2, 0, 2⟩, ⟨11, 11, .rsvd, 0, 0, 0, 1, 0, 0⟩, ⟨10, 10, .rwl, 0, 255, 0, 1, 0, 2⟩, ⟨9, 8, .rwl, 2, 255, 0, 2, 0, 2⟩, ⟨15, 15, .rsvd, 0, 0, 0, 1, 0, 0⟩, ⟨14, 14, .rwl, 0, 255, 0, 1, 0, 2⟩, ⟨13, 12, .rwl, 2, 255, 0, 2, 0, 2⟩]⟩,
  ⟨0x20100, 32, 4, 1, 0, 1,
    [⟨3, 0, .rwl, 15, 255, 0, 15, 0, 2⟩, ⟨7, 4, .rwl, 15, 255, 0, 15, 0, 2⟩, ⟨11, 8, .rwl, 15, 255, 0, 15, 0, 2⟩, ⟨15, 12, .rwl, 15, 255, 0, 15, 0, 2⟩, ⟨19, 16, .rwl, 15, 255, 0, 15, 0, 2⟩, ⟨23, 20, .rwl, 15, 255, 0, 15, 0, 2⟩, ⟨27, 24, .rwl, 15, 255, 0, 15, 0, 2⟩, ⟨31, 28, .rwl, 15, 255, 0, 15, 0, 2⟩]⟩,
  ⟨0x20400, 256, 4, 1, 0, 1,
    [⟨31, 15, .rsvd, 0, 0, 0, 131071, 0, 0⟩, ⟨14, 8, .rwl, 1, 255, 1, 100, 0, 2⟩, ⟨7, 7, .rsvd, 0, 0, 0, 1, 0, 0⟩, ⟨6, 0, .rwl, 0, 255, 0, 127, 0, 2⟩]⟩,
  ⟨0x20800, 256, 4, 1, 0, 1,
    [⟨31, 24, .live, 0, 0, 0, 255, 0, 0⟩, ⟨23, 16, .live, 0, 0, 0, 255, 0, 0⟩, ⟨15, 12, .ro, 0, 61, 0, 15, 0, 0⟩, ⟨11, 10, .live, 0, 0, 0, 3, 0, 0⟩, ⟨9, 8, .rsvd, 0, 0, 0, 3, 0, 0⟩, ⟨7, 0, .live, 0, 0, 0, 255, 0, 0⟩]⟩,
  ⟨0x20C00, 1, 0, 1, 0, 1,
    [⟨31, 24, .wo, 0, 0, 0, 255, 0, 0⟩, ⟨23, 8, .rsvd, 0, 0, 0, 65535, 0, 0⟩, ⟨7, 0, .wo, 0, 0, 0, 255, 0, 0⟩]⟩,
  ⟨0x20C40, 16, 4, 1, 0, 1,
    [⟨31, 0, .live, 0, 0, 0, 4294967295, 0, 0⟩]⟩,
  ⟨0x21000, 8, 64, 1, 0, 1,
    [⟨31, 21, .rwl, 1000, 255, 250, 2000, 0, 2⟩, ⟨20, 18, .rwl, 0, 255, 0, 7, 0, 2⟩, ⟨17, 11, .rwl, 2, 255, 2, 64, 0, 2⟩, ⟨10, 5, .rwl, 8, 255, 0, 32, 0, 2⟩, ⟨4, 0, .rsvd, 0, 0, 0, 31, 0, 0⟩]⟩,
  ⟨0x21004, 8, 64, 1, 0, 1,
    [⟨31, 16, .rwl, 0, 255, 0, 65535, 0, 2⟩, ⟨15, 0, .rw, 0, 61, 0, 65535, 0, 0⟩]⟩,
  ⟨0x21008, 8, 64, 1, 0, 1,
    [⟨31, 24, .rwl, 30, 255, 0, 255, 0, 2⟩, ⟨23, 16, .rwl, 20, 255, 0, 255, 0, 2⟩, ⟨15, 8, .rwl, 20, 255, 0, 255, 0, 2⟩, ⟨7, 3, .rsvd, 0, 0, 0, 31, 0, 0⟩, ⟨2, 0, .rwl, 2, 255, 1, 4, 0, 2⟩]⟩,
  ⟨0x2100C, 8, 64, 1, 0, 1,
    [⟨31, 16, .rwl, 5000, 255, 0, 65535, 0, 2⟩, ⟨15, 6, .rsvd, 0, 0, 0, 1023, 0, 0⟩, ⟨5, 0, .rwl, 5, 255, 1, 50, 0, 2⟩]⟩,
  ⟨0x21010, 8, 64, 1, 0, 1,
    [⟨31, 16, .rwl, 0, 255, 0, 65535, 0, 2⟩, ⟨15, 0, .rwl, 0, 255, 0, 65535, 0, 2⟩]⟩]

/-- Register tables, part 1. -/
def regTable1 : List RDesc := [
  ⟨0x21014, 8, 64, 1, 0, 1,
    [⟨31, 16, .rsvd, 0, 0, 0, 65535, 0, 0⟩, ⟨15, 0, .rwl, 0, 255, 0, 65535, 0, 2⟩]⟩,
  ⟨0x21020, 8, 64, 1, 0, 1,
    [⟨31, 24, .wo, 0, 0, 0, 255, 0, 0⟩, ⟨23, 1, .rsvd, 0, 0, 0, 8388607, 0, 0⟩, ⟨0, 0, .wo, 0, 0, 0, 1, 0, 0⟩]⟩,
  ⟨0x21024, 8, 64, 1, 0, 1,
    [⟨31, 16, .live, 0, 0, 0, 65535, 0, 0⟩, ⟨15, 9, .live, 0, 0, 0, 127, 0, 0⟩, ⟨8, 8, .live, 0, 0, 0, 1, 0, 0⟩, ⟨7, 5, .live, 0, 0, 0, 7, 0, 0⟩, ⟨4, 0, .live, 0, 0, 0, 31, 0, 0⟩]⟩,
  ⟨0x21028, 8, 64, 1, 0, 1,
    [⟨31, 8, .ro, 0, 61, 0, 16777215, 0, 0⟩, ⟨7, 3, .rsvd, 0, 0, 0, 31, 0, 0⟩, ⟨2, 0, .ro, 0, 61, 0, 7, 0, 0⟩]⟩,
  ⟨0x20050, 1, 0, 1, 0, 1,
    [⟨31, 16, .rsvd, 0, 0, 0, 65535, 0, 0⟩, ⟨15, 0, .rwl, 50000, 255, 1000, 65535, 0, 2⟩]⟩,
  ⟨0x800000, 1, 0, 1, 0, 2,
    [⟨31, 26, .rsvd, 0, 0, 0, 63, 0, 0⟩, ⟨25, 25, .live, 0, 0, 0, 1, 0, 0⟩, ⟨24, 24, .wo, 0, 0, 0, 1, 0, 0⟩, ⟨23, 16, .rw, 25, 255, 0, 255, 0, 1⟩, ⟨15, 11, .rsvd, 0, 0, 0, 31, 0, 0⟩, ⟨10, 10, .rw, 1, 255, 0, 1, 0, 1⟩, ⟨9, 9, .rw, 1, 255, 0, 1, 0, 1⟩, ⟨8, 4, .rw, 2, 255, 1, 16, 0, 1⟩, ⟨3, 0, .rw, 0, 255, 0, 15, 0, 1⟩]⟩,
  ⟨0x800004, 1, 0, 1, 0, 2,
    [⟨31, 16, .wo, 0, 0, 0, 65535, 0, 0⟩, ⟨15, 0, .rw, 65535, 255, 0, 65535, 0, 1⟩]⟩,
  ⟨0x800100, 16, 4, 1, 0, 2,
    [⟨31, 31, .rsvd, 0, 0, 0, 1, 0, 0⟩, ⟨30, 16, .live, 0, 0, 0, 32767, 0, 0⟩, ⟨15, 8, .rsvd, 0, 0, 0, 255, 0, 0⟩, ⟨7, 7, .live, 0, 0, 0, 1, 0, 0⟩, ⟨6, 6, .live, 0, 0, 0, 1, 0, 0⟩, ⟨5, 4, .live, 0, 0, 0, 3, 0, 0⟩, ⟨3, 3, .rsvd, 0, 0, 0, 1, 0, 0⟩, ⟨2, 0, .live, 0, 0, 0, 7, 0, 0⟩]⟩,
  ⟨0x800140, 16, 4, 1, 0, 2,
    [⟨31, 24, .rw, 0, 60, 0, 255, 0, 0⟩, ⟨23, 16, .rw, 0, 60, 0, 255, 0, 0⟩, ⟨15, 0, .rw, 0, 60, 0, 65535, 0, 0⟩]⟩,
  ⟨0x810000, 16384, 4, 1, 0, 2,
    [⟨31, 31, .rw, 0, 255, 0, 1, 0, 1⟩, ⟨30, 29, .rsvd, 0, 0, 0, 3, 0, 0⟩, ⟨28, 25, .rw, 0, 255, 0, 15, 0, 1⟩, ⟨24, 22, .rw, 0, 255, 0, 7, 0, 1⟩, ⟨21, 16, .rw, 0, 255, 0, 63, 0, 1⟩, ⟨15, 8, .rw, 0, 255, 0, 255, 0, 1⟩, ⟨7, 0, .rw, 0, 255, 0, 255, 0, 1⟩]⟩,
  ⟨0x820000, 16384, 4, 1, 0, 2,
    [⟨31, 30, .rsvd, 0, 0, 0, 3, 0, 0⟩, ⟨29, 26, .ro, 0, 60, 0, 15, 0, 0⟩, ⟨25, 16, .ro, 1023, 60, 0, 1023, 0, 0⟩, ⟨15, 8, .ro, 0, 60, 0, 255, 0, 0⟩, ⟨7, 3, .rsvd, 0, 0, 0, 31, 0, 0⟩, ⟨2, 0, .ro, 0, 60, 0, 7, 0, 0⟩]⟩,
  ⟨0x840000, 1, 0, 1, 0, 0,
    [⟨31, 31, .wo, 0, 0, 0, 1, 0, 0⟩, ⟨30, 30, .live, 0, 0, 0, 1, 0, 0⟩, ⟨29, 8, .rsvd, 0, 0, 0, 4194303, 0, 0⟩, ⟨7, 0, .rw, 10, 255, 1, 255, 0, 1⟩]⟩,
  ⟨0x840100, 8, 64, 1, 0, 0,
    [⟨31, 25, .rw, 50, 255, 10, 100, 0, 1⟩, ⟨24, 14, .rw, 250, 255, 100, 2000, 0, 1⟩, ⟨13, 11, .rsvd, 0, 0, 0, 7, 0, 0⟩, ⟨10, 0, .rw, 400, 255, 50, 1500, 0, 1⟩]⟩,
  ⟨0x840104, 8, 64, 1, 0, 0,
    [⟨31, 24, .rw, 30, 255, 0, 100, 0, 1⟩, ⟨23, 16, .rw, 15, 255, 2, 100, 0, 1⟩, ⟨15, 8, .rw, 4, 255, 1, 20, 0, 1⟩, ⟨7, 7, .rsvd, 0, 0, 0, 1, 0, 0⟩, ⟨6, 0, .rw, 90, 255, 50, 100, 0, 1⟩]⟩,
  ⟨0x840108, 8, 64, 1, 0, 0,
    [⟨31, 24, .rw, 4, 255, 1, 64, 0, 1⟩, ⟨23, 16, .rw, 20, 255, 1, 255, 0, 1⟩, ⟨15, 0, .rw, 50, 255, 0, 65535, 0, 1⟩]⟩,
  ⟨0x84010C, 8, 64, 1, 0, 0,
    [⟨31, 31, .rw, 1, 255, 0, 1, 0, 1⟩, ⟨30, 29, .rw, 2, 255, 1, 2, 0, 1⟩, ⟨28, 23, .rw, 18, 255, 10, 60, 0, 1⟩, ⟨22, 17, .rw, 8, 255, 2, 40, 0, 1⟩, ⟨16, 12, .rw, 6, 255, 2, 20, 0, 1⟩, ⟨11, 4, .rw, 120, 255, 40, 120, 0, 1⟩, ⟨3, 0, .rsvd, 0, 0, 0, 15, 0, 0⟩]⟩,
  ⟨0x840110, 8, 64, 1, 0, 0,
    [⟨31, 16, .rsvd, 0, 0, 0, 65535, 0, 0⟩, ⟨15, 8, .rw, 16, 255, 2, 255, 0, 1⟩, ⟨7, 0, .rw, 4, 255, 0, 255, 0, 1⟩]⟩,
  ⟨0x840114, 8, 64, 1, 0, 0,
    [⟨31, 31, .rw, 1, 255, 0, 1, 0, 1⟩, ⟨30, 29, .rsvd, 0, 0, 0, 3, 0, 0⟩, ⟨28, 24, .rw, 0, 255, 0, 31, 0, 1⟩, ⟨23, 16, .rw, 10, 255, 1, 255, 0, 1⟩, ⟨15, 8, .rw, 10, 255, 1, 20, 0, 1⟩, ⟨7, 4, .rw, 10, 255, 1, 10, 0, 1⟩, ⟨3, 0, .rsvd, 0, 0, 0, 15, 0, 0⟩]⟩,
  ⟨0x840118, 8, 64, 1, 0, 0,
    [⟨31, 5, .rsvd, 0, 0, 0, 134217727, 0, 0⟩, ⟨4, 0, .rw, 0, 60, 0, 31, 0, 0⟩]⟩,
  ⟨0x840120, 8, 64, 1, 0, 0,
    [⟨31, 16, .live, 0, 0, 0, 65535, 0, 0⟩, ⟨15, 11, .live, 0, 0, 0, 31, 0, 0⟩, ⟨10, 6, .live, 0, 0, 0, 31, 0, 0⟩, ⟨5, 4, .live, 0, 0, 0, 3, 0, 0⟩, ⟨3, 3, .live, 0, 0, 0, 1, 0, 0⟩, ⟨2, 0, .rsvd, 0, 0, 0, 7, 0, 0⟩]⟩,
  ⟨0x840124, 8, 64, 1, 0, 0,
    [⟨31, 16, .live, 0, 0, 0, 65535, 0, 0⟩, ⟨15, 0, .live, 0, 0, 0, 65535, 0, 0⟩]⟩,
  ⟨0x840128, 8, 64, 1, 0, 0,
    [⟨31, 16, .rw, 0, 60, 0, 65535, 0, 0⟩, ⟨15, 8, .ro, 0, 60, 0, 255, 0, 0⟩, ⟨7, 0, .ro, 0, 60, 0, 255, 0, 0⟩]⟩,
  ⟨0x841000, 8, 128, 32, 4, 0,
    [⟨31, 28, .rsvd, 0, 0, 0, 15, 0, 0⟩, ⟨27, 16, .rw, 800, 255, 0, 4095, 1, 1⟩, ⟨15, 9, .rsvd, 0, 0, 0, 127, 0, 0⟩, ⟨8, 0, .rw, 120, 255, 0, 260, 1, 1⟩]⟩,
  ⟨0x842000, 64, 4, 1, 0, 0,
    [⟨31, 8, .rsvd, 0, 0, 0, 16777215, 0, 0⟩, ⟨7, 7, .rw, 0, 60, 0, 1, 0, 0⟩, ⟨6, 5, .rsvd, 0, 0, 0, 3, 0, 0⟩, ⟨4, 0, .rw, 0, 60, 0, 31, 0, 0⟩]⟩,
  ⟨0x842100, 8, 4, 1, 0, 0,
    [⟨3, 0, .rw, 0, 60, 0, 15, 0, 0⟩, ⟨7, 4, .rw, 0, 60, 0, 15, 0, 0⟩, ⟨11, 8, .rw, 0, 60, 0, 15, 0, 0⟩, ⟨15, 12, .rw, 0, 60, 0, 15, 0, 0⟩, ⟨19, 16, .rw, 0, 60, 0, 15, 0, 0⟩, ⟨23, 20, .rw, 0, 60, 0, 15, 0, 0⟩, ⟨27, 24, .rw, 0, 60, 0, 15, 0, 0⟩, ⟨31, 28, .rw, 0, 60, 0, 15, 0, 0⟩]⟩,
  ⟨0x844000, 4095, 4, 1, 0, 0,
    [⟨31, 15, .rsvd, 0, 0, 0, 131071, 0, 0⟩, ⟨14, 0, .rw, 0, 60, 0, 16384, 0, 0⟩]⟩,
  ⟨0x848000, 4095, 4, 1, 0, 0,
    [⟨31, 31, .live, 0, 0, 0, 1, 0, 0⟩, ⟨30, 16, .live, 0, 0, 0, 32767, 0, 0⟩, ⟨15, 15, .rsvd, 0, 0, 0, 1, 0, 0⟩, ⟨14, 0, .live, 0, 0, 0, 32767, 0, 0⟩]⟩,
  ⟨0x84C000, 1024, 8, 1, 0, 0,
    [⟨31, 28, .rsvd, 0, 0, 0, 15, 0, 0⟩, ⟨27, 16, .rw, 0, 60, 0, 4094, 0, 0⟩, ⟨15, 12, .rsvd, 0, 0, 0, 15, 0, 0⟩, ⟨11, 0, .rw, 0, 60, 0, 4095, 0, 0⟩]⟩,
  ⟨0x84C004, 1024, 8, 1, 0, 0,
    [⟨31, 31, .rw, 0, 60, 0, 1, 0, 0⟩, ⟨30, 11, .rsvd, 0, 0, 0, 1048575, 0, 0⟩, ⟨10, 8, .rw, 0, 60, 0, 7, 0, 0⟩, ⟨7, 0, .rw, 0, 60, 0, 255, 0, 0⟩]⟩,
  ⟨0x30000, 1, 0, 1, 0, 1,
    [⟨31, 24, .wo, 0, 0, 0, 255, 0, 0⟩, ⟨23, 20, .wo, 0, 0, 0, 15, 0, 0⟩, ⟨19, 19, .wo, 0, 0, 0, 1, 0, 0⟩, ⟨18, 18, .wo, 0, 0, 0, 1, 0, 0⟩, ⟨17, 17, .wo, 0, 0, 0, 1, 0, 0⟩, ⟨16, 5, .rsvd, 0, 0, 0, 4095, 0, 0⟩, ⟨4, 0, .wo, 0, 0, 0, 31, 0, 0⟩]⟩,
  ⟨0x30004, 1, 0, 1, 0, 1,
    [⟨31, 26, .rsvd, 0, 0, 0, 63, 0, 0⟩, ⟨25, 25, .live, 0, 0, 0, 1, 0, 0⟩, ⟨24, 24, .live, 0, 0, 0, 1, 0, 0⟩, ⟨23, 0, .live, 0, 0, 0, 16777215, 0, 0⟩]⟩,
  ⟨0x3000C, 1, 0, 1, 0, 1,
    [⟨31, 24, .rsvd, 0, 0, 0, 255, 0, 0⟩, ⟨23, 0, .w1c, 0, 61, 0, 16777215, 0, 0⟩]⟩,
  ⟨0x30008, 1, 0, 1, 0, 1,
    [⟨31, 1, .rsvd, 0, 0, 0, 2147483647, 0, 0⟩, ⟨0, 0, .rwl, 0, 255, 0, 1, 0, 2⟩]⟩,
  ⟨0x30040, 4, 16, 1, 0, 1,
    [⟨31, 16, .rwl, 100, 255, 100, 1800, 0, 2⟩, ⟨15, 8, .rwl, 20, 255, 1, 255, 0, 2⟩, ⟨7, 0, .rwl, 90, 255, 70, 95, 0, 2⟩]⟩,
  ⟨0x30044, 4, 16, 1, 0, 1,
    [⟨31, 24, .rwl, 60, 255, 1, 255, 0, 2⟩, ⟨23, 10, .rsvd, 0, 0, 0, 16383, 0, 0⟩, ⟨9, 0, .rwl, 200, 255, 10, 1000, 0, 2⟩]⟩,
  ⟨0x30048, 4, 16, 1, 0, 1,
    [⟨31, 16, .live, 0, 0, 0, 65535, 0, 0⟩, ⟨15, 8, .live, 0, 0, 0, 255, 0, 0⟩, ⟨7, 2, .rsvd, 0, 0, 0, 63, 0, 0⟩, ⟨1, 0, .live, 0, 0, 0, 3, 0, 0⟩]⟩,
  ⟨0x3004C, 4, 16, 1, 0, 1,
    [⟨31, 16, .rsvd, 0, 0, 0, 65535, 0, 0⟩, ⟨15, 0, .ro, 0, 61, 0, 65535, 0, 0⟩]⟩,
  ⟨0x30100, 24, 16, 1, 0, 1,
    [⟨31, 30, .rsvd, 0, 0, 0, 3, 0, 0⟩, ⟨29, 24, .rwl, 1, 255, 1, 40, 0, 2⟩, ⟨23, 22, .rsvd, 0, 0, 0, 3, 0, 0⟩, ⟨21, 16, .rwl, 1, 255, 1, 40, 0, 2⟩, ⟨15, 14, .rsvd, 0, 0, 0, 3, 0, 0⟩, ⟨13, 8, .rwl, 1, 255, 1, 40, 0, 2⟩, ⟨7, 6, .rsvd, 0, 0, 0, 3, 0, 0⟩, ⟨5, 0, .rwl, 1, 255, 1, 40, 0, 2⟩]⟩,
  ⟨0x30104, 24, 16, 1, 0, 1,
    [⟨31, 31, .rwl, 0, 255, 0, 1, 0, 2⟩, ⟨30, 30, .rwl, 0, 255, 0, 1, 0, 2⟩, ⟨29, 29, .rsvd, 0, 0, 0, 1, 0, 0⟩, ⟨28, 24, .rwl, 31, 255, 0, 31, 13, 2⟩, ⟨23, 21, .rsvd, 0, 0, 0, 7, 0, 0⟩, ⟨20, 16, .rwl, 31, 255, 0, 31, 13, 2⟩, ⟨15, 8, .rwl, 0, 255, 0, 255, 0, 2⟩, ⟨7, 0, .rwl, 50, 255, 1, 255, 0, 2⟩]⟩,
  ⟨0x30108, 24, 16, 1, 0, 1,
    [⟨31, 24, .rwl, 10, 255, 1, 255, 0, 2⟩, ⟨23, 16, .rwl, 10, 255, 1, 255, 0, 2⟩, ⟨15, 7, .rsvd, 0, 0, 0, 511, 0, 0⟩, ⟨6, 0, .rwl, 95, 255, 80, 99, 0, 2⟩]⟩]

/-- Register tables, part 2. -/
def regTable2 : List RDesc := [
  ⟨0x3010C, 24, 16, 1, 0, 1,
    [⟨31, 16, .live, 0, 0, 0, 65535, 0, 0⟩, ⟨15, 12, .ro, 0, 61, 0, 15, 0, 0⟩, ⟨11, 3, .rsvd, 0, 0, 0, 511, 0, 0⟩, ⟨2, 0, .live, 0, 0, 0, 7, 0, 0⟩]⟩,
  ⟨0x40000, 1, 0, 1, 0, 1,
    [⟨31, 24, .wo, 0, 0, 0, 255, 0, 0⟩, ⟨23, 4, .rsvd, 0, 0, 0, 1048575, 0, 0⟩, ⟨3, 3, .wo, 0, 0, 0, 1, 0, 0⟩, ⟨2, 2, .wo, 0, 0, 0, 1, 0, 0⟩, ⟨1, 1, .wo, 0, 0, 0, 1, 0, 0⟩, ⟨0, 0, .rsvd, 0, 0, 0, 1, 0, 0⟩]⟩,
  ⟨0x40004, 1, 0, 1, 0, 1,
    [⟨31, 29, .live, 0, 0, 0, 7, 0, 0⟩, ⟨28, 25, .live, 0, 0, 0, 15, 0, 0⟩, ⟨24, 23, .ro, 0, 255, 0, 3, 0, 3⟩, ⟨22, 22, .live, 0, 0, 0, 1, 0, 0⟩, ⟨21, 21, .live, 0, 0, 0, 1, 0, 0⟩, ⟨20, 20, .live, 0, 0, 0, 1, 0, 0⟩, ⟨19, 19, .live, 0, 0, 0, 1, 0, 0⟩, ⟨18, 17, .rsvd, 0, 0, 0, 3, 0, 0⟩, ⟨16, 0, .live, 0, 0, 0, 131071, 0, 0⟩]⟩,
  ⟨0x40010, 1, 0, 1, 0, 1,
    [⟨31, 20, .rwl, 100, 255, 100, 3400, 0, 2⟩, ⟨19, 17, .rsvd, 0, 0, 0, 7, 0, 0⟩, ⟨16, 8, .rwl, 10, 255, 10, 400, 0, 2⟩, ⟨7, 5, .rsvd, 0, 0, 0, 7, 0, 0⟩, ⟨4, 0, .rwl, 0, 255, 0, 16, 12, 2⟩]⟩,
  ⟨0x40014, 1, 0, 1, 0, 1,
    [⟨31, 16, .rwl, 1, 255, 1, 65535, 0, 2⟩, ⟨15, 0, .rwl, 1, 255, 1, 65535, 0, 2⟩]⟩,
  ⟨0x40018, 1, 0, 1, 0, 1,
    [⟨31, 24, .rwl, 70, 255, 0, 85, 0, 2⟩, ⟨23, 16, .rwl, 85, 255, 0, 150, 0, 2⟩, ⟨15, 8, .rwl, 15, 255, 0, 50, 0, 2⟩, ⟨7, 7, .rsvd, 0, 0, 0, 1, 0, 0⟩, ⟨6, 0, .rwl, 80, 255, 20, 80, 0, 2⟩]⟩,
  ⟨0x40020, 1, 0, 1, 0, 1,
    [⟨31, 23, .rw, 40, 255, 1, 400, 0, 1⟩, ⟨22, 16, .rw, 25, 255, 0, 90, 0, 1⟩, ⟨15, 0, .rw, 200, 255, 10, 4000, 0, 1⟩]⟩,
  ⟨0x40024, 1, 0, 1, 0, 1,
    [⟨31, 24, .rw, 100, 255, 10, 255, 0, 1⟩, ⟨23, 16, .rw, 10, 255, 1, 50, 0, 1⟩, ⟨15, 8, .rw, 20, 255, 5, 100, 0, 1⟩, ⟨7, 1, .rsvd, 0, 0, 0, 127, 0, 0⟩, ⟨0, 0, .rw, 0, 255, 0, 1, 0, 1⟩]⟩,
  ⟨0x40028, 1, 0, 1, 0, 1,
    [⟨31, 24, .rw, 65, 255, 0, 255, 10, 1⟩, ⟨23, 16, .rw, 236, 255, 0, 255, 10, 1⟩, ⟨15, 8, .rw, 55, 255, 0, 255, 11, 1⟩, ⟨7, 0, .rw, 0, 255, 0, 255, 11, 1⟩]⟩,
  ⟨0x40030, 1, 0, 1, 0, 1,
    [⟨31, 16, .live, 0, 0, 0, 65535, 0, 0⟩, ⟨15, 0, .live, 0, 0, 0, 65535, 0, 0⟩]⟩,
  ⟨0x40034, 1, 0, 1, 0, 1,
    [⟨31, 16, .live, 0, 0, 0, 65535, 0, 0⟩, ⟨15, 0, .live, 0, 0, 0, 65535, 0, 0⟩]⟩,
  ⟨0x40038, 1, 0, 1, 0, 1,
    [⟨31, 0, .live, 0, 0, 0, 4294967295, 0, 0⟩]⟩,
  ⟨0x4003C, 1, 0, 1, 0, 1,
    [⟨31, 0, .live, 0, 0, 0, 4294967295, 0, 0⟩]⟩,
  ⟨0x40040, 1, 0, 1, 0, 1,
    [⟨31, 16, .live, 0, 0, 0, 65535, 0, 0⟩, ⟨15, 0, .live, 0, 0, 0, 65535, 0, 0⟩]⟩,
  ⟨0x40044, 1, 0, 1, 0, 1,
    [⟨31, 0, .live, 0, 0, 0, 4294967295, 0, 0⟩]⟩,
  ⟨0x40048, 1, 0, 1, 0, 1,
    [⟨31, 0, .ro, 0, 255, 0, 4294967295, 0, 3⟩]⟩,
  ⟨0x40050, 1, 0, 1, 0, 1,
    [⟨31, 4, .rsvd, 0, 0, 0, 268435455, 0, 0⟩, ⟨3, 3, .w1c, 0, 61, 0, 1, 0, 0⟩, ⟨2, 2, .w1c, 0, 61, 0, 1, 0, 0⟩, ⟨1, 1, .w1c, 0, 61, 0, 1, 0, 0⟩, ⟨0, 0, .w1c, 0, 61, 0, 1, 0, 0⟩]⟩,
  ⟨0x40100, 16, 4, 1, 0, 1,
    [⟨31, 16, .live, 0, 0, 0, 65535, 0, 0⟩, ⟨15, 0, .live, 0, 0, 0, 65535, 0, 0⟩]⟩,
  ⟨0x40140, 16, 4, 1, 0, 1,
    [⟨31, 16, .ro, 0, 255, 0, 65535, 0, 3⟩, ⟨15, 0, .ro, 0, 255, 0, 65535, 0, 3⟩]⟩,
  ⟨0x50000, 1, 0, 1, 0, 0,
    [⟨31, 2, .rsvd, 0, 0, 0, 1073741823, 0, 0⟩, ⟨1, 1, .wo, 0, 0, 0, 1, 0, 0⟩, ⟨0, 0, .live, 0, 0, 0, 1, 0, 0⟩]⟩,
  ⟨0x50004, 1, 0, 1, 0, 7,
    [⟨31, 31, .rwl, 0, 127, 0, 1, 0, 0⟩, ⟨30, 30, .rwl, 0, 255, 0, 1, 0, 1⟩, ⟨29, 8, .rsvd, 0, 0, 0, 4194303, 0, 0⟩, ⟨7, 0, .rwd, 110, 255, 85, 115, 0, 1⟩]⟩,
  ⟨0x50008, 1, 0, 1, 0, 0,
    [⟨31, 24, .rw, 102, 255, 80, 110, 0, 1⟩, ⟨23, 16, .rw, 90, 255, 70, 105, 0, 1⟩, ⟨15, 8, .rw, 75, 255, 60, 95, 0, 1⟩, ⟨7, 0, .rw, 10, 255, 0, 20, 0, 1⟩]⟩,
  ⟨0x5000C, 1, 0, 1, 0, 0,
    [⟨31, 29, .rsvd, 0, 0, 0, 7, 0, 0⟩, ⟨28, 24, .rw, 16, 255, 1, 31, 0, 1⟩, ⟨23, 20, .rw, 12, 255, 0, 15, 0, 1⟩, ⟨19, 16, .rw, 4, 255, 0, 15, 0, 1⟩, ⟨15, 13, .rsvd, 0, 0, 0, 7, 0, 0⟩, ⟨12, 8, .rw, 31, 255, 0, 31, 0, 1⟩, ⟨7, 0, .rsvd, 0, 0, 0, 255, 0, 0⟩]⟩,
  ⟨0x50010, 1, 0, 1, 0, 0,
    [⟨31, 24, .rw, 5, 255, 1, 20, 0, 1⟩, ⟨23, 16, .rw, 20, 255, 1, 40, 0, 1⟩, ⟨15, 8, .rw, 2, 255, 1, 10, 0, 1⟩, ⟨7, 0, .rsvd, 0, 0, 0, 255, 0, 0⟩]⟩,
  ⟨0x50014, 1, 0, 1, 0, 0,
    [⟨31, 16, .rsvd, 0, 0, 0, 65535, 0, 0⟩, ⟨15, 0, .rw, 3600, 255, 0, 65535, 0, 1⟩]⟩,
  ⟨0x50020, 1, 0, 1, 0, 0,
    [⟨31, 22, .live, 0, 0, 0, 1023, 0, 0⟩, ⟨21, 19, .live, 0, 0, 0, 7, 0, 0⟩, ⟨18, 16, .live, 0, 0, 0, 7, 0, 0⟩, ⟨15, 8, .live, 0, 0, 0, 255, 0, 0⟩, ⟨7, 0, .rsvd, 0, 0, 0, 255, 0, 0⟩]⟩,
  ⟨0x50024, 1, 0, 1, 0, 0,
    [⟨31, 16, .live, 0, 0, 0, 65535, 0, 0⟩, ⟨15, 0, .live, 0, 0, 0, 65535, 0, 0⟩]⟩,
  ⟨0x50028, 1, 0, 1, 0, 7,
    [⟨31, 24, .ro, 0, 127, 0, 255, 0, 0⟩, ⟨23, 14, .ro, 0, 127, 0, 1023, 0, 0⟩, ⟨13, 3, .rsvd, 0, 0, 0, 2047, 0, 0⟩, ⟨2, 0, .ro, 0, 127, 0, 7, 0, 0⟩]⟩,
  ⟨0x50030, 1, 0, 1, 0, 0,
    [⟨31, 5, .rsvd, 0, 0, 0, 134217727, 0, 0⟩, ⟨4, 4, .w1c, 0, 60, 0, 1, 0, 0⟩, ⟨3, 3, .w1c, 0, 60, 0, 1, 0, 0⟩, ⟨2, 2, .w1c, 0, 60, 0, 1, 0, 0⟩, ⟨1, 1, .w1c, 0, 60, 0, 1, 0, 0⟩, ⟨0, 0, .w1c, 0, 60, 0, 1, 0, 0⟩]⟩,
  ⟨0x50040, 8, 4, 1, 0, 0,
    [⟨31, 22, .live, 0, 0, 0, 1023, 0, 0⟩, ⟨21, 19, .live, 0, 0, 0, 7, 0, 0⟩, ⟨18, 17, .live, 0, 0, 0, 3, 0, 0⟩, ⟨16, 12, .live, 0, 0, 0, 31, 0, 0⟩, ⟨11, 8, .live, 0, 0, 0, 15, 0, 0⟩, ⟨7, 0, .rsvd, 0, 0, 0, 255, 0, 0⟩]⟩,
  ⟨0x50080, 16, 4, 1, 0, 0,
    [⟨31, 8, .rsvd, 0, 0, 0, 16777215, 0, 0⟩, ⟨7, 0, .rw, 32, 255, 1, 255, 0, 1⟩]⟩,
  ⟨0x500C0, 16, 4, 1, 0, 0,
    [⟨31, 22, .live, 0, 0, 0, 1023, 0, 0⟩, ⟨21, 19, .live, 0, 0, 0, 7, 0, 0⟩, ⟨18, 18, .live, 0, 0, 0, 1, 0, 0⟩, ⟨17, 13, .live, 0, 0, 0, 31, 0, 0⟩, ⟨12, 9, .live, 0, 0, 0, 15, 0, 0⟩, ⟨8, 0, .rsvd, 0, 0, 0, 511, 0, 0⟩]⟩,
  ⟨0x50100, 16, 4, 1, 0, 0,
    [⟨31, 16, .live, 0, 0, 0, 65535, 0, 0⟩, ⟨15, 0, .live, 0, 0, 0, 65535, 0, 0⟩]⟩,
  ⟨0x50140, 1, 0, 1, 0, 0,
    [⟨31, 22, .live, 0, 0, 0, 1023, 0, 0⟩, ⟨21, 19, .live, 0, 0, 0, 7, 0, 0⟩, ⟨18, 16, .rsvd, 0, 0, 0, 7, 0, 0⟩, ⟨15, 0, .live, 0, 0, 0, 65535, 0, 0⟩]⟩,
  ⟨0x50200, 64, 4, 1, 0, 0,
    [⟨31, 13, .rsvd, 0, 0, 0, 524287, 0, 0⟩, ⟨12, 8, .rw, 31, 255, 0, 31, 0, 1⟩, ⟨7, 0, .rw, 100, 255, 0, 255, 0, 1⟩]⟩,
  ⟨0x50300, 64, 4, 1, 0, 0,
    [⟨31, 22, .live, 0, 0, 0, 1023, 0, 0⟩, ⟨21, 20, .live, 0, 0, 0, 3, 0, 0⟩, ⟨19, 18, .live, 0, 0, 0, 3, 0, 0⟩, ⟨17, 0, .rsvd, 0, 0, 0, 262143, 0, 0⟩]⟩,
  ⟨0x50400, 32, 4, 1, 0, 0,
    [⟨31, 31, .rw, 0, 255, 0, 1, 0, 1⟩, ⟨30, 30, .rw, 0, 255, 0, 1, 0, 1⟩, ⟨29, 23, .rw, 0, 255, 0, 127, 0, 1⟩, ⟨22, 15, .rw, 0, 255, 0, 255, 0, 1⟩, ⟨14, 11, .rw, 0, 255, 0, 8, 0, 1⟩, ⟨10, 8, .rsvd, 0, 0, 0, 7, 0, 0⟩, ⟨7, 0, .rw, 85, 255, 0, 255, 0, 1⟩]⟩,
  ⟨0x50480, 32, 4, 1, 0, 0,
    [⟨31, 22, .live, 0, 0, 0, 1023, 0, 0⟩, ⟨21, 21, .live, 0, 0, 0, 1, 0, 0⟩, ⟨20, 20, .live, 0, 0, 0, 1, 0, 0⟩, ⟨19, 0, .rsvd, 0, 0, 0, 1048575, 0, 0⟩]⟩,
  ⟨0x51000, 2048, 4, 1, 0, 0,
    [⟨31, 0, .live, 0, 0, 0, 4294967295, 0, 0⟩]⟩,
  ⟨0x60000, 1, 0, 1, 0, 0,
    [⟨31, 31, .wo, 0, 0, 0, 1, 0, 0⟩, ⟨30, 30, .live, 0, 0, 0, 1, 0, 0⟩, ⟨29, 2, .rsvd, 0, 0, 0, 268435455, 0, 0⟩, ⟨1, 1, .wo, 0, 0, 0, 1, 0, 0⟩, ⟨0, 0, .rsvd, 0, 0, 0, 1, 0, 0⟩]⟩]

/-- Register tables, part 3. -/
def regTable3 : List RDesc := [
  ⟨0x60004, 1, 0, 1, 0, 0,
    [⟨31, 16, .rw, 1500, 255, 0, 65535, 0, 1⟩, ⟨15, 8, .rw, 92, 255, 50, 100, 0, 1⟩, ⟨7, 0, .rw, 10, 255, 1, 100, 0, 1⟩]⟩,
  ⟨0x60008, 1, 0, 1, 0, 0,
    [⟨31, 16, .rw, 250, 255, 0, 65535, 0, 1⟩, ⟨15, 0, .rw, 750, 255, 10, 10000, 0, 1⟩]⟩,
  ⟨0x6000C, 1, 0, 1, 0, 0,
    [⟨31, 8, .rsvd, 0, 0, 0, 16777215, 0, 0⟩, ⟨7, 0, .rw, 2, 255, 1, 10, 0, 1⟩]⟩,
  ⟨0x60010, 1, 0, 1, 0, 0,
    [⟨31, 16, .live, 0, 0, 0, 65535, 0, 0⟩, ⟨15, 0, .live, 0, 0, 0, 65535, 0, 0⟩]⟩,
  ⟨0x60014, 1, 0, 1, 0, 0,
    [⟨31, 16, .live, 0, 0, 0, 65535, 0, 0⟩, ⟨15, 0, .live, 0, 0, 0, 65535, 0, 0⟩]⟩,
  ⟨0x60018, 1, 0, 1, 0, 0,
    [⟨31, 16, .live, 0, 0, 0, 65535, 0, 0⟩, ⟨15, 0, .live, 0, 0, 0, 65535, 0, 0⟩]⟩,
  ⟨0x6001C, 1, 0, 1, 0, 0,
    [⟨31, 6, .rsvd, 0, 0, 0, 67108863, 0, 0⟩, ⟨5, 5, .live, 0, 0, 0, 1, 0, 0⟩, ⟨4, 4, .live, 0, 0, 0, 1, 0, 0⟩, ⟨3, 3, .live, 0, 0, 0, 1, 0, 0⟩, ⟨2, 0, .live, 0, 0, 0, 7, 0, 0⟩]⟩,
  ⟨0x60020, 1, 0, 1, 0, 0,
    [⟨31, 4, .rsvd, 0, 0, 0, 268435455, 0, 0⟩, ⟨3, 3, .w1c, 0, 60, 0, 1, 0, 0⟩, ⟨2, 2, .w1c, 0, 60, 0, 1, 0, 0⟩, ⟨1, 1, .w1c, 0, 60, 0, 1, 0, 0⟩, ⟨0, 0, .w1c, 0, 60, 0, 1, 0, 0⟩]⟩,
  ⟨0x60030, 1, 0, 1, 0, 7,
    [⟨31, 0, .live, 0, 127, 0, 4294967295, 0, 0⟩]⟩,
  ⟨0x60034, 1, 0, 1, 0, 7,
    [⟨31, 0, .live, 0, 127, 0, 4294967295, 0, 0⟩]⟩,
  ⟨0x60038, 1, 0, 1, 0, 0,
    [⟨31, 0, .ro, 0, 60, 0, 4294967295, 0, 0⟩]⟩,
  ⟨0x6003C, 1, 0, 1, 0, 0,
    [⟨31, 0, .ro, 0, 60, 0, 4294967295, 0, 0⟩]⟩,
  ⟨0x60100, 64, 8, 1, 0, 0,
    [⟨31, 16, .rw, 65535, 60, 0, 65535, 2, 0⟩, ⟨15, 0, .rw, 0, 60, 0, 65535, 0, 0⟩]⟩,
  ⟨0x60104, 64, 8, 1, 0, 0,
    [⟨31, 31, .rw, 1, 60, 0, 1, 2, 0⟩, ⟨30, 8, .rsvd, 0, 0, 0, 8388607, 0, 0⟩, ⟨7, 0, .rw, 1, 60, 0, 255, 0, 0⟩]⟩,
  ⟨0x60400, 64, 8, 1, 0, 0,
    [⟨31, 16, .rw, 65535, 255, 0, 65535, 2, 1⟩, ⟨15, 0, .rw, 0, 255, 0, 65535, 0, 1⟩]⟩,
  ⟨0x60404, 64, 8, 1, 0, 0,
    [⟨31, 31, .rw, 1, 255, 0, 1, 2, 1⟩, ⟨30, 8, .rsvd, 0, 0, 0, 8388607, 0, 0⟩, ⟨7, 0, .rw, 1, 255, 0, 255, 0, 1⟩]⟩,
  ⟨0x60800, 64, 16, 1, 0, 0,
    [⟨31, 16, .live, 0, 0, 0, 65535, 0, 0⟩, ⟨15, 0, .live, 0, 0, 0, 65535, 0, 0⟩]⟩,
  ⟨0x60804, 64, 16, 1, 0, 0,
    [⟨31, 16, .live, 0, 0, 0, 65535, 0, 0⟩, ⟨15, 15, .rsvd, 0, 0, 0, 1, 0, 0⟩, ⟨14, 0, .live, 0, 0, 0, 32767, 0, 0⟩]⟩,
  ⟨0x60808, 64, 16, 1, 0, 0,
    [⟨31, 4, .rsvd, 0, 0, 0, 268435455, 0, 0⟩, ⟨3, 0, .live, 0, 0, 0, 15, 0, 0⟩]⟩,
  ⟨0x6080C, 64, 16, 1, 0, 0,
    [⟨31, 0, .rsvd, 0, 0, 0, 4294967295, 0, 0⟩]⟩,
  ⟨0x61000, 64, 8, 1, 0, 0,
    [⟨31, 0, .ro, 0, 60, 0, 4294967295, 0, 0⟩]⟩,
  ⟨0x61004, 64, 8, 1, 0, 0,
    [⟨31, 0, .ro, 0, 60, 0, 4294967295, 0, 0⟩]⟩,
  ⟨0x80000, 1, 0, 1, 0, 3,
    [⟨31, 31, .rsvd, 0, 0, 0, 1, 0, 0⟩, ⟨30, 16, .live, 0, 0, 0, 32767, 0, 0⟩, ⟨15, 14, .rsvd, 0, 0, 0, 3, 0, 0⟩, ⟨13, 0, .live, 0, 0, 0, 16383, 0, 0⟩]⟩,
  ⟨0x80004, 1, 0, 1, 0, 3,
    [⟨31, 6, .rsvd, 0, 0, 0, 67108863, 0, 0⟩, ⟨5, 5, .w1c, 0, 60, 0, 1, 0, 0⟩, ⟨4, 4, .w1c, 0, 60, 0, 1, 0, 0⟩, ⟨3, 3, .w1c, 0, 60, 0, 1, 0, 0⟩, ⟨2, 2, .w1c, 0, 60, 0, 1, 0, 0⟩, ⟨1, 1, .w1c, 0, 60, 0, 1, 0, 0⟩, ⟨0, 0, .w1c, 0, 60, 0, 1, 0, 0⟩]⟩,
  ⟨0x80008, 1, 0, 1, 0, 3,
    [⟨31, 3, .rsvd, 0, 0, 0, 536870911, 0, 0⟩, ⟨2, 0, .rw, 0, 60, 0, 7, 0, 0⟩]⟩,
  ⟨0x90000, 4096, 4, 1, 0, 3,
    [⟨31, 31, .rw, 1, 60, 0, 1, 3, 0⟩, ⟨30, 30, .rw, 1, 60, 0, 1, 3, 0⟩, ⟨29, 29, .rw, 1, 60, 0, 1, 4, 0⟩, ⟨28, 27, .rw, 0, 60, 0, 3, 0, 0⟩, ⟨26, 24, .rw, 0, 60, 0, 7, 0, 0⟩, ⟨23, 20, .rw, 0, 60, 0, 15, 5, 0⟩, ⟨19, 16, .rsvd, 0, 0, 0, 15, 0, 0⟩, ⟨15, 8, .rw, 0, 60, 0, 255, 0, 0⟩, ⟨7, 6, .rsvd, 0, 0, 0, 3, 0, 0⟩, ⟨5, 0, .rw, 4, 60, 1, 32, 6, 0⟩]⟩,
  ⟨0xA0000, 32, 64, 1, 0, 3,
    [⟨31, 31, .rw, 0, 60, 0, 1, 0, 0⟩, ⟨30, 0, .rsvd, 0, 0, 0, 2147483647, 0, 0⟩]⟩,
  ⟨0xA0004, 32, 64, 8, 4, 3,
    [⟨31, 31, .rw, 0, 60, 0, 1, 0, 0⟩, ⟨30, 28, .rsvd, 0, 0, 0, 7, 0, 0⟩, ⟨27, 16, .rw, 0, 60, 0, 4095, 0, 0⟩, ⟨15, 15, .rw, 0, 60, 0, 1, 0, 0⟩, ⟨14, 12, .rsvd, 0, 0, 0, 7, 0, 0⟩, ⟨11, 0, .rw, 0, 60, 0, 4095, 0, 0⟩]⟩,
  ⟨0xB0000, 4096, 8, 1, 0, 3,
    [⟨31, 30, .rw, 0, 60, 0, 3, 0, 0⟩, ⟨29, 28, .rw, 0, 60, 0, 3, 0, 0⟩, ⟨27, 16, .rw, 0, 60, 0, 4095, 0, 0⟩, ⟨15, 0, .rw, 0, 60, 0, 65535, 0, 0⟩]⟩,
  ⟨0xB0004, 4096, 8, 1, 0, 3,
    [⟨31, 16, .rw, 1, 60, 0, 65535, 0, 0⟩, ⟨15, 0, .rw, 0, 60, 0, 65535, 0, 0⟩]⟩,
  ⟨0xC0000, 16384, 4, 1, 0, 3,
    [⟨31, 12, .rsvd, 0, 0, 0, 1048575, 0, 0⟩, ⟨11, 0, .rw, 0, 60, 0, 4095, 0, 0⟩]⟩,
  ⟨0xE0000, 8192, 4, 1, 0, 3,
    [⟨31, 31, .live, 0, 0, 0, 1, 0, 0⟩, ⟨30, 30, .live, 0, 0, 0, 1, 0, 0⟩, ⟨29, 29, .live, 0, 0, 0, 1, 0, 0⟩, ⟨28, 24, .live, 0, 0, 0, 31, 0, 0⟩, ⟨23, 16, .live, 0, 0, 0, 255, 0, 0⟩, ⟨15, 12, .rsvd, 0, 0, 0, 15, 0, 0⟩, ⟨11, 0, .live, 0, 0, 0, 4095, 0, 0⟩]⟩,
  ⟨0x200000, 4096, 64, 1, 0, 3,
    [⟨31, 0, .live, 0, 0, 0, 4294967295, 0, 0⟩]⟩,
  ⟨0x200004, 4096, 64, 7, 4, 3,
    [⟨31, 0, .live, 0, 0, 0, 4294967295, 0, 0⟩]⟩,
  ⟨0x200020, 4096, 64, 1, 0, 3,
    [⟨31, 25, .rsvd, 0, 0, 0, 127, 0, 0⟩, ⟨24, 16, .live, 0, 0, 0, 511, 0, 0⟩, ⟨15, 14, .rsvd, 0, 0, 0, 3, 0, 0⟩, ⟨13, 0, .live, 0, 0, 0, 16383, 0, 0⟩]⟩,
  ⟨0x200024, 4096, 64, 1, 0, 3,
    [⟨31, 0, .rw, 0, 52, 0, 4294967295, 0, 0⟩]⟩,
  ⟨0x200028, 4096, 64, 6, 4, 3,
    [⟨31, 0, .rsvd, 0, 0, 0, 4294967295, 0, 0⟩]⟩,
  ⟨0x100000, 16384, 64, 1, 0, 2,
    [⟨31, 21, .rsvd, 0, 0, 0, 2047, 0, 0⟩, ⟨20, 16, .live, 0, 0, 0, 31, 0, 0⟩, ⟨15, 1, .rsvd, 0, 0, 0, 32767, 0, 0⟩, ⟨0, 0, .live, 0, 0, 0, 1, 0, 0⟩]⟩,
  ⟨0x100004, 16384, 64, 1, 0, 2,
    [⟨31, 16, .rsvd, 0, 0, 0, 65535, 0, 0⟩, ⟨15, 0, .rw, 0, 52, 0, 65535, 0, 0⟩]⟩,
  ⟨0x100008, 16384, 64, 14, 4, 2,
    [⟨31, 0, .rsvd, 0, 0, 0, 4294967295, 0, 0⟩]⟩]

/-- Register tables, part 4. -/
def regTable4 : List RDesc := [
  ⟨0x300000, 1, 0, 1, 0, 3,
    [⟨31, 24, .wo, 0, 0, 0, 255, 0, 0⟩, ⟨23, 18, .rsvd, 0, 0, 0, 63, 0, 0⟩, ⟨17, 17, .wo, 0, 0, 0, 1, 0, 0⟩, ⟨16, 16, .live, 0, 0, 0, 1, 0, 0⟩, ⟨15, 8, .wo, 0, 0, 0, 255, 0, 0⟩, ⟨7, 0, .wo, 0, 0, 0, 255, 0, 0⟩]⟩,
  ⟨0x300004, 1, 0, 1, 0, 3,
    [⟨31, 24, .rw, 0, 60, 0, 255, 0, 0⟩, ⟨23, 16, .live, 0, 0, 0, 255, 0, 0⟩, ⟨15, 8, .live, 0, 0, 0, 255, 0, 0⟩, ⟨7, 0, .live, 0, 0, 0, 255, 0, 0⟩]⟩,
  ⟨0x300008, 1, 0, 1, 0, 3,
    [⟨31, 0, .live, 0, 0, 0, 4294967295, 0, 0⟩]⟩,
  ⟨0x30000C, 1, 0, 1, 0, 3,
    [⟨31, 12, .rsvd, 0, 0, 0, 1048575, 0, 0⟩, ⟨11, 8, .live, 0, 0, 0, 15, 0, 0⟩, ⟨7, 0, .live, 0, 0, 0, 255, 0, 0⟩]⟩,
  ⟨0x300010, 1, 0, 1, 0, 3,
    [⟨31, 16, .rw, 12000, 255, 1000, 65535, 0, 1⟩, ⟨15, 0, .rw, 12000, 255, 1000, 65535, 0, 1⟩]⟩,
  ⟨0x300020, 1, 0, 1, 0, 3,
    [⟨3, 0, .rw, 15, 255, 0, 15, 0, 1⟩, ⟨7, 4, .rw, 15, 255, 0, 15, 0, 1⟩, ⟨11, 8, .rw, 15, 255, 0, 15, 0, 1⟩, ⟨15, 12, .rw, 15, 255, 0, 15, 0, 1⟩, ⟨19, 16, .rw, 15, 255, 0, 15, 0, 1⟩, ⟨23, 20, .rw, 15, 255, 0, 15, 0, 1⟩, ⟨27, 24, .rw, 15, 255, 0, 15, 0, 1⟩, ⟨31, 28, .rw, 15, 255, 0, 15, 0, 1⟩]⟩,
  ⟨0x300024, 1, 0, 1, 0, 3,
    [⟨3, 0, .rw, 15, 255, 0, 15, 0, 1⟩, ⟨7, 4, .rw, 15, 255, 0, 15, 0, 1⟩, ⟨11, 8, .rw, 15, 255, 0, 15, 0, 1⟩, ⟨15, 12, .rw, 15, 255, 0, 15, 0, 1⟩, ⟨19, 16, .rw, 15, 255, 0, 15, 0, 1⟩, ⟨23, 20, .rw, 15, 255, 0, 15, 0, 1⟩, ⟨27, 24, .rw, 15, 255, 0, 15, 0, 1⟩, ⟨31, 28, .rw, 15, 255, 0, 15, 0, 1⟩]⟩,
  ⟨0x300030, 1, 0, 1, 0, 3,
    [⟨31, 10, .rsvd, 0, 0, 0, 4194303, 0, 0⟩, ⟨9, 0, .rw, 1023, 255, 0, 1023, 0, 1⟩]⟩,
  ⟨0x300034, 1, 0, 1, 0, 3,
    [⟨31, 17, .rsvd, 0, 0, 0, 32767, 0, 0⟩, ⟨16, 16, .w1c, 0, 60, 0, 1, 0, 0⟩, ⟨15, 8, .w1c, 0, 60, 0, 255, 0, 0⟩, ⟨7, 0, .w1c, 0, 60, 0, 255, 0, 0⟩]⟩,
  ⟨0x301000, 8, 256, 1, 0, 3,
    [⟨31, 20, .rsvd, 0, 0, 0, 4095, 0, 0⟩, ⟨19, 16, .ro, 0, 60, 0, 15, 0, 0⟩, ⟨15, 12, .rsvd, 0, 0, 0, 15, 0, 0⟩, ⟨11, 8, .live, 0, 0, 0, 15, 0, 0⟩, ⟨7, 5, .rsvd, 0, 0, 0, 7, 0, 0⟩, ⟨4, 4, .live, 0, 0, 0, 1, 0, 0⟩, ⟨3, 3, .live, 0, 0, 0, 1, 0, 0⟩, ⟨2, 2, .live, 0, 0, 0, 1, 0, 0⟩, ⟨1, 0, .live, 0, 0, 0, 3, 0, 0⟩]⟩,
  ⟨0x301004, 8, 256, 1, 0, 3,
    [⟨31, 24, .ro, 0, 60, 0, 255, 0, 0⟩, ⟨23, 23, .ro, 0, 60, 0, 1, 0, 0⟩, ⟨22, 20, .rsvd, 0, 0, 0, 7, 0, 0⟩, ⟨19, 16, .ro, 0, 60, 0, 15, 0, 0⟩, ⟨15, 0, .ro, 0, 60, 0, 65535, 0, 0⟩]⟩,
  ⟨0x301008, 8, 256, 1, 0, 3,
    [⟨31, 16, .rw, 0, 60, 0, 65535, 0, 0⟩, ⟨15, 0, .rw, 0, 60, 0, 65535, 0, 0⟩]⟩,
  ⟨0x30100C, 8, 256, 1, 0, 3,
    [⟨31, 0, .rw, 0, 60, 0, 4294967295, 0, 0⟩]⟩,
  ⟨0x400000, 1, 0, 1, 0, 3,
    [⟨31, 2, .rsvd, 0, 0, 0, 1073741823, 0, 0⟩, ⟨1, 1, .wo, 0, 0, 0, 1, 0, 0⟩, ⟨0, 0, .live, 0, 0, 0, 1, 0, 0⟩]⟩,
  ⟨0x400004, 1, 0, 1, 0, 3,
    [⟨31, 21, .rsvd, 0, 0, 0, 2047, 0, 0⟩, ⟨20, 16, .live, 0, 0, 0, 31, 0, 0⟩, ⟨15, 11, .rsvd, 0, 0, 0, 31, 0, 0⟩, ⟨10, 0, .live, 0, 0, 0, 2047, 0, 0⟩]⟩,
  ⟨0x400008, 1, 0, 1, 0, 3,
    [⟨31, 16, .rw, 1000, 255, 10, 65535, 0, 1⟩, ⟨15, 8, .rw, 20, 255, 10, 255, 0, 1⟩, ⟨7, 0, .rw, 64, 255, 1, 255, 0, 1⟩]⟩,
  ⟨0x40000C, 1, 0, 1, 0, 3,
    [⟨31, 5, .rsvd, 0, 0, 0, 134217727, 0, 0⟩, ⟨4, 4, .w1c, 0, 48, 0, 1, 0, 0⟩, ⟨3, 3, .w1c, 0, 48, 0, 1, 0, 0⟩, ⟨2, 2, .w1c, 0, 48, 0, 1, 0, 0⟩, ⟨1, 1, .w1c, 0, 48, 0, 1, 0, 0⟩, ⟨0, 0, .w1c, 0, 48, 0, 1, 0, 0⟩]⟩,
  ⟨0x401000, 1024, 32, 1, 0, 3,
    [⟨31, 6, .rw, 0, 48, 0, 67108863, 0, 0⟩, ⟨5, 0, .rsvd, 0, 0, 0, 63, 0, 0⟩]⟩,
  ⟨0x401004, 1024, 32, 1, 0, 3,
    [⟨31, 16, .rsvd, 0, 0, 0, 65535, 0, 0⟩, ⟨15, 0, .rw, 0, 48, 0, 65535, 0, 0⟩]⟩,
  ⟨0x401008, 1024, 32, 1, 0, 3,
    [⟨31, 31, .rw, 0, 48, 0, 1, 0, 0⟩, ⟨30, 24, .rw, 0, 48, 0, 64, 0, 0⟩, ⟨23, 20, .rsvd, 0, 0, 0, 15, 0, 0⟩, ⟨19, 16, .rw, 2, 48, 2, 12, 0, 0⟩, ⟨15, 8, .rsvd, 0, 0, 0, 255, 0, 0⟩, ⟨7, 0, .rw, 0, 48, 0, 255, 0, 0⟩]⟩,
  ⟨0x40100C, 1024, 32, 1, 0, 3,
    [⟨31, 12, .rsvd, 0, 0, 0, 1048575, 0, 0⟩, ⟨11, 0, .rw, 0, 48, 0, 4095, 9, 0⟩]⟩,
  ⟨0x401010, 1024, 32, 1, 0, 3,
    [⟨31, 19, .rsvd, 0, 0, 0, 8191, 0, 0⟩, ⟨18, 16, .live, 0, 0, 0, 7, 0, 0⟩, ⟨15, 12, .rsvd, 0, 0, 0, 15, 0, 0⟩, ⟨11, 0, .ro, 0, 48, 0, 4095, 0, 0⟩]⟩,
  ⟨0x401014, 1024, 32, 1, 0, 3,
    [⟨31, 21, .rsvd, 0, 0, 0, 2047, 0, 0⟩, ⟨20, 20, .ro, 0, 48, 0, 1, 0, 0⟩, ⟨19, 8, .ro, 0, 48, 0, 4095, 0, 0⟩, ⟨7, 0, .ro, 0, 48, 0, 255, 0, 0⟩]⟩,
  ⟨0x401018, 1024, 32, 1, 0, 3,
    [⟨31, 24, .wo, 0, 0, 0, 255, 0, 0⟩, ⟨23, 2, .rsvd, 0, 0, 0, 4194303, 0, 0⟩, ⟨1, 1, .wo, 0, 0, 0, 1, 0, 0⟩, ⟨0, 0, .wo, 0, 0, 0, 1, 0, 0⟩]⟩,
  ⟨0x40101C, 1024, 32, 1, 0, 3,
    [⟨31, 0, .rsvd, 0, 0, 0, 4294967295, 0, 0⟩]⟩,
  ⟨0x410000, 4096, 16, 1, 0, 3,
    [⟨31, 30, .rw, 0, 60, 0, 3, 0, 0⟩, ⟨29, 29, .ro, 0, 60, 0, 1, 0, 0⟩, ⟨28, 22, .rw, 0, 60, 0, 64, 0, 0⟩, ⟨21, 0, .rw, 0, 60, 0, 4194303, 0, 0⟩]⟩,
  ⟨0x410004, 4096, 16, 1, 0, 3,
    [⟨31, 30, .rw, 0, 60, 0, 3, 0, 0⟩, ⟨29, 16, .rw, 0, 60, 0, 16383, 0, 0⟩, ⟨15, 14, .rw, 0, 60, 0, 3, 0, 0⟩, ⟨13, 0, .rw, 0, 60, 0, 16383, 0, 0⟩]⟩,
  ⟨0x410008, 4096, 16, 1, 0, 3,
    [⟨31, 17, .rsvd, 0, 0, 0, 32767, 0, 0⟩, ⟨16, 0, .rw, 0, 60, 0, 131071, 0, 0⟩]⟩,
  ⟨0x41000C, 4096, 16, 1, 0, 3,
    [⟨31, 0, .ro, 0, 60, 0, 4294967295, 0, 0⟩]⟩,
  ⟨0x420000, 256, 4, 1, 0, 5,
    [⟨31, 2, .rsvd, 0, 0, 0, 1073741823, 0, 0⟩, ⟨1, 1, .ro, 0, 56, 0, 1, 0, 0⟩, ⟨0, 0, .rw, 1, 56, 0, 1, 0, 0⟩]⟩,
  ⟨0x430000, 1, 0, 1, 0, 3,
    [⟨31, 0, .live, 0, 0, 0, 4294967295, 0, 0⟩]⟩,
  ⟨0x480000, 1, 0, 1, 0, 3,
    [⟨31, 16, .rw, 10000, 255, 0, 65535, 0, 1⟩, ⟨15, 8, .rw, 0, 255, 0, 255, 0, 1⟩, ⟨7, 2, .rsvd, 0, 0, 0, 63, 0, 0⟩, ⟨1, 1, .wo, 0, 0, 0, 1, 0, 0⟩, ⟨0, 0, .live, 0, 0, 0, 1, 0, 0⟩]⟩,
  ⟨0x480004, 1, 0, 1, 0, 3,
    [⟨31, 16, .rsvd, 0, 0, 0, 65535, 0, 0⟩, ⟨15, 0, .live, 0, 0, 0, 65535, 0, 0⟩]⟩,
  ⟨0x480008, 1, 0, 1, 0, 3,
    [⟨31, 5, .rsvd, 0, 0, 0, 134217727, 0, 0⟩, ⟨4, 4, .w1c, 0, 48, 0, 1, 0, 0⟩, ⟨3, 3, .w1c, 0, 48, 0, 1, 0, 0⟩, ⟨2, 2, .w1c, 0, 48, 0, 1, 0, 0⟩, ⟨1, 1, .w1c, 0, 48, 0, 1, 0, 0⟩, ⟨0, 0, .w1c, 0, 48, 0, 1, 0, 0⟩]⟩,
  ⟨0x480010, 1, 0, 1, 0, 3,
    [⟨31, 5, .rw, 0, 48, 0, 134217727, 0, 0⟩, ⟨4, 0, .rsvd, 0, 0, 0, 31, 0, 0⟩]⟩,
  ⟨0x480014, 1, 0, 1, 0, 3,
    [⟨31, 16, .rsvd, 0, 0, 0, 65535, 0, 0⟩, ⟨15, 0, .rw, 0, 48, 0, 65535, 0, 0⟩]⟩,
  ⟨0x480018, 1, 0, 1, 0, 3,
    [⟨31, 31, .rw, 0, 48, 0, 1, 0, 0⟩, ⟨30, 4, .rsvd, 0, 0, 0, 134217727, 0, 0⟩, ⟨3, 0, .rw, 2, 48, 2, 10, 0, 0⟩]⟩,
  ⟨0x48001C, 1, 0, 1, 0, 3,
    [⟨9, 0, .rw, 0, 48, 0, 1023, 0, 0⟩]⟩,
  ⟨0x480020, 1, 0, 1, 0, 3,
    [⟨9, 0, .ro, 0, 48, 0, 1023, 0, 0⟩]⟩,
  ⟨0x480030, 1, 0, 1, 0, 3,
    [⟨31, 31, .wo, 0, 0, 0, 1, 0, 0⟩, ⟨30, 30, .live, 0, 0, 0, 1, 0, 0⟩, ⟨29, 29, .wo, 0, 0, 0, 1, 0, 0⟩, ⟨28, 7, .rsvd, 0, 0, 0, 4194303, 0, 0⟩, ⟨6, 0, .wo, 0, 0, 0, 64, 0, 0⟩]⟩]

/-- Register tables, part 5. -/
def regTable5 : List RDesc := [
  ⟨0x480040, 8, 4, 1, 0, 3,
    [⟨31, 0, .ro, 0, 48, 0, 4294967295, 0, 0⟩]⟩,
  ⟨0x481000, 65, 8, 1, 0, 3,
    [⟨31, 12, .rw, 0, 48, 0, 1048575, 0, 0⟩, ⟨11, 1, .rsvd, 0, 0, 0, 2047, 0, 0⟩, ⟨0, 0, .rw, 0, 48, 0, 1, 0, 0⟩]⟩,
  ⟨0x481004, 65, 8, 1, 0, 3,
    [⟨31, 20, .rsvd, 0, 0, 0, 4095, 0, 0⟩, ⟨19, 0, .rw, 0, 48, 0, 1048575, 0, 0⟩]⟩,
  ⟨0x482000, 16, 64, 1, 0, 3,
    [⟨31, 31, .rsvd, 0, 0, 0, 1, 0, 0⟩, ⟨30, 29, .ro, 0, 0, 0, 3, 0, 0⟩, ⟨28, 22, .rw, 0, 48, 0, 64, 0, 0⟩, ⟨21, 21, .rw, 0, 48, 0, 1, 0, 0⟩, ⟨20, 20, .rw, 0, 48, 0, 1, 0, 0⟩, ⟨19, 12, .rw, 0, 48, 0, 255, 0, 0⟩, ⟨11, 0, .rsvd, 0, 0, 0, 4095, 0, 0⟩]⟩,
  ⟨0x482004, 16, 64, 1, 0, 3,
    [⟨31, 3, .rw, 0, 48, 0, 536870911, 0, 0⟩, ⟨2, 0, .rsvd, 0, 0, 0, 7, 0, 0⟩]⟩,
  ⟨0x482008, 16, 64, 1, 0, 3,
    [⟨15, 0, .rw, 0, 48, 0, 65535, 0, 0⟩]⟩,
  ⟨0x48200C, 16, 64, 1, 0, 3,
    [⟨19, 3, .rw, 0, 48, 0, 131071, 0, 0⟩]⟩,
  ⟨0x482010, 16, 64, 1, 0, 3,
    [⟨20, 0, .rw, 0, 48, 0, 2097151, 0, 0⟩]⟩,
  ⟨0x482014, 16, 64, 1, 0, 3,
    [⟨20, 0, .ro, 0, 48, 0, 2097151, 0, 0⟩]⟩,
  ⟨0x482018, 16, 64, 1, 0, 3,
    [⟨31, 24, .wo, 0, 0, 0, 255, 0, 0⟩, ⟨23, 3, .rsvd, 0, 0, 0, 2097151, 0, 0⟩, ⟨2, 2, .wo, 0, 0, 0, 1, 0, 0⟩, ⟨1, 1, .wo, 0, 0, 0, 1, 0, 0⟩, ⟨0, 0, .wo, 0, 0, 0, 1, 0, 0⟩]⟩,
  ⟨0x48201C, 16, 64, 1, 0, 3,
    [⟨31, 3, .rsvd, 0, 0, 0, 536870911, 0, 0⟩, ⟨2, 0, .live, 0, 0, 0, 7, 0, 0⟩]⟩,
  ⟨0x482020, 16, 64, 8, 4, 3,
    [⟨31, 0, .ro, 0, 48, 0, 4294967295, 0, 0⟩]⟩,
  ⟨0x480070, 1, 0, 1, 0, 3,
    [⟨31, 11, .rsvd, 0, 0, 0, 2097151, 0, 0⟩, ⟨10, 0, .live, 0, 0, 0, 2047, 0, 0⟩]⟩,
  ⟨0x500000, 1, 0, 1, 0, 4,
    [⟨31, 2, .rsvd, 0, 0, 0, 1073741823, 0, 0⟩, ⟨1, 1, .wo, 0, 0, 0, 1, 0, 0⟩, ⟨0, 0, .live, 0, 0, 0, 1, 0, 0⟩]⟩,
  ⟨0x500004, 1, 0, 1, 0, 4,
    [⟨31, 24, .rw, 0, 255, 1, 254, 0, 1⟩, ⟨23, 15, .rw, 0, 255, 0, 510, 0, 1⟩, ⟨14, 0, .rw, 0, 255, 0, 32767, 0, 1⟩]⟩,
  ⟨0x500008, 1, 0, 1, 0, 4,
    [⟨31, 31, .rw, 0, 255, 0, 1, 0, 1⟩, ⟨30, 30, .rw, 0, 255, 0, 1, 0, 1⟩, ⟨29, 29, .rw, 0, 255, 0, 1, 0, 1⟩, ⟨28, 8, .rsvd, 0, 0, 0, 2097151, 0, 0⟩, ⟨7, 0, .rw, 128, 255, 0, 255, 0, 1⟩]⟩,
  ⟨0x500010, 1, 0, 1, 0, 4,
    [⟨31, 0, .ro, 0, 60, 0, 4294967295, 0, 0⟩]⟩,
  ⟨0x500014, 1, 0, 1, 0, 4,
    [⟨31, 24, .live, 0, 0, 0, 255, 0, 0⟩, ⟨23, 16, .live, 0, 0, 0, 255, 0, 0⟩, ⟨15, 8, .rsvd, 0, 0, 0, 255, 0, 0⟩, ⟨7, 7, .live, 0, 0, 0, 1, 0, 0⟩, ⟨6, 6, .live, 0, 0, 0, 1, 0, 0⟩, ⟨5, 5, .live, 0, 0, 0, 1, 0, 0⟩, ⟨4, 4, .live, 0, 0, 0, 1, 0, 0⟩, ⟨3, 3, .live, 0, 0, 0, 1, 0, 0⟩, ⟨2, 2, .live, 0, 0, 0, 1, 0, 0⟩, ⟨1, 0, .live, 0, 0, 0, 3, 0, 0⟩]⟩,
  ⟨0x500018, 1, 0, 1, 0, 4,
    [⟨31, 5, .rsvd, 0, 0, 0, 134217727, 0, 0⟩, ⟨4, 4, .w1c, 0, 44, 0, 1, 0, 0⟩, ⟨3, 3, .w1c, 0, 44, 0, 1, 0, 0⟩, ⟨2, 2, .w1c, 0, 44, 0, 1, 0, 0⟩, ⟨1, 1, .w1c, 0, 44, 0, 1, 0, 0⟩, ⟨0, 0, .w1c, 0, 44, 0, 1, 0, 0⟩]⟩,
  ⟨0x50001C, 1, 0, 1, 0, 4,
    [⟨31, 31, .rw, 0, 60, 0, 1, 0, 0⟩, ⟨30, 12, .rsvd, 0, 0, 0, 524287, 0, 0⟩, ⟨11, 0, .rw, 0, 60, 16, 4095, 0, 0⟩]⟩,
  ⟨0x500020, 1, 0, 1, 0, 4,
    [⟨31, 0, .live, 0, 0, 0, 4294967295, 0, 0⟩]⟩,
  ⟨0x500024, 1, 0, 1, 0, 4,
    [⟨31, 0, .live, 0, 0, 0, 4294967295, 0, 0⟩]⟩,
  ⟨0x500028, 1, 0, 1, 0, 4,
    [⟨31, 0, .wo, 0, 0, 0, 4294967295, 0, 0⟩]⟩,
  ⟨0x50002C, 1, 0, 1, 0, 4,
    [⟨31, 0, .wo, 0, 0, 0, 4294967295, 0, 0⟩]⟩,
  ⟨0x500030, 1, 0, 1, 0, 4,
    [⟨31, 24, .wo, 0, 0, 0, 255, 0, 0⟩, ⟨23, 1, .rsvd, 0, 0, 0, 8388607, 0, 0⟩, ⟨0, 0, .wo, 0, 0, 0, 1, 0, 0⟩]⟩,
  ⟨0x500034, 1, 0, 1, 0, 4,
    [⟨31, 0, .live, 0, 0, 0, 4294967295, 0, 0⟩]⟩,
  ⟨0x500038, 1, 0, 1, 0, 4,
    [⟨31, 0, .live, 0, 0, 0, 4294967295, 0, 0⟩]⟩,
  ⟨0x50003C, 1, 0, 1, 0, 4,
    [⟨31, 0, .live, 0, 0, 0, 4294967295, 0, 0⟩]⟩,
  ⟨0x500040, 1, 0, 1, 0, 4,
    [⟨31, 29, .rsvd, 0, 0, 0, 7, 0, 0⟩, ⟨28, 16, .live, 0, 0, 0, 8191, 0, 0⟩, ⟨15, 0, .live, 0, 0, 0, 65535, 0, 0⟩]⟩,
  ⟨0x500100, 6, 32, 1, 0, 4,
    [⟨31, 31, .rw, 0, 255, 0, 1, 0, 1⟩, ⟨30, 30, .rw, 0, 255, 0, 1, 0, 1⟩, ⟨29, 29, .rw, 0, 255, 0, 1, 0, 1⟩, ⟨28, 28, .rw, 0, 255, 0, 1, 0, 1⟩, ⟨27, 20, .rw, 1, 255, 1, 255, 0, 1⟩, ⟨19, 12, .rw, 0, 255, 0, 255, 0, 1⟩, ⟨11, 0, .rsvd, 0, 0, 0, 4095, 0, 0⟩]⟩,
  ⟨0x500104, 6, 32, 1, 0, 4,
    [⟨31, 30, .live, 0, 0, 0, 3, 0, 0⟩, ⟨29, 28, .live, 0, 0, 0, 3, 0, 0⟩, ⟨27, 27, .live, 0, 0, 0, 1, 0, 0⟩, ⟨26, 26, .live, 0, 0, 0, 1, 0, 0⟩, ⟨25, 0, .rsvd, 0, 0, 0, 67108863, 0, 0⟩]⟩,
  ⟨0x500108, 6, 32, 1, 0, 4,
    [⟨31, 0, .live, 0, 0, 0, 4294967295, 0, 0⟩]⟩,
  ⟨0x50010C, 6, 32, 1, 0, 4,
    [⟨31, 0, .live, 0, 0, 0, 4294967295, 0, 0⟩]⟩,
  ⟨0x500110, 6, 32, 1, 0, 4,
    [⟨31, 0, .live, 0, 0, 0, 4294967295, 0, 0⟩]⟩,
  ⟨0x500114, 6, 32, 1, 0, 4,
    [⟨31, 0, .rw, 0, 44, 0, 4294967295, 0, 0⟩]⟩,
  ⟨0x500118, 6, 32, 1, 0, 4,
    [⟨31, 0, .rw, 0, 44, 0, 4294967295, 0, 0⟩]⟩,
  ⟨0x50011C, 6, 32, 1, 0, 4,
    [⟨31, 0, .rsvd, 0, 0, 0, 4294967295, 0, 0⟩]⟩,
  ⟨0x510000, 4096, 16, 1, 0, 4,
    [⟨31, 0, .rw, 0, 60, 0, 4294967295, 0, 0⟩]⟩,
  ⟨0x510004, 4096, 16, 1, 0, 4,
    [⟨31, 31, .rw, 0, 60, 0, 1, 0, 0⟩, ⟨30, 30, .rw, 0, 60, 0, 1, 0, 0⟩, ⟨29, 12, .rsvd, 0, 0, 0, 262143, 0, 0⟩, ⟨11, 0, .rw, 0, 60, 16, 4095, 0, 0⟩]⟩,
  ⟨0x510008, 4096, 16, 1, 0, 4,
    [⟨31, 24, .ro, 0, 60, 0, 255, 0, 0⟩, ⟨23, 16, .rsvd, 0, 0, 0, 255, 0, 0⟩, ⟨15, 0, .rw, 0, 60, 0, 65535, 0, 0⟩]⟩]

/-- Register tables, part 6. -/
def regTable6 : List RDesc := [
  ⟨0x51000C, 4096, 16, 1, 0, 4,
    [⟨31, 0, .rsvd, 0, 0, 0, 4294967295, 0, 0⟩]⟩,
  ⟨0x500400, 1, 0, 1, 0, 4,
    [⟨31, 24, .wo, 0, 0, 0, 255, 0, 0⟩, ⟨23, 10, .rsvd, 0, 0, 0, 16383, 0, 0⟩, ⟨9, 8, .wo, 0, 0, 0, 3, 0, 0⟩, ⟨7, 1, .rsvd, 0, 0, 0, 127, 0, 0⟩, ⟨0, 0, .wo, 0, 0, 0, 1, 0, 0⟩]⟩,
  ⟨0x500404, 1, 0, 1, 0, 4,
    [⟨31, 0, .wo, 0, 0, 0, 4294967295, 0, 0⟩]⟩,
  ⟨0x500408, 1, 0, 1, 0, 4,
    [⟨31, 0, .wo, 0, 0, 0, 4294967295, 0, 0⟩]⟩,
  ⟨0x500410, 1, 0, 1, 0, 4,
    [⟨31, 0, .ro, 0, 52, 0, 4294967295, 0, 0⟩]⟩,
  ⟨0x500414, 1, 0, 1, 0, 4,
    [⟨31, 0, .ro, 0, 52, 0, 4294967295, 0, 0⟩]⟩,
  ⟨0x500418, 1, 0, 1, 0, 4,
    [⟨31, 0, .ro, 0, 52, 0, 4294967295, 0, 0⟩]⟩,
  ⟨0x50041C, 1, 0, 1, 0, 4,
    [⟨31, 2, .rsvd, 0, 0, 0, 1073741823, 0, 0⟩, ⟨1, 0, .ro, 0, 52, 0, 3, 0, 0⟩]⟩,
  ⟨0x500420, 1, 0, 1, 0, 4,
    [⟨31, 16, .rw, 1200, 255, 0, 65535, 0, 1⟩, ⟨15, 7, .rsvd, 0, 0, 0, 511, 0, 0⟩, ⟨6, 0, .rw, 40, 255, 0, 100, 0, 1⟩]⟩,
  ⟨0x500424, 1, 0, 1, 0, 4,
    [⟨31, 16, .rw, 3600, 255, 0, 65535, 0, 1⟩, ⟨15, 0, .rw, 100, 255, 0, 65535, 0, 1⟩]⟩,
  ⟨0x500428, 1, 0, 1, 0, 4,
    [⟨31, 24, .rw, 20, 255, 10, 255, 0, 1⟩, ⟨23, 16, .rw, 5, 255, 1, 50, 0, 1⟩, ⟨15, 0, .rsvd, 0, 0, 0, 65535, 0, 0⟩]⟩,
  ⟨0x500430, 1, 0, 1, 0, 4,
    [⟨31, 16, .live, 0, 0, 0, 65535, 0, 0⟩, ⟨15, 0, .live, 0, 0, 0, 65535, 0, 0⟩]⟩,
  ⟨0x500434, 1, 0, 1, 0, 4,
    [⟨31, 16, .live, 0, 0, 0, 65535, 0, 0⟩, ⟨15, 7, .rsvd, 0, 0, 0, 511, 0, 0⟩, ⟨6, 6, .live, 0, 0, 0, 1, 0, 0⟩, ⟨5, 5, .live, 0, 0, 0, 1, 0, 0⟩, ⟨4, 4, .live, 0, 0, 0, 1, 0, 0⟩, ⟨3, 3, .live, 0, 0, 0, 1, 0, 0⟩, ⟨2, 2, .live, 0, 0, 0, 1, 0, 0⟩, ⟨1, 1, .live, 0, 0, 0, 1, 0, 0⟩, ⟨0, 0, .rsvd, 0, 0, 0, 1, 0, 0⟩]⟩,
  ⟨0x500438, 1, 0, 1, 0, 4,
    [⟨31, 0, .live, 0, 0, 0, 4294967295, 0, 0⟩]⟩,
  ⟨0x50043C, 1, 0, 1, 0, 4,
    [⟨31, 0, .live, 0, 0, 0, 4294967295, 0, 0⟩]⟩,
  ⟨0x500440, 1, 0, 1, 0, 4,
    [⟨31, 19, .rsvd, 0, 0, 0, 8191, 0, 0⟩, ⟨18, 0, .live, 0, 0, 0, 524287, 0, 0⟩]⟩,
  ⟨0x500444, 1, 0, 1, 0, 4,
    [⟨31, 0, .live, 0, 0, 0, 4294967295, 0, 0⟩]⟩,
  ⟨0x500448, 1, 0, 1, 0, 4,
    [⟨31, 16, .live, 0, 0, 0, 65535, 0, 0⟩, ⟨15, 0, .live, 0, 0, 0, 65535, 0, 0⟩]⟩,
  ⟨0x50044C, 1, 0, 1, 0, 4,
    [⟨31, 8, .rsvd, 0, 0, 0, 16777215, 0, 0⟩, ⟨7, 0, .rw, 0, 60, 0, 255, 0, 0⟩]⟩,
  ⟨0x500450, 1, 0, 1, 0, 4,
    [⟨31, 5, .rsvd, 0, 0, 0, 134217727, 0, 0⟩, ⟨4, 4, .w1c, 0, 44, 0, 1, 0, 0⟩, ⟨3, 3, .w1c, 0, 44, 0, 1, 0, 0⟩, ⟨2, 2, .w1c, 0, 44, 0, 1, 0, 0⟩, ⟨1, 1, .w1c, 0, 44, 0, 1, 0, 0⟩, ⟨0, 0, .w1c, 0, 44, 0, 1, 0, 0⟩]⟩,
  ⟨0x500480, 6, 16, 1, 0, 4,
    [⟨31, 0, .live, 0, 0, 0, 4294967295, 0, 0⟩]⟩,
  ⟨0x500484, 6, 16, 1, 0, 4,
    [⟨31, 0, .live, 0, 0, 0, 4294967295, 0, 0⟩]⟩,
  ⟨0x500488, 6, 16, 1, 0, 4,
    [⟨31, 31, .live, 0, 0, 0, 1, 0, 0⟩, ⟨30, 30, .live, 0, 0, 0, 1, 0, 0⟩, ⟨29, 19, .rsvd, 0, 0, 0, 2047, 0, 0⟩, ⟨18, 0, .live, 0, 0, 0, 524287, 0, 0⟩]⟩,
  ⟨0x50048C, 6, 16, 1, 0, 4,
    [⟨31, 0, .live, 0, 0, 0, 4294967295, 0, 0⟩]⟩,
  ⟨0x580000, 1, 0, 1, 0, 6,
    [⟨31, 24, .wo, 0, 0, 0, 255, 0, 0⟩, ⟨23, 2, .rsvd, 0, 0, 0, 4194303, 0, 0⟩, ⟨1, 1, .wo, 0, 0, 0, 1, 0, 0⟩, ⟨0, 0, .wo, 0, 0, 0, 1, 0, 0⟩]⟩,
  ⟨0x580004, 1, 0, 1, 0, 6,
    [⟨31, 1, .rsvd, 0, 0, 0, 2147483647, 0, 0⟩, ⟨0, 0, .rw, 0, 60, 0, 1, 0, 0⟩]⟩,
  ⟨0x580008, 1, 0, 1, 0, 6,
    [⟨31, 16, .ro, 0, 60, 0, 65535, 0, 0⟩, ⟨15, 9, .rsvd, 0, 0, 0, 127, 0, 0⟩, ⟨8, 8, .live, 0, 0, 0, 1, 0, 0⟩, ⟨7, 7, .live, 0, 0, 0, 1, 0, 0⟩, ⟨6, 6, .live, 0, 0, 0, 1, 0, 0⟩, ⟨5, 5, .live, 0, 0, 0, 1, 0, 0⟩, ⟨4, 4, .live, 0, 0, 0, 1, 0, 0⟩, ⟨3, 3, .live, 0, 0, 0, 1, 0, 0⟩, ⟨2, 0, .live, 0, 0, 0, 7, 0, 0⟩]⟩,
  ⟨0x58000C, 1, 0, 1, 0, 6,
    [⟨31, 6, .rsvd, 0, 0, 0, 67108863, 0, 0⟩, ⟨5, 5, .w1c, 0, 60, 0, 1, 0, 0⟩, ⟨4, 4, .w1c, 0, 60, 0, 1, 0, 0⟩, ⟨3, 3, .w1c, 0, 60, 0, 1, 0, 0⟩, ⟨2, 2, .w1c, 0, 60, 0, 1, 0, 0⟩, ⟨1, 1, .w1c, 0, 60, 0, 1, 0, 0⟩, ⟨0, 0, .w1c, 0, 60, 0, 1, 0, 0⟩]⟩,
  ⟨0x580010, 1, 0, 1, 0, 6,
    [⟨31, 16, .rw, 0, 60, 0, 65535, 0, 0⟩, ⟨15, 0, .rw, 0, 60, 0, 65535, 0, 0⟩]⟩,
  ⟨0x580014, 1, 0, 1, 0, 6,
    [⟨31, 8, .rsvd, 0, 0, 0, 16777215, 0, 0⟩, ⟨7, 0, .live, 0, 0, 0, 255, 0, 0⟩]⟩,
  ⟨0x580018, 1, 0, 1, 0, 6,
    [⟨31, 0, .ro, 0, 60, 0, 4294967295, 0, 0⟩]⟩,
  ⟨0x58001C, 1, 0, 1, 0, 6,
    [⟨31, 0, .ro, 0, 60, 0, 4294967295, 0, 0⟩]⟩,
  ⟨0x600000, 1, 0, 1, 0, 7,
    [⟨31, 24, .wo, 0, 0, 0, 255, 0, 0⟩, ⟨23, 4, .rsvd, 0, 0, 0, 1048575, 0, 0⟩, ⟨3, 3, .wo, 0, 0, 0, 1, 0, 0⟩, ⟨2, 2, .wo, 0, 0, 0, 1, 0, 0⟩, ⟨1, 1, .wo, 0, 0, 0, 1, 0, 0⟩, ⟨0, 0, .rsvd, 0, 0, 0, 1, 0, 0⟩]⟩,
  ⟨0x600004, 1, 0, 1, 0, 7,
    [⟨31, 26, .rsvd, 0, 0, 0, 63, 0, 0⟩, ⟨25, 20, .live, 0, 0, 0, 63, 0, 0⟩, ⟨19, 18, .live, 0, 0, 0, 3, 0, 0⟩, ⟨17, 17, .live, 0, 0, 0, 1, 0, 0⟩, ⟨16, 16, .live, 0, 0, 0, 1, 0, 0⟩, ⟨15, 15, .live, 0, 0, 0, 1, 0, 0⟩, ⟨14, 9, .rsvd, 0, 0, 0, 63, 0, 0⟩, ⟨8, 0, .live, 0, 0, 0, 511, 0, 0⟩]⟩,
  ⟨0x600008, 1, 0, 1, 0, 7,
    [⟨31, 0, .ro, 0, 255, 0, 4294967295, 0, 3⟩]⟩,
  ⟨0x60000C, 1, 0, 1, 0, 7,
    [⟨31, 0, .ro, 0, 255, 0, 4294967295, 0, 3⟩]⟩,
  ⟨0x600010, 1, 0, 1, 0, 7,
    [⟨31, 0, .ro, 0, 255, 0, 4294967295, 0, 3⟩]⟩,
  ⟨0x600014, 1, 0, 1, 0, 7,
    [⟨31, 0, .ro, 0, 255, 0, 4294967295, 0, 3⟩]⟩,
  ⟨0x600018, 1, 0, 1, 0, 7,
    [⟨31, 0, .live, 0, 127, 0, 4294967295, 0, 0⟩]⟩,
  ⟨0x60001C, 1, 0, 1, 0, 7,
    [⟨31, 0, .live, 0, 127, 0, 4294967295, 0, 0⟩]⟩]

/-- Register tables, part 7. -/
def regTable7 : List RDesc := [
  ⟨0x600020, 1, 0, 1, 0, 7,
    [⟨31, 11, .rsvd, 0, 0, 0, 2097151, 0, 0⟩, ⟨10, 0, .ro, 0, 255, 0, 2047, 0, 3⟩]⟩,
  ⟨0x600024, 1, 0, 1, 0, 7,
    [⟨31, 7, .rsvd, 0, 0, 0, 33554431, 0, 0⟩, ⟨6, 6, .w1c, 0, 127, 0, 1, 0, 0⟩, ⟨5, 5, .w1c, 0, 127, 0, 1, 0, 0⟩, ⟨4, 4, .w1c, 0, 127, 0, 1, 0, 0⟩, ⟨3, 3, .w1c, 0, 127, 0, 1, 0, 0⟩, ⟨2, 2, .w1c, 0, 127, 0, 1, 0, 0⟩, ⟨1, 1, .w1c, 0, 127, 0, 1, 0, 0⟩, ⟨0, 0, .w1c, 0, 127, 0, 1, 0, 0⟩]⟩,
  ⟨0x600028, 1, 0, 1, 0, 7,
    [⟨31, 24, .rw, 8, 255, 1, 255, 0, 1⟩, ⟨23, 16, .rsvd, 0, 0, 0, 255, 0, 0⟩, ⟨15, 0, .rw, 1000, 255, 1, 65535, 0, 1⟩]⟩,
  ⟨0x60002C, 1, 0, 1, 0, 7,
    [⟨31, 16, .live, 0, 0, 0, 65535, 0, 0⟩, ⟨15, 0, .live, 0, 0, 0, 65535, 0, 0⟩]⟩,
  ⟨0x600040, 1, 0, 1, 0, 5,
    [⟨31, 0, .rw, 0, 56, 0, 4294967295, 0, 0⟩]⟩,
  ⟨0x600044, 1, 0, 1, 0, 5,
    [⟨31, 0, .rw, 0, 56, 0, 4294967295, 0, 0⟩]⟩,
  ⟨0x600048, 1, 0, 1, 0, 5,
    [⟨31, 31, .ro, 0, 56, 0, 1, 0, 0⟩, ⟨30, 8, .rsvd, 0, 0, 0, 8388607, 0, 0⟩, ⟨7, 0, .ro, 0, 56, 0, 255, 0, 0⟩]⟩,
  ⟨0x610000, 1024, 4, 1, 0, 5,
    [⟨31, 0, .ro, 0, 56, 0, 4294967295, 0, 0⟩]⟩,
  ⟨0x600080, 1, 0, 1, 0, 5,
    [⟨31, 31, .rw, 0, 56, 0, 1, 0, 0⟩, ⟨30, 24, .rsvd, 0, 0, 0, 127, 0, 0⟩, ⟨23, 16, .rw, 0, 56, 0, 255, 0, 0⟩, ⟨15, 12, .rw, 4, 56, 4, 15, 0, 0⟩, ⟨11, 0, .rsvd, 0, 0, 0, 4095, 0, 0⟩]⟩,
  ⟨0x600084, 1, 0, 1, 0, 5,
    [⟨31, 6, .rw, 0, 56, 0, 67108863, 0, 0⟩, ⟨5, 0, .rsvd, 0, 0, 0, 63, 0, 0⟩]⟩,
  ⟨0x600088, 1, 0, 1, 0, 5,
    [⟨31, 16, .rsvd, 0, 0, 0, 65535, 0, 0⟩, ⟨15, 0, .rw, 0, 56, 0, 65535, 0, 0⟩]⟩,
  ⟨0x60008C, 1, 0, 1, 0, 5,
    [⟨31, 20, .rsvd, 0, 0, 0, 4095, 0, 0⟩, ⟨19, 12, .rw, 0, 56, 0, 255, 0, 0⟩, ⟨11, 0, .rsvd, 0, 0, 0, 4095, 0, 0⟩]⟩,
  ⟨0x600090, 1, 0, 1, 0, 5,
    [⟨31, 15, .rsvd, 0, 0, 0, 131071, 0, 0⟩, ⟨14, 0, .rw, 0, 56, 0, 32767, 0, 0⟩]⟩,
  ⟨0x600094, 1, 0, 1, 0, 5,
    [⟨31, 15, .rsvd, 0, 0, 0, 131071, 0, 0⟩, ⟨14, 0, .ro, 0, 56, 0, 32767, 0, 0⟩]⟩,
  ⟨0x601000, 1024, 8, 1, 0, 7,
    [⟨31, 31, .rw, 0, 255, 0, 1, 0, 1⟩, ⟨30, 30, .rw, 0, 255, 0, 1, 0, 1⟩, ⟨29, 16, .rsvd, 0, 0, 0, 16383, 0, 0⟩, ⟨15, 0, .rw, 0, 255, 0, 65535, 0, 1⟩]⟩,
  ⟨0x601004, 1024, 8, 1, 0, 7,
    [⟨31, 24, .rw, 8, 255, 1, 255, 0, 1⟩, ⟨23, 16, .rsvd, 0, 0, 0, 255, 0, 0⟩, ⟨15, 0, .rw, 1000, 255, 1, 65535, 0, 1⟩]⟩,
  ⟨0x700000, 1, 0, 1, 0, 5,
    [⟨31, 24, .wo, 0, 0, 0, 255, 0, 0⟩, ⟨8, 8, .wo, 0, 0, 0, 1, 0, 0⟩, ⟨3, 3, .wo, 0, 0, 0, 1, 0, 0⟩, ⟨2, 2, .wo, 0, 0, 0, 1, 0, 0⟩, ⟨1, 1, .wo, 0, 0, 0, 1, 0, 0⟩]⟩,
  ⟨0x700004, 1, 0, 1, 0, 5,
    [⟨31, 24, .ro, 0, 255, 0, 255, 0, 0⟩, ⟨23, 16, .live, 0, 0, 0, 255, 0, 0⟩, ⟨15, 8, .ro, 0, 255, 0, 255, 0, 0⟩, ⟨7, 7, .ro, 0, 20, 0, 1, 0, 0⟩, ⟨6, 6, .ro, 0, 48, 0, 1, 0, 0⟩, ⟨5, 5, .live, 0, 0, 0, 1, 0, 0⟩, ⟨4, 4, .live, 0, 0, 0, 1, 0, 0⟩, ⟨3, 3, .live, 0, 0, 0, 1, 0, 0⟩]⟩,
  ⟨0x700008, 1, 0, 1, 0, 5,
    [⟨31, 24, .wo, 0, 0, 0, 255, 0, 0⟩, ⟨8, 8, .rw, 0, 255, 0, 1, 0, 3⟩, ⟨3, 2, .ro, 0, 0, 0, 3, 0, 0⟩, ⟨1, 0, .ro, 0, 0, 0, 3, 0, 0⟩]⟩,
  ⟨0x700010, 1, 0, 1, 0, 5,
    [⟨31, 24, .wo, 0, 0, 0, 255, 0, 0⟩, ⟨23, 20, .wo, 0, 0, 0, 15, 0, 0⟩, ⟨18, 16, .wo, 0, 0, 0, 7, 0, 0⟩, ⟨14, 12, .wo, 0, 0, 0, 7, 0, 0⟩, ⟨2, 2, .wo, 0, 0, 0, 1, 0, 0⟩, ⟨1, 1, .wo, 0, 0, 0, 1, 0, 0⟩, ⟨0, 0, .wo, 0, 0, 0, 1, 0, 0⟩]⟩,
  ⟨0x700014, 1, 0, 1, 0, 5,
    [⟨31, 16, .ro, 0, 48, 0, 65535, 0, 0⟩, ⟨7, 4, .ro, 0, 48, 0, 15, 0, 0⟩, ⟨2, 0, .ro, 0, 48, 0, 7, 0, 0⟩]⟩,
  ⟨0x700100, 24, 4, 1, 0, 5,
    [⟨31, 0, .ro, 0, 48, 0, 4294967295, 0, 0⟩]⟩,
  ⟨0x700200, 12, 4, 1, 0, 5,
    [⟨31, 0, .rw, 0, 48, 0, 4294967295, 0, 0⟩]⟩,
  ⟨0x700300, 50, 4, 1, 0, 5,
    [⟨31, 0, .wo, 0, 0, 0, 4294967295, 0, 0⟩]⟩,
  ⟨0x700400, 1, 0, 1, 0, 5,
    [⟨31, 24, .wo, 0, 0, 0, 255, 0, 0⟩, ⟨19, 8, .wo, 0, 0, 0, 4095, 0, 0⟩, ⟨2, 2, .w1c, 0, 60, 0, 1, 0, 0⟩, ⟨1, 1, .wo, 0, 0, 0, 1, 0, 0⟩, ⟨0, 0, .live, 0, 0, 0, 1, 0, 0⟩]⟩,
  ⟨0x701000, 1024, 4, 1, 0, 5,
    [⟨31, 0, .rw, 0, 48, 0, 4294967295, 0, 0⟩]⟩,
  ⟨0x702000, 1, 0, 1, 0, 5,
    [⟨31, 24, .rw, 0, 48, 0, 255, 0, 0⟩, ⟨15, 15, .wo, 0, 0, 0, 1, 0, 0⟩, ⟨14, 14, .live, 0, 0, 0, 1, 0, 0⟩, ⟨12, 0, .rw, 0, 48, 0, 8191, 0, 0⟩]⟩,
  ⟨0x703000, 1024, 4, 1, 0, 5,
    [⟨31, 0, .rw, 0, 48, 0, 4294967295, 0, 0⟩]⟩,
  ⟨0x704000, 1024, 4, 1, 0, 5,
    [⟨31, 0, .ro, 0, 48, 0, 4294967295, 0, 0⟩]⟩,
  ⟨0x680000, 1, 0, 1, 0, 5,
    [⟨31, 24, .wo, 0, 0, 0, 255, 0, 0⟩, ⟨23, 6, .rsvd, 0, 0, 0, 262143, 0, 0⟩, ⟨5, 5, .wo, 0, 0, 0, 1, 0, 0⟩, ⟨4, 4, .wo, 0, 0, 0, 1, 0, 0⟩, ⟨3, 3, .wo, 0, 0, 0, 1, 0, 0⟩, ⟨2, 2, .wo, 0, 0, 0, 1, 0, 0⟩, ⟨1, 1, .wo, 0, 0, 0, 1, 0, 0⟩, ⟨0, 0, .wo, 0, 0, 0, 1, 0, 0⟩]⟩,
  ⟨0x680004, 1, 0, 1, 0, 5,
    [⟨31, 4, .rsvd, 0, 0, 0, 268435455, 0, 0⟩, ⟨3, 3, .live, 0, 0, 0, 1, 0, 0⟩, ⟨2, 2, .ro, 0, 28, 0, 1, 0, 0⟩, ⟨1, 1, .ro, 0, 28, 0, 1, 0, 0⟩, ⟨0, 0, .ro, 0, 60, 0, 1, 0, 0⟩]⟩,
  ⟨0x680008, 1, 0, 1, 0, 5,
    [⟨31, 16, .rw, 0, 60, 0, 65535, 0, 0⟩, ⟨15, 0, .rw, 0, 60, 0, 65535, 0, 0⟩]⟩,
  ⟨0x68000C, 1, 0, 1, 0, 5,
    [⟨31, 3, .rsvd, 0, 0, 0, 536870911, 0, 0⟩, ⟨2, 2, .rw, 0, 20, 0, 1, 0, 0⟩, ⟨1, 1, .rw, 0, 60, 0, 1, 0, 0⟩, ⟨0, 0, .rw, 0, 60, 0, 1, 0, 0⟩]⟩,
  ⟨0x680010, 1, 0, 1, 0, 5,
    [⟨31, 24, .wo, 0, 0, 0, 255, 0, 0⟩, ⟨23, 2, .rsvd, 0, 0, 0, 4194303, 0, 0⟩, ⟨1, 1, .wo, 0, 0, 0, 1, 0, 0⟩, ⟨0, 0, .wo, 0, 0, 0, 1, 0, 0⟩]⟩,
  ⟨0x680014, 1, 0, 1, 0, 5,
    [⟨31, 16, .rsvd, 0, 0, 0, 65535, 0, 0⟩, ⟨15, 0, .rw, 10000, 52, 0, 65535, 0, 0⟩]⟩,
  ⟨0x680018, 1, 0, 1, 0, 5,
    [⟨31, 16, .ro, 0, 20, 0, 65535, 0, 0⟩, ⟨15, 2, .rsvd, 0, 0, 0, 16383, 0, 0⟩, ⟨1, 0, .ro, 0, 20, 0, 3, 0, 0⟩]⟩,
  ⟨0x68001C, 1, 0, 1, 0, 5,
    [⟨31, 3, .rsvd, 0, 0, 0, 536870911, 0, 0⟩, ⟨2, 2, .w1c, 0, 60, 0, 1, 0, 0⟩, ⟨1, 1, .w1c, 0, 60, 0, 1, 0, 0⟩, ⟨0, 0, .w1c, 0, 60, 0, 1, 0, 0⟩]⟩,
  ⟨0x680020, 1, 0, 1, 0, 5,
    [⟨31, 31, .rw, 0, 60, 0, 1, 0, 0⟩, ⟨30, 22, .rsvd, 0, 0, 0, 511, 0, 0⟩, ⟨21, 12, .rw, 1, 60, 1, 512, 0, 0⟩, ⟨11, 0, .rw, 0, 60, 0, 4095, 0, 0⟩]⟩,
  ⟨0x680024, 1, 0, 1, 0, 5,
    [⟨31, 16, .rw, 100, 60, 10, 65535, 0, 0⟩, ⟨15, 12, .rw, 2, 60, 1, 10, 0, 0⟩, ⟨11, 8, .rsvd, 0, 0, 0, 15, 0, 0⟩, ⟨7, 0, .rw, 0, 60, 0, 255, 0, 0⟩]⟩,
  ⟨0x680028, 1, 0, 1, 0, 5,
    [⟨31, 0, .rw, 0, 56, 0, 4294967295, 0, 0⟩]⟩]

/-- Register tables, part 8. -/
def regTable8 : List RDesc := [
  ⟨0x68002C, 1, 0, 1, 0, 5,
    [⟨31, 16, .rsvd, 0, 0, 0, 65535, 0, 0⟩, ⟨15, 0, .rw, 0, 56, 0, 65535, 0, 0⟩]⟩,
  ⟨0x680030, 1, 0, 1, 0, 5,
    [⟨19, 12, .rw, 0, 60, 0, 255, 0, 0⟩]⟩,
  ⟨0x680034, 1, 0, 1, 0, 5,
    [⟨9, 0, .rw, 0, 56, 0, 1023, 0, 0⟩]⟩,
  ⟨0x680038, 1, 0, 1, 0, 5,
    [⟨9, 0, .ro, 0, 56, 0, 1023, 0, 0⟩]⟩,
  ⟨0x68003C, 1, 0, 1, 0, 5,
    [⟨31, 0, .rw, 0, 60, 0, 4294967295, 0, 0⟩]⟩,
  ⟨0x680040, 1, 0, 1, 0, 5,
    [⟨31, 31, .rw, 0, 60, 0, 1, 0, 0⟩, ⟨11, 0, .rw, 0, 60, 16, 4095, 0, 0⟩]⟩,
  ⟨0x681000, 512, 16, 1, 0, 5,
    [⟨31, 29, .rw, 0, 60, 0, 7, 0, 0⟩, ⟨28, 28, .rw, 0, 60, 0, 1, 0, 0⟩, ⟨27, 26, .rw, 0, 60, 0, 3, 0, 0⟩, ⟨25, 21, .rw, 0, 60, 0, 31, 0, 0⟩, ⟨20, 20, .rw, 0, 60, 0, 1, 0, 0⟩, ⟨19, 14, .rw, 0, 60, 0, 63, 0, 0⟩, ⟨13, 13, .rw, 0, 60, 0, 1, 0, 0⟩, ⟨12, 10, .rw, 0, 60, 0, 7, 0, 0⟩, ⟨9, 0, .rsvd, 0, 0, 0, 1023, 0, 0⟩]⟩,
  ⟨0x681004, 512, 16, 1, 0, 5,
    [⟨31, 16, .rw, 0, 60, 0, 65535, 0, 0⟩, ⟨15, 0, .rw, 0, 60, 0, 65535, 0, 0⟩]⟩,
  ⟨0x681008, 512, 16, 1, 0, 5,
    [⟨27, 16, .rw, 0, 60, 0, 4095, 0, 0⟩, ⟨11, 0, .rw, 0, 60, 0, 4095, 0, 0⟩]⟩,
  ⟨0x68100C, 512, 16, 1, 0, 5,
    [⟨12, 12, .rw, 0, 60, 0, 1, 0, 0⟩, ⟨11, 0, .rw, 0, 60, 0, 4095, 0, 0⟩]⟩,
  ⟨0x6A0000, 4096, 8, 1, 0, 5,
    [⟨31, 0, .ro, 0, 28, 0, 4294967295, 0, 0⟩]⟩,
  ⟨0x6A0004, 4096, 8, 1, 0, 5,
    [⟨31, 0, .ro, 0, 28, 0, 4294967295, 0, 0⟩]⟩,
  ⟨0x800008, 1, 0, 1, 0, 2,
    [⟨31, 29, .rsvd, 0, 0, 0, 7, 0, 0⟩, ⟨28, 24, .live, 0, 0, 0, 31, 0, 0⟩, ⟨23, 12, .rsvd, 0, 0, 0, 4095, 0, 0⟩, ⟨11, 0, .live, 0, 0, 0, 4095, 0, 0⟩]⟩,
  ⟨0x800200, 16, 4, 1, 0, 2,
    [⟨31, 25, .rsvd, 0, 0, 0, 127, 0, 0⟩, ⟨24, 16, .live, 0, 0, 0, 511, 0, 0⟩, ⟨15, 0, .rw, 0, 60, 0, 65535, 0, 0⟩]⟩,
  ⟨0x10030, 1, 0, 1, 0, 5,
    [⟨31, 31, .rw, 0, 255, 0, 1, 0, 3⟩, ⟨30, 30, .rw, 0, 255, 0, 1, 0, 3⟩, ⟨29, 24, .rsvd, 0, 0, 0, 63, 0, 0⟩, ⟨23, 23, .rw, 0, 255, 0, 1, 0, 3⟩, ⟨22, 22, .rw, 0, 255, 0, 1, 0, 3⟩, ⟨21, 21, .rw, 0, 255, 0, 1, 0, 3⟩, ⟨20, 20, .rw, 0, 255, 0, 1, 0, 3⟩, ⟨19, 16, .rsvd, 0, 0, 0, 15, 0, 0⟩, ⟨15, 0, .rw, 3000, 255, 1, 65535, 0, 3⟩]⟩,
  ⟨0x10034, 1, 0, 1, 0, 5,
    [⟨31, 20, .rsvd, 0, 0, 0, 4095, 0, 0⟩, ⟨19, 16, .ro, 0, 60, 0, 15, 0, 0⟩, ⟨15, 12, .rsvd, 0, 0, 0, 15, 0, 0⟩, ⟨11, 11, .live, 0, 0, 0, 1, 0, 0⟩, ⟨10, 10, .live, 0, 0, 0, 1, 0, 0⟩, ⟨9, 9, .live, 0, 0, 0, 1, 0, 0⟩, ⟨8, 8, .live, 0, 0, 0, 1, 0, 0⟩, ⟨7, 7, .live, 0, 0, 0, 1, 0, 0⟩, ⟨6, 6, .live, 0, 0, 0, 1, 0, 0⟩, ⟨5, 5, .live, 0, 0, 0, 1, 0, 0⟩, ⟨4, 4, .live, 0, 0, 0, 1, 0, 0⟩, ⟨3, 3, .live, 0, 0, 0, 1, 0, 0⟩, ⟨2, 2, .live, 0, 0, 0, 1, 0, 0⟩, ⟨1, 1, .live, 0, 0, 0, 1, 0, 0⟩, ⟨0, 0, .live, 0, 0, 0, 1, 0, 0⟩]⟩,
  ⟨0x10038, 1, 0, 1, 0, 5,
    [⟨31, 16, .ro, 0, 60, 0, 65535, 0, 0⟩, ⟨15, 0, .ro, 0, 60, 0, 65535, 0, 0⟩]⟩]

/-- Every register of the window (Table 24.4). -/
def regTable : List RDesc :=
  regTable0 ++ regTable1 ++ regTable2 ++ regTable3 ++ regTable4 ++ regTable5 ++ regTable6 ++ regTable7 ++ regTable8

end Sys2Proof.Machine

namespace Sys2Proof.Machine.Reg
open Sys2Proof.Machine

/-- GL_ID (Table 0.8). -/
def GL_ID : Nat := 0x0
def GL_ID_VENDOR : Fld := ⟨GL_ID, 31, 16, 2938⟩
def GL_ID_DEVICE : Fld := ⟨GL_ID, 15, 0, 2568⟩
/-- GL_STEP (Table 0.9). -/
def GL_STEP : Nat := 0x4
def GL_STEP_LETTER : Fld := ⟨GL_STEP, 15, 8, 0⟩
def GL_STEP_DIGIT : Fld := ⟨GL_STEP, 7, 0, 0⟩
/-- GL_IDENT_LO (Table 0.10). -/
def GL_IDENT_LO : Nat := 0x8
def GL_IDENT_LO_IDENT : Fld := ⟨GL_IDENT_LO, 31, 0, 0⟩
/-- GL_IDENT_HI (Table 0.10). -/
def GL_IDENT_HI : Nat := 0xC
def GL_IDENT_HI_IDENT : Fld := ⟨GL_IDENT_HI, 31, 0, 0⟩
/-- GL_STATUS (Table 0.11). -/
def GL_STATUS : Nat := 0x10
def GL_STATUS_RSVD_WRITE : Fld := ⟨GL_STATUS, 4, 4, 0⟩
def GL_STATUS_MISALIGNED : Fld := ⟨GL_STATUS, 3, 3, 0⟩
def GL_STATUS_LOCK_REJECT : Fld := ⟨GL_STATUS, 2, 2, 0⟩
def GL_STATUS_UNMAPPED : Fld := ⟨GL_STATUS, 1, 1, 0⟩
/-- GL_ERR_OFFSET (Table 0.12). -/
def GL_ERR_OFFSET : Nat := 0x14
def GL_ERR_OFFSET_OFFSET : Fld := ⟨GL_ERR_OFFSET, 25, 0, 0⟩
/-- GL_AUTONOMY (Table 1.9). -/
def GL_AUTONOMY : Nat := 0x20
def GL_AUTONOMY_HALTED : Fld := ⟨GL_AUTONOMY, 17, 17, 0⟩
def GL_AUTONOMY_POL_RESET : Fld := ⟨GL_AUTONOMY, 16, 16, 0⟩
def GL_AUTONOMY_CORE_FELL : Fld := ⟨GL_AUTONOMY, 15, 8, 0⟩
def GL_AUTONOMY_CORE_DEFAULT : Fld := ⟨GL_AUTONOMY, 7, 0, 0⟩
/-- GL_GUARD (Table 1.10). -/
def GL_GUARD : Nat := 0x24
def GL_GUARD_TRIP_LATCHED : Fld := ⟨GL_GUARD, 9, 9, 0⟩
def GL_GUARD_TRIP_LOCKED : Fld := ⟨GL_GUARD, 8, 8, 0⟩
def GL_GUARD_OWNER : Fld := ⟨GL_GUARD, 7, 7, 0⟩
def GL_GUARD_ROLE_PREF : Fld := ⟨GL_GUARD, 6, 6, 0⟩
def GL_GUARD_SHED : Fld := ⟨GL_GUARD, 5, 5, 0⟩
def GL_GUARD_ORPHAN : Fld := ⟨GL_GUARD, 4, 4, 0⟩
def GL_GUARD_ORDERLY_STOP : Fld := ⟨GL_GUARD, 3, 3, 0⟩
def GL_GUARD_RES_BYPASS : Fld := ⟨GL_GUARD, 2, 2, 0⟩
def GL_GUARD_FLOODGATE : Fld := ⟨GL_GUARD, 1, 1, 0⟩
/-- GL_SUPPLY (Table 2.9). -/
def GL_SUPPLY : Nat := 0x40
def GL_SUPPLY_SUPPLY_FELL : Fld := ⟨GL_SUPPLY, 11, 8, 0⟩
def GL_SUPPLY_SUPPLY_GOOD : Fld := ⟨GL_SUPPLY, 3, 0, 0⟩
/-- GL_CLOCK (Table 2.10). -/
def GL_CLOCK : Nat := 0x44
def GL_CLOCK_CLK_FELL : Fld := ⟨GL_CLOCK, 6, 4, 0⟩
def GL_CLOCK_XT32_OK : Fld := ⟨GL_CLOCK, 2, 2, 0⟩
def GL_CLOCK_VXREF_OK : Fld := ⟨GL_CLOCK, 1, 1, 0⟩
def GL_CLOCK_REFCLK_OK : Fld := ⟨GL_CLOCK, 0, 0, 0⟩
/-- GL_EDGE (Table 2.11). -/
def GL_EDGE : Nat := 0x48
def GL_EDGE_EXT_TRIP : Fld := ⟨GL_EDGE, 7, 7, 0⟩
def GL_EDGE_TESTEN : Fld := ⟨GL_EDGE, 6, 6, 0⟩
def GL_EDGE_ROLE_SEL : Fld := ⟨GL_EDGE, 5, 5, 0⟩
def GL_EDGE_TRIP_PIN : Fld := ⟨GL_EDGE, 4, 4, 0⟩
def GL_EDGE_RST_PIN : Fld := ⟨GL_EDGE, 3, 3, 0⟩
def GL_EDGE_PFAIL_PIN : Fld := ⟨GL_EDGE, 2, 2, 0⟩
def GL_EDGE_SHED_PIN : Fld := ⟨GL_EDGE, 1, 1, 0⟩
def GL_EDGE_OWN_PIN : Fld := ⟨GL_EDGE, 0, 0, 0⟩
/-- IS_ISLAND (Table 3.11). -/
def IS_ISLAND : Nat := 0x10000
def IS_ISLAND_HUNG : Fld := ⟨IS_ISLAND, 14, 8, 0⟩
def IS_ISLAND_IN_RESET : Fld := ⟨IS_ISLAND, 6, 0, 0⟩
/-- IS_RESET_REQ (Table 3.12). -/
def IS_RESET_REQ : Nat := 0x10004
def IS_RESET_REQ_KEY : Fld := ⟨IS_RESET_REQ, 31, 24, 0⟩
def IS_RESET_REQ_ISLAND : Fld := ⟨IS_RESET_REQ, 10, 8, 0⟩
def IS_RESET_REQ_CANCEL_WR : Fld := ⟨IS_RESET_REQ, 5, 5, 0⟩
def IS_RESET_REQ_DR : Fld := ⟨IS_RESET_REQ, 4, 4, 0⟩
def IS_RESET_REQ_FR : Fld := ⟨IS_RESET_REQ, 3, 3, 0⟩
def IS_RESET_REQ_HR : Fld := ⟨IS_RESET_REQ, 2, 2, 0⟩
def IS_RESET_REQ_WR : Fld := ⟨IS_RESET_REQ, 1, 1, 0⟩
def IS_RESET_REQ_IR : Fld := ⟨IS_RESET_REQ, 0, 0, 0⟩
/-- IS_RESET_STATUS (Table 3.13). -/
def IS_RESET_STATUS : Nat := 0x10008
def IS_RESET_STATUS_REFUSED : Fld := ⟨IS_RESET_STATUS, 2, 2, 0⟩
def IS_RESET_STATUS_WR_WAIT : Fld := ⟨IS_RESET_STATUS, 1, 1, 0⟩
def IS_RESET_STATUS_WR_PENDING : Fld := ⟨IS_RESET_STATUS, 0, 0, 0⟩
/-- IS_LAST_RESET (Table 3.14). -/
def IS_LAST_RESET : Nat := 0x1000C
def IS_LAST_RESET_CAUSE : Fld := ⟨IS_LAST_RESET, 15, 8, 0⟩
def IS_LAST_RESET_ISLAND : Fld := ⟨IS_LAST_RESET, 7, 4, 0⟩
def IS_LAST_RESET_CLASS : Fld := ⟨IS_LAST_RESET, 3, 0, 0⟩
/-- IS_PKG_STATE (Table 3.15). -/
def IS_PKG_STATE : Nat := 0x10010
def IS_PKG_STATE_TRIPPED : Fld := ⟨IS_PKG_STATE, 8, 8, 0⟩
def IS_PKG_STATE_TARGET : Fld := ⟨IS_PKG_STATE, 5, 4, 0⟩
def IS_PKG_STATE_CURRENT : Fld := ⟨IS_PKG_STATE, 1, 0, 0⟩
/-- IS_PKG_CMD (Table 3.16). -/
def IS_PKG_CMD : Nat := 0x10014
def IS_PKG_CMD_KEY : Fld := ⟨IS_PKG_CMD, 31, 24, 0⟩
def IS_PKG_CMD_GO : Fld := ⟨IS_PKG_CMD, 2, 2, 0⟩
def IS_PKG_CMD_TARGET : Fld := ⟨IS_PKG_CMD, 1, 0, 0⟩
/-- IS_WAKE_TIMER (Table 3.17). -/
def IS_WAKE_TIMER : Nat := 0x10018
def IS_WAKE_TIMER_SECONDS : Fld := ⟨IS_WAKE_TIMER, 31, 0, 0⟩
/-- IS_COUNTS0 (Table 3.18). -/
def IS_COUNTS0 : Nat := 0x1001C
def IS_COUNTS0_POWER_CYCLES : Fld := ⟨IS_COUNTS0, 23, 0, 0⟩
/-- IS_COUNTS1 (Table 3.18). -/
def IS_COUNTS1 : Nat := 0x10020
def IS_COUNTS1_OP_SECONDS : Fld := ⟨IS_COUNTS1, 31, 0, 0⟩
/-- IS_ACCESS_ERR (Table 3.19). -/
def IS_ACCESS_ERR : Nat := 0x10024
def IS_ACCESS_ERR_ISLAND : Fld := ⟨IS_ACCESS_ERR, 7, 4, 0⟩
def IS_ACCESS_ERR_IN_RESET : Fld := ⟨IS_ACCESS_ERR, 0, 0, 0⟩
/-- PC_PROFILE_CTL (Table 4.7). -/
def PC_PROFILE_CTL : Nat := 0x20000
def PC_PROFILE_CTL_LOCK : Fld := ⟨PC_PROFILE_CTL, 31, 31, 0⟩
def PC_PROFILE_CTL_VERSION : Fld := ⟨PC_PROFILE_CTL, 15, 8, 0⟩
def PC_PROFILE_CTL_SAVE : Fld := ⟨PC_PROFILE_CTL, 2, 2, 0⟩
def PC_PROFILE_CTL_SAVE_BUSY : Fld := ⟨PC_PROFILE_CTL, 1, 1, 0⟩
def PC_PROFILE_CTL_LOAD_OK : Fld := ⟨PC_PROFILE_CTL, 0, 0, 0⟩
/-- PC_GROUP_STAT (Table 4.8). -/
def PC_GROUP_STAT : Nat := 0x20010
def PC_GROUP_STAT_BLIND : Fld := ⟨PC_GROUP_STAT, 31, 16, 0⟩
def PC_GROUP_STAT_SUSPECT : Fld := ⟨PC_GROUP_STAT, 15, 0, 0⟩
/-- PC_GROUP_FELL (Table 4.8). -/
def PC_GROUP_FELL : Nat := 0x20014
def PC_GROUP_FELL_FELL : Fld := ⟨PC_GROUP_FELL, 15, 0, 0⟩
/-- PC_DT_MAIN0 (Table 4.9). -/
def PC_DT_MAIN0 : Nat := 0x20020
def PC_DT_MAIN0_PSC : Fld := ⟨PC_DT_MAIN0, 26, 18, 24⟩
def PC_DT_MAIN0_PSB : Fld := ⟨PC_DT_MAIN0, 17, 9, 20⟩
def PC_DT_MAIN0_PSA : Fld := ⟨PC_DT_MAIN0, 8, 0, 16⟩
/-- PC_DT_MAIN1 (Table 4.9). -/
def PC_DT_MAIN1 : Nat := 0x20024
def PC_DT_MAIN1_PSC : Fld := ⟨PC_DT_MAIN1, 26, 18, 28⟩
def PC_DT_MAIN1_PSB : Fld := ⟨PC_DT_MAIN1, 17, 9, 24⟩
def PC_DT_MAIN1_PSA : Fld := ⟨PC_DT_MAIN1, 8, 0, 20⟩
/-- PC_DT_RES0 (Table 4.9). -/
def PC_DT_RES0 : Nat := 0x20028
def PC_DT_RES0_PSC : Fld := ⟨PC_DT_RES0, 26, 18, 120⟩
def PC_DT_RES0_PSB : Fld := ⟨PC_DT_RES0, 17, 9, 100⟩
def PC_DT_RES0_PSA : Fld := ⟨PC_DT_RES0, 8, 0, 80⟩
/-- PC_DT_RES1 (Table 4.9). -/
def PC_DT_RES1 : Nat := 0x2002C
def PC_DT_RES1_PSC : Fld := ⟨PC_DT_RES1, 26, 18, 150⟩
def PC_DT_RES1_PSB : Fld := ⟨PC_DT_RES1, 17, 9, 120⟩
def PC_DT_RES1_PSA : Fld := ⟨PC_DT_RES1, 8, 0, 100⟩
/-- PC_DT_CMD (Table 4.10). -/
def PC_DT_CMD : Nat := 0x20030
def PC_DT_CMD_RES_TD : Fld := ⟨PC_DT_CMD, 31, 26, 0⟩
def PC_DT_CMD_BAND_HI : Fld := ⟨PC_DT_CMD, 23, 16, 100⟩
def PC_DT_CMD_BAND_LO : Fld := ⟨PC_DT_CMD, 15, 8, 70⟩
def PC_DT_CMD_CODE : Fld := ⟨PC_DT_CMD, 7, 0, 0⟩
/-- PC_PMB_CFG (Table 4.11). -/
def PC_PMB_CFG : Nat := 0x20040
def PC_PMB_CFG_OT_FAULT : Fld := ⟨PC_PMB_CFG, 31, 24, 135⟩
def PC_PMB_CFG_OT_WARN : Fld := ⟨PC_PMB_CFG, 23, 16, 125⟩
def PC_PMB_CFG_PECDIS0 : Fld := ⟨PC_PMB_CFG, 2, 2, 0⟩
def PC_PMB_CFG_SPEED0 : Fld := ⟨PC_PMB_CFG, 1, 0, 2⟩
def PC_PMB_CFG_PECDIS1 : Fld := ⟨PC_PMB_CFG, 6, 6, 0⟩
def PC_PMB_CFG_SPEED1 : Fld := ⟨PC_PMB_CFG, 5, 4, 2⟩
def PC_PMB_CFG_PECDIS2 : Fld := ⟨PC_PMB_CFG, 10, 10, 0⟩
def PC_PMB_CFG_SPEED2 : Fld := ⟨PC_PMB_CFG, 9, 8, 2⟩
def PC_PMB_CFG_PECDIS3 : Fld := ⟨PC_PMB_CFG, 14, 14, 0⟩
def PC_PMB_CFG_SPEED3 : Fld := ⟨PC_PMB_CFG, 13, 12, 2⟩
/-- PC_LANE_MAP (Table 4.12). -/
def PC_LANE_MAP (n : Nat) : Nat := 0x20100 + 4 * n
def PC_LANE_MAP_RAIL_0 (n : Nat) : Fld := ⟨PC_LANE_MAP n, 3, 0, 15⟩
def PC_LANE_MAP_RAIL_1 (n : Nat) : Fld := ⟨PC_LANE_MAP n, 7, 4, 15⟩
def PC_LANE_MAP_RAIL_2 (n : Nat) : Fld := ⟨PC_LANE_MAP n, 11, 8, 15⟩
def PC_LANE_MAP_RAIL_3 (n : Nat) : Fld := ⟨PC_LANE_MAP n, 15, 12, 15⟩
def PC_LANE_MAP_RAIL_4 (n : Nat) : Fld := ⟨PC_LANE_MAP n, 19, 16, 15⟩
def PC_LANE_MAP_RAIL_5 (n : Nat) : Fld := ⟨PC_LANE_MAP n, 23, 20, 15⟩
def PC_LANE_MAP_RAIL_6 (n : Nat) : Fld := ⟨PC_LANE_MAP n, 27, 24, 15⟩
def PC_LANE_MAP_RAIL_7 (n : Nat) : Fld := ⟨PC_LANE_MAP n, 31, 28, 15⟩
/-- PC_PHASE_CFG (Table 4.13). -/
def PC_PHASE_CFG (n : Nat) : Nat := 0x20400 + 4 * n
def PC_PHASE_CFG_RATING (n : Nat) : Fld := ⟨PC_PHASE_CFG n, 14, 8, 1⟩
def PC_PHASE_CFG_ADDR (n : Nat) : Fld := ⟨PC_PHASE_CFG n, 6, 0, 0⟩
/-- PC_PHASE_STAT (Table 4.13). -/
def PC_PHASE_STAT (n : Nat) : Nat := 0x20800 + 4 * n
def PC_PHASE_STAT_TEMP (n : Nat) : Fld := ⟨PC_PHASE_STAT n, 31, 24, 0⟩
def PC_PHASE_STAT_MODEL (n : Nat) : Fld := ⟨PC_PHASE_STAT n, 23, 16, 0⟩
def PC_PHASE_STAT_CAUSE (n : Nat) : Fld := ⟨PC_PHASE_STAT n, 15, 12, 0⟩
def PC_PHASE_STAT_DT_ROW (n : Nat) : Fld := ⟨PC_PHASE_STAT n, 11, 10, 0⟩
def PC_PHASE_STAT_CURRENT (n : Nat) : Fld := ⟨PC_PHASE_STAT n, 7, 0, 0⟩
/-- PC_PHASE_CLR (Table 4.14). -/
def PC_PHASE_CLR : Nat := 0x20C00
def PC_PHASE_CLR_KEY : Fld := ⟨PC_PHASE_CLR, 31, 24, 0⟩
def PC_PHASE_CLR_LANE : Fld := ⟨PC_PHASE_CLR, 7, 0, 0⟩
/-- PC_PHASE_STATE (Table 4.14). -/
def PC_PHASE_STATE (n : Nat) : Nat := 0x20C40 + 4 * n
def PC_PHASE_STATE_STATE (n : Nat) : Fld := ⟨PC_PHASE_STATE n, 31, 0, 0⟩
/-- PC_RAIL_CFG (Table 4.15). -/
def PC_RAIL_CFG (n : Nat) : Nat := 0x21000 + 64 * n
def PC_RAIL_CFG_FSW (n : Nat) : Fld := ⟨PC_RAIL_CFG n, 31, 21, 1000⟩
def PC_RAIL_CFG_ORDER (n : Nat) : Fld := ⟨PC_RAIL_CFG n, 20, 18, 0⟩
def PC_RAIL_CFG_MIN_ACTIVE (n : Nat) : Fld := ⟨PC_RAIL_CFG n, 17, 11, 2⟩
def PC_RAIL_CFG_OV_MARGIN (n : Nat) : Fld := ⟨PC_RAIL_CFG n, 10, 5, 8⟩
/-- PC_RAIL_LIMIT (Table 4.15). -/
def PC_RAIL_LIMIT (n : Nat) : Nat := 0x21004 + 64 * n
def PC_RAIL_LIMIT_RATING (n : Nat) : Fld := ⟨PC_RAIL_LIMIT n, 31, 16, 0⟩
def PC_RAIL_LIMIT_POLICY_LIMIT (n : Nat) : Fld := ⟨PC_RAIL_LIMIT n, 15, 0, 0⟩
/-- PC_RAIL_SHED (Table 4.15). -/
def PC_RAIL_SHED (n : Nat) : Nat := 0x21008 + 64 * n
def PC_RAIL_SHED_I_ADD (n : Nat) : Fld := ⟨PC_RAIL_SHED n, 31, 24, 30⟩
def PC_RAIL_SHED_I_SHED (n : Nat) : Fld := ⟨PC_RAIL_SHED n, 23, 16, 20⟩
def PC_RAIL_SHED_BURST_IPK (n : Nat) : Fld := ⟨PC_RAIL_SHED n, 15, 8, 20⟩
def PC_RAIL_SHED_BURST_PHASES (n : Nat) : Fld := ⟨PC_RAIL_SHED n, 2, 0, 2⟩
/-- PC_RAIL_SS (Table 4.15). -/
def PC_RAIL_SS (n : Nat) : Nat := 0x2100C + 64 * n
def PC_RAIL_SS_SS_TIMEOUT (n : Nat) : Fld := ⟨PC_RAIL_SS n, 31, 16, 5000⟩
def PC_RAIL_SS_SS_SLEW (n : Nat) : Fld := ⟨PC_RAIL_SS n, 5, 0, 5⟩
/-- PC_RAIL_COMP0 (Table 4.15). -/
def PC_RAIL_COMP0 (n : Nat) : Nat := 0x21010 + 64 * n
def PC_RAIL_COMP0_B1 (n : Nat) : Fld := ⟨PC_RAIL_COMP0 n, 31, 16, 0⟩
def PC_RAIL_COMP0_B0 (n : Nat) : Fld := ⟨PC_RAIL_COMP0 n, 15, 0, 0⟩
/-- PC_RAIL_COMP1 (Table 4.15). -/
def PC_RAIL_COMP1 (n : Nat) : Nat := 0x21014 + 64 * n
def PC_RAIL_COMP1_B2 (n : Nat) : Fld := ⟨PC_RAIL_COMP1 n, 15, 0, 0⟩
/-- PC_RAIL_CTL (Table 4.15). -/
def PC_RAIL_CTL (n : Nat) : Nat := 0x21020 + 64 * n
def PC_RAIL_CTL_KEY (n : Nat) : Fld := ⟨PC_RAIL_CTL n, 31, 24, 0⟩
def PC_RAIL_CTL_CLEAR_FAULT (n : Nat) : Fld := ⟨PC_RAIL_CTL n, 0, 0, 0⟩
/-- PC_RAIL_STAT (Table 4.15). -/
def PC_RAIL_STAT (n : Nat) : Nat := 0x21024 + 64 * n
def PC_RAIL_STAT_DERATED (n : Nat) : Fld := ⟨PC_RAIL_STAT n, 31, 16, 0⟩
def PC_RAIL_STAT_ACTIVE (n : Nat) : Fld := ⟨PC_RAIL_STAT n, 15, 9, 0⟩
def PC_RAIL_STAT_LIMITING (n : Nat) : Fld := ⟨PC_RAIL_STAT n, 8, 8, 0⟩
def PC_RAIL_STAT_MODE (n : Nat) : Fld := ⟨PC_RAIL_STAT n, 7, 5, 0⟩
def PC_RAIL_STAT_STEPS (n : Nat) : Fld := ⟨PC_RAIL_STAT n, 4, 0, 0⟩
/-- PC_RAIL_FAULT (Table 4.15). -/
def PC_RAIL_FAULT (n : Nat) : Nat := 0x21028 + 64 * n
def PC_RAIL_FAULT_VALUE (n : Nat) : Fld := ⟨PC_RAIL_FAULT n, 31, 8, 0⟩
def PC_RAIL_FAULT_CAUSE (n : Nat) : Fld := ⟨PC_RAIL_FAULT n, 2, 0, 0⟩
/-- PC_INPUT_CFG (Table 4.16). -/
def PC_INPUT_CFG : Nat := 0x20050
def PC_INPUT_CFG_SHUNT : Fld := ⟨PC_INPUT_CFG, 15, 0, 50000⟩
/-- SL_CTL (Table 5.12). -/
def SL_CTL : Nat := 0x800000
def SL_CTL_SAVE_BUSY : Fld := ⟨SL_CTL, 25, 25, 0⟩
def SL_CTL_SAVE : Fld := ⟨SL_CTL, 24, 24, 0⟩
def SL_CTL_RAMP : Fld := ⟨SL_CTL, 23, 16, 25⟩
def SL_CTL_PROBE_TEST : Fld := ⟨SL_CTL, 10, 10, 1⟩
def SL_CTL_BACKOFF_TEST : Fld := ⟨SL_CTL, 9, 9, 1⟩
def SL_CTL_LEASE_GUARD : Fld := ⟨SL_CTL, 8, 4, 2⟩
def SL_CTL_LOSS_DUTY : Fld := ⟨SL_CTL, 3, 0, 0⟩
/-- SL_LINK_CTL (Table 5.13). -/
def SL_LINK_CTL : Nat := 0x800004
def SL_LINK_CTL_RETRAIN : Fld := ⟨SL_LINK_CTL, 31, 16, 0⟩
def SL_LINK_CTL_ENABLE : Fld := ⟨SL_LINK_CTL, 15, 0, 65535⟩
/-- SL_LINK_STAT (Table 5.14). -/
def SL_LINK_STAT (n : Nat) : Nat := 0x800100 + 4 * n
def SL_LINK_STAT_OPEN (n : Nat) : Fld := ⟨SL_LINK_STAT n, 30, 16, 0⟩
def SL_LINK_STAT_TRAFFIC (n : Nat) : Fld := ⟨SL_LINK_STAT n, 7, 7, 0⟩
def SL_LINK_STAT_X8 (n : Nat) : Fld := ⟨SL_LINK_STAT n, 6, 6, 0⟩
def SL_LINK_STAT_RATE (n : Nat) : Fld := ⟨SL_LINK_STAT n, 5, 4, 0⟩
def SL_LINK_STAT_STATE (n : Nat) : Fld := ⟨SL_LINK_STAT n, 2, 0, 0⟩
/-- SL_LINK_ERR (Table 5.15). -/
def SL_LINK_ERR (n : Nat) : Nat := 0x800140 + 4 * n
def SL_LINK_ERR_NONCONF (n : Nat) : Fld := ⟨SL_LINK_ERR n, 31, 24, 0⟩
def SL_LINK_ERR_LOSSES (n : Nat) : Fld := ⟨SL_LINK_ERR n, 23, 16, 0⟩
def SL_LINK_ERR_REPLAYS (n : Nat) : Fld := ⟨SL_LINK_ERR n, 15, 0, 0⟩
/-- SL_TILE_CFG (Table 5.16). -/
def SL_TILE_CFG (n : Nat) : Nat := 0x810000 + 4 * n
def SL_TILE_CFG_ENABLE (n : Nat) : Fld := ⟨SL_TILE_CFG n, 31, 31, 0⟩
def SL_TILE_CFG_LINK (n : Nat) : Fld := ⟨SL_TILE_CFG n, 28, 25, 0⟩
def SL_TILE_CFG_DOMAIN (n : Nat) : Fld := ⟨SL_TILE_CFG n, 24, 22, 0⟩
def SL_TILE_CFG_PARTITION (n : Nat) : Fld := ⟨SL_TILE_CFG n, 21, 16, 0⟩
def SL_TILE_CFG_MAXCLASS (n : Nat) : Fld := ⟨SL_TILE_CFG n, 15, 8, 0⟩
def SL_TILE_CFG_FLOOR (n : Nat) : Fld := ⟨SL_TILE_CFG n, 7, 0, 0⟩
/-- SL_TILE_STAT (Table 5.17). -/
def SL_TILE_STAT (n : Nat) : Nat := 0x820000 + 4 * n
def SL_TILE_STAT_CHECK (n : Nat) : Fld := ⟨SL_TILE_STAT n, 29, 26, 0⟩
def SL_TILE_STAT_TEMP (n : Nat) : Fld := ⟨SL_TILE_STAT n, 25, 16, 1023⟩
def SL_TILE_STAT_ALLOWANCE (n : Nat) : Fld := ⟨SL_TILE_STAT n, 15, 8, 0⟩
def SL_TILE_STAT_STATE (n : Nat) : Fld := ⟨SL_TILE_STAT n, 2, 0, 0⟩
/-- AD_CTL (Table 6.6). -/
def AD_CTL : Nat := 0x840000
def AD_CTL_SAVE : Fld := ⟨AD_CTL, 31, 31, 0⟩
def AD_CTL_SAVE_BUSY : Fld := ⟨AD_CTL, 30, 30, 0⟩
def AD_CTL_BAR_TIMEOUT : Fld := ⟨AD_CTL, 7, 0, 10⟩
/-- AD_WAVE_CFG (Table 6.7). -/
def AD_WAVE_CFG (n : Nat) : Nat := 0x840100 + 64 * n
def AD_WAVE_CFG_COLD_PCT (n : Nat) : Fld := ⟨AD_WAVE_CFG n, 31, 25, 50⟩
def AD_WAVE_CFG_WAVE (n : Nat) : Fld := ⟨AD_WAVE_CFG n, 24, 14, 250⟩
def AD_WAVE_CFG_DIDT (n : Nat) : Fld := ⟨AD_WAVE_CFG n, 10, 0, 400⟩
/-- AD_PB_CFG (Table 6.7). -/
def AD_PB_CFG (n : Nat) : Nat := 0x840104 + 64 * n
def AD_PB_CFG_OFFSET (n : Nat) : Fld := ⟨AD_PB_CFG n, 31, 24, 30⟩
def AD_PB_CFG_LEAD (n : Nat) : Fld := ⟨AD_PB_CFG n, 23, 16, 15⟩
def AD_PB_CFG_DECAY (n : Nat) : Fld := ⟨AD_PB_CFG n, 15, 8, 4⟩
def AD_PB_CFG_THRESH (n : Nat) : Fld := ⟨AD_PB_CFG n, 6, 0, 90⟩
/-- AD_PB_CFG2 (Table 6.7). -/
def AD_PB_CFG2 (n : Nat) : Nat := 0x840108 + 64 * n
def AD_PB_CFG2_WINDOW (n : Nat) : Fld := ⟨AD_PB_CFG2 n, 31, 24, 4⟩
def AD_PB_CFG2_MAXHOLD (n : Nat) : Fld := ⟨AD_PB_CFG2 n, 23, 16, 20⟩
def AD_PB_CFG2_PB_MIN_A (n : Nat) : Fld := ⟨AD_PB_CFG2 n, 15, 0, 50⟩
/-- AD_FG_CFG (Table 6.7). -/
def AD_FG_CFG (n : Nat) : Nat := 0x84010C + 64 * n
def AD_FG_CFG_FG_ENABLE (n : Nat) : Fld := ⟨AD_FG_CFG n, 31, 31, 1⟩
def AD_FG_CFG_QUAL (n : Nat) : Fld := ⟨AD_FG_CFG n, 30, 29, 2⟩
def AD_FG_CFG_UNDER (n : Nat) : Fld := ⟨AD_FG_CFG n, 28, 23, 18⟩
def AD_FG_CFG_SLOPE (n : Nat) : Fld := ⟨AD_FG_CFG n, 22, 17, 8⟩
def AD_FG_CFG_REC (n : Nat) : Fld := ⟨AD_FG_CFG n, 16, 12, 6⟩
def AD_FG_CFG_HOLD (n : Nat) : Fld := ⟨AD_FG_CFG n, 11, 4, 120⟩
/-- AD_FG_CFG2 (Table 6.7). -/
def AD_FG_CFG2 (n : Nat) : Nat := 0x840110 + 64 * n
def AD_FG_CFG2_STORM (n : Nat) : Fld := ⟨AD_FG_CFG2 n, 15, 8, 16⟩
def AD_FG_CFG2_BACKOFF (n : Nat) : Fld := ⟨AD_FG_CFG2 n, 7, 0, 4⟩
/-- AD_GR_CFG (Table 6.7). -/
def AD_GR_CFG (n : Nat) : Nat := 0x840114 + 64 * n
def AD_GR_CFG_LIMSTEP_EN (n : Nat) : Fld := ⟨AD_GR_CFG n, 31, 31, 1⟩
def AD_GR_CFG_TOP (n : Nat) : Fld := ⟨AD_GR_CFG n, 28, 24, 0⟩
def AD_GR_CFG_LIMIT_DWELL (n : Nat) : Fld := ⟨AD_GR_CFG n, 23, 16, 10⟩
def AD_GR_CFG_SLEW_DN (n : Nat) : Fld := ⟨AD_GR_CFG n, 15, 8, 10⟩
def AD_GR_CFG_SLEW_UP (n : Nat) : Fld := ⟨AD_GR_CFG n, 7, 4, 10⟩
/-- AD_GRADE_REQ (Table 6.7). -/
def AD_GRADE_REQ (n : Nat) : Nat := 0x840118 + 64 * n
def AD_GRADE_REQ_TARGET (n : Nat) : Fld := ⟨AD_GRADE_REQ n, 4, 0, 0⟩
/-- AD_DOM_STAT (Table 6.8). -/
def AD_DOM_STAT (n : Nat) : Nat := 0x840120 + 64 * n
def AD_DOM_STAT_WAVE_CTR (n : Nat) : Fld := ⟨AD_DOM_STAT n, 31, 16, 0⟩
def AD_DOM_STAT_GRADE (n : Nat) : Fld := ⟨AD_DOM_STAT n, 15, 11, 0⟩
def AD_DOM_STAT_TARGET (n : Nat) : Fld := ⟨AD_DOM_STAT n, 10, 6, 0⟩
def AD_DOM_STAT_PB (n : Nat) : Fld := ⟨AD_DOM_STAT n, 5, 4, 0⟩
def AD_DOM_STAT_FROZEN (n : Nat) : Fld := ⟨AD_DOM_STAT n, 3, 3, 0⟩
/-- AD_DOM_STAT2 (Table 6.8). -/
def AD_DOM_STAT2 (n : Nat) : Nat := 0x840124 + 64 * n
def AD_DOM_STAT2_RESERVED_A (n : Nat) : Fld := ⟨AD_DOM_STAT2 n, 31, 16, 0⟩
def AD_DOM_STAT2_ENTRIES (n : Nat) : Fld := ⟨AD_DOM_STAT2 n, 15, 0, 0⟩
/-- AD_FG_STAT (Table 6.8). -/
def AD_FG_STAT (n : Nat) : Nat := 0x840128 + 64 * n
def AD_FG_STAT_FIRES (n : Nat) : Fld := ⟨AD_FG_STAT n, 31, 16, 0⟩
def AD_FG_STAT_LAST_UNDER (n : Nat) : Fld := ⟨AD_FG_STAT n, 15, 8, 0⟩
def AD_FG_STAT_LAST_HOLD (n : Nat) : Fld := ⟨AD_FG_STAT n, 7, 0, 0⟩
/-- AD_GRADE (Table 6.9). -/
def AD_GRADE (n : Nat) (j : Nat) : Nat := 0x841000 + 128 * n + 4 * j
def AD_GRADE_FREQ (n : Nat) (j : Nat) : Fld := ⟨AD_GRADE n j, 27, 16, if j = 0 then 800 else 0⟩
def AD_GRADE_VCODE (n : Nat) (j : Nat) : Fld := ⟨AD_GRADE n j, 8, 0, if j = 0 then 120 else 0⟩
/-- AD_PART_GGRADE (Table 6.10). -/
def AD_PART_GGRADE (n : Nat) : Nat := 0x842000 + 4 * n
def AD_PART_GGRADE_VALID (n : Nat) : Fld := ⟨AD_PART_GGRADE n, 7, 7, 0⟩
def AD_PART_GGRADE_GRADE (n : Nat) : Fld := ⟨AD_PART_GGRADE n, 4, 0, 0⟩
/-- AD_PAUSE_PART (Table 6.11). -/
def AD_PAUSE_PART (n : Nat) : Nat := 0x842100 + 4 * n
def AD_PAUSE_PART_DUTY_0 (n : Nat) : Fld := ⟨AD_PAUSE_PART n, 3, 0, 0⟩
def AD_PAUSE_PART_DUTY_1 (n : Nat) : Fld := ⟨AD_PAUSE_PART n, 7, 4, 0⟩
def AD_PAUSE_PART_DUTY_2 (n : Nat) : Fld := ⟨AD_PAUSE_PART n, 11, 8, 0⟩
def AD_PAUSE_PART_DUTY_3 (n : Nat) : Fld := ⟨AD_PAUSE_PART n, 15, 12, 0⟩
def AD_PAUSE_PART_DUTY_4 (n : Nat) : Fld := ⟨AD_PAUSE_PART n, 19, 16, 0⟩
def AD_PAUSE_PART_DUTY_5 (n : Nat) : Fld := ⟨AD_PAUSE_PART n, 23, 20, 0⟩
def AD_PAUSE_PART_DUTY_6 (n : Nat) : Fld := ⟨AD_PAUSE_PART n, 27, 24, 0⟩
def AD_PAUSE_PART_DUTY_7 (n : Nat) : Fld := ⟨AD_PAUSE_PART n, 31, 28, 0⟩
/-- AD_BAR_CFG (Table 6.12). -/
def AD_BAR_CFG (n : Nat) : Nat := 0x844000 + 4 * n
def AD_BAR_CFG_EXPECT (n : Nat) : Fld := ⟨AD_BAR_CFG n, 14, 0, 0⟩
/-- AD_BAR_STAT (Table 6.13). -/
def AD_BAR_STAT (n : Nat) : Nat := 0x848000 + 4 * n
def AD_BAR_STAT_PREDICTED (n : Nat) : Fld := ⟨AD_BAR_STAT n, 31, 31, 0⟩
def AD_BAR_STAT_EXPECT_NOW (n : Nat) : Fld := ⟨AD_BAR_STAT n, 30, 16, 0⟩
def AD_BAR_STAT_ARRIVED (n : Nat) : Fld := ⟨AD_BAR_STAT n, 14, 0, 0⟩
/-- AD_PLAN0W (Table 6.14). -/
def AD_PLAN0W (n : Nat) : Nat := 0x84C000 + 8 * n
def AD_PLAN0W_BARRIER_GRP (n : Nat) : Fld := ⟨AD_PLAN0W n, 27, 16, 0⟩
def AD_PLAN0W_MGROUP (n : Nat) : Fld := ⟨AD_PLAN0W n, 11, 0, 0⟩
/-- AD_PLAN1W (Table 6.15). -/
def AD_PLAN1W (n : Nat) : Nat := 0x84C004 + 8 * n
def AD_PLAN1W_VALID (n : Nat) : Fld := ⟨AD_PLAN1W n, 31, 31, 0⟩
def AD_PLAN1W_DOMAIN (n : Nat) : Fld := ⟨AD_PLAN1W n, 10, 8, 0⟩
def AD_PLAN1W_WAVE (n : Nat) : Fld := ⟨AD_PLAN1W n, 7, 0, 0⟩
/-- AX_CTL (Table 7.4). -/
def AX_CTL : Nat := 0x30000
def AX_CTL_KEY : Fld := ⟨AX_CTL, 31, 24, 0⟩
def AX_CTL_RESTART : Fld := ⟨AX_CTL, 23, 20, 0⟩
def AX_CTL_RUN : Fld := ⟨AX_CTL, 19, 19, 0⟩
def AX_CTL_STOP : Fld := ⟨AX_CTL, 18, 18, 0⟩
def AX_CTL_CLEAR : Fld := ⟨AX_CTL, 17, 17, 0⟩
def AX_CTL_CHANNEL : Fld := ⟨AX_CTL, 4, 0, 0⟩
/-- AX_STAT (Table 7.5). -/
def AX_STAT : Nat := 0x30004
def AX_STAT_CFG_BAD : Fld := ⟨AX_STAT, 25, 25, 0⟩
def AX_STAT_SEQ_DONE : Fld := ⟨AX_STAT, 24, 24, 0⟩
def AX_STAT_GOOD : Fld := ⟨AX_STAT, 23, 0, 0⟩
/-- AX_FELL (Table 7.5). -/
def AX_FELL : Nat := 0x3000C
def AX_FELL_FELL : Fld := ⟨AX_FELL, 23, 0, 0⟩
/-- AX_SEQ_CFG (Table 7.6). -/
def AX_SEQ_CFG : Nat := 0x30008
def AX_SEQ_CFG_AUTO_START : Fld := ⟨AX_SEQ_CFG, 0, 0, 0⟩
/-- AX_GRP_CFG (Table 7.7). -/
def AX_GRP_CFG (n : Nat) : Nat := 0x30040 + 16 * n
def AX_GRP_CFG_AGV_NOM (n : Nat) : Fld := ⟨AX_GRP_CFG n, 31, 16, 100⟩
def AX_GRP_CFG_GRP_INRUSH (n : Nat) : Fld := ⟨AX_GRP_CFG n, 15, 8, 20⟩
def AX_GRP_CFG_SAG_PCT (n : Nat) : Fld := ⟨AX_GRP_CFG n, 7, 0, 90⟩
/-- AX_GRP_CFG2 (Table 7.7). -/
def AX_GRP_CFG2 (n : Nat) : Nat := 0x30044 + 16 * n
def AX_GRP_CFG2_GRP_WARN (n : Nat) : Fld := ⟨AX_GRP_CFG2 n, 31, 24, 60⟩
def AX_GRP_CFG2_SAG_MAX (n : Nat) : Fld := ⟨AX_GRP_CFG2 n, 9, 0, 200⟩
/-- AX_GRP_STAT (Table 7.7). -/
def AX_GRP_STAT (n : Nat) : Nat := 0x30048 + 16 * n
def AX_GRP_STAT_SOURCE (n : Nat) : Fld := ⟨AX_GRP_STAT n, 31, 16, 0⟩
def AX_GRP_STAT_CURRENT (n : Nat) : Fld := ⟨AX_GRP_STAT n, 15, 8, 0⟩
def AX_GRP_STAT_STATE (n : Nat) : Fld := ⟨AX_GRP_STAT n, 1, 0, 0⟩
/-- AX_GRP_CORR (Table 7.7). -/
def AX_GRP_CORR (n : Nat) : Nat := 0x3004C + 16 * n
def AX_GRP_CORR_LAST_ID (n : Nat) : Fld := ⟨AX_GRP_CORR n, 15, 0, 0⟩
/-- AX_CH_CFG0 (Table 7.8). -/
def AX_CH_CFG0 (n : Nat) : Nat := 0x30100 + 16 * n
def AX_CH_CFG0_FAST_LIM (n : Nat) : Fld := ⟨AX_CH_CFG0 n, 29, 24, 1⟩
def AX_CH_CFG0_ISCALE (n : Nat) : Fld := ⟨AX_CH_CFG0 n, 21, 16, 1⟩
def AX_CH_CFG0_RUN_LIM (n : Nat) : Fld := ⟨AX_CH_CFG0 n, 13, 8, 1⟩
def AX_CH_CFG0_ILIM (n : Nat) : Fld := ⟨AX_CH_CFG0 n, 5, 0, 1⟩
/-- AX_CH_CFG1 (Table 7.8). -/
def AX_CH_CFG1 (n : Nat) : Nat := 0x30104 + 16 * n
def AX_CH_CFG1_ENABLE (n : Nat) : Fld := ⟨AX_CH_CFG1 n, 31, 31, 0⟩
def AX_CH_CFG1_MAIN_DEP (n : Nat) : Fld := ⟨AX_CH_CFG1 n, 30, 30, 0⟩
def AX_CH_CFG1_DEP1 (n : Nat) : Fld := ⟨AX_CH_CFG1 n, 28, 24, 31⟩
def AX_CH_CFG1_DEP0 (n : Nat) : Fld := ⟨AX_CH_CFG1 n, 20, 16, 31⟩
def AX_CH_CFG1_DELAY (n : Nat) : Fld := ⟨AX_CH_CFG1 n, 15, 8, 0⟩
def AX_CH_CFG1_SS_TIMER (n : Nat) : Fld := ⟨AX_CH_CFG1 n, 7, 0, 50⟩
/-- AX_CH_CFG2 (Table 7.8). -/
def AX_CH_CFG2 (n : Nat) : Nat := 0x30108 + 16 * n
def AX_CH_CFG2_RAMP_T (n : Nat) : Fld := ⟨AX_CH_CFG2 n, 31, 24, 10⟩
def AX_CH_CFG2_RUN_T (n : Nat) : Fld := ⟨AX_CH_CFG2 n, 23, 16, 10⟩
def AX_CH_CFG2_PG_PCT (n : Nat) : Fld := ⟨AX_CH_CFG2 n, 6, 0, 95⟩
/-- AX_CH_STAT (Table 7.9). -/
def AX_CH_STAT (n : Nat) : Nat := 0x3010C + 16 * n
def AX_CH_STAT_CURRENT (n : Nat) : Fld := ⟨AX_CH_STAT n, 31, 16, 0⟩
def AX_CH_STAT_CAUSE (n : Nat) : Fld := ⟨AX_CH_STAT n, 15, 12, 0⟩
def AX_CH_STAT_STATE (n : Nat) : Fld := ⟨AX_CH_STAT n, 2, 0, 0⟩
/-- RV_CTL (Table 8.11). -/
def RV_CTL : Nat := 0x40000
def RV_CTL_KEY : Fld := ⟨RV_CTL, 31, 24, 0⟩
def RV_CTL_SAVE : Fld := ⟨RV_CTL, 3, 3, 0⟩
def RV_CTL_NEW_MODULE : Fld := ⟨RV_CTL, 2, 2, 0⟩
def RV_CTL_RECHECK : Fld := ⟨RV_CTL, 1, 1, 0⟩
/-- RV_STAT (Table 8.11). -/
def RV_STAT : Nat := 0x40004
def RV_STAT_MODE : Fld := ⟨RV_STAT, 31, 29, 0⟩
def RV_STAT_CAUSE : Fld := ⟨RV_STAT, 28, 25, 0⟩
def RV_STAT_ENDURANCE : Fld := ⟨RV_STAT, 24, 23, 0⟩
def RV_STAT_SHED : Fld := ⟨RV_STAT, 22, 22, 0⟩
def RV_STAT_CHG_OK : Fld := ⟨RV_STAT, 21, 21, 0⟩
def RV_STAT_DIS_OK : Fld := ⟨RV_STAT, 20, 20, 0⟩
def RV_STAT_SAVE_BUSY : Fld := ⟨RV_STAT, 19, 19, 0⟩
def RV_STAT_OPEN_TAPS : Fld := ⟨RV_STAT, 16, 0, 0⟩
/-- RV_MOD_CFG0 (Table 8.12). -/
def RV_MOD_CFG0 : Nat := 0x40010
def RV_MOD_CFG0_C_NAME : Fld := ⟨RV_MOD_CFG0, 31, 20, 100⟩
def RV_MOD_CFG0_IMAX : Fld := ⟨RV_MOD_CFG0, 16, 8, 10⟩
def RV_MOD_CFG0_CELLS : Fld := ⟨RV_MOD_CFG0, 4, 0, 0⟩
/-- RV_MOD_CFG1 (Table 8.12). -/
def RV_MOD_CFG1 : Nat := 0x40014
def RV_MOD_CFG1_ESR_NAME : Fld := ⟨RV_MOD_CFG1, 31, 16, 1⟩
def RV_MOD_CFG1_SHUNT : Fld := ⟨RV_MOD_CFG1, 15, 0, 1⟩
/-- RV_MOD_CFG2 (Table 8.12). -/
def RV_MOD_CFG2 : Nat := 0x40018
def RV_MOD_CFG2_VMAX : Fld := ⟨RV_MOD_CFG2, 31, 24, 70⟩
def RV_MOD_CFG2_VMIN : Fld := ⟨RV_MOD_CFG2, 23, 16, 85⟩
def RV_MOD_CFG2_FADE_DV : Fld := ⟨RV_MOD_CFG2, 15, 8, 15⟩
def RV_MOD_CFG2_PMAX : Fld := ⟨RV_MOD_CFG2, 6, 0, 80⟩
/-- RV_OP_CFG0 (Table 8.13). -/
def RV_OP_CFG0 : Nat := 0x40020
def RV_OP_CFG0_RAMP : Fld := ⟨RV_OP_CFG0, 31, 23, 40⟩
def RV_OP_CFG0_RESERVE : Fld := ⟨RV_OP_CFG0, 22, 16, 25⟩
def RV_OP_CFG0_RECH_W : Fld := ⟨RV_OP_CFG0, 15, 0, 200⟩
/-- RV_OP_CFG1 (Table 8.13). -/
def RV_OP_CFG1 : Nat := 0x40024
def RV_OP_CFG1_HORIZON : Fld := ⟨RV_OP_CFG1, 31, 24, 100⟩
def RV_OP_CFG1_PRE_I : Fld := ⟨RV_OP_CFG1, 23, 16, 10⟩
def RV_OP_CFG1_BAL_DV : Fld := ⟨RV_OP_CFG1, 15, 8, 20⟩
def RV_OP_CFG1_FORCE_BYPASS : Fld := ⟨RV_OP_CFG1, 0, 0, 0⟩
/-- RV_OP_CFG2 (Table 8.13). -/
def RV_OP_CFG2 : Nat := 0x40028
def RV_OP_CFG2_DIS_HI : Fld := ⟨RV_OP_CFG2, 31, 24, 65⟩
def RV_OP_CFG2_DIS_LO : Fld := ⟨RV_OP_CFG2, 23, 16, 236⟩
def RV_OP_CFG2_CHG_HI : Fld := ⟨RV_OP_CFG2, 15, 8, 55⟩
def RV_OP_CFG2_CHG_LO : Fld := ⟨RV_OP_CFG2, 7, 0, 0⟩
/-- RV_STACK (Table 8.14). -/
def RV_STACK : Nat := 0x40030
def RV_STACK_STACK_V : Fld := ⟨RV_STACK, 31, 16, 0⟩
def RV_STACK_STACK_I : Fld := ⟨RV_STACK, 15, 0, 0⟩
/-- RV_POWER (Table 8.14). -/
def RV_POWER : Nat := 0x40034
def RV_POWER_CONV_W : Fld := ⟨RV_POWER, 31, 16, 0⟩
def RV_POWER_GRID_TARGET : Fld := ⟨RV_POWER, 15, 0, 0⟩
/-- RV_E_AVAIL (Table 8.14). -/
def RV_E_AVAIL : Nat := 0x40038
def RV_E_AVAIL_E_AVAIL : Fld := ⟨RV_E_AVAIL, 31, 0, 0⟩
/-- RV_E_USABLE (Table 8.14). -/
def RV_E_USABLE : Nat := 0x4003C
def RV_E_USABLE_E_USABLE : Fld := ⟨RV_E_USABLE, 31, 0, 0⟩
/-- RV_ALLOW (Table 8.14). -/
def RV_ALLOW : Nat := 0x40040
def RV_ALLOW_ALLOWANCE : Fld := ⟨RV_ALLOW, 31, 16, 0⟩
def RV_ALLOW_PROMISE : Fld := ⟨RV_ALLOW, 15, 0, 0⟩
/-- RV_CTH (Table 8.14). -/
def RV_CTH : Nat := 0x40044
def RV_CTH_CTH : Fld := ⟨RV_CTH, 31, 0, 0⟩
/-- RV_CYCLES (Table 8.14). -/
def RV_CYCLES : Nat := 0x40048
def RV_CYCLES_CYCLES : Fld := ⟨RV_CYCLES, 31, 0, 0⟩
/-- RV_FELL (Table 8.15). -/
def RV_FELL : Nat := 0x40050
def RV_FELL_FAULT : Fld := ⟨RV_FELL, 3, 3, 0⟩
def RV_FELL_TAP : Fld := ⟨RV_FELL, 2, 2, 0⟩
def RV_FELL_TEMP : Fld := ⟨RV_FELL, 1, 1, 0⟩
def RV_FELL_ENDURANCE : Fld := ⟨RV_FELL, 0, 0, 0⟩
/-- RV_CELL (Table 8.16). -/
def RV_CELL (n : Nat) : Nat := 0x40100 + 4 * n
def RV_CELL_VOLT (n : Nat) : Fld := ⟨RV_CELL n, 31, 16, 0⟩
def RV_CELL_DELTA (n : Nat) : Fld := ⟨RV_CELL n, 15, 0, 0⟩
/-- RV_CELL_END (Table 8.16). -/
def RV_CELL_END (n : Nat) : Nat := 0x40140 + 4 * n
def RV_CELL_END_CAP (n : Nat) : Fld := ⟨RV_CELL_END n, 31, 16, 0⟩
def RV_CELL_END_ESR (n : Nat) : Fld := ⟨RV_CELL_END n, 15, 0, 0⟩
/-- TH_CTL (Table 9.9). -/
def TH_CTL : Nat := 0x50000
def TH_CTL_SAVE : Fld := ⟨TH_CTL, 1, 1, 0⟩
def TH_CTL_SAVE_BUSY : Fld := ⟨TH_CTL, 0, 0, 0⟩
/-- TH_TRIP (Table 9.9). -/
def TH_TRIP : Nat := 0x50004
def TH_TRIP_LOCK : Fld := ⟨TH_TRIP, 31, 31, 0⟩
def TH_TRIP_AUTOLOCK : Fld := ⟨TH_TRIP, 30, 30, 0⟩
def TH_TRIP_THRESH : Fld := ⟨TH_TRIP, 7, 0, 110⟩
/-- TH_BAND_CFG (Table 9.9). -/
def TH_BAND_CFG : Nat := 0x50008
def TH_BAND_CFG_VERM : Fld := ⟨TH_BAND_CFG, 31, 24, 102⟩
def TH_BAND_CFG_MADDER : Fld := ⟨TH_BAND_CFG, 23, 16, 90⟩
def TH_BAND_CFG_OCHRE : Fld := ⟨TH_BAND_CFG, 15, 8, 75⟩
def TH_BAND_CFG_WOAD : Fld := ⟨TH_BAND_CFG, 7, 0, 10⟩
/-- TH_STEP_CFG (Table 9.9). -/
def TH_STEP_CFG : Nat := 0x5000C
def TH_STEP_CFG_K_MAX : Fld := ⟨TH_STEP_CFG, 28, 24, 16⟩
def TH_STEP_CFG_PAUSE_MAX : Fld := ⟨TH_STEP_CFG, 23, 20, 12⟩
def TH_STEP_CFG_PIN_DUTY : Fld := ⟨TH_STEP_CFG, 19, 16, 4⟩
def TH_STEP_CFG_WOAD_GRADE : Fld := ⟨TH_STEP_CFG, 12, 8, 31⟩
/-- TH_STOP_CFG (Table 9.9). -/
def TH_STOP_CFG : Nat := 0x50010
def TH_STOP_CFG_DRAIN_MAX : Fld := ⟨TH_STOP_CFG, 31, 24, 5⟩
def TH_STOP_CFG_FLUSH_MAX : Fld := ⟨TH_STOP_CFG, 23, 16, 20⟩
def TH_STOP_CFG_PROJ : Fld := ⟨TH_STOP_CFG, 15, 8, 2⟩
/-- TH_ALLOW (Table 9.9). -/
def TH_ALLOW : Nat := 0x50014
def TH_ALLOW_PKG_W : Fld := ⟨TH_ALLOW, 15, 0, 3600⟩
/-- TH_PKG_STAT (Table 9.10). -/
def TH_PKG_STAT : Nat := 0x50020
def TH_PKG_STAT_HOT_TEMP : Fld := ⟨TH_PKG_STAT, 31, 22, 0⟩
def TH_PKG_STAT_BAND : Fld := ⟨TH_PKG_STAT, 21, 19, 0⟩
def TH_PKG_STAT_STOP : Fld := ⟨TH_PKG_STAT, 18, 16, 0⟩
def TH_PKG_STAT_HOT_ZONE : Fld := ⟨TH_PKG_STAT, 15, 8, 0⟩
/-- TH_PKG_STAT2 (Table 9.10). -/
def TH_PKG_STAT2 : Nat := 0x50024
def TH_PKG_STAT2_ALLOW_W : Fld := ⟨TH_PKG_STAT2, 31, 16, 0⟩
def TH_PKG_STAT2_PROJ_NOW : Fld := ⟨TH_PKG_STAT2, 15, 0, 0⟩
/-- TH_TRIP_STAT (Table 9.10). -/
def TH_TRIP_STAT : Nat := 0x50028
def TH_TRIP_STAT_ZONE : Fld := ⟨TH_TRIP_STAT, 31, 24, 0⟩
def TH_TRIP_STAT_TEMP : Fld := ⟨TH_TRIP_STAT, 23, 14, 0⟩
def TH_TRIP_STAT_CAUSE : Fld := ⟨TH_TRIP_STAT, 2, 0, 0⟩
/-- TH_FELL (Table 9.10). -/
def TH_FELL : Nat := 0x50030
def TH_FELL_PIN : Fld := ⟨TH_FELL, 4, 4, 0⟩
def TH_FELL_BROKEN : Fld := ⟨TH_FELL, 3, 3, 0⟩
def TH_FELL_STOP : Fld := ⟨TH_FELL, 2, 2, 0⟩
def TH_FELL_HOT : Fld := ⟨TH_FELL, 1, 1, 0⟩
def TH_FELL_BOARD : Fld := ⟨TH_FELL, 0, 0, 0⟩
/-- TH_DOM_STAT (Table 9.11). -/
def TH_DOM_STAT (n : Nat) : Nat := 0x50040 + 4 * n
def TH_DOM_STAT_TEMP (n : Nat) : Fld := ⟨TH_DOM_STAT n, 31, 22, 0⟩
def TH_DOM_STAT_BAND (n : Nat) : Fld := ⟨TH_DOM_STAT n, 21, 19, 0⟩
def TH_DOM_STAT_REFRESH (n : Nat) : Fld := ⟨TH_DOM_STAT n, 18, 17, 0⟩
def TH_DOM_STAT_K (n : Nat) : Fld := ⟨TH_DOM_STAT n, 16, 12, 0⟩
def TH_DOM_STAT_DUTY (n : Nat) : Fld := ⟨TH_DOM_STAT n, 11, 8, 0⟩
/-- TH_DIE_CFG (Table 9.12). -/
def TH_DIE_CFG (n : Nat) : Nat := 0x50080 + 4 * n
def TH_DIE_CFG_ROW_W (n : Nat) : Fld := ⟨TH_DIE_CFG n, 7, 0, 32⟩
/-- TH_DIE_STAT (Table 9.12). -/
def TH_DIE_STAT (n : Nat) : Nat := 0x500C0 + 4 * n
def TH_DIE_STAT_TEMP (n : Nat) : Fld := ⟨TH_DIE_STAT n, 31, 22, 0⟩
def TH_DIE_STAT_BAND (n : Nat) : Fld := ⟨TH_DIE_STAT n, 21, 19, 0⟩
def TH_DIE_STAT_PINNED (n : Nat) : Fld := ⟨TH_DIE_STAT n, 18, 18, 0⟩
def TH_DIE_STAT_C (n : Nat) : Fld := ⟨TH_DIE_STAT n, 17, 13, 0⟩
def TH_DIE_STAT_DUTY (n : Nat) : Fld := ⟨TH_DIE_STAT n, 12, 9, 0⟩
/-- TH_DIE_BROKEN (Table 9.12). -/
def TH_DIE_BROKEN (n : Nat) : Nat := 0x50100 + 4 * n
def TH_DIE_BROKEN_BROKEN (n : Nat) : Fld := ⟨TH_DIE_BROKEN n, 31, 16, 0⟩
def TH_DIE_BROKEN_PRESENT (n : Nat) : Fld := ⟨TH_DIE_BROKEN n, 15, 0, 0⟩
/-- TH_GOV_STAT (Table 9.13). -/
def TH_GOV_STAT : Nat := 0x50140
def TH_GOV_STAT_TEMP : Fld := ⟨TH_GOV_STAT, 31, 22, 0⟩
def TH_GOV_STAT_BAND : Fld := ⟨TH_GOV_STAT, 21, 19, 0⟩
def TH_GOV_STAT_BROKEN : Fld := ⟨TH_GOV_STAT, 15, 0, 0⟩
/-- TH_TD_CFG (Table 9.14). -/
def TH_TD_CFG (n : Nat) : Nat := 0x50200 + 4 * n
def TH_TD_CFG_TARGET (n : Nat) : Fld := ⟨TH_TD_CFG n, 12, 8, 31⟩
def TH_TD_CFG_IDEALITY (n : Nat) : Fld := ⟨TH_TD_CFG n, 7, 0, 100⟩
/-- TH_TD_STAT (Table 9.14). -/
def TH_TD_STAT (n : Nat) : Nat := 0x50300 + 4 * n
def TH_TD_STAT_TEMP (n : Nat) : Fld := ⟨TH_TD_STAT n, 31, 22, 0⟩
def TH_TD_STAT_STATE (n : Nat) : Fld := ⟨TH_TD_STAT n, 21, 20, 0⟩
def TH_TD_STAT_CAUSE (n : Nat) : Fld := ⟨TH_TD_STAT n, 19, 18, 0⟩
/-- TH_I3C_CFG (Table 9.15). -/
def TH_I3C_CFG (n : Nat) : Nat := 0x50400 + 4 * n
def TH_I3C_CFG_ENABLE (n : Nat) : Fld := ⟨TH_I3C_CFG n, 31, 31, 0⟩
def TH_I3C_CFG_BUS (n : Nat) : Fld := ⟨TH_I3C_CFG n, 30, 30, 0⟩
def TH_I3C_CFG_ADDR (n : Nat) : Fld := ⟨TH_I3C_CFG n, 29, 23, 0⟩
def TH_I3C_CFG_REG (n : Nat) : Fld := ⟨TH_I3C_CFG n, 22, 15, 0⟩
def TH_I3C_CFG_SHIFT (n : Nat) : Fld := ⟨TH_I3C_CFG n, 14, 11, 0⟩
def TH_I3C_CFG_WARN (n : Nat) : Fld := ⟨TH_I3C_CFG n, 7, 0, 85⟩
/-- TH_I3C_STAT (Table 9.15). -/
def TH_I3C_STAT (n : Nat) : Nat := 0x50480 + 4 * n
def TH_I3C_STAT_TEMP (n : Nat) : Fld := ⟨TH_I3C_STAT n, 31, 22, 0⟩
def TH_I3C_STAT_BROKEN (n : Nat) : Fld := ⟨TH_I3C_STAT n, 21, 21, 0⟩
def TH_I3C_STAT_AT_WARN (n : Nat) : Fld := ⟨TH_I3C_STAT n, 20, 20, 0⟩
/-- TH_BROKEN_TILE (Table 9.16). -/
def TH_BROKEN_TILE (n : Nat) : Nat := 0x51000 + 4 * n
def TH_BROKEN_TILE_BROKEN (n : Nat) : Fld := ⟨TH_BROKEN_TILE n, 31, 0, 0⟩
/-- BG_CTL (Table 10.8). -/
def BG_CTL : Nat := 0x60000
def BG_CTL_SAVE : Fld := ⟨BG_CTL, 31, 31, 0⟩
def BG_CTL_SAVE_BUSY : Fld := ⟨BG_CTL, 30, 30, 0⟩
def BG_CTL_EST_CLEAR : Fld := ⟨BG_CTL, 1, 1, 0⟩
/-- BG_PKG_CFG (Table 10.8). -/
def BG_PKG_CFG : Nat := 0x60004
def BG_PKG_CFG_MIN_GUAR : Fld := ⟨BG_PKG_CFG, 31, 16, 1500⟩
def BG_PKG_CFG_EFF : Fld := ⟨BG_PKG_CFG, 15, 8, 92⟩
def BG_PKG_CFG_PERIOD : Fld := ⟨BG_PKG_CFG, 7, 0, 10⟩
/-- BG_PKG_CFG2 (Table 10.8). -/
def BG_PKG_CFG2 : Nat := 0x60008
def BG_PKG_CFG2_OVERHEAD : Fld := ⟨BG_PKG_CFG2, 31, 16, 250⟩
def BG_PKG_CFG2_IN_LIMIT : Fld := ⟨BG_PKG_CFG2, 15, 0, 750⟩
/-- BG_PKG_CFG3 (Table 10.8). -/
def BG_PKG_CFG3 : Nat := 0x6000C
def BG_PKG_CFG3_DUTY_MARGIN : Fld := ⟨BG_PKG_CFG3, 7, 0, 2⟩
/-- BG_BUDGET (Table 10.9). -/
def BG_BUDGET : Nat := 0x60010
def BG_BUDGET_B : Fld := ⟨BG_BUDGET, 31, 16, 0⟩
def BG_BUDGET_B_RAIL : Fld := ⟨BG_BUDGET, 15, 0, 0⟩
/-- BG_TERMS0 (Table 10.9). -/
def BG_TERMS0 : Nat := 0x60014
def BG_TERMS0_SHARE : Fld := ⟨BG_TERMS0, 31, 16, 0⟩
def BG_TERMS0_IN_W : Fld := ⟨BG_TERMS0, 15, 0, 0⟩
/-- BG_TERMS1 (Table 10.9). -/
def BG_TERMS1 : Nat := 0x60018
def BG_TERMS1_THERM : Fld := ⟨BG_TERMS1, 31, 16, 0⟩
def BG_TERMS1_RGA : Fld := ⟨BG_TERMS1, 15, 0, 0⟩
/-- BG_STAT (Table 10.9). -/
def BG_STAT : Nat := 0x6001C
def BG_STAT_DUTY_ACTIVE : Fld := ⟨BG_STAT, 5, 5, 0⟩
def BG_STAT_SCALED : Fld := ⟨BG_STAT, 4, 4, 0⟩
def BG_STAT_SHED : Fld := ⟨BG_STAT, 3, 3, 0⟩
def BG_STAT_SOURCE : Fld := ⟨BG_STAT, 2, 0, 0⟩
/-- BG_FELL (Table 10.9). -/
def BG_FELL : Nat := 0x60020
def BG_FELL_FLOOR_SHORT : Fld := ⟨BG_FELL, 3, 3, 0⟩
def BG_FELL_OVER : Fld := ⟨BG_FELL, 2, 2, 0⟩
def BG_FELL_SCALED : Fld := ⟨BG_FELL, 1, 1, 0⟩
def BG_FELL_REFUSED : Fld := ⟨BG_FELL, 0, 0, 0⟩
/-- BG_METER_LO (Table 10.10). -/
def BG_METER_LO : Nat := 0x60030
def BG_METER_LO_METER : Fld := ⟨BG_METER_LO, 31, 0, 0⟩
/-- BG_METER_HI (Table 10.10). -/
def BG_METER_HI : Nat := 0x60034
def BG_METER_HI_METER : Fld := ⟨BG_METER_HI, 31, 0, 0⟩
/-- BG_UNATTR_LO (Table 10.10). -/
def BG_UNATTR_LO : Nat := 0x60038
def BG_UNATTR_LO_UNATTR : Fld := ⟨BG_UNATTR_LO, 31, 0, 0⟩
/-- BG_UNATTR_HI (Table 10.10). -/
def BG_UNATTR_HI : Nat := 0x6003C
def BG_UNATTR_HI_UNATTR : Fld := ⟨BG_UNATTR_HI, 31, 0, 0⟩
/-- BG_PART_CFG0 (Table 10.11). -/
def BG_PART_CFG0 (n : Nat) : Nat := 0x60100 + 8 * n
def BG_PART_CFG0_CEILING (n : Nat) : Fld := ⟨BG_PART_CFG0 n, 31, 16, if n = 0 then 65535 else 0⟩
def BG_PART_CFG0_FLOOR (n : Nat) : Fld := ⟨BG_PART_CFG0 n, 15, 0, 0⟩
/-- BG_PART_CFG1 (Table 10.11). -/
def BG_PART_CFG1 (n : Nat) : Nat := 0x60104 + 8 * n
def BG_PART_CFG1_ENABLE (n : Nat) : Fld := ⟨BG_PART_CFG1 n, 31, 31, if n = 0 then 1 else 0⟩
def BG_PART_CFG1_WEIGHT (n : Nat) : Fld := ⟨BG_PART_CFG1 n, 7, 0, 1⟩
/-- BG_PART_DEF0 (Table 10.12). -/
def BG_PART_DEF0 (n : Nat) : Nat := 0x60400 + 8 * n
def BG_PART_DEF0_CEILING (n : Nat) : Fld := ⟨BG_PART_DEF0 n, 31, 16, if n = 0 then 65535 else 0⟩
def BG_PART_DEF0_FLOOR (n : Nat) : Fld := ⟨BG_PART_DEF0 n, 15, 0, 0⟩
/-- BG_PART_DEF1 (Table 10.12). -/
def BG_PART_DEF1 (n : Nat) : Nat := 0x60404 + 8 * n
def BG_PART_DEF1_ENABLE (n : Nat) : Fld := ⟨BG_PART_DEF1 n, 31, 31, if n = 0 then 1 else 0⟩
def BG_PART_DEF1_WEIGHT (n : Nat) : Fld := ⟨BG_PART_DEF1 n, 7, 0, 1⟩
/-- BG_PART_STAT0 (Table 10.13). -/
def BG_PART_STAT0 (n : Nat) : Nat := 0x60800 + 16 * n
def BG_PART_STAT0_ALLOC (n : Nat) : Fld := ⟨BG_PART_STAT0 n, 31, 16, 0⟩
def BG_PART_STAT0_COMMITTED (n : Nat) : Fld := ⟨BG_PART_STAT0 n, 15, 0, 0⟩
/-- BG_PART_STAT1 (Table 10.13). -/
def BG_PART_STAT1 (n : Nat) : Nat := 0x60804 + 16 * n
def BG_PART_STAT1_DEMAND (n : Nat) : Fld := ⟨BG_PART_STAT1 n, 31, 16, 0⟩
def BG_PART_STAT1_HELD (n : Nat) : Fld := ⟨BG_PART_STAT1 n, 14, 0, 0⟩
/-- BG_PART_STAT2 (Table 10.13). -/
def BG_PART_STAT2 (n : Nat) : Nat := 0x60808 + 16 * n
def BG_PART_STAT2_BDUTY (n : Nat) : Fld := ⟨BG_PART_STAT2 n, 3, 0, 0⟩
/-- BG_PART_STAT3 (Table 10.13). -/
def BG_PART_STAT3 (n : Nat) : Nat := 0x6080C + 16 * n
/-- BG_PART_EST_LO (Table 10.13). -/
def BG_PART_EST_LO (n : Nat) : Nat := 0x61000 + 8 * n
def BG_PART_EST_LO_EST (n : Nat) : Fld := ⟨BG_PART_EST_LO n, 31, 0, 0⟩
/-- BG_PART_EST_HI (Table 10.13). -/
def BG_PART_EST_HI (n : Nat) : Nat := 0x61004 + 8 * n
def BG_PART_EST_HI_EST (n : Nat) : Fld := ⟨BG_PART_EST_HI n, 31, 0, 0⟩
/-- ME_STAT (Table 11.10). -/
def ME_STAT : Nat := 0x80000
def ME_STAT_POOL_FREE : Fld := ⟨ME_STAT, 30, 16, 0⟩
def ME_STAT_CH_OPEN : Fld := ⟨ME_STAT, 13, 0, 0⟩
/-- ME_FELL (Table 11.10). -/
def ME_FELL : Nat := 0x80004
def ME_FELL_ACCESS : Fld := ⟨ME_FELL, 5, 5, 0⟩
def ME_FELL_COLLECT_DROP : Fld := ⟨ME_FELL, 4, 4, 0⟩
def ME_FELL_EVT_LOST : Fld := ⟨ME_FELL, 3, 3, 0⟩
def ME_FELL_CH_FULL : Fld := ⟨ME_FELL, 2, 2, 0⟩
def ME_FELL_POOL_FULL : Fld := ⟨ME_FELL, 1, 1, 0⟩
def ME_FELL_DROP : Fld := ⟨ME_FELL, 0, 0, 0⟩
/-- ME_EVT_ROUTE (Table 11.10). -/
def ME_EVT_ROUTE : Nat := 0x80008
def ME_EVT_ROUTE_CORE : Fld := ⟨ME_EVT_ROUTE, 2, 0, 0⟩
/-- ME_QCFG (Table 11.11). -/
def ME_QCFG (n : Nat) : Nat := 0x90000 + 4 * n
def ME_QCFG_ENABLE (n : Nat) : Fld := ⟨ME_QCFG n, 31, 31, if n ≤ 15 then 1 else 0⟩
def ME_QCFG_DISPATCH (n : Nat) : Fld := ⟨ME_QCFG n, 30, 30, if n ≤ 15 then 1 else 0⟩
def ME_QCFG_URGENT (n : Nat) : Fld := ⟨ME_QCFG n, 29, 29, if 8 ≤ n ∧ n ≤ 15 then 1 else 0⟩
def ME_QCFG_ACCEPT (n : Nat) : Fld := ⟨ME_QCFG n, 28, 27, 0⟩
def ME_QCFG_PRIO (n : Nat) : Fld := ⟨ME_QCFG n, 26, 24, 0⟩
def ME_QCFG_READER (n : Nat) : Fld := ⟨ME_QCFG n, 23, 20, if n ≤ 15 then n % 8 else 15⟩
def ME_QCFG_HANDLER (n : Nat) : Fld := ⟨ME_QCFG n, 15, 8, 0⟩
def ME_QCFG_DEPTH (n : Nat) : Fld := ⟨ME_QCFG n, 5, 0, if n ≤ 15 then 4 else 1⟩
/-- ME_SEL_CTL (Table 11.12). -/
def ME_SEL_CTL (n : Nat) : Nat := 0xA0000 + 64 * n
def ME_SEL_CTL_ROTATE (n : Nat) : Fld := ⟨ME_SEL_CTL n, 31, 31, 0⟩
/-- ME_SEL_Q (Table 11.12). -/
def ME_SEL_Q (n : Nat) (j : Nat) : Nat := 0xA0004 + 64 * n + 4 * j
def ME_SEL_Q_V1 (n : Nat) (j : Nat) : Fld := ⟨ME_SEL_Q n j, 31, 31, 0⟩
def ME_SEL_Q_Q1 (n : Nat) (j : Nat) : Fld := ⟨ME_SEL_Q n j, 27, 16, 0⟩
def ME_SEL_Q_V0 (n : Nat) (j : Nat) : Fld := ⟨ME_SEL_Q n j, 15, 15, 0⟩
def ME_SEL_Q_Q0 (n : Nat) (j : Nat) : Fld := ⟨ME_SEL_Q n j, 11, 0, 0⟩
/-- ME_GRP0 (Table 11.13). -/
def ME_GRP0 (n : Nat) : Nat := 0xB0000 + 8 * n
def ME_GRP0_KIND (n : Nat) : Fld := ⟨ME_GRP0 n, 31, 30, 0⟩
def ME_GRP0_OP (n : Nat) : Fld := ⟨ME_GRP0 n, 29, 28, 0⟩
def ME_GRP0_TARGET (n : Nat) : Fld := ⟨ME_GRP0 n, 27, 16, 0⟩
def ME_GRP0_TAG (n : Nat) : Fld := ⟨ME_GRP0 n, 15, 0, 0⟩
/-- ME_GRP1 (Table 11.13). -/
def ME_GRP1 (n : Nat) : Nat := 0xB0004 + 8 * n
def ME_GRP1_EXPECT (n : Nat) : Fld := ⟨ME_GRP1 n, 31, 16, 1⟩
def ME_GRP1_TIMEOUT (n : Nat) : Fld := ⟨ME_GRP1 n, 15, 0, 0⟩
/-- ME_MEMB (Table 11.14). -/
def ME_MEMB (n : Nat) : Nat := 0xC0000 + 4 * n
def ME_MEMB_QUEUE (n : Nat) : Fld := ⟨ME_MEMB n, 11, 0, 0⟩
/-- ME_CH_STAT (Table 11.15). -/
def ME_CH_STAT (n : Nat) : Nat := 0xE0000 + 4 * n
def ME_CH_STAT_OPEN (n : Nat) : Fld := ⟨ME_CH_STAT n, 31, 31, 0⟩
def ME_CH_STAT_RETRY (n : Nat) : Fld := ⟨ME_CH_STAT n, 30, 30, 0⟩
def ME_CH_STAT_DRAINING (n : Nat) : Fld := ⟨ME_CH_STAT n, 29, 29, 0⟩
def ME_CH_STAT_OWNER (n : Nat) : Fld := ⟨ME_CH_STAT n, 28, 24, 0⟩
def ME_CH_STAT_CSEQ (n : Nat) : Fld := ⟨ME_CH_STAT n, 23, 16, 0⟩
def ME_CH_STAT_DEST (n : Nat) : Fld := ⟨ME_CH_STAT n, 11, 0, 0⟩
/-- ME_POP (Table 11.16). -/
def ME_POP (n : Nat) : Nat := 0x200000 + 64 * n
def ME_POP_WORD0 (n : Nat) : Fld := ⟨ME_POP n, 31, 0, 0⟩
/-- ME_LATCH (Table 11.16). -/
def ME_LATCH (n : Nat) (j : Nat) : Nat := 0x200004 + 64 * n + 4 * j
def ME_LATCH_WORD (n : Nat) (j : Nat) : Fld := ⟨ME_LATCH n j, 31, 0, 0⟩
/-- ME_QSTAT (Table 11.16). -/
def ME_QSTAT (n : Nat) : Nat := 0x200020 + 64 * n
def ME_QSTAT_OCCUPANCY (n : Nat) : Fld := ⟨ME_QSTAT n, 24, 16, 0⟩
def ME_QSTAT_BASE (n : Nat) : Fld := ⟨ME_QSTAT n, 13, 0, 0⟩
/-- ME_QDROP (Table 11.16). -/
def ME_QDROP (n : Nat) : Nat := 0x200024 + 64 * n
def ME_QDROP_DROPS (n : Nat) : Fld := ⟨ME_QDROP n, 31, 0, 0⟩
/-- ME_POP_RSVD (Table 11.16). -/
def ME_POP_RSVD (n : Nat) (j : Nat) : Nat := 0x200028 + 64 * n + 4 * j
/-- ME_IQ_STAT (Table 11.17). -/
def ME_IQ_STAT (n : Nat) : Nat := 0x100000 + 64 * n
def ME_IQ_STAT_OCCUPANCY (n : Nat) : Fld := ⟨ME_IQ_STAT n, 20, 16, 0⟩
def ME_IQ_STAT_PARKED (n : Nat) : Fld := ⟨ME_IQ_STAT n, 0, 0, 0⟩
/-- ME_IQ_QFULL (Table 11.17). -/
def ME_IQ_QFULL (n : Nat) : Nat := 0x100004 + 64 * n
def ME_IQ_QFULL_QFULLS (n : Nat) : Fld := ⟨ME_IQ_QFULL n, 15, 0, 0⟩
/-- ME_IQ_RSVD (Table 11.17). -/
def ME_IQ_RSVD (n : Nat) (j : Nat) : Nat := 0x100008 + 64 * n + 4 * j
/-- IK_CTL (Table 12.17). -/
def IK_CTL : Nat := 0x300000
def IK_CTL_KEY : Fld := ⟨IK_CTL, 31, 24, 0⟩
def IK_CTL_SAVE : Fld := ⟨IK_CTL, 17, 17, 0⟩
def IK_CTL_SAVE_BUSY : Fld := ⟨IK_CTL, 16, 16, 0⟩
def IK_CTL_RESTART : Fld := ⟨IK_CTL, 15, 8, 0⟩
def IK_CTL_STOP : Fld := ⟨IK_CTL, 7, 0, 0⟩
/-- IK_STAT (Table 12.17). -/
def IK_STAT : Nat := 0x300004
def IK_STAT_ECC_CORR : Fld := ⟨IK_STAT, 31, 24, 0⟩
def IK_STAT_HELD : Fld := ⟨IK_STAT, 23, 16, 0⟩
def IK_STAT_LOADED : Fld := ⟨IK_STAT, 15, 8, 0⟩
def IK_STAT_RUNNING : Fld := ⟨IK_STAT, 7, 0, 0⟩
/-- IK_IMAGE (Table 12.17). -/
def IK_IMAGE : Nat := 0x300008
def IK_IMAGE_VERSION : Fld := ⟨IK_IMAGE, 31, 0, 0⟩
/-- IK_IMAGE_STAT (Table 12.17). -/
def IK_IMAGE_STAT : Nat := 0x30000C
def IK_IMAGE_STAT_CHECK : Fld := ⟨IK_IMAGE_STAT, 11, 8, 0⟩
def IK_IMAGE_STAT_REFUSED : Fld := ⟨IK_IMAGE_STAT, 7, 0, 0⟩
/-- IK_BUDGET (Table 12.18). -/
def IK_BUDGET : Nat := 0x300010
def IK_BUDGET_BUDGET_N : Fld := ⟨IK_BUDGET, 31, 16, 12000⟩
def IK_BUDGET_BUDGET_U : Fld := ⟨IK_BUDGET, 15, 0, 12000⟩
/-- IK_DUTY0 (Table 12.19). -/
def IK_DUTY0 : Nat := 0x300020
def IK_DUTY0_DUTY_0 : Fld := ⟨IK_DUTY0, 3, 0, 15⟩
def IK_DUTY0_DUTY_1 : Fld := ⟨IK_DUTY0, 7, 4, 15⟩
def IK_DUTY0_DUTY_2 : Fld := ⟨IK_DUTY0, 11, 8, 15⟩
def IK_DUTY0_DUTY_3 : Fld := ⟨IK_DUTY0, 15, 12, 15⟩
def IK_DUTY0_DUTY_4 : Fld := ⟨IK_DUTY0, 19, 16, 15⟩
def IK_DUTY0_DUTY_5 : Fld := ⟨IK_DUTY0, 23, 20, 15⟩
def IK_DUTY0_DUTY_6 : Fld := ⟨IK_DUTY0, 27, 24, 15⟩
def IK_DUTY0_DUTY_7 : Fld := ⟨IK_DUTY0, 31, 28, 15⟩
/-- IK_DUTY1 (Table 12.19). -/
def IK_DUTY1 : Nat := 0x300024
def IK_DUTY1_DUTY_0 : Fld := ⟨IK_DUTY1, 3, 0, 15⟩
def IK_DUTY1_DUTY_1 : Fld := ⟨IK_DUTY1, 7, 4, 15⟩
def IK_DUTY1_DUTY_2 : Fld := ⟨IK_DUTY1, 11, 8, 15⟩
def IK_DUTY1_DUTY_3 : Fld := ⟨IK_DUTY1, 15, 12, 15⟩
def IK_DUTY1_DUTY_4 : Fld := ⟨IK_DUTY1, 19, 16, 15⟩
def IK_DUTY1_DUTY_5 : Fld := ⟨IK_DUTY1, 23, 20, 15⟩
def IK_DUTY1_DUTY_6 : Fld := ⟨IK_DUTY1, 27, 24, 15⟩
def IK_DUTY1_DUTY_7 : Fld := ⟨IK_DUTY1, 31, 28, 15⟩
/-- IK_EVT_MASK (Table 12.20). -/
def IK_EVT_MASK : Nat := 0x300030
def IK_EVT_MASK_MASK : Fld := ⟨IK_EVT_MASK, 9, 0, 1023⟩
/-- IK_FELL (Table 12.20). -/
def IK_FELL : Nat := 0x300034
def IK_FELL_REFUSED : Fld := ⟨IK_FELL, 16, 16, 0⟩
def IK_FELL_EXCEPT : Fld := ⟨IK_FELL, 15, 8, 0⟩
def IK_FELL_OVERRUN : Fld := ⟨IK_FELL, 7, 0, 0⟩
/-- IK_CORE_STAT (Table 12.21). -/
def IK_CORE_STAT (n : Nat) : Nat := 0x301000 + 256 * n
def IK_CORE_STAT_LAST_CAUSE (n : Nat) : Fld := ⟨IK_CORE_STAT n, 19, 16, 0⟩
def IK_CORE_STAT_FAULTS (n : Nat) : Fld := ⟨IK_CORE_STAT n, 11, 8, 0⟩
def IK_CORE_STAT_HELD (n : Nat) : Fld := ⟨IK_CORE_STAT n, 4, 4, 0⟩
def IK_CORE_STAT_STOPPED (n : Nat) : Fld := ⟨IK_CORE_STAT n, 3, 3, 0⟩
def IK_CORE_STAT_WAITING (n : Nat) : Fld := ⟨IK_CORE_STAT n, 2, 2, 0⟩
def IK_CORE_STAT_LEVEL (n : Nat) : Fld := ⟨IK_CORE_STAT n, 1, 0, 0⟩
/-- IK_CORE_FAULT (Table 12.21). -/
def IK_CORE_FAULT (n : Nat) : Nat := 0x301004 + 256 * n
def IK_CORE_FAULT_HANDLER (n : Nat) : Fld := ⟨IK_CORE_FAULT n, 31, 24, 0⟩
def IK_CORE_FAULT_THREAD (n : Nat) : Fld := ⟨IK_CORE_FAULT n, 23, 23, 0⟩
def IK_CORE_FAULT_CODE (n : Nat) : Fld := ⟨IK_CORE_FAULT n, 19, 16, 0⟩
def IK_CORE_FAULT_PC (n : Nat) : Fld := ⟨IK_CORE_FAULT n, 15, 0, 0⟩
/-- IK_CORE_MAXCYC (Table 12.21). -/
def IK_CORE_MAXCYC (n : Nat) : Nat := 0x301008 + 256 * n
def IK_CORE_MAXCYC_MAX_N (n : Nat) : Fld := ⟨IK_CORE_MAXCYC n, 31, 16, 0⟩
def IK_CORE_MAXCYC_MAX_U (n : Nat) : Fld := ⟨IK_CORE_MAXCYC n, 15, 0, 0⟩
/-- IK_CORE_DISPATCH (Table 12.21). -/
def IK_CORE_DISPATCH (n : Nat) : Nat := 0x30100C + 256 * n
def IK_CORE_DISPATCH_COUNT (n : Nat) : Fld := ⟨IK_CORE_DISPATCH n, 31, 0, 0⟩
/-- CF_CTL (Table 14.8). -/
def CF_CTL : Nat := 0x400000
def CF_CTL_SAVE : Fld := ⟨CF_CTL, 1, 1, 0⟩
def CF_CTL_SAVE_BUSY : Fld := ⟨CF_CTL, 0, 0, 0⟩
/-- CF_STAT (Table 14.8). -/
def CF_STAT : Nat := 0x400004
def CF_STAT_IN_PROGRESS : Fld := ⟨CF_STAT, 20, 16, 0⟩
def CF_STAT_RINGS_ON : Fld := ⟨CF_STAT, 10, 0, 0⟩
/-- CF_CFG (Table 14.8). -/
def CF_CFG : Nat := 0x400008
def CF_CFG_LAUNCH_TIMEOUT : Fld := ⟨CF_CFG, 31, 16, 1000⟩
def CF_CFG_RETIRE : Fld := ⟨CF_CFG, 15, 8, 20⟩
def CF_CFG_CHAIN_MAX : Fld := ⟨CF_CFG, 7, 0, 64⟩
/-- CF_FELL (Table 14.8). -/
def CF_FELL : Nat := 0x40000C
def CF_FELL_CHAIN : Fld := ⟨CF_FELL, 4, 4, 0⟩
def CF_FELL_LAUNCH : Fld := ⟨CF_FELL, 3, 3, 0⟩
def CF_FELL_DESC : Fld := ⟨CF_FELL, 2, 2, 0⟩
def CF_FELL_QUIESCED : Fld := ⟨CF_FELL, 1, 1, 0⟩
def CF_FELL_RING_ERR : Fld := ⟨CF_FELL, 0, 0, 0⟩
/-- CF_RING_BASE_LO (Table 14.9). -/
def CF_RING_BASE_LO (n : Nat) : Nat := 0x401000 + 32 * n
def CF_RING_BASE_LO_BASE (n : Nat) : Fld := ⟨CF_RING_BASE_LO n, 31, 6, 0⟩
/-- CF_RING_BASE_HI (Table 14.9). -/
def CF_RING_BASE_HI (n : Nat) : Nat := 0x401004 + 32 * n
def CF_RING_BASE_HI_BASE (n : Nat) : Fld := ⟨CF_RING_BASE_HI n, 15, 0, 0⟩
/-- CF_RING_CFG (Table 14.9). -/
def CF_RING_CFG (n : Nat) : Nat := 0x401008 + 32 * n
def CF_RING_CFG_ENABLE (n : Nat) : Fld := ⟨CF_RING_CFG n, 31, 31, 0⟩
def CF_RING_CFG_OWNER (n : Nat) : Fld := ⟨CF_RING_CFG n, 30, 24, 0⟩
def CF_RING_CFG_SIZE_LOG2 (n : Nat) : Fld := ⟨CF_RING_CFG n, 19, 16, 2⟩
def CF_RING_CFG_CORES (n : Nat) : Fld := ⟨CF_RING_CFG n, 7, 0, 0⟩
/-- CF_RING_TAIL (Table 14.9). -/
def CF_RING_TAIL (n : Nat) : Nat := 0x40100C + 32 * n
def CF_RING_TAIL_TAIL (n : Nat) : Fld := ⟨CF_RING_TAIL n, 11, 0, 0⟩
/-- CF_RING_HEAD (Table 14.9). -/
def CF_RING_HEAD (n : Nat) : Nat := 0x401010 + 32 * n
def CF_RING_HEAD_STATE (n : Nat) : Fld := ⟨CF_RING_HEAD n, 18, 16, 0⟩
def CF_RING_HEAD_HEAD (n : Nat) : Fld := ⟨CF_RING_HEAD n, 11, 0, 0⟩
/-- CF_RING_ERR (Table 14.9). -/
def CF_RING_ERR (n : Nat) : Nat := 0x401014 + 32 * n
def CF_RING_ERR_CMD_VALID (n : Nat) : Fld := ⟨CF_RING_ERR n, 20, 20, 0⟩
def CF_RING_ERR_CMD (n : Nat) : Fld := ⟨CF_RING_ERR n, 19, 8, 0⟩
def CF_RING_ERR_STATUS (n : Nat) : Fld := ⟨CF_RING_ERR n, 7, 0, 0⟩
/-- CF_RING_CTL (Table 14.9). -/
def CF_RING_CTL (n : Nat) : Nat := 0x401018 + 32 * n
def CF_RING_CTL_KEY (n : Nat) : Fld := ⟨CF_RING_CTL n, 31, 24, 0⟩
def CF_RING_CTL_ABORT (n : Nat) : Fld := ⟨CF_RING_CTL n, 1, 1, 0⟩
def CF_RING_CTL_RESUME (n : Nat) : Fld := ⟨CF_RING_CTL n, 0, 0, 0⟩
/-- CF_RING_RSVD (Table 14.9). -/
def CF_RING_RSVD (n : Nat) : Nat := 0x40101C + 32 * n
/-- CF_HANDLE0 (Table 14.10). -/
def CF_HANDLE0 (n : Nat) : Nat := 0x410000 + 16 * n
def CF_HANDLE0_KIND (n : Nat) : Fld := ⟨CF_HANDLE0 n, 31, 30, 0⟩
def CF_HANDLE0_ACTIVE (n : Nat) : Fld := ⟨CF_HANDLE0 n, 29, 29, 0⟩
def CF_HANDLE0_OWNER (n : Nat) : Fld := ⟨CF_HANDLE0 n, 28, 22, 0⟩
def CF_HANDLE0_SIZE (n : Nat) : Fld := ⟨CF_HANDLE0 n, 21, 0, 0⟩
/-- CF_HANDLE1 (Table 14.10). -/
def CF_HANDLE1 (n : Nat) : Nat := 0x410004 + 16 * n
def CF_HANDLE1_BANK1X (n : Nat) : Fld := ⟨CF_HANDLE1 n, 31, 30, 0⟩
def CF_HANDLE1_BANK1 (n : Nat) : Fld := ⟨CF_HANDLE1 n, 29, 16, 0⟩
def CF_HANDLE1_BANK0X (n : Nat) : Fld := ⟨CF_HANDLE1 n, 15, 14, 0⟩
def CF_HANDLE1_BANK0 (n : Nat) : Fld := ⟨CF_HANDLE1 n, 13, 0, 0⟩
/-- CF_HANDLE2 (Table 14.10). -/
def CF_HANDLE2 (n : Nat) : Nat := 0x410008 + 16 * n
def CF_HANDLE2_DIR (n : Nat) : Fld := ⟨CF_HANDLE2 n, 16, 0, 0⟩
/-- CF_HANDLE3 (Table 14.10). -/
def CF_HANDLE3 (n : Nat) : Nat := 0x41000C + 16 * n
def CF_HANDLE3_GEN (n : Nat) : Fld := ⟨CF_HANDLE3 n, 31, 0, 0⟩
/-- CF_VEC (Table 14.11). -/
def CF_VEC (n : Nat) : Nat := 0x420000 + 4 * n
def CF_VEC_PENDING (n : Nat) : Fld := ⟨CF_VEC n, 1, 1, 0⟩
def CF_VEC_MASK (n : Nat) : Fld := ⟨CF_VEC n, 0, 0, 1⟩
/-- CF_SLOTS (Table 14.12). -/
def CF_SLOTS : Nat := 0x430000
def CF_SLOTS_FREE : Fld := ⟨CF_SLOTS, 31, 0, 0⟩
/-- FL_CFG (Table 15.9). -/
def FL_CFG : Nat := 0x480000
def FL_CFG_HOLD : Fld := ⟨FL_CFG, 31, 16, 10000⟩
def FL_CFG_FAULT_VEC : Fld := ⟨FL_CFG, 15, 8, 0⟩
def FL_CFG_SAVE : Fld := ⟨FL_CFG, 1, 1, 0⟩
def FL_CFG_SAVE_BUSY : Fld := ⟨FL_CFG, 0, 0, 0⟩
/-- FL_STAT (Table 15.9). -/
def FL_STAT : Nat := 0x480004
def FL_STAT_HALTED : Fld := ⟨FL_STAT, 15, 0, 0⟩
/-- FL_FELL (Table 15.9). -/
def FL_FELL : Nat := 0x480008
def FL_FELL_REJECT : Fld := ⟨FL_FELL, 4, 4, 0⟩
def FL_FELL_LOG_FAULT : Fld := ⟨FL_FELL, 3, 3, 0⟩
def FL_FELL_LOG_FULL : Fld := ⟨FL_FELL, 2, 2, 0⟩
def FL_FELL_EXPIRED : Fld := ⟨FL_FELL, 1, 1, 0⟩
def FL_FELL_FAULT : Fld := ⟨FL_FELL, 0, 0, 0⟩
/-- FL_FLOG_BASE_LO (Table 15.9). -/
def FL_FLOG_BASE_LO : Nat := 0x480010
def FL_FLOG_BASE_LO_BASE : Fld := ⟨FL_FLOG_BASE_LO, 31, 5, 0⟩
/-- FL_FLOG_BASE_HI (Table 15.9). -/
def FL_FLOG_BASE_HI : Nat := 0x480014
def FL_FLOG_BASE_HI_BASE : Fld := ⟨FL_FLOG_BASE_HI, 15, 0, 0⟩
/-- FL_FLOG_CFG (Table 15.9). -/
def FL_FLOG_CFG : Nat := 0x480018
def FL_FLOG_CFG_ENABLE : Fld := ⟨FL_FLOG_CFG, 31, 31, 0⟩
def FL_FLOG_CFG_SIZE_LOG2 : Fld := ⟨FL_FLOG_CFG, 3, 0, 2⟩
/-- FL_FLOG_HEAD (Table 15.9). -/
def FL_FLOG_HEAD : Nat := 0x48001C
def FL_FLOG_HEAD_HEAD : Fld := ⟨FL_FLOG_HEAD, 9, 0, 0⟩
/-- FL_FLOG_TAIL (Table 15.9). -/
def FL_FLOG_TAIL : Nat := 0x480020
def FL_FLOG_TAIL_TAIL : Fld := ⟨FL_FLOG_TAIL, 9, 0, 0⟩
/-- FL_INV (Table 15.9). -/
def FL_INV : Nat := 0x480030
def FL_INV_GO : Fld := ⟨FL_INV, 31, 31, 0⟩
def FL_INV_BUSY : Fld := ⟨FL_INV, 30, 30, 0⟩
def FL_INV_ALL : Fld := ⟨FL_INV, 29, 29, 0⟩
def FL_INV_CONTEXT : Fld := ⟨FL_INV, 6, 0, 0⟩
/-- FL_FE_FAULT (Table 15.9). -/
def FL_FE_FAULT (n : Nat) : Nat := 0x480040 + 4 * n
def FL_FE_FAULT_WORD0_to_WORD7 (n : Nat) : Fld := ⟨FL_FE_FAULT n, 31, 0, 0⟩
/-- FL_CTX0 (Table 15.10). -/
def FL_CTX0 (n : Nat) : Nat := 0x481000 + 8 * n
def FL_CTX0_ROOT (n : Nat) : Fld := ⟨FL_CTX0 n, 31, 12, 0⟩
def FL_CTX0_ENABLE (n : Nat) : Fld := ⟨FL_CTX0 n, 0, 0, 0⟩
/-- FL_CTX1 (Table 15.10). -/
def FL_CTX1 (n : Nat) : Nat := 0x481004 + 8 * n
def FL_CTX1_ROOT (n : Nat) : Fld := ⟨FL_CTX1 n, 19, 0, 0⟩
/-- FL_CH_CFG (Table 15.11). -/
def FL_CH_CFG (n : Nat) : Nat := 0x482000 + 64 * n
def FL_CH_CFG_CLASS (n : Nat) : Fld := ⟨FL_CH_CFG n, 30, 29, 0⟩
def FL_CH_CFG_CONTEXT (n : Nat) : Fld := ⟨FL_CH_CFG n, 28, 22, 0⟩
def FL_CH_CFG_DIR (n : Nat) : Fld := ⟨FL_CH_CFG n, 21, 21, 0⟩
def FL_CH_CFG_IRQ (n : Nat) : Fld := ⟨FL_CH_CFG n, 20, 20, 0⟩
def FL_CH_CFG_VEC (n : Nat) : Fld := ⟨FL_CH_CFG n, 19, 12, 0⟩
/-- FL_CH_IOVA_LO (Table 15.11). -/
def FL_CH_IOVA_LO (n : Nat) : Nat := 0x482004 + 64 * n
def FL_CH_IOVA_LO_IOVA (n : Nat) : Fld := ⟨FL_CH_IOVA_LO n, 31, 3, 0⟩
/-- FL_CH_IOVA_HI (Table 15.11). -/
def FL_CH_IOVA_HI (n : Nat) : Nat := 0x482008 + 64 * n
def FL_CH_IOVA_HI_IOVA (n : Nat) : Fld := ⟨FL_CH_IOVA_HI n, 15, 0, 0⟩
/-- FL_CH_TSRAM (Table 15.11). -/
def FL_CH_TSRAM (n : Nat) : Nat := 0x48200C + 64 * n
def FL_CH_TSRAM_OFFSET (n : Nat) : Fld := ⟨FL_CH_TSRAM n, 19, 3, 0⟩
/-- FL_CH_LEN (Table 15.11). -/
def FL_CH_LEN (n : Nat) : Nat := 0x482010 + 64 * n
def FL_CH_LEN_LEN (n : Nat) : Fld := ⟨FL_CH_LEN n, 20, 0, 0⟩
/-- FL_CH_DONE (Table 15.11). -/
def FL_CH_DONE (n : Nat) : Nat := 0x482014 + 64 * n
def FL_CH_DONE_DONE (n : Nat) : Fld := ⟨FL_CH_DONE n, 20, 0, 0⟩
/-- FL_CH_CTL (Table 15.11). -/
def FL_CH_CTL (n : Nat) : Nat := 0x482018 + 64 * n
def FL_CH_CTL_KEY (n : Nat) : Fld := ⟨FL_CH_CTL n, 31, 24, 0⟩
def FL_CH_CTL_ABORT (n : Nat) : Fld := ⟨FL_CH_CTL n, 2, 2, 0⟩
def FL_CH_CTL_RESUME (n : Nat) : Fld := ⟨FL_CH_CTL n, 1, 1, 0⟩
def FL_CH_CTL_START (n : Nat) : Fld := ⟨FL_CH_CTL n, 0, 0, 0⟩
/-- FL_CH_STAT (Table 15.11). -/
def FL_CH_STAT (n : Nat) : Nat := 0x48201C + 64 * n
def FL_CH_STAT_STATE (n : Nat) : Fld := ⟨FL_CH_STAT n, 2, 0, 0⟩
/-- FL_CH_FAULT (Table 15.11). -/
def FL_CH_FAULT (n : Nat) (j : Nat) : Nat := 0x482020 + 64 * n + 4 * j
def FL_CH_FAULT_WORD0_to_WORD7 (n : Nat) (j : Nat) : Fld := ⟨FL_CH_FAULT n j, 31, 0, 0⟩
/-- FL_TLB_STAT (Table 15.12). -/
def FL_TLB_STAT : Nat := 0x480070
def FL_TLB_STAT_VALID : Fld := ⟨FL_TLB_STAT, 10, 0, 0⟩
/-- VX_CTL (Table 16.11). -/
def VX_CTL : Nat := 0x500000
def VX_CTL_SAVE : Fld := ⟨VX_CTL, 1, 1, 0⟩
def VX_CTL_SAVE_BUSY : Fld := ⟨VX_CTL, 0, 0, 0⟩
/-- VX_PROV (Table 16.11). -/
def VX_PROV : Nat := 0x500004
def VX_PROV_CATCH : Fld := ⟨VX_PROV, 31, 24, 0⟩
def VX_PROV_GROUP : Fld := ⟨VX_PROV, 23, 15, 0⟩
def VX_PROV_MEMBER : Fld := ⟨VX_PROV, 14, 0, 0⟩
/-- VX_PROV2 (Table 16.11). -/
def VX_PROV2 : Nat := 0x500008
def VX_PROV2_ADDR_PROV : Fld := ⟨VX_PROV2, 31, 31, 0⟩
def VX_PROV2_CG_PROV : Fld := ⟨VX_PROV2, 30, 30, 0⟩
def VX_PROV2_FOREIGN : Fld := ⟨VX_PROV2, 29, 29, 0⟩
def VX_PROV2_TPRIO : Fld := ⟨VX_PROV2, 7, 0, 128⟩
/-- VX_ADDR (Table 16.11). -/
def VX_ADDR : Nat := 0x500010
def VX_ADDR_ADDRESS : Fld := ⟨VX_ADDR, 31, 0, 0⟩
/-- VX_STAT (Table 16.11). -/
def VX_STAT : Nat := 0x500014
def VX_STAT_THOPS : Fld := ⟨VX_STAT, 31, 24, 0⟩
def VX_STAT_CHOPS : Fld := ⟨VX_STAT, 23, 16, 0⟩
def VX_STAT_BORDER : Fld := ⟨VX_STAT, 7, 7, 0⟩
def VX_STAT_PPS_VALID : Fld := ⟨VX_STAT, 6, 6, 0⟩
def VX_STAT_HOLDOVER : Fld := ⟨VX_STAT, 5, 5, 0⟩
def VX_STAT_LOCKED : Fld := ⟨VX_STAT, 4, 4, 0⟩
def VX_STAT_CROOT : Fld := ⟨VX_STAT, 3, 3, 0⟩
def VX_STAT_GROOT : Fld := ⟨VX_STAT, 2, 2, 0⟩
def VX_STAT_ADDR_KIND : Fld := ⟨VX_STAT, 1, 0, 0⟩
/-- VX_FELL (Table 16.11). -/
def VX_FELL : Nat := 0x500018
def VX_FELL_REJECT : Fld := ⟨VX_FELL, 4, 4, 0⟩
def VX_FELL_TABLE : Fld := ⟨VX_FELL, 3, 3, 0⟩
def VX_FELL_CONFLICT : Fld := ⟨VX_FELL, 2, 2, 0⟩
def VX_FELL_TIME : Fld := ⟨VX_FELL, 1, 1, 0⟩
def VX_FELL_PORT : Fld := ⟨VX_FELL, 0, 0, 0⟩
/-- VX_NOTICE_Q (Table 16.11). -/
def VX_NOTICE_Q : Nat := 0x50001C
def VX_NOTICE_Q_VALID : Fld := ⟨VX_NOTICE_Q, 31, 31, 0⟩
def VX_NOTICE_Q_QUEUE : Fld := ⟨VX_NOTICE_Q, 11, 0, 0⟩
/-- VX_TIME_NOW_LO (Table 16.11). -/
def VX_TIME_NOW_LO : Nat := 0x500020
def VX_TIME_NOW_LO_NOW : Fld := ⟨VX_TIME_NOW_LO, 31, 0, 0⟩
/-- VX_TIME_NOW_HI (Table 16.11). -/
def VX_TIME_NOW_HI : Nat := 0x500024
def VX_TIME_NOW_HI_NOW : Fld := ⟨VX_TIME_NOW_HI, 31, 0, 0⟩
/-- VX_TIME_SET_LO (Table 16.11). -/
def VX_TIME_SET_LO : Nat := 0x500028
def VX_TIME_SET_LO_SET : Fld := ⟨VX_TIME_SET_LO, 31, 0, 0⟩
/-- VX_TIME_SET_HI (Table 16.11). -/
def VX_TIME_SET_HI : Nat := 0x50002C
def VX_TIME_SET_HI_SET : Fld := ⟨VX_TIME_SET_HI, 31, 0, 0⟩
/-- VX_TIME_CTL (Table 16.11). -/
def VX_TIME_CTL : Nat := 0x500030
def VX_TIME_CTL_KEY : Fld := ⟨VX_TIME_CTL, 31, 24, 0⟩
def VX_TIME_CTL_APPLY : Fld := ⟨VX_TIME_CTL, 0, 0, 0⟩
/-- VX_TIME_OFS (Table 16.11). -/
def VX_TIME_OFS : Nat := 0x500034
def VX_TIME_OFS_THETA : Fld := ⟨VX_TIME_OFS, 31, 0, 0⟩
/-- VX_TROOT_LO (Table 16.11). -/
def VX_TROOT_LO : Nat := 0x500038
def VX_TROOT_LO_ROOT : Fld := ⟨VX_TROOT_LO, 31, 0, 0⟩
/-- VX_TROOT_HI (Table 16.11). -/
def VX_TROOT_HI : Nat := 0x50003C
def VX_TROOT_HI_ROOT : Fld := ⟨VX_TROOT_HI, 31, 0, 0⟩
/-- VX_DB (Table 16.11). -/
def VX_DB : Nat := 0x500040
def VX_DB_SUMMARIES : Fld := ⟨VX_DB, 28, 16, 0⟩
def VX_DB_LSAS : Fld := ⟨VX_DB, 15, 0, 0⟩
/-- VX_PORT_CFG (Table 16.12). -/
def VX_PORT_CFG (n : Nat) : Nat := 0x500100 + 32 * n
def VX_PORT_CFG_ENABLE (n : Nat) : Fld := ⟨VX_PORT_CFG n, 31, 31, 0⟩
def VX_PORT_CFG_MODE (n : Nat) : Fld := ⟨VX_PORT_CFG n, 30, 30, 0⟩
def VX_PORT_CFG_FEC (n : Nat) : Fld := ⟨VX_PORT_CFG n, 29, 29, 0⟩
def VX_PORT_CFG_BORDER_CATCH (n : Nat) : Fld := ⟨VX_PORT_CFG n, 28, 28, 0⟩
def VX_PORT_CFG_COST (n : Nat) : Fld := ⟨VX_PORT_CFG n, 27, 20, 1⟩
def VX_PORT_CFG_ASYM (n : Nat) : Fld := ⟨VX_PORT_CFG n, 19, 12, 0⟩
/-- VX_PORT_STAT (Table 16.12). -/
def VX_PORT_STAT (n : Nat) : Nat := 0x500104 + 32 * n
def VX_PORT_STAT_LINK (n : Nat) : Fld := ⟨VX_PORT_STAT n, 31, 30, 0⟩
def VX_PORT_STAT_NBR (n : Nat) : Fld := ⟨VX_PORT_STAT n, 29, 28, 0⟩
def VX_PORT_STAT_FEC_ON (n : Nat) : Fld := ⟨VX_PORT_STAT n, 27, 27, 0⟩
def VX_PORT_STAT_TPARENT (n : Nat) : Fld := ⟨VX_PORT_STAT n, 26, 26, 0⟩
/-- VX_PORT_NBR (Table 16.12). -/
def VX_PORT_NBR (n : Nat) : Nat := 0x500108 + 32 * n
def VX_PORT_NBR_ADDRESS (n : Nat) : Fld := ⟨VX_PORT_NBR n, 31, 0, 0⟩
/-- VX_PORT_NBRID_LO (Table 16.12). -/
def VX_PORT_NBRID_LO (n : Nat) : Nat := 0x50010C + 32 * n
def VX_PORT_NBRID_LO_IDENTITY (n : Nat) : Fld := ⟨VX_PORT_NBRID_LO n, 31, 0, 0⟩
/-- VX_PORT_NBRID_HI (Table 16.12). -/
def VX_PORT_NBRID_HI (n : Nat) : Nat := 0x500110 + 32 * n
def VX_PORT_NBRID_HI_IDENTITY (n : Nat) : Fld := ⟨VX_PORT_NBRID_HI n, 31, 0, 0⟩
/-- VX_PORT_ERR (Table 16.13). -/
def VX_PORT_ERR (n : Nat) : Nat := 0x500114 + 32 * n
def VX_PORT_ERR_ERRORS (n : Nat) : Fld := ⟨VX_PORT_ERR n, 31, 0, 0⟩
/-- VX_PORT_DROP (Table 16.13). -/
def VX_PORT_DROP (n : Nat) : Nat := 0x500118 + 32 * n
def VX_PORT_DROP_DROPS (n : Nat) : Fld := ⟨VX_PORT_DROP n, 31, 0, 0⟩
/-- VX_PORT_RSVD (Table 16.13). -/
def VX_PORT_RSVD (n : Nat) : Nat := 0x50011C + 32 * n
/-- VX_REP0 (Table 16.14). -/
def VX_REP0 (n : Nat) : Nat := 0x510000 + 16 * n
def VX_REP0_ADDRESS (n : Nat) : Fld := ⟨VX_REP0 n, 31, 0, 0⟩
/-- VX_REP1 (Table 16.14). -/
def VX_REP1 (n : Nat) : Nat := 0x510004 + 16 * n
def VX_REP1_VALID (n : Nat) : Fld := ⟨VX_REP1 n, 31, 31, 0⟩
def VX_REP1_TELEM (n : Nat) : Fld := ⟨VX_REP1 n, 30, 30, 0⟩
def VX_REP1_QUEUE (n : Nat) : Fld := ⟨VX_REP1 n, 11, 0, 0⟩
/-- VX_REP2 (Table 16.14). -/
def VX_REP2 (n : Nat) : Nat := 0x510008 + 16 * n
def VX_REP2_LAST_CODE (n : Nat) : Fld := ⟨VX_REP2 n, 31, 24, 0⟩
def VX_REP2_NOTICES (n : Nat) : Fld := ⟨VX_REP2 n, 15, 0, 0⟩
/-- VX_REP3 (Table 16.14). -/
def VX_REP3 (n : Nat) : Nat := 0x51000C + 16 * n
/-- VX_CB_CTL (Table 17.7). -/
def VX_CB_CTL : Nat := 0x500400
def VX_CB_CTL_KEY : Fld := ⟨VX_CB_CTL, 31, 24, 0⟩
def VX_CB_CTL_PERIOD : Fld := ⟨VX_CB_CTL, 9, 8, 0⟩
def VX_CB_CTL_INJECT : Fld := ⟨VX_CB_CTL, 0, 0, 0⟩
/-- VX_CEIL_SET (Table 17.7). -/
def VX_CEIL_SET : Nat := 0x500404
def VX_CEIL_SET_CEIL : Fld := ⟨VX_CEIL_SET, 31, 0, 0⟩
/-- VX_ORPH_SET (Table 17.7). -/
def VX_ORPH_SET : Nat := 0x500408
def VX_ORPH_SET_ORPH_TOTAL : Fld := ⟨VX_ORPH_SET, 31, 0, 0⟩
/-- VX_CEIL (Table 17.7). -/
def VX_CEIL : Nat := 0x500410
def VX_CEIL_CEIL : Fld := ⟨VX_CEIL, 31, 0, 0⟩
/-- VX_ORPH_TOTAL (Table 17.7). -/
def VX_ORPH_TOTAL : Nat := 0x500414
def VX_ORPH_TOTAL_ORPH_TOTAL : Fld := ⟨VX_ORPH_TOTAL, 31, 0, 0⟩
/-- VX_CVER (Table 17.7). -/
def VX_CVER : Nat := 0x500418
def VX_CVER_VERSION : Fld := ⟨VX_CVER, 31, 0, 0⟩
/-- VX_CB_HELD (Table 17.7). -/
def VX_CB_HELD : Nat := 0x50041C
def VX_CB_HELD_PERIOD : Fld := ⟨VX_CB_HELD, 1, 0, 0⟩
/-- VX_CB_CFG (Table 17.7). -/
def VX_CB_CFG : Nat := 0x500420
def VX_CB_CFG_ORPHAN : Fld := ⟨VX_CB_CFG, 31, 16, 1200⟩
def VX_CB_CFG_SHED_PCT : Fld := ⟨VX_CB_CFG, 6, 0, 40⟩
/-- VX_CB_CFG2 (Table 17.7). -/
def VX_CB_CFG2 : Nat := 0x500424
def VX_CB_CFG2_PKG_MAX : Fld := ⟨VX_CB_CFG2, 31, 16, 3600⟩
def VX_CB_CFG2_GROW_W : Fld := ⟨VX_CB_CFG2, 15, 0, 100⟩
/-- VX_SHED_CFG (Table 17.7). -/
def VX_SHED_CFG : Nat := 0x500428
def VX_SHED_CFG_SHED_HOLD : Fld := ⟨VX_SHED_CFG, 31, 24, 20⟩
def VX_SHED_CFG_SHED_REFRESH : Fld := ⟨VX_SHED_CFG, 23, 16, 5⟩
/-- VX_SHARE (Table 17.8). -/
def VX_SHARE : Nat := 0x500430
def VX_SHARE_SHARE : Fld := ⟨VX_SHARE, 31, 16, 0⟩
def VX_SHARE_DEMAND : Fld := ⟨VX_SHARE, 15, 0, 0⟩
/-- VX_CB_STAT (Table 17.8). -/
def VX_CB_STAT : Nat := 0x500434
def VX_CB_STAT_ALLOT_AGE : Fld := ⟨VX_CB_STAT, 31, 16, 0⟩
def VX_CB_STAT_ORPHAN : Fld := ⟨VX_CB_STAT, 6, 6, 0⟩
def VX_CB_STAT_SHED : Fld := ⟨VX_CB_STAT, 5, 5, 0⟩
def VX_CB_STAT_SHED_LOCAL : Fld := ⟨VX_CB_STAT, 4, 4, 0⟩
def VX_CB_STAT_ROOT : Fld := ⟨VX_CB_STAT, 3, 3, 0⟩
def VX_CB_STAT_MAJORITY : Fld := ⟨VX_CB_STAT, 2, 2, 0⟩
def VX_CB_STAT_COPY : Fld := ⟨VX_CB_STAT, 1, 1, 0⟩
/-- VX_SUB_DEMAND (Table 17.8). -/
def VX_SUB_DEMAND : Nat := 0x500438
def VX_SUB_DEMAND_DEMAND : Fld := ⟨VX_SUB_DEMAND, 31, 0, 0⟩
/-- VX_SUB_FLOOR (Table 17.8). -/
def VX_SUB_FLOOR : Nat := 0x50043C
def VX_SUB_FLOOR_FLOOR : Fld := ⟨VX_SUB_FLOOR, 31, 0, 0⟩
/-- VX_SUB_PKGS (Table 17.8). -/
def VX_SUB_PKGS : Nat := 0x500440
def VX_SUB_PKGS_PKGS : Fld := ⟨VX_SUB_PKGS, 18, 0, 0⟩
/-- VX_SUB_ALLOT (Table 17.8). -/
def VX_SUB_ALLOT : Nat := 0x500444
def VX_SUB_ALLOT_ALLOT : Fld := ⟨VX_SUB_ALLOT, 31, 0, 0⟩
/-- VX_SHED_STAT (Table 17.8). -/
def VX_SHED_STAT : Nat := 0x500448
def VX_SHED_STAT_LEVEL : Fld := ⟨VX_SHED_STAT, 31, 16, 0⟩
def VX_SHED_STAT_REMAIN : Fld := ⟨VX_SHED_STAT, 15, 0, 0⟩
/-- VX_STAGGER (Table 17.8). -/
def VX_STAGGER : Nat := 0x50044C
def VX_STAGGER_SLOT : Fld := ⟨VX_STAGGER, 7, 0, 0⟩
/-- VX_CB_FELL (Table 17.8). -/
def VX_CB_FELL : Nat := 0x500450
def VX_CB_FELL_SHED : Fld := ⟨VX_CB_FELL, 4, 4, 0⟩
def VX_CB_FELL_FLOOR_EXCESS : Fld := ⟨VX_CB_FELL, 3, 3, 0⟩
def VX_CB_FELL_HELD_DOWN : Fld := ⟨VX_CB_FELL, 2, 2, 0⟩
def VX_CB_FELL_ORPHAN : Fld := ⟨VX_CB_FELL, 1, 1, 0⟩
def VX_CB_FELL_REJECT : Fld := ⟨VX_CB_FELL, 0, 0, 0⟩
/-- VX_CHILD0 (Table 17.9). -/
def VX_CHILD0 (n : Nat) : Nat := 0x500480 + 16 * n
def VX_CHILD0_DEMAND (n : Nat) : Fld := ⟨VX_CHILD0 n, 31, 0, 0⟩
/-- VX_CHILD1 (Table 17.9). -/
def VX_CHILD1 (n : Nat) : Nat := 0x500484 + 16 * n
def VX_CHILD1_FLOOR (n : Nat) : Fld := ⟨VX_CHILD1 n, 31, 0, 0⟩
/-- VX_CHILD2 (Table 17.9). -/
def VX_CHILD2 (n : Nat) : Nat := 0x500488 + 16 * n
def VX_CHILD2_CHILD (n : Nat) : Fld := ⟨VX_CHILD2 n, 31, 31, 0⟩
def VX_CHILD2_HELD_DOWN (n : Nat) : Fld := ⟨VX_CHILD2 n, 30, 30, 0⟩
def VX_CHILD2_PKGS (n : Nat) : Fld := ⟨VX_CHILD2 n, 18, 0, 0⟩
/-- VX_CHILD3 (Table 17.9). -/
def VX_CHILD3 (n : Nat) : Nat := 0x50048C + 16 * n
def VX_CHILD3_ALLOT (n : Nat) : Fld := ⟨VX_CHILD3 n, 31, 0, 0⟩
/-- TW_CTL (Table 18.13). -/
def TW_CTL : Nat := 0x580000
def TW_CTL_KEY : Fld := ⟨TW_CTL, 31, 24, 0⟩
def TW_CTL_FORCE_CLAIM : Fld := ⟨TW_CTL, 1, 1, 0⟩
def TW_CTL_HANDOVER : Fld := ⟨TW_CTL, 0, 0, 0⟩
/-- TW_CFG (Table 18.13). -/
def TW_CFG : Nat := 0x580004
def TW_CFG_NO_CLAIM : Fld := ⟨TW_CFG, 0, 0, 0⟩
/-- TW_STAT (Table 18.13). -/
def TW_STAT : Nat := 0x580008
def TW_STAT_CLAIM_NS : Fld := ⟨TW_STAT, 31, 16, 0⟩
def TW_STAT_NET_LOW : Fld := ⟨TW_STAT, 8, 8, 0⟩
def TW_STAT_ELIGIBLE : Fld := ⟨TW_STAT, 7, 7, 0⟩
def TW_STAT_PREFERRED : Fld := ⟨TW_STAT, 6, 6, 0⟩
def TW_STAT_SPLIT : Fld := ⟨TW_STAT, 5, 5, 0⟩
def TW_STAT_LINK_UP : Fld := ⟨TW_STAT, 4, 4, 0⟩
def TW_STAT_IN_STEP : Fld := ⟨TW_STAT, 3, 3, 0⟩
def TW_STAT_ROLE : Fld := ⟨TW_STAT, 2, 0, 0⟩
/-- TW_FELL (Table 18.13). -/
def TW_FELL : Nat := 0x58000C
def TW_FELL_INTERLOCK : Fld := ⟨TW_FELL, 5, 5, 0⟩
def TW_FELL_CONTENTION : Fld := ⟨TW_FELL, 4, 4, 0⟩
def TW_FELL_HANDOVER_REFUSED : Fld := ⟨TW_FELL, 3, 3, 0⟩
def TW_FELL_SPLIT : Fld := ⟨TW_FELL, 2, 2, 0⟩
def TW_FELL_LINK_LOST : Fld := ⟨TW_FELL, 1, 1, 0⟩
def TW_FELL_TAKEOVER : Fld := ⟨TW_FELL, 0, 0, 0⟩
/-- TW_COUNT (Table 18.14). -/
def TW_COUNT : Nat := 0x580010
def TW_COUNT_TAKEOVERS : Fld := ⟨TW_COUNT, 31, 16, 0⟩
def TW_COUNT_BAD_FRAMES : Fld := ⟨TW_COUNT, 15, 0, 0⟩
/-- TW_LAG (Table 18.14). -/
def TW_LAG : Nat := 0x580014
def TW_LAG_TILES_PENDING : Fld := ⟨TW_LAG, 7, 0, 0⟩
/-- TW_PEER_LO (Table 18.14). -/
def TW_PEER_LO : Nat := 0x580018
def TW_PEER_LO_IDENTITY : Fld := ⟨TW_PEER_LO, 31, 0, 0⟩
/-- TW_PEER_HI (Table 18.14). -/
def TW_PEER_HI : Nat := 0x58001C
def TW_PEER_HI_IDENTITY : Fld := ⟨TW_PEER_HI, 31, 0, 0⟩
/-- LG_CTL (Table 19.6). -/
def LG_CTL : Nat := 0x600000
def LG_CTL_KEY : Fld := ⟨LG_CTL, 31, 24, 0⟩
def LG_CTL_SAVE : Fld := ⟨LG_CTL, 3, 3, 0⟩
def LG_CTL_CLEAR : Fld := ⟨LG_CTL, 2, 2, 0⟩
def LG_CTL_FLUSH : Fld := ⟨LG_CTL, 1, 1, 0⟩
/-- LG_STAT (Table 19.6). -/
def LG_STAT : Nat := 0x600004
def LG_STAT_SPARES : Fld := ⟨LG_STAT, 25, 20, 0⟩
def LG_STAT_STORE : Fld := ⟨LG_STAT, 19, 18, 0⟩
def LG_STAT_CLEAR_PENDING : Fld := ⟨LG_STAT, 17, 17, 0⟩
def LG_STAT_ERASING : Fld := ⟨LG_STAT, 16, 16, 0⟩
def LG_STAT_SAVE_BUSY : Fld := ⟨LG_STAT, 15, 15, 0⟩
def LG_STAT_UNFLUSHED : Fld := ⟨LG_STAT, 8, 0, 0⟩
/-- LG_NEXT_LO (Table 19.6). -/
def LG_NEXT_LO : Nat := 0x600008
def LG_NEXT_LO_SEQ : Fld := ⟨LG_NEXT_LO, 31, 0, 0⟩
/-- LG_NEXT_HI (Table 19.6). -/
def LG_NEXT_HI : Nat := 0x60000C
def LG_NEXT_HI_SEQ : Fld := ⟨LG_NEXT_HI, 31, 0, 0⟩
/-- LG_OLDEST_LO (Table 19.6). -/
def LG_OLDEST_LO : Nat := 0x600010
def LG_OLDEST_LO_SEQ : Fld := ⟨LG_OLDEST_LO, 31, 0, 0⟩
/-- LG_OLDEST_HI (Table 19.6). -/
def LG_OLDEST_HI : Nat := 0x600014
def LG_OLDEST_HI_SEQ : Fld := ⟨LG_OLDEST_HI, 31, 0, 0⟩
/-- LG_FLUSHED_LO (Table 19.6). -/
def LG_FLUSHED_LO : Nat := 0x600018
def LG_FLUSHED_LO_SEQ : Fld := ⟨LG_FLUSHED_LO, 31, 0, 0⟩
/-- LG_FLUSHED_HI (Table 19.6). -/
def LG_FLUSHED_HI : Nat := 0x60001C
def LG_FLUSHED_HI_SEQ : Fld := ⟨LG_FLUSHED_HI, 31, 0, 0⟩
/-- LG_CAP (Table 19.6). -/
def LG_CAP : Nat := 0x600020
def LG_CAP_SECTORS : Fld := ⟨LG_CAP, 10, 0, 0⟩
/-- LG_FELL (Table 19.6). -/
def LG_FELL : Nat := 0x600024
def LG_FELL_CLEARED : Fld := ⟨LG_FELL, 6, 6, 0⟩
def LG_FELL_STREAM_GAP : Fld := ⟨LG_FELL, 5, 5, 0⟩
def LG_FELL_TAIL_LOST : Fld := ⟨LG_FELL, 4, 4, 0⟩
def LG_FELL_STORE_FAIL : Fld := ⟨LG_FELL, 3, 3, 0⟩
def LG_FELL_RETIRED : Fld := ⟨LG_FELL, 2, 2, 0⟩
def LG_FELL_OVERFLOW : Fld := ⟨LG_FELL, 1, 1, 0⟩
def LG_FELL_SUPPRESSED : Fld := ⟨LG_FELL, 0, 0, 0⟩
/-- LG_RL_DEF (Table 19.6). -/
def LG_RL_DEF : Nat := 0x600028
def LG_RL_DEF_BURST : Fld := ⟨LG_RL_DEF, 31, 24, 8⟩
def LG_RL_DEF_REFILL_MS : Fld := ⟨LG_RL_DEF, 15, 0, 1000⟩
/-- LG_SUPPR (Table 19.6). -/
def LG_SUPPR : Nat := 0x60002C
def LG_SUPPR_CODES : Fld := ⟨LG_SUPPR, 31, 16, 0⟩
def LG_SUPPR_COUNT : Fld := ⟨LG_SUPPR, 15, 0, 0⟩
/-- LG_CURSOR_LO (Table 19.7). -/
def LG_CURSOR_LO : Nat := 0x600040
def LG_CURSOR_LO_SEQ : Fld := ⟨LG_CURSOR_LO, 31, 0, 0⟩
/-- LG_CURSOR_HI (Table 19.7). -/
def LG_CURSOR_HI : Nat := 0x600044
def LG_CURSOR_HI_SEQ : Fld := ⟨LG_CURSOR_HI, 31, 0, 0⟩
/-- LG_WIN_STAT (Table 19.7). -/
def LG_WIN_STAT : Nat := 0x600048
def LG_WIN_STAT_READY : Fld := ⟨LG_WIN_STAT, 31, 31, 0⟩
def LG_WIN_STAT_COUNT : Fld := ⟨LG_WIN_STAT, 7, 0, 0⟩
/-- LG_WIN (Table 19.7). -/
def LG_WIN (n : Nat) : Nat := 0x610000 + 4 * n
def LG_WIN_WORD (n : Nat) : Fld := ⟨LG_WIN n, 31, 0, 0⟩
/-- LG_ST_CFG (Table 19.8). -/
def LG_ST_CFG : Nat := 0x600080
def LG_ST_CFG_ENABLE : Fld := ⟨LG_ST_CFG, 31, 31, 0⟩
def LG_ST_CFG_VEC : Fld := ⟨LG_ST_CFG, 23, 16, 0⟩
def LG_ST_CFG_SIZE_LOG2 : Fld := ⟨LG_ST_CFG, 15, 12, 4⟩
/-- LG_ST_BASE_LO (Table 19.8). -/
def LG_ST_BASE_LO : Nat := 0x600084
def LG_ST_BASE_LO_BASE : Fld := ⟨LG_ST_BASE_LO, 31, 6, 0⟩
/-- LG_ST_BASE_HI (Table 19.8). -/
def LG_ST_BASE_HI : Nat := 0x600088
def LG_ST_BASE_HI_BASE : Fld := ⟨LG_ST_BASE_HI, 15, 0, 0⟩
/-- LG_ST_STAGE (Table 19.8). -/
def LG_ST_STAGE : Nat := 0x60008C
def LG_ST_STAGE_OFFSET : Fld := ⟨LG_ST_STAGE, 19, 12, 0⟩
/-- LG_ST_HEAD (Table 19.8). -/
def LG_ST_HEAD : Nat := 0x600090
def LG_ST_HEAD_HEAD : Fld := ⟨LG_ST_HEAD, 14, 0, 0⟩
/-- LG_ST_TAIL (Table 19.8). -/
def LG_ST_TAIL : Nat := 0x600094
def LG_ST_TAIL_TAIL : Fld := ⟨LG_ST_TAIL, 14, 0, 0⟩
/-- LG_RL0 (Table 19.9). -/
def LG_RL0 (n : Nat) : Nat := 0x601000 + 8 * n
def LG_RL0_VALID (n : Nat) : Fld := ⟨LG_RL0 n, 31, 31, 0⟩
def LG_RL0_NOLIMIT (n : Nat) : Fld := ⟨LG_RL0 n, 30, 30, 0⟩
def LG_RL0_CODE (n : Nat) : Fld := ⟨LG_RL0 n, 15, 0, 0⟩
/-- LG_RL1 (Table 19.9). -/
def LG_RL1 (n : Nat) : Nat := 0x601004 + 8 * n
def LG_RL1_BURST (n : Nat) : Fld := ⟨LG_RL1 n, 31, 24, 8⟩
def LG_RL1_REFILL_MS (n : Nat) : Fld := ⟨LG_RL1 n, 15, 0, 1000⟩
/-- SE_CTL (Table 20.11). -/
def SE_CTL : Nat := 0x700000
def SE_CTL_KEY : Fld := ⟨SE_CTL, 31, 24, 0⟩
def SE_CTL_SLOT : Fld := ⟨SE_CTL, 8, 8, 0⟩
def SE_CTL_RELOCK : Fld := ⟨SE_CTL, 3, 3, 0⟩
def SE_CTL_COMMIT : Fld := ⟨SE_CTL, 2, 2, 0⟩
def SE_CTL_VERIFY : Fld := ⟨SE_CTL, 1, 1, 0⟩
/-- SE_STAT (Table 20.11). -/
def SE_STAT : Nat := 0x700004
def SE_STAT_COUNTER : Fld := ⟨SE_STAT, 31, 24, 0⟩
def SE_STAT_EPOCH : Fld := ⟨SE_STAT, 23, 16, 0⟩
def SE_STAT_KEYS : Fld := ⟨SE_STAT, 15, 8, 0⟩
def SE_STAT_DEBUG_UNLOCKED : Fld := ⟨SE_STAT, 7, 7, 0⟩
def SE_STAT_PROV_OPEN : Fld := ⟨SE_STAT, 6, 6, 0⟩
def SE_STAT_BUSY : Fld := ⟨SE_STAT, 5, 5, 0⟩
def SE_STAT_FELL_BACK : Fld := ⟨SE_STAT, 4, 4, 0⟩
def SE_STAT_LOADED : Fld := ⟨SE_STAT, 3, 3, 0⟩
/-- SE_SLOT (Table 20.11). -/
def SE_SLOT : Nat := 0x700008
def SE_SLOT_KEY : Fld := ⟨SE_SLOT, 31, 24, 0⟩
def SE_SLOT_ACTIVE : Fld := ⟨SE_SLOT, 8, 8, 0⟩
def SE_SLOT_RESULT_B : Fld := ⟨SE_SLOT, 3, 2, 0⟩
def SE_SLOT_RESULT_A : Fld := ⟨SE_SLOT, 1, 0, 0⟩
/-- SE_CHAL_CTL (Table 20.11). -/
def SE_CHAL_CTL : Nat := 0x700010
def SE_CHAL_CTL_KEY : Fld := ⟨SE_CHAL_CTL, 31, 24, 0⟩
def SE_CHAL_CTL_PERMS : Fld := ⟨SE_CHAL_CTL, 23, 20, 0⟩
def SE_CHAL_CTL_TARGET : Fld := ⟨SE_CHAL_CTL, 18, 16, 0⟩
def SE_CHAL_CTL_PURPOSE : Fld := ⟨SE_CHAL_CTL, 14, 12, 0⟩
def SE_CHAL_CTL_CANCEL : Fld := ⟨SE_CHAL_CTL, 2, 2, 0⟩
def SE_CHAL_CTL_SUBMIT : Fld := ⟨SE_CHAL_CTL, 1, 1, 0⟩
def SE_CHAL_CTL_REQUEST : Fld := ⟨SE_CHAL_CTL, 0, 0, 0⟩
/-- SE_CHAL_STAT (Table 20.11). -/
def SE_CHAL_STAT : Nat := 0x700014
def SE_CHAL_STAT_SECONDS_LEFT : Fld := ⟨SE_CHAL_STAT, 31, 16, 0⟩
def SE_CHAL_STAT_RESULT : Fld := ⟨SE_CHAL_STAT, 7, 4, 0⟩
def SE_CHAL_STAT_PENDING : Fld := ⟨SE_CHAL_STAT, 2, 0, 0⟩
/-- SE_CHAL (Table 20.11). -/
def SE_CHAL (n : Nat) : Nat := 0x700100 + 4 * n
def SE_CHAL_WORD (n : Nat) : Fld := ⟨SE_CHAL n, 31, 0, 0⟩
/-- SE_PAYLOAD (Table 20.11). -/
def SE_PAYLOAD (n : Nat) : Nat := 0x700200 + 4 * n
def SE_PAYLOAD_WORD (n : Nat) : Fld := ⟨SE_PAYLOAD n, 31, 0, 0⟩
/-- SE_RESP (Table 20.11). -/
def SE_RESP (n : Nat) : Nat := 0x700300 + 4 * n
def SE_RESP_WORD (n : Nat) : Fld := ⟨SE_RESP n, 31, 0, 0⟩
/-- SE_UPD_CTL (Table 20.11). -/
def SE_UPD_CTL : Nat := 0x700400
def SE_UPD_CTL_KEY : Fld := ⟨SE_UPD_CTL, 31, 24, 0⟩
def SE_UPD_CTL_OFFSET : Fld := ⟨SE_UPD_CTL, 19, 8, 0⟩
def SE_UPD_CTL_FAULT : Fld := ⟨SE_UPD_CTL, 2, 2, 0⟩
def SE_UPD_CTL_GO : Fld := ⟨SE_UPD_CTL, 1, 1, 0⟩
def SE_UPD_CTL_BUSY : Fld := ⟨SE_UPD_CTL, 0, 0, 0⟩
/-- SE_UPD_WIN (Table 20.11). -/
def SE_UPD_WIN (n : Nat) : Nat := 0x701000 + 4 * n
def SE_UPD_WIN_WORD (n : Nat) : Fld := ⟨SE_UPD_WIN n, 31, 0, 0⟩
/-- SE_MBOX_CTL (Table 20.11). -/
def SE_MBOX_CTL : Nat := 0x702000
def SE_MBOX_CTL_VEC : Fld := ⟨SE_MBOX_CTL, 31, 24, 0⟩
def SE_MBOX_CTL_GO : Fld := ⟨SE_MBOX_CTL, 15, 15, 0⟩
def SE_MBOX_CTL_BUSY : Fld := ⟨SE_MBOX_CTL, 14, 14, 0⟩
def SE_MBOX_CTL_LEN : Fld := ⟨SE_MBOX_CTL, 12, 0, 0⟩
/-- SE_MBOX_REQ (Table 20.11). -/
def SE_MBOX_REQ (n : Nat) : Nat := 0x703000 + 4 * n
def SE_MBOX_REQ_WORD (n : Nat) : Fld := ⟨SE_MBOX_REQ n, 31, 0, 0⟩
/-- SE_MBOX_RSP (Table 20.11). -/
def SE_MBOX_RSP (n : Nat) : Nat := 0x704000 + 4 * n
def SE_MBOX_RSP_WORD (n : Nat) : Fld := ⟨SE_MBOX_RSP n, 31, 0, 0⟩
/-- OB_CTL (Table 21.9). -/
def OB_CTL : Nat := 0x680000
def OB_CTL_KEY : Fld := ⟨OB_CTL, 31, 24, 0⟩
def OB_CTL_FIRE : Fld := ⟨OB_CTL, 5, 5, 0⟩
def OB_CTL_ARM : Fld := ⟨OB_CTL, 4, 4, 0⟩
def OB_CTL_UNFREEZE : Fld := ⟨OB_CTL, 3, 3, 0⟩
def OB_CTL_CLEAR : Fld := ⟨OB_CTL, 2, 2, 0⟩
def OB_CTL_DISABLE : Fld := ⟨OB_CTL, 1, 1, 0⟩
def OB_CTL_ENABLE : Fld := ⟨OB_CTL, 0, 0, 0⟩
/-- OB_STAT (Table 21.9). -/
def OB_STAT : Nat := 0x680004
def OB_STAT_HALTED : Fld := ⟨OB_STAT, 3, 3, 0⟩
def OB_STAT_ARMED : Fld := ⟨OB_STAT, 2, 2, 0⟩
def OB_STAT_FROZEN : Fld := ⟨OB_STAT, 1, 1, 0⟩
def OB_STAT_ENABLED : Fld := ⟨OB_STAT, 0, 0, 0⟩
/-- OB_TRIG_CFG (Table 21.9). -/
def OB_TRIG_CFG : Nat := 0x680008
def OB_TRIG_CFG_CODE_VAL : Fld := ⟨OB_TRIG_CFG, 31, 16, 0⟩
def OB_TRIG_CFG_CODE_MASK : Fld := ⟨OB_TRIG_CFG, 15, 0, 0⟩
/-- OB_TRIG_CFG2 (Table 21.9). -/
def OB_TRIG_CFG2 : Nat := 0x68000C
def OB_TRIG_CFG2_HALT : Fld := ⟨OB_TRIG_CFG2, 2, 2, 0⟩
def OB_TRIG_CFG2_CODE_EN : Fld := ⟨OB_TRIG_CFG2, 1, 1, 0⟩
def OB_TRIG_CFG2_TRIGIN_EN : Fld := ⟨OB_TRIG_CFG2, 0, 0, 0⟩
/-- OB_HALT (Table 21.9). -/
def OB_HALT : Nat := 0x680010
def OB_HALT_KEY : Fld := ⟨OB_HALT, 31, 24, 0⟩
def OB_HALT_RELEASE : Fld := ⟨OB_HALT, 1, 1, 0⟩
def OB_HALT_HALT : Fld := ⟨OB_HALT, 0, 0, 0⟩
/-- OB_HALT_CFG (Table 21.9). -/
def OB_HALT_CFG : Nat := 0x680014
def OB_HALT_CFG_HALT_MAX : Fld := ⟨OB_HALT_CFG, 15, 0, 10000⟩
/-- OB_HALT_STAT (Table 21.9). -/
def OB_HALT_STAT : Nat := 0x680018
def OB_HALT_STAT_DURATION : Fld := ⟨OB_HALT_STAT, 31, 16, 0⟩
def OB_HALT_STAT_SOURCE : Fld := ⟨OB_HALT_STAT, 1, 0, 0⟩
/-- OB_FELL (Table 21.9). -/
def OB_FELL : Nat := 0x68001C
def OB_FELL_HALT_WRITE : Fld := ⟨OB_FELL, 2, 2, 0⟩
def OB_FELL_HALT_REFUSED : Fld := ⟨OB_FELL, 1, 1, 0⟩
def OB_FELL_TRIGGER : Fld := ⟨OB_FELL, 0, 0, 0⟩
/-- OB_EXP_CFG (Table 21.10). -/
def OB_EXP_CFG : Nat := 0x680020
def OB_EXP_CFG_ENABLE : Fld := ⟨OB_EXP_CFG, 31, 31, 0⟩
def OB_EXP_CFG_COUNT : Fld := ⟨OB_EXP_CFG, 21, 12, 1⟩
def OB_EXP_CFG_FIRST : Fld := ⟨OB_EXP_CFG, 11, 0, 0⟩
/-- OB_EXP_CFG2 (Table 21.10). -/
def OB_EXP_CFG2 : Nat := 0x680024
def OB_EXP_CFG2_PERIOD : Fld := ⟨OB_EXP_CFG2, 31, 16, 100⟩
def OB_EXP_CFG2_SIZE_LOG2 : Fld := ⟨OB_EXP_CFG2, 15, 12, 2⟩
def OB_EXP_CFG2_VEC : Fld := ⟨OB_EXP_CFG2, 7, 0, 0⟩
/-- OB_EXP_BASE_LO (Table 21.10). -/
def OB_EXP_BASE_LO : Nat := 0x680028
def OB_EXP_BASE_LO_BASE : Fld := ⟨OB_EXP_BASE_LO, 31, 0, 0⟩
/-- OB_EXP_BASE_HI (Table 21.10). -/
def OB_EXP_BASE_HI : Nat := 0x68002C
def OB_EXP_BASE_HI_BASE : Fld := ⟨OB_EXP_BASE_HI, 15, 0, 0⟩
/-- OB_EXP_STAGE (Table 21.10). -/
def OB_EXP_STAGE : Nat := 0x680030
def OB_EXP_STAGE_OFFSET : Fld := ⟨OB_EXP_STAGE, 19, 12, 0⟩
/-- OB_EXP_HEAD (Table 21.10). -/
def OB_EXP_HEAD : Nat := 0x680034
def OB_EXP_HEAD_HEAD : Fld := ⟨OB_EXP_HEAD, 9, 0, 0⟩
/-- OB_EXP_TAIL (Table 21.10). -/
def OB_EXP_TAIL : Nat := 0x680038
def OB_EXP_TAIL_TAIL : Fld := ⟨OB_EXP_TAIL, 9, 0, 0⟩
/-- OB_EXP_SKIP (Table 21.10). -/
def OB_EXP_SKIP : Nat := 0x68003C
def OB_EXP_SKIP_SKIPS : Fld := ⟨OB_EXP_SKIP, 31, 0, 0⟩
/-- OB_NOTIFY (Table 21.10). -/
def OB_NOTIFY : Nat := 0x680040
def OB_NOTIFY_VALID : Fld := ⟨OB_NOTIFY, 31, 31, 0⟩
def OB_NOTIFY_QUEUE : Fld := ⟨OB_NOTIFY, 11, 0, 0⟩
/-- OB_GRP0 (Table 21.11). -/
def OB_GRP0 (n : Nat) : Nat := 0x681000 + 16 * n
def OB_GRP0_SOURCE (n : Nat) : Fld := ⟨OB_GRP0 n, 31, 29, 0⟩
def OB_GRP0_MODE (n : Nat) : Fld := ⟨OB_GRP0 n, 28, 28, 0⟩
def OB_GRP0_SPLIT (n : Nat) : Fld := ⟨OB_GRP0 n, 27, 26, 0⟩
def OB_GRP0_BASE_LOG2 (n : Nat) : Fld := ⟨OB_GRP0 n, 25, 21, 0⟩
def OB_GRP0_PART_EN (n : Nat) : Fld := ⟨OB_GRP0 n, 20, 20, 0⟩
def OB_GRP0_PART (n : Nat) : Fld := ⟨OB_GRP0 n, 19, 14, 0⟩
def OB_GRP0_DOM_EN (n : Nat) : Fld := ⟨OB_GRP0 n, 13, 13, 0⟩
def OB_GRP0_DOM (n : Nat) : Fld := ⟨OB_GRP0 n, 12, 10, 0⟩
/-- OB_GRP1 (Table 21.11). -/
def OB_GRP1 (n : Nat) : Nat := 0x681004 + 16 * n
def OB_GRP1_OP_VAL (n : Nat) : Fld := ⟨OB_GRP1 n, 31, 16, 0⟩
def OB_GRP1_OP_MASK (n : Nat) : Fld := ⟨OB_GRP1 n, 15, 0, 0⟩
/-- OB_GRP2 (Table 21.11). -/
def OB_GRP2 (n : Nat) : Nat := 0x681008 + 16 * n
def OB_GRP2_LAYER_VAL (n : Nat) : Fld := ⟨OB_GRP2 n, 27, 16, 0⟩
def OB_GRP2_LAYER_MASK (n : Nat) : Fld := ⟨OB_GRP2 n, 11, 0, 0⟩
/-- OB_GRP3 (Table 21.11). -/
def OB_GRP3 (n : Nat) : Nat := 0x68100C + 16 * n
def OB_GRP3_QUEUE_EN (n : Nat) : Fld := ⟨OB_GRP3 n, 12, 12, 0⟩
def OB_GRP3_QUEUE (n : Nat) : Fld := ⟨OB_GRP3 n, 11, 0, 0⟩
/-- OB_CNT_LO (Table 21.11). -/
def OB_CNT_LO (n : Nat) : Nat := 0x6A0000 + 8 * n
def OB_CNT_LO_COUNT (n : Nat) : Fld := ⟨OB_CNT_LO n, 31, 0, 0⟩
/-- OB_CNT_HI (Table 21.11). -/
def OB_CNT_HI (n : Nat) : Nat := 0x6A0004 + 8 * n
def OB_CNT_HI_COUNT (n : Nat) : Fld := ⟨OB_CNT_HI n, 31, 0, 0⟩
/-- SL_INTAKE_TOTAL (Table 22.6). -/
def SL_INTAKE_TOTAL : Nat := 0x800008
def SL_INTAKE_TOTAL_BUSY : Fld := ⟨SL_INTAKE_TOTAL, 28, 24, 0⟩
def SL_INTAKE_TOTAL_RATE : Fld := ⟨SL_INTAKE_TOTAL, 11, 0, 0⟩
/-- SL_INTAKE_STAT (Table 22.7). -/
def SL_INTAKE_STAT (n : Nat) : Nat := 0x800200 + 4 * n
def SL_INTAKE_STAT_OCCUPANCY (n : Nat) : Fld := ⟨SL_INTAKE_STAT n, 24, 16, 0⟩
def SL_INTAKE_STAT_QFULLS (n : Nat) : Fld := ⟨SL_INTAKE_STAT n, 15, 0, 0⟩
/-- IS_BOOT_CFG (Table 23.6). -/
def IS_BOOT_CFG : Nat := 0x10030
def IS_BOOT_CFG_AUTO_RUN : Fld := ⟨IS_BOOT_CFG, 31, 31, 0⟩
def IS_BOOT_CFG_WAKE_RUN : Fld := ⟨IS_BOOT_CFG, 30, 30, 0⟩
def IS_BOOT_CFG_WAIT_POL : Fld := ⟨IS_BOOT_CFG, 23, 23, 0⟩
def IS_BOOT_CFG_WAIT_RES : Fld := ⟨IS_BOOT_CFG, 22, 22, 0⟩
def IS_BOOT_CFG_WAIT_SHARE : Fld := ⟨IS_BOOT_CFG, 21, 21, 0⟩
def IS_BOOT_CFG_WAIT_TWIN : Fld := ⟨IS_BOOT_CFG, 20, 20, 0⟩
def IS_BOOT_CFG_WAIT_MAX : Fld := ⟨IS_BOOT_CFG, 15, 0, 3000⟩
/-- IS_BOOT_STAT (Table 23.7). -/
def IS_BOOT_STAT : Nat := 0x10034
def IS_BOOT_STAT_UNMET : Fld := ⟨IS_BOOT_STAT, 19, 16, 0⟩
def IS_BOOT_STAT_AUTO_PENDING : Fld := ⟨IS_BOOT_STAT, 11, 11, 0⟩
def IS_BOOT_STAT_RUN : Fld := ⟨IS_BOOT_STAT, 10, 10, 0⟩
def IS_BOOT_STAT_SHARE : Fld := ⟨IS_BOOT_STAT, 9, 9, 0⟩
def IS_BOOT_STAT_RES_CHECKED : Fld := ⟨IS_BOOT_STAT, 8, 8, 0⟩
def IS_BOOT_STAT_CORES : Fld := ⟨IS_BOOT_STAT, 7, 7, 0⟩
def IS_BOOT_STAT_LEDGER_SCAN : Fld := ⟨IS_BOOT_STAT, 6, 6, 0⟩
def IS_BOOT_STAT_AUX_DONE : Fld := ⟨IS_BOOT_STAT, 5, 5, 0⟩
def IS_BOOT_STAT_IN_STEP : Fld := ⟨IS_BOOT_STAT, 4, 4, 0⟩
def IS_BOOT_STAT_OWNED : Fld := ⟨IS_BOOT_STAT, 3, 3, 0⟩
def IS_BOOT_STAT_PROFILE : Fld := ⟨IS_BOOT_STAT, 2, 2, 0⟩
def IS_BOOT_STAT_ISLANDS : Fld := ⟨IS_BOOT_STAT, 1, 1, 0⟩
def IS_BOOT_STAT_AO_READY : Fld := ⟨IS_BOOT_STAT, 0, 0, 0⟩
/-- IS_BOOT_TIME (Table 23.8). -/
def IS_BOOT_TIME : Nat := 0x10038
def IS_BOOT_TIME_RUN_MS : Fld := ⟨IS_BOOT_TIME, 31, 16, 0⟩
def IS_BOOT_TIME_NAP_MS : Fld := ⟨IS_BOOT_TIME, 15, 0, 0⟩

end Sys2Proof.Machine.Reg
end

