-- ==== Sys2Proof/Machine/State/Base.lean ====
section
/-! DEFINITION. State of the die edge, of AO and of the islands, the records on their way to AO, and what the die has
put on its interfaces. -/

namespace Sys2Proof.Machine
open Sys2Proof

/-- A record as an island raises it, on its crossing to AO (Table 3.2). `sev` is none for a hardware event, whose severity
is the catalogue's (R861), and LOGEV's own otherwise (R736). -/
structure Raised where
  src : Nat
  code : Nat
  sev : Option Nat := none
  p0 : Nat := 0
  p1 : Nat := 0
  p2 : Nat := 0
  p3 : Nat := 0
  /-- The core whose LOGEV buffer holds the record (R553); 8 for none. -/
  core : Nat := 8
deriving DecidableEq, Repr

/-- The level of a lane's three-state output, or of a half-bridge's pair of outputs: both switches off, the low-side switch on, the
high-side switch on, or switching, with a high-side pulse in each cycle (R50, R68, R82). -/
inductive Pin where
  | hiZ | low | high | cycle
deriving DecidableEq, Repr

/-- What the die puts on an interface, oldest first in `State.outbox`. DESIGN CHOICE, log entry 65. -/
inductive Out where
  /-- A flit of 64 bytes on a link (R209). -/
  | sluice (link : Nat) (flit : List Nat)
  /-- A flit of a compute die's port on its link to this die, or on its link to the other KG8 (R209, R249). -/
  | dieFlit (die : Nat) (other : Bool) (flit : List Nat)
  /-- A PMBus write: segment, stage address, command, data bytes, and the error check byte where the segment sends it (R77). -/
  | pmbus (seg addr cmd : Nat) (data : List Nat) (pec : Option Nat)
  /-- A PMBus read of a stage: segment, address, command, and whether the segment checks errors (R77, R187). -/
  | pmbusRead (seg addr cmd : Nat) (pec : Bool)
  /-- An AVSBus voltage write: segment, lane of the stage, and millivolts (R149, R189). -/
  | avs (seg lane mv : Nat)
  /-- An AVSBus voltage read: segment and lane of the stage (R189). -/
  | avsRead (seg lane : Nat)
  /-- An interrupt vector sent to the host. -/
  | irq (vec : Nat)
  /-- An upstream write into host memory: context, address and bytes. -/
  | hostWrite (ctx addr : Nat) (bytes : List Nat)
  /-- An upstream read of host memory: channel, address and length in bytes. -/
  | hostRead (ch addr len : Nat)
  /-- A Vexurn frame on a port, from its destination address to its FCS (R627). -/
  | vx (port : Nat) (frame : List Nat)
  /-- VXn_TXDIS of a port takes a level (R90, R624). -/
  | txDis (port : Nat) (level : Bool)
  /-- A twin frame: role and flags, step number, and whether it carries the mirror. -/
  | twin (kind : Nat) (fields : List Nat)
  /-- A pulse on TRIG_OUT. -/
  | trigOut
  /-- A pulse on PPS_OUT. -/
  | ppsOut
  /-- A message to a compute die's CLAMP pins: die and code. -/
  | clampPins (die code : Nat)
  /-- A lane PWM_nnn takes a level (R68). -/
  | pwm (lane : Nat) (level : Pin)
  /-- The high-side pulse of a lane's cycle: `num` / `den` picoseconds from the cycle's start, and low for the rest of it. -/
  | pulse (lane : Nat) (num : Int) (den : Nat)
  /-- An auxiliary gate driven to a level in millivolts. -/
  | auxGate (ch mv : Nat)
  /-- A configuration block written to flash, by its block number. -/
  | flashSave (blk : Nat)
  /-- The tap probe: the taps, bit k, that source 1 uA; the others sink it, and 0 ends the probe (R357). -/
  | tapProbe (taps : Nat)
  /-- The cells, bit n for cell n + 1, that bleed 1 mA between their taps (R55, R356). -/
  | tapBleed (cells : Nat)
  /-- A remote-diode pair biased at 10 uA and 100 uA for a reading (R55, R87). -/
  | tdBias (pair : Nat)
  /-- CTH_REF driven at 1.800 V, or not (R55, R86). -/
  | cthRef (on : Bool)
  /-- Half-bridge `n` of the reservoir: both switches off, one on, or switching; RVP_Hn and RVP_Ln are never asserted together (R82). -/
  | rvp (n : Nat) (level : Pin)
  /-- Converter leg `k` of `legs` switches its pairs k and k + 4 from k / legs of the cycle, with their dead times in 0.5 ns (R186, R342). -/
  | rvLeg (k legs dtBus dtStack : Nat)
  /-- ENTDAA on an I3C bus, and a read of 16 bits from a register of a target (R88, Table 9.15). -/
  | i3cDaa (bus : Nat)
  | i3cRead (bus addr reg : Nat)
  /-- Data returned by a read: address and value. -/
  | readData (addr val : Nat)
deriving DecidableEq, Repr

/-- The die's edge as AO senses it (Tables 2.1, 2.5, 2.8, 2.9 to 2.11). -/
structure Edge where
  /-- Bit n while supply n is in its window (GL_SUPPLY.SUPPLY_GOOD). -/
  supplyGood : Nat := 15
  /-- A supply excursion of Table 2.8 is in force: every island but AO held in reset. -/
  supplyHold : Bool := false
  /-- VDD33_AO has fallen below 3.0 V and has not been back for 1 ms (Table 2.8). -/
  vdd33Low : Bool := false
  /-- VDD33_AO has fallen below 2.9 V: every output but TRIP_N high-impedance. -/
  outputsOff : Bool := false
  /-- GL_CLOCK: REFCLK_100, VXREF and the crystal present. -/
  refclkOk : Bool := true
  vxrefOk : Bool := true
  xt32Ok : Bool := true
  /-- The islands of R110 run on the AO-derived reference. -/
  aoDerived : Bool := false
  /-- TRIP_N pulled low from outside the package, RST_N low and PFAIL_N low, as their commands tell (R100, Table 2.11). -/
  tripPinLow : Bool := false
  rstPinLow : Bool := false
  pfailPinLow : Bool := false
  /-- SHED_IN high after the filter of R96. -/
  shedIn : Bool := false
  /-- TW_OWN_N reads low. -/
  ownPinLow : Bool := false
  /-- Vexurn ports whose VXn_ABS_N reads low and whose VXn_LOS reads high, bit p (R90). -/
  vxAbs : Nat := 0
  vxLos : Nat := 0
  /-- PSFLT_Gn levels, bit n. -/
  psflt : Nat := 0
  /-- Straps (R112). -/
  roleSel : Bool := true
  testen : Bool := false
  /-- The flash answers and meets R101 (Table 2.8). -/
  flashOk : Bool := true
  /-- BUSV and BUSI readings: millivolts at the bus and milliamps of package input current (R75). -/
  busMv : Nat := 0
  busMa : Nat := 0
  /-- Time stamps in FRI of the last DROOP_N pulse of each compute die (R67). -/
  droopAt : List (Nat × Nat) := []
deriving DecidableEq, Repr

/-- Fuses and identity (R26, Table 2.11). -/
structure Fuses where
  ident : DWord := 0
  stepLetter : Nat := 0x41
  stepDigit : Nat := 0
deriving DecidableEq, Repr

/-- AO's counters and what its checkpoints hold in flash (R139, R140, R750). -/
structure Ao where
  /-- Operating time in nanoseconds, counted while VDD_CORE is in its window (R734). -/
  opNs : Nat := 0
  powerCycles : Nat := 0
  /-- Input energy meter in microjoules, and what it holds beyond them in picojoules (R139, R446, BG_METER). -/
  meterUj : Nat := 0
  meterPj : Nat := 0
  /-- The last checkpoint in flash: meter, operating seconds, power cycles and next sequence number. -/
  ckMeter : Nat := 0
  ckOpSec : Nat := 0
  ckCycles : Nat := 0
  ckNext : Option Nat := none
  /-- The CRC that the last save of the rail profile wrote behind its image in flash (R145, R874); none: as delivered. -/
  profCrc : Option Nat := none
  /-- Boot steps of R839 done. -/
  aoUp : Bool := true
  bootDone : Bool := true
  /-- Die powered: false from the fall below 2.4 V to the next cold start (R10). -/
  powered : Bool := true
deriving DecidableEq, Repr

/-- Islands, resets and package state (Islands, Resets and Power States; Bring-Up). Island codes: 0 FRI, 1 REG, 2 SLU,
3 POL, 4 FAB, 5 HST, 6 TWN. Package states: 0 Run, 1 Doze, 2 Nap, 3 Keep, 4 Off. -/
structure Isl where
  /-- Bit n while island n is in reset, or held in reset. -/
  inReset : Nat := 0
  /-- Bit n while island n is held under Table 3.9 until a warm reset or a cold start. -/
  held : Nat := 0
  /-- Islands still to leave reset, in the order of R122, and whether they wait since a cold start. -/
  releaseQ : List Nat := []
  coldRel : Bool := false
  /-- Time of each island's own last reset, for the one-second rule of Table 3.9. -/
  lastReset : List (Nat × Nat) := []
  /-- What POL sends to an island in reset, held and retried each microsecond (Table 3.3): the receiving island, the
  operation (0 GRADE, 1 ADMIT, 2 BARX, 3 PAUSE, 4 PGRADE, 5 RLIM of a core, with the operands, the target first, the last value of each
  target; 6 SETCAP or SETFLOOR of the command front end, with the ring, the command's number and its bytes, every one in order). -/
  retries : List (Nat × Nat × List Nat) := []
  /-- Deferred warm reset and its cause (R124, R126). -/
  wrPending : Bool := false
  wrCause : Nat := 0
  /-- The wait of R127, with the time it began and the cause. -/
  wrWait : Bool := false
  wrSince : Nat := 0
  /-- The Host Tunnel has not trained since a reset of HST or a host link reset. -/
  hostDown : Bool := false
  /-- Package state in force and the target of a transition (IS_PKG_STATE). -/
  pkg : Nat := 2
  target : Nat := 2
  inTrans : Bool := false
  /-- The command's final target when the transition passes through intermediate states (R131). -/
  goal : Nat := 2
  trig : Nat := 7
  retried : Bool := false
  tripped : Bool := false
  /-- Nap has been reached after the cold start (R841). -/
  napReached : Bool := false
  /-- Admission frozen for a transition of Table 3.6. -/
  frozen : Bool := false
  /-- Start of the bring-up sequence, and whether an automatic start still waits (R843). -/
  bootAt : Nat := 0
  autoArmed : Bool := false
  /-- WAIT_MAX has passed since the start of the sequence (R843). -/
  waitOver : Bool := false
  waking : Bool := false
  /-- The bring-up sequence started at a wake source after Keep, and Run was reached since its start. -/
  fromKeep : Bool := false
  runReached : Bool := false
  /-- SAVE in progress per block, and SAVE queued (R872): bit masks over block numbers. -/
  saving : Nat := 0
  saveQueued : Nat := 0
  /-- Per block in progress, the field values the save captured at its start. -/
  saveBuf : List (Nat × List (Nat × Nat)) := []
deriving DecidableEq, Repr

end Sys2Proof.Machine
end

