-- ==== Sys2Proof/Machine/State/Phase.lean ====
section
/-! DEFINITION. State of the phase controller: the phases of the lanes and the eight main rails (Phase Controller). -/

namespace Sys2Proof.Machine
open Sys2Proof

/-- A slew from one value to another: `num` units every `den` nanoseconds from time `since`. -/
structure Ramp where
  frm : Nat := 0
  goal : Nat := 0
  num : Nat := 0
  den : Nat := 1
  since : Nat := 0
deriving DecidableEq, Repr

/-- A lane's phase (R147, R163). -/
structure Phase where
  /-- 0 healthy, 1 failed, 2 suspect, 3 hot. -/
  mark : Nat := 0
  active : Bool := false
  /-- Balance trim in T/512, from -64 to 64 (R158, Table 18.3b). -/
  bal : Int := 0
  /-- Interleave angle as a fraction of T; the mirror carries it in T/32 (R152, Table 18.3b). -/
  angNum : Nat := 0
  angDen : Nat := 1
  /-- Level of the lane's output (R68), and the start of its cycle in progress. -/
  pin : Pin := .hiZ
  cycAt : Nat := 0
  /-- Taken low-side at the rail's limit in a Floodgate hold (R179). -/
  limLow : Bool := false
  /-- Cycles left of the ramps of R162. -/
  rampUp : Nat := 0
  rampDown : Nat := 0
  /-- On-time last computed, in picoseconds: a quotient. -/
  onNum : Int := 0
  onDen : Nat := 1
  /-- The pulse of this cycle was ended at the peak limit, and consecutive cycles that were (R167). -/
  cut : Bool := false
  peaks : Nat := 0
  /-- Last ISN reading in 0.1 A. -/
  amps : Int := 0
  /-- Stage temperature in degrees, none when unknown; MFR_MODEL's low byte. -/
  temp : Option Int := none
  model : Nat := 0
  /-- Dead-time row (0 PS-A, 1 PS-B, 2 PS-C) and table that the correction uses, and a write to send again. -/
  row : Nat := 2
  dtTab : Nat := 0
  deadRetry : Bool := false
  /-- Failed tries on the stage, and an AVSBus reading that disagreed in the last round (R189, R202). -/
  tries : Nat := 0
  avsOff : Bool := false
  /-- The stage is commanded on by OPERATION, and it has still to answer the reads of its start (Table 4.3, R196). -/
  opOn : Bool := false
  startRead : Bool := false
  /-- The phase was hot when its group became suspect (R194). -/
  wasHot : Bool := false
deriving DecidableEq, Repr

/-- A main rail. -/
structure Rail where
  /-- As PC_RAIL_STAT.MODE without the hold: 0 off, 1 soft-start, 2 regulating, 3 burst, 5 fault, 6 soft-stop. -/
  mode : Nat := 0
  /-- A Floodgate hold is in progress; a handback is; a strobe waits for it (R181). -/
  hold : Bool := false
  handback : Bool := false
  strobeWaits : Bool := false
  /-- The setpoint without pre-boost, in 0.1 mV. -/
  base : Ramp := {}
  /-- Rail voltage last sensed, in 0.1 mV. -/
  sensed : Nat := 0
  /-- Loop integrator in mV/8192 (e in 0.5 mV times Q4.12), and the last two errors in 0.5 mV (R153). -/
  u : Int := 0
  e1 : Int := 0
  e2 : Int := 0
  /-- Index of the first burst phase of the next entry, and of the entry in force (R173). -/
  burstIdx : Nat := 0
  burstCur : Nat := 0
  powerGood : Bool := false
  limiting : Bool := false
  /-- An overvoltage discharge is in progress (R192). -/
  discharge : Bool := false
  /-- Voltage last written over AVSBus, in 0.1 mV (R189). -/
  avs : Nat := 0
  /-- Total current last formed, in 0.1 A (R875). -/
  total : Int := 0
  /-- Start of the soft-start. -/
  ssAt : Nat := 0
  /-- Every healthy phase stays active until this time (R161). -/
  allUntil : Nat := 0
deriving DecidableEq, Repr

/-- The phase controller. -/
structure Phases where
  lanes : List (Nat × Phase) := []
  rails : List (Nat × Rail) := []
  /-- The rail profile was accepted (LOAD_OK), and was judged since the last start of REG. -/
  loadOk : Bool := false
  judged : Bool := false
  /-- Groups being located, and groups that run blind: bit masks. -/
  locating : Nat := 0
  blind : Nat := 0
  /-- Segments declared lost (R202). -/
  segLost : Nat := 0
  /-- Dead-time table in force: 1 while the package band is Ochre or hotter (R182). -/
  dtTable : Nat := 0
  /-- Dead-time row and table of each reservoir pair (R186). -/
  resDt : List (Nat × (Nat × Nat)) := []
deriving DecidableEq, Repr

end Sys2Proof.Machine
end

