-- ==== Sys2Proof/Machine/State/Admission.lean ====
section
/-! DEFINITION. State of the admission sequencer: domains, lists, barrier rounds, grades, pre-boost and Floodgate detection
(Admission and Droop). -/

namespace Sys2Proof.Machine
open Sys2Proof

/-- An entry of an admission list: a single INTENT, a planned block or a pause step. -/
structure Entry where
  /-- 0 single, 1 block, 2 pause step. -/
  kind : Nat := 0
  /-- Tile and SEQ of its INTENT or INTENTs. -/
  members : List (Nat × Nat) := []
  grp : Nat := 0xFFF
  mgroup : Nat := 0
  /-- Pause step number (R295). -/
  step : Nat := 0
  /-- Count of the wave in which it became admissible. -/
  adm : Nat := 0
  /-- It belongs to the release of `grp`. -/
  release : Bool := false
deriving DecidableEq, Repr

/-- A round's hold on a domain's pre-boost (R280 to R284). -/
structure Boost where
  grp : Nat := 0
  ramp : Ramp := {}
  /-- Its round has been released; it is being withdrawn. -/
  released : Bool := false
  withdrawing : Bool := false
deriving DecidableEq, Repr

/-- A rail domain's admission, grades and Floodgate detection. -/
structure Dom where
  /-- Wave counter and count of waves since reset. -/
  ctr : Nat := 0
  waves : Nat := 0
  waveAt : Nat := 0
  /-- Quanta admitted in this wave, and those a restart cut short. -/
  admitted : Nat := 0
  list : List Entry := []
  /-- Entries that become admissible at the next wave start, and releases that wait for their wave 0. -/
  incoming : List Entry := []
  releases : List (Nat × List Entry) := []
  /-- Half-capacity waves left (R300). -/
  backoff : Nat := 0
  /-- Frozen by a storm (R301), and times of the recent fires. -/
  storm : Bool := false
  fires : List Nat := []
  /-- Grade in force, target, and a step: 0 none, 1 up, 2 down. -/
  grade : Nat := 0
  target : Nat := 0
  step : Nat := 0
  /-- Frequency last sent. -/
  freq : Nat := 0
  boosts : List Boost := []
  /-- A burst exit has been commanded and not reported (R267). -/
  burstWait : Bool := false
  /-- Floodgate: a strobe is out since `fgAt`, and the deepest undershoot seen in millivolts. -/
  strobe : Bool := false
  fgAt : Nat := 0
  deepest : Nat := 0
deriving DecidableEq, Repr

/-- A round of a barrier group (R272 to R279). -/
structure BarRound where
  /-- Tiles and SEQs parked. -/
  arrived : List (Nat × Nat) := []
  firstAt : Nat := 0
  /-- Times of its arrivals. -/
  times : List Nat := []
  /-- Domains for which prediction has started, with the predicted release. -/
  preds : List (Nat × Nat) := []
deriving DecidableEq, Repr

/-- A pause step under way: its partition, the duty it lowers to, its domains, and those whose entry is not yet granted. -/
structure PauseStep where
  key : Nat := 0
  duty : Nat := 0
  doms : List Nat := []
  waits : List Nat := []
deriving DecidableEq, Repr

/-- Admission. -/
structure Admission where
  doms : List (Nat × Dom) := []
  rounds : List (Nat × BarRound) := []
  /-- Pause duty in force per partition and domain: key 8 * partition + domain (R294). -/
  pause : List (Nat × Nat) := []
  steps : List (Nat × PauseStep) := []
  /-- After an unmirrored takeover: tiles whose STATE is awaited, and the time at which the freeze ends at the latest (Table 18.7). -/
  settle : List Nat := []
  settleTo : Nat := 0
  nextStep : Nat := 0
deriving DecidableEq, Repr

end Sys2Proof.Machine
end

