-- ==== Sys2Proof/Machine/State/AuxRails.lean ====
section
/-! DEFINITION. State of the auxiliary rails (Auxiliary Rails). Voltages are in millivolts, currents in milliamperes. -/

namespace Sys2Proof.Machine

/-- An auxiliary channel. -/
structure AuxCh where
  /-- 0 OFF, 1 WAITING, 2 SOFTSTART, 3 PAUSED, 4 GOOD, 5 FAULTED, 6 STOPPING. -/
  st : Nat := 0
  /-- Ready to be admitted (R313). -/
  ready : Bool := false
  /-- The voltage setpoint of the soft-start (R317). -/
  ramp : Ramp := {}
  /-- Soft-start time counted up to `since`, and paused time since admission (R319, R328). -/
  timer : Nat := 0
  since : Nat := 0
  paused : Nat := 0
  /-- AUXV and AUXC last sensed. -/
  mv : Nat := 0
  ma : Nat := 0
  /-- Level of AUXG: 0 off, 1,800 fully on, between them in soft-start. -/
  gate : Nat := 0
  /-- State that a turn-off ends in, and when AUXG was driven to 0 V. -/
  offTo : Nat := 0
  offAt : Option Nat := none
deriving DecidableEq, Repr

/-- A supply group. -/
structure AuxGrp where
  sag : Bool := false
  sagAt : Nat := 0
  stopped : Bool := false
  source : Nat := 0
  /-- Channels that R329 turned off, bit n. -/
  rolled : Nat := 0
  /-- Correlation ID of its sag, and the ID and time of its last fault (R331). -/
  corr : Nat := 0
  faultId : Nat := 0
  faultAt : Option Nat := none
deriving DecidableEq, Repr

/-- The auxiliary rails. -/
structure Auxiliary where
  chans : List (Nat × AuxCh) := []
  grps : List (Nat × AuxGrp) := []
  corr : Nat := 0
  /-- The sequence has been started and has not completed; when; complete; configuration invalid (R311). -/
  running : Bool := false
  startAt : Nat := 0
  seqDone : Bool := false
  cfgBad : Bool := false
deriving DecidableEq, Repr

end Sys2Proof.Machine
end

