-- ==== Sys2Proof/Machine/State/Budget.lean ====
section
/-! DEFINITION. State of the package budget and of the partitions (Budgets, Partitions and Contention). Powers are in
microwatts, energies in microjoules. -/

namespace Sys2Proof.Machine
open Sys2Proof

/-- The budget engine in FRI. -/
structure Budget where
  /-- BUSV in millivolts averaged over 1 ms, the readings it averages newest first, and BUSV lost (R420, Table 10.6). -/
  busMv : Nat := 48000
  busHist : List Nat := []
  busLost : Bool := false
  /-- RGA as REG last returned it, the term of its allowance (1 or 2), when, and none received for 10 us since. -/
  rga : Nat := 0
  rgaTerm : Nat := 1
  rgaAt : Nat := 0
  rgaLost : Bool := false
  /-- Allocations and floor shares, budget duties. -/
  alloc : List (Nat × Nat) := []
  af : List (Nat × Nat) := []
  duty : List (Nat × Nat) := []
  /-- b at the last wave-relevant computation, and floors scaled. -/
  scaled : Bool := false
  scale : Nat := 1000
  source : Nat := 0
  /-- Partitions over allocation, and those whose floors fall short, as recorded. -/
  overs : Nat := 0
  short : Nat := 0
  /-- Estimates in picojoules since BG_UNATTR was zeroed, and the meter at that time. -/
  est : List (Nat × Nat) := []
  meterAt : Nat := 0
deriving DecidableEq, Repr

end Sys2Proof.Machine
end

