-- ==== Sys2Proof/Machine/State/Fabric.lean ====
section
/-! DEFINITION. State of the Vexurn fabric: ports, neighbours, link state, summaries, routes and Weir time; and of the
Catchment: ceiling, share, children and shed (Vexurn Fabric; The Building as One Governor). -/

namespace Sys2Proof.Machine
open Sys2Proof

/-- A frame waiting in an egress queue (R651): class, type, TTL, DST, SRC, SEQ and body bytes. -/
structure VxOut where
  cls : Nat := 0
  ty : Nat := 0
  ttl : Nat := 0
  dst : Nat := 0
  src : Nat := 0
  seq : Nat := 0
  body : List Nat := []
deriving DecidableEq, Repr

/-- A Vexurn port and its neighbour (Table 16.12). -/
structure VxPort where
  /-- 0 disabled, 1 training, 2 up, 3 down. -/
  link : Nat := 0
  fecOn : Bool := false
  /-- 0 DOWN, 1 INIT, 2 TWOWAY, 3 FULL. -/
  nbr : Nat := 0
  nbId : Nat := 0
  nbAddr : Nat := 0
  nbFlags : Nat := 0
  nbThops : Nat := 64
  nbChops : Nat := 64
  /-- This side has sent its database (R642). -/
  synced : Bool := false
  /-- Event 0xB00D was recorded in this port session (R639). -/
  foreignTold : Bool := false
  /-- Egress queues, all classes, oldest first, and the end of the transmission in progress (R651). -/
  egress : List VxOut := []
  busyTo : Nat := 0
deriving DecidableEq, Repr

/-- A link-state advertisement (Table 16.4a). Neighbours: address, cost and local port. -/
structure Lsa where
  address : Nat := 0
  lseq : Nat := 0
  age : Nat := 0
  flags : Nat := 0
  tprio : Nat := 0
  twin : Nat := 0
  nbrs : List (Nat × Nat × Nat) := []
  /-- When AGE was as given: a holder adds the seconds since. -/
  since : Nat := 0
deriving DecidableEq, Repr

/-- One part of a SUMMARY (Table 16.5), with the foreign port it came through, or none for a flooded one. Entries: Catchment,
group and metric. -/
structure Summary where
  origin : Nat := 0
  part : Nat := 0
  sseq : Nat := 0
  port : Option Nat := none
  croot : Nat := 0
  crkey : Nat := 0
  crprio : Nat := 0
  entries : List (Nat × Nat × Nat) := []
  /-- Parts of the SUMMARY, and the AGE given with when. -/
  parts : Nat := 1
  age : Nat := 0
  since : Nat := 0
deriving DecidableEq, Repr

/-- The fabric node. -/
structure Fabric where
  ports : List (Nat × VxPort) := []
  /-- CATCH and GROUP in force: provisioned or adopted (R632). -/
  cg : Option (Nat × Nat) := none
  /-- 0 none, 1 provisioned, 2 self-assigned; probe of the claim (R633). -/
  addrKind : Nat := 0
  probe : Nat := 0
  /-- A provisioned claim lost to another identity: the node self-assigns (R635). -/
  provLost : Bool := false
  lsas : List (Nat × Lsa) := []
  lseq : Nat := 0
  sums : List Summary := []
  sseq : Nat := 0
  /-- Routes within the group: address, cost and port (R643). -/
  routes : List (Nat × Nat × Nat) := []
  /-- Addresses whose route was removed with its port, by port, until routes are recomputed (R669). -/
  dead : List (Nat × Nat) := []
  /-- SEQ per TYPE of this node (Table 16.1). -/
  seqs : List (Nat × Nat) := []
  /-- Identities of the group and Catchment time roots, 0 for none, with the key of the latter. -/
  groot : Nat := 0
  croot : Nat := 0
  thops : Nat := 64
  chops : Nat := 64
  /-- Port to the time parent. -/
  parent : Option Nat := none
  /-- Weir time less the model's clock, in 2^-16 ns. -/
  ofs : Int := 0
  /-- Time is held: a step or a slew has set it, or this node is a root. -/
  locked : Bool := false
  holdover : Bool := false
  /-- Consecutive exchanges at or below 5 ns, and above 50 ns; the next exchange is the first with a new parent. -/
  good : Nat := 0
  bad : Nat := 0
  newParent : Bool := false
  /-- XSEQ last sent, with its T1 in 2^-16 ns; last theta in 0.1 ns; time of the last exchange. -/
  xseq : Nat := 0
  t1 : Nat := 0
  theta : Int := 0
  exchAt : Nat := 0
  /-- PPS_IN: valid, time of the last edge, consecutive good intervals, and when it became valid. -/
  ppsValid : Bool := false
  ppsLast : Option Nat := none
  ppsRun : Nat := 0
  ppsSince : Nat := 0
  /-- Weir time to set at the next PPS_IN edge (R665). -/
  setDue : Option Nat := none
  /-- Time of the last DGNAK to each source address (R656). -/
  nakAt : List (Nat × Nat) := []
deriving DecidableEq, Repr

/-- A child of the aggregation tree, by port (Table 17.9). -/
structure Child where
  reports : Bool := false
  heldDown : Bool := false
  demand : Nat := 0
  floor : Nat := 0
  pkgs : Nat := 0
  /-- A REPORT that arrived after this node's own of the period (R688). -/
  late : Option (Nat × Nat × Nat) := none
  allot : Nat := 0
deriving DecidableEq, Repr

/-- The Catchment as this node sees it. -/
structure Catchment where
  /-- Injector of the ceiling held; the rest of it is in VX_CEIL, VX_ORPH_TOTAL, VX_CVER and VX_CB_HELD. -/
  injector : Nat := 0
  /-- Share last allotted in watts, and the time of the last ALLOT with MAJORITY 1. -/
  share : Nat := 0
  allotAt : Option Nat := none
  majority : Bool := false
  /-- The share is the twin's copy (R675). -/
  copy : Bool := false
  orphan : Bool := true
  orphanAt : Nat := 0
  orphanTold : Bool := false
  children : List (Nat × Child) := []
  /-- Last REPORT: DEMAND, FLOOR and PKGS; own D; last allotment received or computed. -/
  subDemand : Nat := 0
  subFloor : Nat := 0
  subPkgs : Nat := 0
  ownD : Nat := 0
  subAllot : Nat := 0
  /-- This node's REPORT of the period has been sent, by PNUM. -/
  sentPnum : Option Nat := none
  /-- This root had a majority at its last computation; FLOOR_T above ORPH_TOTAL has been recorded. -/
  rootMaj : Bool := false
  excess : Bool := false
  /-- shed_until in nanoseconds, shed in force, its start, level and origin (R694 to R697). -/
  shedUntil : Nat := 0
  shed : Bool := false
  shedAt : Nat := 0
  shedLevel : Nat := 0
  /-- SHED frames whose COPY 1 is due, with their ports (R695). -/
  copies : List (List Nat × VxOut) := []
  /-- Stagger slot as FRI holds it (R699). -/
  slot : Nat := 0
deriving DecidableEq, Repr

end Sys2Proof.Machine
end

