-- ==== Sys2Proof/Machine/State/Ikiva.lean ====
section
/-! DEFINITION. State of the Ikiva policy cores (Ikiva Policy Cores). -/

namespace Sys2Proof.Machine
open Sys2Proof

/-- One register bank (R499): g1 to g31, a0 to a7, m0 to m3 and flags ([0] Z, [1] N, [2] C, [3] V, [4] SAT). -/
structure Bank where
  g : List (Nat × DWord) := []
  a : List (Nat × BitVec 96) := []
  m : List (Nat × DWord) := []
  flags : BitVec 5 := 0
deriving DecidableEq, Repr

/-- One policy core. -/
structure IkCore where
  bankN : Bank := {}
  bankU : Bank := {}
  pc : Nat := 0
  qsel : Nat := 0
  npc : Nat := 0
  upc : Nat := 0
  /-- 0 thread, 1 Normal handler, 2 Urgent handler. -/
  level : Nat := 0
  /-- The level when the Urgent handler preempted. -/
  levelBack : Nat := 0
  /-- Flags saved at Normal dispatch (R507). -/
  flagsBack : BitVec 5 := 0
  /-- A WAITQ is executing, and the register it returns the queue in. -/
  waiting : Bool := false
  waitRd : Nat := 0
  /-- hcause of the thread, the Normal and the Urgent context (Table 12.5). -/
  causeT : Nat := 0
  causeN : Nat := 0
  causeU : Nat := 0
  /-- Cycle counts of the two levels (R512). -/
  cntN : Nat := 0
  cntU : Nat := 0
  /-- Loaded and passed R521; its directory entry and handler table: address, flags and WCET by index. -/
  loaded : Bool := false
  refused : Bool := false
  entry : Nat := 0
  textLen : Nat := 0
  threadWcet : Nat := 0
  handlers : List (Nat × Nat × Nat) := []
  /-- Started and not stopped; held under R517; waiting for the restart of R516; stopped by the host. -/
  running : Bool := false
  held : Bool := false
  restartDue : Bool := false
  /-- The autonomous floor governs its duties (GL_AUTONOMY.CORE_DEFAULT), and it was entered since the last start (R37). -/
  floor : Bool := true
  floorTold : Bool := false
  /-- Its thread has reached a wait point since the image was loaded (R843). -/
  waited : Bool := false
  /-- Times of its faults (R517). -/
  faultAt : List Nat := []
  /-- Memories: instruction words by word index, data SRAM and launch constants by byte address. -/
  imem : List (Nat × Word) := []
  data : List Host.Cell := []
  launch : List Host.Cell := []
  /-- The launch whose Normal handler runs, as the front end numbers it (R577). -/
  launchId : Option Nat := none
deriving DecidableEq, Repr

/-- The eight cores and what they share. -/
structure Ikiva where
  cores : List (Nat × IkCore) := []
  /-- POL cycles (R498). -/
  cyc : Nat := 0
  /-- Table SRAM by byte offset (Table 12.3). -/
  table : List Host.Cell := []
  /-- The loaded image's version and the image check that failed (Table 12.17). -/
  version : Nat := 0
  check : Nat := 0
deriving DecidableEq, Repr

end Sys2Proof.Machine
end

