-- ==== Sys2Proof/Machine/State/Twin.lean ====
section
/-! DEFINITION. State of the twin: role, interlock, link, mirror and handover (The Twin). -/

namespace Sys2Proof.Machine
open Sys2Proof

/-- The twin as this die sees it. -/
structure Twin where
  /-- Role of Table 18.1. -/
  role : Nat := 0
  /-- The net has been read low while this die was eligible (R707). -/
  sawLow : Bool := false
  /-- Claim: 0 waiting for a quiet net, 1 sinking, 2 backing off, 3 stopped after eight failures. -/
  claim : Nat := 0
  attempts : Nat := 0
  /-- Owner-only outputs are enabled (R708). -/
  driving : Bool := false
  /-- Link trained, when, and a split in force since `splitAt`. -/
  linkUp : Bool := false
  upAt : Nat := 0
  split : Bool := false
  splitAt : Nat := 0
  /-- Own SEQ, highest SEQ received with a good CRC, run of good frames, and good frames since the link came up. -/
  seq : Nat := 0
  rxSeq : Nat := 0
  good : Nat := 0
  frames : Nat := 0
  /-- A sweep of every tile, S register and part of class D has completed since the link came up. -/
  swept : Bool := false
  /-- In step; on the Active, the peer's IN_STEP flag (TW_STAT). -/
  inStep : Bool := false
  /-- FLAGS of the peer's last frame, and its identity when one has arrived; both straps read the same (R704). -/
  peerFlags : Nat := 0
  peer : Option Nat := none
  sameStrap : Bool := false
  /-- Handover: 0 none, 1 requested, 2 READY arrived and the final frame is due; its source (R722). -/
  handover : Nat := 0
  handSrc : Nat := 0
  /-- HANDOVER_REQ was read in the peer's last frame. -/
  readyDue : Bool := false
  /-- Tiles marked for mirroring, oldest first, with the SEQ of the frame that first carried the change; S records likewise, by
  TARGET (R715). -/
  marked : List (Nat × Option Nat) := []
  srecs : List (Nat × Option Nat) := []
  /-- Values of the S records as last marked, by TARGET, and the broken map as last sent: cause + 1 by sensor. -/
  svals : List (Nat × Nat) := []
  brk : List (Nat × Nat) := []
  /-- Tiles whose INTENT the mirror gives as parked, with their group; class G as received: TEMP codes by zone. -/
  parked : List (Nat × Nat) := []
  hottest : List (Nat × Nat) := []
  /-- Start of the owner's next stimulus step, as its last frame gave it (R55). -/
  stimAt : Option Nat := none
  /-- Cause of this die's last release (Table 18.5). -/
  cause : Nat := 0
  /-- Share copied from the Active, in watts, and when (R675). -/
  shareCopy : Option (Nat × Nat) := none
deriving DecidableEq, Repr

end Sys2Proof.Machine
end

