-- ==== Sys2Proof/Machine/State/Engine.lean ====
section
/-! DEFINITION. State of the message engine and of the observation counters (Message Engine; Observation and Debug). -/

namespace Sys2Proof.Machine
open Sys2Proof

/-- A general queue message (Table 11.2). -/
structure QMsg where
  tag : Nat := 0
  source : Nat := 0
  chan : Bool := false
  partialF : Bool := false
  lost : Bool := false
  cseq : Nat := 0
  channel : Nat := 0xFFFF
  p0 : DWord := 0
  p1 : DWord := 0
  p2 : DWord := 0
deriving DecidableEq, Repr

/-- A channel (Table 11.15). -/
structure Chan where
  isOpen : Bool := false
  retry : Bool := false
  draining : Bool := false
  owner : Nat := 0
  cseq : Nat := 0
  dest : Nat := 0
deriving DecidableEq, Repr

/-- A COLLECT round of a group (R480, R481). -/
structure Round where
  arrivals : Nat := 0
  acc : DWord := 0
  number : Nat := 0
  /-- Completed results that wait for room in TARGET, oldest first, each with its arrivals and the retries made (R481). -/
  results : List (QMsg × Nat × Nat) := []
deriving DecidableEq, Repr

/-- A hardware event with its parameters, or an observation notice for a queue. -/
inductive MeWait where
  | event (code p0 p1 p2 : Nat)
  | notice (queue : Nat) (m : QMsg)
deriving DecidableEq, Repr

/-- The message engine. -/
structure Engine where
  /-- Messages held, head first, by queue. -/
  queues : List (Nat × List QMsg) := []
  /-- Pool allocation: queue, first unit, units (R455, R457). Queues 0 to 15 hold theirs from reset. -/
  alloc : List (Nat × Nat × Nat) := (List.range 16).map (fun q => (q, 4 * q, 4))
  /-- Queues whose next accepted message carries LOST (R466). -/
  lost : List (Nat × Bool) := []
  chans : List (Nat × Chan) := []
  rounds : List (Nat × Round) := []
  /-- The latch of each requester (0 to 7 core, 8 host): queue and words 1 to 7 (R483). -/
  latch : List (Nat × Nat × List Nat) := []
  /-- Position last chosen in ROTATE mode, by 4 * core + set (R488). -/
  rotPos : List (Nat × Nat) := []
  /-- Hardware events dropped since the Ledger last accepted an 0x8004 record (Table 11.9). -/
  evtDrops : Nat := 0
  /-- What other islands have for the engine while a Halt Sweep stops it, oldest first (Table 21.2). -/
  held : List MeWait := []
deriving DecidableEq, Repr

/-- Instruction held in the TAP (R103, R809, R815). -/
inductive TapInstr where
  | idcode | bypass | boundary | halt | release | network
deriving DecidableEq, Repr

/-- What an IEEE 1687 segment holds (Table 21.3): the fields of an island's registers by key; of a core both banks and its special
registers QSEL, NPC, UPC and pc; memory by byte. -/
structure ScanSeg where
  fields : List (Nat × Nat) := []
  banks : List Bank := []
  special : List Nat := []
  mem : List Host.Cell := []
deriving DecidableEq, Repr

/-- Observation: counters, halt and export (Observation and Debug). The trigger's and the counters' flags are register
fields. -/
structure Observe where
  /-- 48-bit counters (R803). -/
  cnt : List (Nat × Nat) := []
  /-- A Halt Sweep is in force, and when it began. -/
  halted : Bool := false
  haltAt : Nat := 0
  /-- FRI has taken the orphan share during the halt (R814). -/
  orphanTaken : Bool := false
  /-- Record sequence since export was enabled, ticks skipped since the last record, and a record on its way to the ring. -/
  rseq : Nat := 0
  skips : Nat := 0
  inFlight : Bool := false
  /-- Latched high word of a 64-bit pair, by requester and pair (R14): requester 0 is the host; no DRD uses a latch (R554). -/
  pairLatch : List (Nat × Nat × Nat) := []
  lastVec : Option Nat := none
  /-- When each notice of the last 10 us was sent (R823). -/
  notes : List Nat := []
  /-- The TAP's instruction, the segment insertion bits that are open, and what the segments captured as the halt applied (R817). -/
  tap : TapInstr := .idcode
  sibs : Nat := 0
  scan : List (Nat × ScanSeg) := []
  /-- What the stopped FAB and TWN held as the halt applied, and the pins they saw (R812). -/
  stopCb : Catchment := {}
  stopTw : Twin := {}
  stopEdge : Edge := {}
deriving DecidableEq, Repr

end Sys2Proof.Machine
end

