-- ==== Sys2Proof/Machine/State/FrontEnd.lean ====
section
/-! DEFINITION. State of the Command Front End and of Flume (Command Front End; Flume DMA and Translation). -/

namespace Sys2Proof.Machine

/-- A parsed command (Table 14.2): its bytes, and whether it has started and completed. -/
structure CfCmd where
  bytes : List Nat := []
  /-- The cost of this turn's parsing covers its start (R584). -/
  paid : Bool := false
  started : Bool := false
  done : Bool := false
deriving DecidableEq, Repr

/-- A descriptor in progress (Table 14.1): where it lies, its bytes once fetched, the buffer bytes fetched, its commands, the
first error (status and command), chained descriptors run so far, and the chained address. -/
structure CfDesc where
  loc : Nat := 0
  bytes : Option (List Nat) := none
  buf : List Nat := []
  /-- A fetch is outstanding, and the offset parsed to. -/
  fetching : Bool := false
  parsed : Nat := 0
  cmds : List CfCmd := []
  err : Option (Nat × Option Nat) := none
  chained : Nat := 0
  next : Option Nat := none
  /-- STATUS has been handed over for writing, or none is to be written back (R613). -/
  ended : Bool := false
  noWb : Bool := false
deriving DecidableEq, Repr

/-- A ring: its descriptor in progress and whether it is stopped; its other fields are registers. -/
structure CfRing where
  desc : Option CfDesc := none
  stopped : Bool := false
deriving DecidableEq, Repr

/-- A launch sent or waiting to be sent (R576 to R579): ring, command, core, constant slot once held, NOWAIT, message parts and
constants. -/
structure Launch where
  ring : Nat := 0
  cmd : Nat := 0
  core : Nat := 0
  slot : Option Nat := none
  nowait : Bool := false
  func : Nat := 0
  arg0 : Nat := 0
  arg1 : Nat := 0
  user : Nat := 0
  consts : List Nat := []
deriving DecidableEq, Repr

/-- The front end. -/
structure FrontEnd where
  rings : List (Nat × CfRing) := []
  /-- Ring whose turn it is with its time left in nanoseconds, and the ring last served (R583). -/
  turn : Option (Nat × Nat) := none
  last : Nat := 1023
  /-- Launches by number: those waiting for room, and those sent and not complete. -/
  nextLaunch : Nat := 0
  waiting : List (Nat × Launch) := []
  sent : List (Nat × Launch) := []
  /-- Time of each handle's last publication (R574). -/
  pubAt : List (Nat × Nat) := []
  /-- LOADTBLs started: ring, command and channel, none while waiting for one or for RETIRE, oldest first (R592). -/
  loads : List (Nat × Nat × Option Nat) := []
  /-- Channels held until RETIRE_WAIT_END for a handle (R574). -/
  retire : List Nat := []
deriving DecidableEq, Repr

/-- A TLB entry (R606): context, page size in address bits, IOVA page, output page, R and W. -/
structure Tlb where
  ctx : Nat := 0
  bits : Nat := 12
  iova : Nat := 0
  out : Nat := 0
  r : Bool := false
  w : Bool := false
deriving DecidableEq, Repr

/-- A page walk in progress: context, address, access, level and table address (R603). -/
structure Walk where
  ctx : Nat := 0
  iova : Nat := 0
  write : Bool := false
  level : Nat := 3
  table : Nat := 0
deriving DecidableEq, Repr

/-- A Flume channel (R591 to R597): its transfer and progress. -/
structure FlCh where
  /-- 0 idle, 1 running, 2 halted, 3 done, 4 aborted. -/
  st : Nat := 0
  ctx : Nat := 0
  iova : Nat := 0
  tsram : Nat := 0
  len : Nat := 0
  toHost : Bool := false
  /-- Ring, command and handle of a LOADTBL. -/
  load : Option (Nat × Nat × Nat) := none
  done : Nat := 0
  /-- Granules translated and issued; those that have arrived and are not written. -/
  issued : Nat := 0
  arrived : List (Nat × List Nat) := []
  /-- Output addresses and lengths of the granules issued upstream, by granule. -/
  outs : List (Nat × List (Nat × Nat)) := []
  walk : Option Walk := none
deriving DecidableEq, Repr

/-- A front-end access (R593): ring (1024 for a fault-log write), kind (0 descriptor, 1 buffer, 2 STATUS, 3 completion write, 4
SIGNAL write, 5 fault log), command, context, address, length or bytes, and its walk. -/
structure FeAcc where
  ring : Nat := 0
  kind : Nat := 0
  cmd : Nat := 0
  ctx : Nat := 0
  iova : Nat := 0
  len : Nat := 0
  bytes : List Nat := []
  walk : Option Walk := none
  /-- Translated and issued; a read waits for its data. -/
  issued : Bool := false
deriving DecidableEq, Repr

/-- Flume. -/
structure Flume where
  chans : List (Nat × FlCh) := []
  fe : List FeAcc := []
  /-- Most recently used first. -/
  tlb : List Tlb := []
  /-- Channel that last took a granule (R600). -/
  last : Nat := 15
  faultSeq : Nat := 0
  invBusy : Bool := false
deriving DecidableEq, Repr

end Sys2Proof.Machine
end

