-- ==== Sys2Proof/Machine/State/Ledger.lean ====
section
/-! DEFINITION. State of the Ledger in AO: the volatile buffer, rate limits, the flash store, tail flush, clear, reading window
and stream (The Ledger). -/

namespace Sys2Proof.Machine

/-- A record (Table 19.1) with its full sequence number; `sev` is byte 2. -/
structure LRec where
  code : Nat := 0
  sev : Nat := 0
  src : Nat := 0
  opsec : Nat := 0
  subsec : Nat := 0
  pcyc : Nat := 0
  seq : Nat := 0
  p0 : Nat := 0
  p1 : Nat := 0
  p2 : Nat := 0
  p3 : Nat := 0
deriving DecidableEq, Repr

/-- A record of the volatile buffer, and whether its mark is programmed (R741, R743). -/
structure BRec where
  r : LRec := {}
  flushed : Bool := false
deriving DecidableEq, Repr

/-- A record slot of the flash store as programmed (R743). -/
structure FSlot where
  r : LRec := {}
  marked : Bool := false
deriving DecidableEq, Repr

/-- The Ledger. -/
structure Ledger where
  /-- Next sequence number; set by the scan of R755, until which records are held unnumbered (R751). -/
  next : Nat := 0
  scanning : Bool := true
  held : List LRec := []
  /-- The volatile buffer, oldest first (R740). -/
  buf : List BRec := []
  /-- Tokens used of each code's bucket (R737). -/
  used : List (Nat × Nat) := []
  /-- Records suppressed and overflowed in the current operating second (R739, R742), and codes and records of the last. -/
  supp : List (Nat × Nat) := []
  lastCodes : Nat := 0
  lastCount : Nat := 0
  overs : Nat := 0
  overFault : Nat := 0
  overFirst : Nat := 0
  /-- Flash: slots by 2048 * physical sector + slot, retired physical sectors with the spare each was retired to (1056 for none),
  logical sectors removed, erase counts carried by opening records. -/
  slots : List (Nat × FSlot) := []
  retired : List (Nat × Nat) := []
  removed : List Nat := []
  opens : List (Nat × Nat) := []
  /-- Logical sector in use, none before the first opening; next slot in it; logical sectors erased ahead; the one being
  erased; the erase is suspended. -/
  cur : Option Nat := none
  slot : Nat := 2048
  erased : List Nat := []
  erasing : Option Nat := none
  suspended : Bool := false
  failed : Bool := false
  /-- A page program: 0 none, 1 data pass, 2 read-back, 3 mark pass; its records and first slot. -/
  pass : Nat := 0
  prog : List LRec := []
  progAt : Nat := 0
  /-- A tail flush is in progress, and what it has still to program. -/
  tail : Bool := false
  tailQ : List LRec := []
  /-- A clear: 0 none, 1 awaiting authorisation, 2 awaiting its mark; its record; sectors to erase after it. -/
  clear : Nat := 0
  clearSeq : Nat := 0
  clearErase : List Nat := []
  /-- Lowest sequence number that a read returns (LG_OLDEST). -/
  oldest : Nat := 0
  /-- The reading window: a fill is in progress, and its slots. -/
  filling : Bool := false
  win : List (Nat × LRec) := []
  /-- First record not streamed, and a record streamed since the host last wrote HEAD (R763, R764). -/
  stNext : Option Nat := none
  stSince : Bool := false
deriving DecidableEq, Repr

end Sys2Proof.Machine
end

