-- ==== Sys2Proof/Machine/State/Reservoir.lean ====
section
/-! DEFINITION. State of the reservoir in REG (The Reservoir). Voltages are in millivolts, stack current in 0.1 A, powers in
0.01 W and energies in millijoules. -/

namespace Sys2Proof.Machine

/-- A clean reading A (R355): its time, the cells in order, RVSTK, and the stack charge in microcoulombs integrated up to
it. -/
structure CellRead where
  time : Nat := 0
  cells : List Nat := []
  stack : Nat := 0
  charge : Int := 0
deriving DecidableEq, Repr

/-- A thermistor (R352). -/
structure Therm where
  temp : Int := 0
  /-- It reads neither open nor short. -/
  reads : Bool := false
  /-- Ignored, since its last bad reading at `badAt`; why: 0 open, 1 short, 2 median. -/
  broken : Bool := true
  badAt : Nat := 0
deriving DecidableEq, Repr

/-- Measurements of one cell (R371 to R373): the last segments in 0.1 % of C_NAME and samples in 0.01 of ESR_NAME, and the
consecutive medians beyond the Fade and the Retired thresholds. -/
structure CellWear where
  segs : List Nat := []
  esrs : List Nat := []
  capFade : Nat := 0
  capRet : Nat := 0
  esrFade : Nat := 0
  esrRet : Nat := 0
  /-- Charge bled since the segment began, in microcoulombs. -/
  bled : Nat := 0
deriving DecidableEq, Repr

/-- The reservoir. -/
structure Reservoir where
  /-- Mode of Table 8.1 and causes of Table 8.2, bit c for cause c. -/
  mode : Nat := 0
  causes : Nat := 0
  /-- g, converter command, p_res and allowance of R348, and its term (1 or 2). -/
  g : Nat := 0
  cmd : Int := 0
  pRes : Nat := 0
  rga : Nat := 0
  term : Nat := 1
  /-- Measured grid draw and converter power. -/
  pGrid : Nat := 0
  pConv : Int := 0
  /-- Grid draws of the last 1 ms, newest first; demand summed since the last REPORT and since the last budget period. -/
  gridHist : List Nat := []
  accRep : Nat := 0
  cntRep : Nat := 0
  accDuty : Nat := 0
  cntDuty : Nat := 0
  /-- G_CEIL in watts and the shed flag as REG holds them (R376). -/
  gCeil : Nat := 0
  shed : Bool := false
  shedAt : Nat := 0
  /-- Energy supplied since then, in 0.1 uJ. -/
  shedUj : Nat := 0
  /-- RVSTK and RVIS as last read; charge integrated from RVIS, and discharged, in microcoulombs. -/
  stackMv : Nat := 0
  stackDa : Int := 0
  charge : Int := 0
  dischargeUc : Nat := 0
  /-- Event 0x5052 was recorded in this discharge (R377). -/
  spentTold : Bool := false
  /-- Reading A, earlier clean readings of the last 10 s newest first, the start of the capacitance segment. -/
  a : CellRead := {}
  old : List CellRead := []
  segStart : Option CellRead := none
  /-- Last probe: each cell's change and the stack's. -/
  delta : List Int := []
  deltaS : Int := 0
  deltaST : Int := 0
  /-- Schedule: start of the period, parity, cells that bleed. -/
  periodAt : Nat := 0
  parity : Nat := 1
  bleeding : Nat := 0
  /-- Cells whose balancing has begun and has not brought them within BAL_DV / 2 of the lowest (R356). -/
  balancing : Nat := 0
  /-- Open taps, taps with one finding pending, difference kept for OPEN_MARGIN, sense disagreements and clean probes in a
  row. -/
  openTaps : Nat := 0
  pendTaps : Nat := 0
  preDiff : List (Nat × Nat) := []
  senseRun : Nat := 0
  cleanRun : Nat := 0
  therms : List (Nat × Therm) := []
  chgOpen : Bool := false
  disOpen : Bool := false
  /-- Times of the FAULTs of the last 10 min; the cause no longer clears by itself (R368). -/
  faults : List Nat := []
  latched : Bool := false
  /-- Cause PRECHARGE came from a timeout; start of PRECHARGE and the stack voltage then. -/
  preTimeout : Bool := false
  preAt : Nat := 0
  preStack : Nat := 0
  /-- CHECK began, and clean probes since. -/
  checkAt : Nat := 0
  checkClean : Nat := 0
  wear : List (Nat × CellWear) := []
  esrAt : Nat := 0
  /-- Level of each half-bridge, active legs, and the taps that a probe in progress sources into. -/
  pins : List (Nat × Pin) := []
  legs : Nat := 0
  probing : Nat := 0
deriving DecidableEq, Repr

end Sys2Proof.Machine
end

