-- ==== Sys2Proof/Machine/State/Security.lean ====
section
/-! DEFINITION. State of the security engine: key slots, anti-rollback counter, image slots, challenge, update, verification and
the SPDM mailbox (Security and Images). -/

namespace Sys2Proof.Machine

/-- A fused key slot (R771). -/
structure KeySlot where
  blown : Bool := false
  digest : Nat := 0
  perms : Nat := 0
  revoked : Bool := false
deriving DecidableEq, Repr

/-- A pending challenge (R784, R785): PURPOSE, TARGET, PERMS, its 96 bytes, its time and the 200 bytes of a response
submitted. -/
structure Challenge where
  purpose : Nat := 0
  target : Nat := 0
  perms : Nat := 0
  bytes : List Nat := []
  since : Nat := 0
  resp : Option (List Nat) := none
deriving DecidableEq, Repr

/-- The security engine. -/
structure Security where
  keys : List (Nat × KeySlot) := []
  /-- Anti-rollback fuses blown (R779), and the target of a commit in progress. -/
  counter : Nat := 0
  commit : Option Nat := none
  /-- Image slots A and B as flash bytes 0 to 32 MiB - 1; an unlisted byte is erased. -/
  image : List Host.Cell := []
  /-- Slot, EPOCH and KEY_INDEX of the image loaded; the fallback was used (R778). -/
  loaded : Option (Nat × Nat × Nat) := none
  fellBack : Bool := false
  /-- A VERIFY in progress, by slot (R783). -/
  verify : Option Nat := none
  chal : Option Challenge := none
  /-- Locked fields written while the provisioning window is open, and those of them saved (R790). -/
  provKeys : List Nat := []
  provSaved : Nat := 0
  /-- OFFSET of the update window being programmed, in 4 KiB units, and its slot (R781). -/
  update : Option Nat := none
  updSlot : Nat := 0
  /-- An SPDM request is in progress (R791). -/
  mbox : Bool := false
  /-- Pending challenge taken by a reset, by purpose: recorded when the reset ends (R787). -/
  lost : Option Nat := none
deriving DecidableEq, Repr

end Sys2Proof.Machine
end

