-- ==== Sys2Proof/Machine/State/Sluice.lean ====
section
/-! DEFINITION. State of the Sluice links, of the KG8's tile table, and of the tile endpoints and die ports that the manual
specifies in full (The Sluice Endpoint). -/

namespace Sys2Proof.Machine
open Sys2Proof

/-- An INTENT that the KG8 has accepted and not yet finished with (R453, R454). -/
structure Pend where
  seq : Nat := 0
  cls : Nat := 0
  lease : Nat := 0
  barrier : Bool := false
  renew : Bool := false
  op : Nat := 0
  layer : Nat := 0
  grp : Nat := 0xFFF
  /-- 1 parked, 2 listed, 3 a renewal held by a freeze (R268). -/
  stage : Nat := 0
  /-- Order of acceptance, for R439. -/
  order : Nat := 0
deriving DecidableEq, Repr

/-- A HELD ask (R431): its value in current class, its code and the time of the refusal. -/
structure HeldAsk where
  cls : Nat := 0
  code : Nat := 0
  since : Nat := 0
  /-- Still counted in demand; the tile itself may stay HELD after it. -/
  counts : Bool := true
deriving DecidableEq, Repr

/-- A tile as the KG8 keeps it. Its STATE, CHECK, TEMP and ALLOWANCE are fields of SL_TILE_STAT. -/
structure Tile where
  isOpen : Bool := false
  link : Nat := 0
  /-- As its CONFIG gave them. -/
  floor : Nat := 0
  part : Nat := 0
  dom : Nat := 0
  maxcls : Nat := 0
  sensors : Nat := 0
  memCtl : Bool := false
  /-- Reservation above floor, the SEQ of the INTENT that set it, its lease in microseconds and the time it was granted. -/
  resv : Nat := 0
  resvSeq : Option Nat := none
  lease : Nat := 0
  grantAt : Nat := 0
  intents : List Pend := []
  /-- The SEQ last answered by a grant or refusal is not outstanding any more; the INTENT last withdrawn is neither. -/
  held : Option HeldAsk := none
  /-- DATA of the PROBE pending, and its issue time (R252). -/
  probe : Option (Nat × Nat) := none
  /-- OPEN's MAXCLASS, kept while a PROBE is pending. -/
  askMax : Nat := 0
  /-- Check 6: 0 done, 1 its first INTENT is to be answered QFULL, 2 the resend is awaited since `backAt`. -/
  backoff : Nat := 0
  backAt : Nat := 0
  /-- Nonconforming in this link session (R252), and refused once already. -/
  refused : Bool := false
  /-- Group of its most recent BARRIER_ARRIVE (R272). -/
  barGrp : Option Nat := none
  /-- Multicast group slots as GROUP messages set them: slot and group. -/
  slots : List (Nat × Nat) := []
  /-- A reservation waits for the 2 us of R248 or R254. -/
  returning : Bool := false
  /-- Arrival counted of the INTENT with this SEQ (R238). -/
  arrivedSeq : Option Nat := none
  /-- Duty of the last PAUSE sent that addresses it, and refresh code sent. -/
  duty : Nat := 0
  refresh : Nat := 0
  /-- OP_TAG and LAYER_TAG of its last INTENT (Table 21.1). -/
  op : Nat := 0
  layer : Nat := 0
  /-- COUNT and LONGEST of its last DROOP: its entry in the report table (R236). -/
  droop : Option (Nat × Nat) := none
deriving DecidableEq, Repr

/-- A flit that a sender holds until it is acknowledged: its FSEQ, its messages, and how often it has been replayed (R213, R214). -/
structure HeldFlit where
  seq : Nat := 0
  msgs : List Msg := []
  replays : Nat := 0
deriving DecidableEq, Repr

/-- The flit layer of one end of a link (R209 to R214), as it stands when the link becomes active. -/
structure FlitLink where
  /-- Next FSEQ expected, last FSEQ received in order, REPLAY set. -/
  rxNext : Nat := 0
  rxLast : Nat := 127
  askReplay : Bool := false
  /-- Next FSEQ to send, and the flits not acknowledged, oldest first. -/
  txNext : Nat := 0
  txHeld : List HeldFlit := []
  /-- Messages that wait while 64 flits are held (R213). -/
  txWait : List Msg := []
deriving DecidableEq, Repr

/-- A Sluice link of this die. -/
structure Link where
  /-- 0 reset, 1 training, 2 active, 3 lost, 4 disabled. -/
  st : Nat := 0
  fails : Nat := 0
  /-- Disabled after three failed attempts in a row, until RETRAIN, a reset of SLU or a cold start (R208). -/
  barred : Bool := false
  /-- The traffic link is lost and not yet active again (R293). -/
  lost : Bool := false
  rate : Nat := 0
  x8 : Bool := false
  /-- The die port sends its traffic on this die's link. -/
  traffic : Bool := false
  /-- Tiles opened and refused in this session, and whether enumeration has been recorded. -/
  opened : Nat := 0
  refused : Nat := 0
  enumerated : Bool := false
  /-- Tiles that failed a conformance check in this session, and whose later OPENs are answered CLOSE (R252). -/
  failed : List Nat := []
  /-- The KG8's flit layer. -/
  fl : FlitLink := {}
  /-- Messages in the intake. -/
  intake : List Msg := []
  /-- QFULL answers and a full intake in the current 1 ms period, with the busy links when it first filled (R835). -/
  msFulls : Nat := 0
  msFull : Bool := false
  msBusy : Nat := 0
  /-- Tiles whose reservations return 2 us after the loss (R248). -/
  losing : List Nat := []
deriving DecidableEq, Repr

/-- A message that an endpoint sends again after QFULL: the message, the backoff base in microseconds, the time of the QFULL, and
whether it waits to be sent (R234). -/
structure Backoff where
  msg : Msg := 0
  base : Nat := 2
  at_ : Option Nat := none
  waits : Bool := false
deriving DecidableEq, Repr

/-- The endpoint of a tile (R204 to R244). -/
structure Endpoint where
  /-- State of Table 5.5. -/
  st : Nat := 0
  allow : Nat := 0
  /-- LEASE of the grant in force, and the time of its receipt. -/
  lease : Nat := 0
  leaseAt : Nat := 0
  seq : Nat := 0
  /-- The INTENT outstanding. -/
  out : Option Pend := none
  /-- SEQ of the last granted INTENT. -/
  lastSeq : Nat := 0
  /-- Class ramped from (R226). -/
  rampFrom : Nat := 0
  floor : Nat := 0
  part : Nat := 0
  dom : Nat := 0
  maxcls : Nat := 0
  ramp : Nat := 25
  grade : Nat := 0
  freq : Nat := 0
  gated : Bool := false
  configured : Bool := false
  slots : List (Nat × Nat) := []
  pause : Nat := 0
  refresh : Nat := 0
  /-- Refusal that holds it (Table 5.7). -/
  heldCode : Nat := 0
  /-- Messages refused with QFULL, by TYPE (R234). -/
  backs : List (Nat × Backoff) := []
  /-- What it has, as its OPEN says. -/
  caps : Nat := 0
  sensors : Nat := 1
  askMax : Nat := 0
  /-- SEQs withdrawn and not answered, each with its BARRIER_GRP (R225). -/
  withdrawn : List (Nat × Nat) := []
  /-- The last message sent of each TYPE that a QFULL may refuse (R236). -/
  sent : List (Nat × Msg) := []
  /-- Each sensor's last report: its time and its reading in thousandths of a degree, none for an invalid one (R239). -/
  temps : List (Nat × Option (Nat × Option Int)) := []
  /-- Time of the last DROOP (R240). -/
  droopAt : Option Nat := none
  /-- SEQ, ECHO_TYPE and DETAIL of the last NAK BADTAG: the error record for its own diagnostics (R233). -/
  diag : Option (Nat × Nat × Nat) := none
  /-- The compute die that holds it, known from its first CONFIG. -/
  die : Option Nat := none
deriving DecidableEq, Repr

/-- The die port of a compute die (R204, R205, R245 to R250). -/
structure DiePort where
  /-- Link that carries tile traffic: 0 none yet, 1 this die's, 2 the other KG8's. -/
  traffic : Nat := 0
  /-- CLAMP code accepted (R245). -/
  clamp : Nat := 15
  /-- The links' state at the die port. -/
  up : Bool := false
  otherUp : Bool := false
  /-- The flit layer of its end of each link: to this die, and to the other KG8. -/
  fl : FlitLink := {}
  flOther : FlitLink := {}
  /-- Messages of tiles that wait for their turn, oldest first, and the tile served last (R206). -/
  queue : List (Nat × Msg) := []
  turn : Nat := 16383
  /-- Messages that the traffic link had not acknowledged when it was lost (R250). -/
  unacked : List Msg := []
deriving DecidableEq, Repr

/-- The Sluice. -/
structure Sluice where
  links : List (Nat × Link) := []
  tiles : List (Nat × Tile) := []
  ends : List (Nat × Endpoint) := []
  ports : List (Nat × DiePort) := []
  /-- CLAMP code driven to each die. -/
  clampOut : List (Nat × Nat) := []
  /-- Acceptance order counter. -/
  order : Nat := 0
  /-- Messages in intent queues that FRI has not taken, with their links: a Halt Sweep holds them (Table 21.2). -/
  held : List (Nat × Msg) := []
  /-- The microsecond of the last acceptance, and the messages accepted in it and in the microsecond before it (Table 22.6). -/
  rateAt : Nat := 0
  rateNow : Nat := 0
  ratePrev : Nat := 0
deriving DecidableEq, Repr

end Sys2Proof.Machine
end

