-- ==== Sys2Proof/Machine/State/Thermal.lean ====
section
/-! DEFINITION. State of thermal sensing, of the orderly stop and of the trip (Thermal Sensing and Action). Temperatures are
TEMP codes; sensors and zones go by the codes of Table 9.8. -/

namespace Sys2Proof.Machine
open Sys2Proof

/-- The latest reading of a sensor. -/
structure Reading where
  code : Nat := 0x3FF
  seen : Bool := false
  broken : Bool := false
  cause : Nat := 0
  /-- Time of the reading, of its code's last change, and the neighbours' median then. -/
  readAt : Nat := 0
  changeAt : Nat := 0
  medAt : Option Nat := none
deriving DecidableEq, Repr

/-- A zone. -/
structure Zone where
  temp : Nat := 0x3FF
  band : Nat := 0
  judged : Bool := false
  /-- Step count k or c, thermal duty, and the temperature at the last 10 ms tick. -/
  step : Nat := 0
  duty : Nat := 0
  tick : Option Nat := none
  pinned : Bool := false
  /-- Times and temperatures of the last millisecond. -/
  hist : List (Nat × Nat) := []
  /-- Refresh code sent. -/
  refresh : Nat := 0
deriving DecidableEq, Repr

/-- The thermal logic and AO's trip latch. -/
structure Thermal where
  readings : List (Nat × Reading) := []
  zones : List (Nat × Zone) := []
  /-- Governor zone of the other die, received over the twin link: its band. -/
  peerBand : Nat := 0
  pkgBand : Nat := 0
  /-- Edges in force last computed. -/
  edges : List Nat := []
  /-- Phase of Table 9.4, its start, its zone, and reservations cut at DRAIN_MAX. -/
  stop : Nat := 0
  stopAt : Nat := 0
  stopZone : Nat := 0
  drainCut : Bool := false
  /-- Projection last computed in 10 us; none when unbounded. -/
  proj : Option Nat := none
  /-- AO's trip latch. -/
  trip : Bool := false
  /-- THRESH written while the latch is set: takes effect at the next cold start (R413). -/
  nextThresh : Option Nat := none
deriving DecidableEq, Repr

end Sys2Proof.Machine
end

