-- ==== Sys2Proof/Machine/State.lean ====
section
/-! DEFINITION. The state of the block: the waiting commands, the register fields, and every unit's state; its reset; the
faults and the refusals. -/

namespace Sys2Proof.Machine
open Sys2Proof

/-- The faults. No command of this block stops it: every failure the spec describes is an effect on State. -/
inductive Fault where
  /-- Raised by no meaning. Safe: it can only stop a run. -/
  | halted
deriving DecidableEq, Repr

/-- The refusals. -/
inductive Refusal where
  /-- A command without a meaning yet, by its mnemonic; raised by an arm of `exec` only. Safe: it can only stop a run. -/
  | notModelled (mnemonic : String)
deriving DecidableEq, Repr

/-- The state of one die of the twin, with the tile endpoints and die ports it serves. Every default is the value at
reset. -/
structure State where
  /-- Commands waiting, first in, first out. -/
  pending : List Instr := []
  /-- Time in nanoseconds since the start of the run: the model's own clock, which the idle step advances. -/
  now : Nat := 0
  /-- Free values drawn so far: the model's own counter (log entry 3). -/
  free : Nat := 0
  /-- Register fields that differ from their reset value: key 32 * address + low bit, and the field's value. -/
  regs : List (Nat × Nat) := []
  /-- Persistent configuration and rail profile as saved in flash, with the same keys. -/
  flash : List (Nat × Nat) := []
  /-- What the die has put on its interfaces, oldest first. -/
  outbox : List Out := []
  /-- Records raised and not yet at AO (Table 3.2), oldest first. -/
  raised : List Raised := []
  /-- The die's edge (Die Edges: Signals, Supplies and Clocks). -/
  edge : Edge := {}
  /-- Factory fuses. -/
  fuse : Fuses := {}
  /-- AO's counters and their checkpoint (R139, R140, R750). -/
  ao : Ao := {}
  /-- Islands, resets and package state (Islands, Resets and Power States). -/
  isl : Isl := {}
  /-- The message engine (Message Engine). -/
  me : Engine := {}
  /-- Observation and debug (Observation and Debug). -/
  ob : Observe := {}
  /-- The policy cores (Ikiva Policy Cores). -/
  ik : Ikiva := {}
  /-- The phase controller (Phase Controller). -/
  ph : Phases := {}
  /-- Sluice links, tiles and endpoints (The Sluice Endpoint). -/
  sl : Sluice := {}
  /-- The admission sequencer (Admission and Droop). -/
  ad : Admission := {}
  /-- Package budget and partitions (Budgets, Partitions and Contention). -/
  bg : Budget := {}
  /-- Thermal sensing, orderly stop and trip (Thermal Sensing and Action). -/
  th : Thermal := {}
  /-- The twin (The Twin). -/
  tw : Twin := {}
  /-- The reservoir (The Reservoir). -/
  rv : Reservoir := {}
  /-- The Vexurn fabric node (Vexurn Fabric). -/
  fb : Fabric := {}
  /-- The Catchment as this node sees it (The Building as One Governor). -/
  cb : Catchment := {}
  /-- The auxiliary rails (Auxiliary Rails). -/
  ax : Auxiliary := {}
  /-- The Ledger (The Ledger). -/
  lg : Ledger := {}
  /-- The security engine (Security and Images). -/
  se : Security := {}
  /-- The Command Front End (Command Front End). -/
  cf : FrontEnd := {}
  /-- Flume (Flume DMA and Translation). -/
  fl : Flume := {}
deriving DecidableEq, Repr

/-- The machine right after reset: every field at its default. DESIGN CHOICE, log entry 2. -/
def State.reset : State := {}

end Sys2Proof.Machine
end

