-- ==== Sys2Proof/Machine/Ops.lean ====
section
/-! DEFINITION. The named operations over the state: register fields, records, outputs, time and free values. -/

namespace Sys2Proof.Machine
open Sys2Proof

/-- One microsecond in nanoseconds. -/
def usec : Nat := 1000

/-- One millisecond in nanoseconds. -/
def msec : Nat := 1000000

/-- One second in nanoseconds. -/
def second : Nat := 1000000000

/-- The state with another queue of waiting commands. -/
def State.withPending (s : State) (q : List Instr) : State := { s with pending := q }

/-- The value of a register field. -/
def State.rf (s : State) (f : Fld) : Nat := mget f.rst s.regs f.key

/-- A register field as a flag. -/
def State.rb (s : State) (f : Fld) : Bool := s.rf f != 0

/-- Write a register field, keeping the low bits that fit it. -/
def State.wr (s : State) (f : Fld) (v : Nat) : State :=
  { s with regs := mput f.rst s.regs f.key (v % 2 ^ (f.hi + 1 - f.lo)) }

/-- Add to a counter field that saturates. -/
def State.satAdd (s : State) (f : Fld) (n : Nat) : State := s.wr f (satU (f.hi + 1 - f.lo) (s.rf f + n))

/-- Set bit `n` of a field. -/
def State.setBit (s : State) (f : Fld) (n : Nat) : State := s.wr f (s.rf f ||| 2 ^ n)

/-- Clear bit `n` of a field. -/
def State.clrBit (s : State) (f : Fld) (n : Nat) : State := s.wr f (setBitsOf (s.rf f) n n 0)

/-- Saturate a parameter to its 32-bit form (R864). -/
def p32 (n : Nat) : Nat := satU 32 n

/-- Raise a record: it sets out for AO with the severity of the catalogue (R861, R864). DESIGN CHOICE, log entry 5. -/
def State.emit (s : State) (src code : Nat) (p0 : Nat := 0) (p1 : Nat := 0) (p2 : Nat := 0) (p3 : Nat := 0) : State :=
  { s with raised := s.raised ++ [⟨src, code, none, p32 p0, p32 p1, p32 p2, p32 p3, 8⟩] }

/-- The die drives its outputs: with a supply absent, or below 2.9 V on VDD33_AO, every output but TRIP_N is high-impedance (R57, R114). -/
def State.drives (s : State) : Bool := s.ao.powered && !s.edge.outputsOff && !s.edge.supplyHold

/-- Put something on an interface, while the die drives its outputs. DESIGN CHOICE, log entry 4. DESIGN CHOICE, log entry 19. -/
def State.out (s : State) (o : Out) : State := { s with outbox := if s.drives then s.outbox ++ [o] else s.outbox }

/-- What a compute die puts on its link. -/
def State.outEnd (s : State) (o : Out) : State := { s with outbox := s.outbox ++ [o] }

/-- Draw a free value of kind `k`, and advance the counter. -/
def State.draw (s : State) (k : Nat) : Nat × State := (Config.freeValue k s.free, { s with free := s.free + 1 })

/-- Set IS_RESET_STATUS.REFUSED (R129, R136, R143). -/
def State.refuse (s : State) : State := s.wr Reg.IS_RESET_STATUS_REFUSED 1

/-- The key of every keyed register. -/
def keyOk (v : Nat) : Bool := bitsOf v 31 24 == 0x5C

/-- Every bit of GL_STATUS reads 0. -/
def State.glClean (s : State) : Bool :=
  s.rf Reg.GL_STATUS_UNMAPPED == 0 && s.rf Reg.GL_STATUS_LOCK_REJECT == 0 && s.rf Reg.GL_STATUS_MISALIGNED == 0
    && s.rf Reg.GL_STATUS_RSVD_WRITE == 0

/-- Set a bit of GL_STATUS and capture the offset while every bit reads 0 (R25). -/
def State.glErr (s : State) (f : Fld) (addr : Nat) : State :=
  (if s.glClean then s.wr Reg.GL_ERR_OFFSET_OFFSET addr else s).wr f 1

/-- Fold an operation over the indices 0 to n - 1, in ascending order. -/
def State.upto (s : State) (n : Nat) (f : Nat → State → State) : State := (List.range n).foldl (fun t i => f i t) s

/-- Fold an operation over a list of indices. -/
def State.each (s : State) (l : List Nat) (f : Nat → State → State) : State := l.foldl (fun t i => f i t) s

/-- FRI's walk, counting, prediction, allocation and duties act: out of reset, and not stopped by a Halt Sweep (Table
21.2). -/
def State.friRuns (s : State) : Bool := !bitOf s.isl.inReset 0 && !s.ob.halted

/-- A meaning that always answers a next state. -/
abbrev Res := Host.Outcome State Fault Refusal

end Sys2Proof.Machine
end

