-- ==== Sys2Proof/Machine/FlitOps.lean ====
section
/-! DEFINITION. Flits and the flit layer of one end of a Sluice link: layout, CRC, acknowledgement and replay (R209 to R214). -/

namespace Sys2Proof.Machine
open Sys2Proof

/-- A flit of four slots with the messages of the list, its FSEQ and its link bytes (Table 5.1, R211). -/
def FlitLink.flit (l : FlitLink) (seq : Nat) (msgs : List Msg) : List Nat :=
  let slot := fun i => leBytes 15 (msgs.getD i 0).toNat
  let a := slot 0 ++ [seq + 128 * b01 msgs.isEmpty] ++ slot 1 ++ [l.rxLast + 128 * b01 l.askReplay] ++ slot 2
  let c := crc16 (a ++ slot 3)
  a ++ [c % 256] ++ slot 3 ++ [c / 256]

/-- An idle flit: it repeats the last FSEQ sent (Table 5.1). -/
def FlitLink.idle (l : FlitLink) : List Nat := l.flit ((l.txNext + 127) % 128) []

/-- What an end of a link puts out now: flits of up to four waiting messages, while fewer than 64 flits are held (R209, R213). -/
def FlitLink.pump : Nat → FlitLink → FlitLink × List (List Nat)
  | 0, l => (l, [])
  | n + 1, l =>
    if l.txWait.isEmpty ∨ 64 ≤ l.txHeld.length then (l, [])
    else
      let m := l.txWait.take 4
      let r := FlitLink.pump n { l with
        txNext := (l.txNext + 1) % 128, txHeld := l.txHeld ++ [{ seq := l.txNext, msgs := m }], txWait := l.txWait.drop 4 }
      (r.1, l.flit l.txNext m :: r.2)

/-- Send a message: it leaves at once, or waits while 64 flits are held (R213). DESIGN CHOICE, log entry 123. -/
def FlitLink.send (l : FlitLink) (m : Msg) : FlitLink × List (List Nat) := ({ l with txWait := l.txWait ++ [m] }).pump 64

/-- The held flits up to and with an acknowledged FSEQ go (R213). -/
def FlitLink.acked (l : FlitLink) (seq : Nat) : FlitLink :=
  if l.txHeld.any (fun e => e.seq == seq) then { l with txHeld := (l.txHeld.dropWhile (fun e => e.seq != seq)).tail } else l

/-- A replay of every held flit, with its original FSEQ; none when one of them has been replayed three times before: its fourth replay
loses the link (R213, R214). -/
def FlitLink.again (l : FlitLink) : Option (FlitLink × List (List Nat)) :=
  if l.txHeld.any (fun e => decide (3 ≤ e.replays)) then none
  else some ({ l with txHeld := l.txHeld.map (fun e => { e with replays := e.replays + 1 }) },
    l.txHeld.map (fun e => l.flit e.seq e.msgs))

/-- Messages of the flits not acknowledged, oldest first, and those that wait behind them (R250). -/
def FlitLink.open_ (l : FlitLink) : List Msg := l.txHeld.flatMap (·.msgs) ++ l.txWait

/-- Message `i` of a flit: bytes 0 to 14 of slot `i` (R209). -/
def flitMsg (f : BitVec 512) (i : Nat) : Msg := BitVec.ofNat 120 (f.toNat / 256 ^ (16 * i))

/-- Byte `i` of a flit. -/
def flitByte (f : BitVec 512) (i : Nat) : Nat := f.toNat / 256 ^ i % 256

/-- The CRC of a flit matches (R211). -/
def flitCrcOk (f : BitVec 512) : Bool :=
  let overs := (List.range 47).map (flitByte f) ++ (List.range 15).map (fun i => flitByte f (48 + i))
  crc16 overs == flitByte f 47 + 256 * flitByte f 63

/-- What a received flit leaves at an end of a link: its flit layer, the messages delivered, the flits put out, whether it asked for a
replay, and whether the link is lost by a fourth replay. -/
structure FlitEnd where
  link : FlitLink
  msgs : List Msg := []
  flits : List (List Nat) := []
  asked : Bool := false
  lost : Bool := false

/-- A flit arrives (R210 to R214): discarded, with REPLAY asked for, on a bad CRC or an FSEQ out of order; else its acknowledgement, its
replay request and its messages are handled. An idle flit with the changed link bytes leaves where nothing else does. DESIGN CHOICE, log
entry 123. -/
def FlitLink.recv (l : FlitLink) (f : BitVec 512) : FlitEnd :=
  let idle := bitOf (flitByte f 15) 7
  let fseq := flitByte f 15 % 128
  if !flitCrcOk f || (!idle && fseq != l.rxNext) then
    let l1 := { l with askReplay := true }
    { link := l1, flits := if l.askReplay then [] else [l1.idle] }
  else
    let l1 := if idle then l else { l with rxNext := (fseq + 1) % 128, rxLast := fseq, askReplay := false }
    let l2 := l1.acked (flitByte f 31 % 128)
    let asked := bitOf (flitByte f 31) 7
    match if asked then l2.again else some (l2, []) with
    | none => { link := l2, asked := true, lost := true }
    | some r =>
      let p := r.1.pump 64
      let out := r.2 ++ p.2
      { link := p.1, asked := asked, flits := if out.isEmpty && !idle then [p.1.idle] else out
        msgs := if idle then [] else ((List.range 4).map (flitMsg f)).filter (fun m => m != 0) }

end Sys2Proof.Machine
end

