-- ==== Sys2Proof/Machine/Queues.lean ====
section
/-! DEFINITION. Counting of observed events, and the general queues, channels and groups of the message engine. -/

namespace Sys2Proof.Machine
open Sys2Proof

/-- What an observed event carries (Table 21.1). -/
structure ObsTags where
  op : Option Nat := none
  layer : Option Nat := none
  part : Option Nat := none
  dom : Option Nat := none
  queue : Option Nat := none
  q : Nat := 0
deriving DecidableEq, Repr

/-- A masked filter matches, or does not apply (R801). -/
def maskMatch (x : Option Nat) (mask val : Nat) : Bool :=
  match x with
  | none => true
  | some v => mask == 0 || (v &&& mask) == val

/-- An equality filter matches, is off, or does not apply (R801). -/
def eqMatch (x : Option Nat) (en : Bool) (val : Nat) : Bool :=
  match x with
  | none => true
  | some v => !en || v == val

/-- The event qualifies for group `g` (R801). -/
def State.obsQualifies (s : State) (src : Nat) (t : ObsTags) (g : Nat) : Bool :=
  s.rf (Reg.OB_GRP0_SOURCE g) == src
  && maskMatch t.op (s.rf (Reg.OB_GRP1_OP_MASK g)) (s.rf (Reg.OB_GRP1_OP_VAL g))
  && maskMatch t.layer (s.rf (Reg.OB_GRP2_LAYER_MASK g)) (s.rf (Reg.OB_GRP2_LAYER_VAL g))
  && eqMatch t.part (s.rb (Reg.OB_GRP0_PART_EN g)) (s.rf (Reg.OB_GRP0_PART g))
  && eqMatch t.dom (s.rb (Reg.OB_GRP0_DOM_EN g)) (s.rf (Reg.OB_GRP0_DOM g))
  && eqMatch t.queue (s.rb (Reg.OB_GRP3_QUEUE_EN g)) (s.rf (Reg.OB_GRP3_QUEUE g))

/-- The bin of quantity `q` in mode HIST with base `b`: 0 below `b`, 7 from 64 times `b` (R802). -/
def histBin (b q : Nat) : Nat :=
  if q < b then 0 else if q < 2 * b then 1 else if q < 4 * b then 2 else if q < 8 * b then 3
  else if q < 16 * b then 4 else if q < 32 * b then 5 else if q < 64 * b then 6 else 7

/-- The counter of group `g` that a qualifying event adds to (R802); none where SPLIT names a domain or tag that the event does not
carry. -/
def State.obsBin (s : State) (t : ObsTags) (g : Nat) : Option Nat :=
  if s.rb (Reg.OB_GRP0_MODE g) then some (histBin (2 ^ s.rf (Reg.OB_GRP0_BASE_LOG2 g)) t.q)
  else match s.rf (Reg.OB_GRP0_SPLIT g) with
    | 0 => some 0
    | 1 => t.dom
    | 2 => some (t.q % 8)
    | _ => t.op.map (· % 8)

/-- One more on a 48-bit saturating counter (R803). -/
def State.obsAdd (s : State) (n : Nat) : State :=
  { s with ob.cnt := mput 0 s.ob.cnt n (satU 48 (mget 0 s.ob.cnt n + 1)) }

/-- Count one event in every group that it qualifies for; nothing while the counters are gated or frozen (R799, R807). The counter of a
SPLIT by what the event does not carry is free. DESIGN CHOICE, log entry 54. -/
def State.count (s : State) (src : Nat) (t : ObsTags) : State :=
  if s.rb Reg.OB_STAT_ENABLED && !s.rb Reg.OB_STAT_FROZEN then
    s.upto 512 (fun g x =>
      if x.obsQualifies src t g then
        match x.obsBin t g with
        | some k => x.obsAdd (8 * g + k)
        | none => (x.draw 164).2.obsAdd (8 * g + (x.draw 164).1 % 8)
      else x)
  else s

/-- Island `n` is in reset or held. -/
def State.inReset (s : State) (n : Nat) : Bool := bitOf s.isl.inReset n

/-- Depth of a queue in entries (R455). -/
def State.qDepth (s : State) (q : Nat) : Nat := 8 * s.rf (Reg.ME_QCFG_DEPTH q)

/-- The messages held in a queue. -/
def State.qMsgs (s : State) (q : Nat) : List QMsg := mget [] s.me.queues q

/-- Messages held in a queue. -/
def State.qLen (s : State) (q : Nat) : Nat := (s.qMsgs q).length

/-- The queue has a free entry and its island is out of reset (R464). -/
def State.qReady (s : State) (q : Nat) : Bool := decide (s.qLen q < s.qDepth q) && !s.inReset 3

/-- Set a flag of ME_FELL, which POL holds: nothing while POL is in reset. -/
def State.polFell (s : State) (f : Fld) : State := if s.inReset 3 then s else s.wr f 1

/-- Drop a message for queue `q`: LOST for the next one when it was a datagram, and the drop's record (R466). POL in reset counts
and marks nothing (R120). -/
def State.qDrop (s : State) (q source : Nat) (chan : Bool) : State :=
  let s1 := if s.inReset 3 then s else (s.wr Reg.ME_FELL_DROP 1).satAdd (Reg.ME_QDROP_DROPS q) 1
  let s2 := if chan || s.inReset 3 then s1 else { s1 with me.lost := mput false s1.me.lost q true }
  (s2.emit 3 0x8001 q source (b01 chan)).count 5 { queue := some q }

/-- Put a message into queue `q`; it carries LOST when a datagram to the queue was dropped before it (R466). -/
def State.qAccept (s : State) (q : Nat) (m : QMsg) : State :=
  let m1 := { m with lost := mget false s.me.lost q }
  let s1 := { s with me.queues := mput [] s.me.queues q (s.qMsgs q ++ [m1]), me.lost := mput false s.me.lost q false }
  s1.count 4 { queue := some q, q := s1.qLen q }

/-- Results of a send, as the NAK codes of Table 5.4 (R463). -/
def resOk : Nat := 0
def resQfull : Nat := 1
def resClosed : Nat := 6
def resBadtag : Nat := 7

/-- The queue takes messages of the mode: 0 both, 1 channels only, 2 datagrams only, 3 acts as 0 (Table 11.11). -/
def State.qAccepts (s : State) (q : Nat) (chan : Bool) : Bool :=
  match s.rf (Reg.ME_QCFG_ACCEPT q) with
  | 1 => chan
  | 2 => !chan
  | _ => true

/-- The sender may send to the queue: the launch queues take messages from the Command Front End alone, and the event queues from
hardware events alone (R456). -/
def sendTo (q source : Nat) : Bool := decide (16 ≤ q) || (decide (q < 8) && source == 0x10)

/-- A datagram from `source` to queue `q` (R456, R463 to R466, R473), with its result. -/
def State.sendQueue (s : State) (q : Nat) (m : QMsg) : Nat × State :=
  if !sendTo q m.source then (resBadtag, s)
  else if !s.rb (Reg.ME_QCFG_ENABLE q) || !s.qAccepts q false then (resClosed, s)
  else if s.qReady q then (resOk, s.qAccept q { m with chan := false, cseq := 0, channel := 0xFFFF })
  else (resQfull, s.qDrop q m.source false)

/-- A message on channel `c` from `owner` (R456, R465, R471), with its result. -/
def State.sendChan (s : State) (c owner : Nat) (resend : Bool) (m : QMsg) : Nat × State :=
  let h := mget ({} : Chan) s.me.chans c
  let upd := fun (x : State) (h : Chan) => { x with me.chans := mput {} x.me.chans c h }
  if !h.isOpen || h.owner != owner then (resClosed, s)
  else if !sendTo h.dest m.source then (resBadtag, s)
  else if h.retry && !resend then (resQfull, s.qDrop h.dest m.source true)
  else if s.qReady h.dest then
    (resOk, upd (s.qAccept h.dest { m with chan := true, cseq := h.cseq, channel := c })
      { h with cseq := (h.cseq + 1) % 256, retry := false })
  else (resQfull, upd (s.qDrop h.dest m.source true) { h with retry := true })

/-- The members of a FANOUT group: COUNT counts to 16 at most (R479, Table 11.13). -/
def State.members (s : State) (g : Nat) : List Nat :=
  (List.range (min 16 (s.rf (Reg.ME_GRP1_EXPECT g)))).map (fun i => s.rf (Reg.ME_MEMB_QUEUE (min 16383 (s.rf (Reg.ME_GRP1_TIMEOUT g) + i))))

/-- How often a queue stands in a list before position end: room needed by a fan-out. -/
def State.fanRoom (s : State) (l : List Nat) : Bool :=
  l.all (fun q => decide (s.qLen q + l.count q ≤ s.qDepth q)) && !s.inReset 3

/-- Combine an arrival into the accumulator (R480). -/
def combine (op : Nat) (a b : DWord) : DWord :=
  match op with
  | 0 => BitVec.ofInt 64 (clampI (-(2 ^ 63)) (2 ^ 63 - 1) (a.toInt + b.toInt))
  | 1 => if a.toInt < b.toInt then b else a
  | 2 => if b.toInt < a.toInt then b else a
  | _ => a ||| b

/-- TARGET of a COLLECT group takes a result now: an enabled queue that takes datagrams, none of queues 0 to 15, with room (R456, R481). -/
def State.collectRoom (s : State) (g : Nat) : Bool :=
  let tgt := s.rf (Reg.ME_GRP0_TARGET g)
  sendTo tgt 0x40 && s.rb (Reg.ME_QCFG_ENABLE tgt) && s.qAccepts tgt false && s.qReady tgt

/-- Deliver a COLLECT result to TARGET, or keep it for the retries of R481; a new round starts. -/
def State.collectDeliver (s : State) (g : Nat) (part : Bool) : State :=
  let r := mget ({} : Round) s.me.rounds g
  let tgt := s.rf (Reg.ME_GRP0_TARGET g)
  let m : QMsg := {
    tag := s.rf (Reg.ME_GRP0_TAG g), source := 0x40, partialF := part, p0 := r.acc,
    p1 := BitVec.ofNat 64 r.arrivals, p2 := BitVec.ofNat 64 r.number }
  let next : Round := { number := (r.number + 1) % 2 ^ 64, results := r.results }
  if s.collectRoom g then
    ({ s with me.rounds := mput {} s.me.rounds g next }).qAccept tgt m
  else
    { s with me.rounds := mput {} s.me.rounds g { next with results := r.results ++ [(m, r.arrivals, 0)] } }

/-- One retry of a result that waits: it is delivered, dropped with 0x8005 at the hundredth retry, or waits on (R481). -/
def State.collectTry (s : State) (g : Nat) (e : QMsg × Nat × Nat) : State :=
  let tgt := s.rf (Reg.ME_GRP0_TARGET g)
  let r := mget ({} : Round) s.me.rounds g
  if s.collectRoom g then s.qAccept tgt e.1
  else if 100 ≤ e.2.2 + 1 then (s.wr Reg.ME_FELL_COLLECT_DROP 1).emit 3 0x8005 g tgt e.2.1
  else { s with me.rounds := mput {} s.me.rounds g { r with results := r.results ++ [(e.1, e.2.1, e.2.2 + 1)] } }

/-- One arrival of a COLLECT group (R480). -/
def State.collectArrive (s : State) (g : Nat) (v : DWord) : State :=
  let r := mget ({} : Round) s.me.rounds g
  let acc := if r.arrivals = 0 then v else combine (s.rf (Reg.ME_GRP0_OP g)) r.acc v
  let s1 := { s with me.rounds := mput {} s.me.rounds g { r with arrivals := r.arrivals + 1, acc := acc } }
  if r.arrivals + 1 = s.rf (Reg.ME_GRP1_EXPECT g) then s1.collectDeliver g false else s1

/-- A datagram to multicast group `g` (R478 to R480), with its result. -/
def State.sendGroup (s : State) (g : Nat) (m : QMsg) : Nat × State :=
  match s.rf (Reg.ME_GRP0_KIND g) with
  | 1 =>
    let l := s.members g
    if l.any (fun q => !sendTo q m.source) then (resBadtag, s)
    else if l.any (fun q => !s.rb (Reg.ME_QCFG_ENABLE q) || !s.qAccepts q false) then (resClosed, s)
    else if s.fanRoom l then
      (resOk, s.each l (fun q x => x.qAccept q { m with chan := false, cseq := 0, channel := 0xFFFF }))
    else (resQfull, s.each (l.filter (fun q => s.qLen q + l.count q > s.qDepth q)) (fun q x => x.qDrop q m.source false))
  | 2 => (resOk, s.collectArrive g m.p0)
  | _ => (resBadtag, s)

/-- A hardware event for the policy cores enters the event queue of ME_EVT_ROUTE.CORE; one that finds no room is dropped (R490, Table
11.4). -/
def State.hwDeliver (s : State) (code p0 p1 p2 : Nat) : State :=
  let c := s.rf Reg.ME_EVT_ROUTE_CORE
  if s.qReady (8 + c) && s.rb (Reg.ME_QCFG_ENABLE (8 + c)) then
    s.qAccept (8 + c) {
      tag := code, source := 0x30, p0 := BitVec.ofNat 64 (p32 p0), p1 := BitVec.ofNat 64 (p32 p1),
      p2 := BitVec.ofNat 64 (p32 p2) }
  else
    let s1 := (s.qDrop (8 + c) 0x30 false).polFell Reg.ME_FELL_EVT_LOST
    ({ s1 with me.evtDrops := s1.me.evtDrops + 1 }).emit 3 0x8004 c code (s1.me.evtDrops + 1)

/-- The message engine is stopped by a Halt Sweep, and not in reset (Table 21.2). -/
def State.meHalted (s : State) : Bool := s.ob.halted && !s.inReset 3

/-- A hardware event is delivered while its mask bit allows it (R518); `bit` is none for the events that are always delivered. In a
Halt Sweep it waits for the engine's release. DEDUCED, log entry 14. -/
def State.hwEvent (s : State) (bit : Option Nat) (code p0 p1 p2 : Nat) : State :=
  let en := match bit with
    | none => true
    | some b => bitOf (s.rf Reg.IK_EVT_MASK_MASK) b
  if !en then s
  else if s.meHalted then { s with me.held := s.me.held ++ [.event code p0 p1 p2] }
  else s.hwDeliver code p0 p1 p2

/-- Record an event of Table 12.9 and hand it to the routed core. -/
def State.emitHw (s : State) (bit : Option Nat) (src code p0 p1 p2 : Nat) (p3 : Nat := 0) : State :=
  (s.emit src code p0 p1 p2 p3).hwEvent bit code p0 p1 p2

/-- The eight 32-bit words of a message (Table 11.2). -/
def qWords (m : QMsg) : List Nat :=
  let fl := 0x80 + 0x40 * b01 m.chan + 0x20 * b01 m.partialF + 0x10 * b01 m.lost
  [m.tag + 0x10000 * m.source, fl + 0x100 * m.cseq + 0x10000 * m.channel,
   loWord m.p0.toNat, hiWord m.p0.toNat, loWord m.p1.toNat, hiWord m.p1.toNat, loWord m.p2.toNat, hiWord m.p2.toNat]

/-- Free a closed channel whose last queued message has left its queue (R472). -/
def State.chanDrained (s : State) (c : Nat) : State :=
  let h := mget ({} : Chan) s.me.chans c
  if h.draining && !(s.qMsgs h.dest).any (fun m => m.channel == c) then { s with me.chans := mput {} s.me.chans c {} } else s

/-- Remove the head of a queue. -/
def State.qPop (s : State) (q : Nat) : Option QMsg × State :=
  match s.qMsgs q with
  | [] => (none, s)
  | m :: t =>
    let s1 := { s with me.queues := mput [] s.me.queues q t }
    (some m, if m.channel == 0xFFFF then s1 else s1.chanDrained m.channel)

/-- The latch of a requester (R483). -/
def State.setLatch (s : State) (req q : Nat) (l : List Nat) : State :=
  { s with me.latch := mput (0, []) s.me.latch req (q, l) }

/-- READER as it acts: 9 to 14 act as 15 (Table 11.11). -/
def State.qReader (s : State) (q : Nat) : Nat :=
  let r := s.rf (Reg.ME_QCFG_READER q)
  if r ≤ 8 then r else 15

/-- A pop of ME_POP by a requester (0 to 7 core, 8 host): the message and its latch, or an access refused (R482 to R485). -/
def State.popBy (s : State) (req q : Nat) : List Nat × State :=
  if s.rb (Reg.ME_QCFG_DISPATCH q) then
    ([], (s.wr Reg.ME_FELL_ACCESS 1).emit 3 0x8007 q req 1)
  else if s.qReader q != req then
    ([], (s.wr Reg.ME_FELL_ACCESS 1).emit 3 0x8007 q req 0)
  else match s.qPop q with
    | (none, s1) => ([], s1.setLatch req 0 [])
    | (some m, s1) => (qWords m, s1.setLatch req q (qWords m).tail)

/-- Units held by queues that end at or before unit `b`, or start at or after `b + n`: the run is free. -/
def runFree (l : List (Nat × Nat × Nat)) (b n : Nat) : Bool :=
  decide (b + n ≤ 16384) && l.all (fun e => decide (e.2.1 + e.2.2 ≤ b) || decide (b + n ≤ e.2.1))

/-- The lowest pool address that fits `n` units: unit 0 or the end of an allocated run (R457). -/
def lowestFit (l : List (Nat × Nat × Nat)) (n : Nat) : Option Nat :=
  ((0 :: l.map (fun e => e.2.1 + e.2.2)).filter (fun b => runFree l b n)).min?

/-- The largest free run of units: from each end of a run to the next start (event 0x8003). -/
def largestRun (l : List (Nat × Nat × Nat)) : Nat :=
  ((0 :: l.map (fun e => e.2.1 + e.2.2)).map (fun b =>
    let stop := ((16384 :: (l.map (fun e => e.2.1)).filter (fun x => decide (b ≤ x))).min?).getD 16384
    stop - b)).max?.getD 0

/-- Disable a queue: its messages, channels, latches and units go (R458). -/
def State.qDisable (s : State) (q : Nat) : State :=
  let n := s.qLen q
  let chs := (s.me.chans.filter (fun e => e.2.dest == q && (e.2.isOpen || e.2.draining))).map (·.1)
  let s1 := { s with
    me.queues := mput [] s.me.queues q []
    me.lost := mput false s.me.lost q false
    me.alloc := s.me.alloc.filter (fun e => e.1 != q)
    me.latch := s.me.latch.filter (fun e => e.2.1 != q)
    me.chans := s.me.chans.filter (fun e => e.2.dest != q) }
  let s2 := s1.wr (Reg.ME_QCFG_ENABLE q) 0
  if n = 0 then s2 else s2.emit 3 0x8008 q n chs.length

/-- Enable a queue from the pool, or leave it disabled with 0x8003 (R457). -/
def State.qEnable (s : State) (q : Nat) : State :=
  let n := s.rf (Reg.ME_QCFG_DEPTH q)
  match lowestFit s.me.alloc n with
  | some b => ({ s with me.alloc := s.me.alloc ++ [(q, b, n)] }).wr (Reg.ME_QCFG_ENABLE q) 1
  | none => ((s.wr (Reg.ME_QCFG_ENABLE q) 0).wr Reg.ME_FELL_POOL_FULL 1).emit 3 0x8003 q n (largestRun s.me.alloc)

/-- OPEN of a channel to queue `q` by an owner (0 to 7 core, 16 Command Front End): result and channel (R470). -/
def State.chanOpen (s : State) (owner source q : Nat) : Nat × Nat × State :=
  if !s.rb (Reg.ME_QCFG_ENABLE q) || !s.qAccepts q true then (resClosed, 0, s)
  else
    match (List.range 8192).find? (fun c => mget ({} : Chan) s.me.chans c == {}) with
    | none => (resQfull, 0, (s.wr Reg.ME_FELL_CH_FULL 1).emit 3 0x8002 source q)
    | some c =>
      (resOk, c, { s with me.chans := mput {} s.me.chans c { isOpen := true, owner := owner, dest := q } })

/-- CLOSE of a channel by its owner (R472). -/
def State.chanClose (s : State) (owner c : Nat) : Nat × State :=
  let h := mget ({} : Chan) s.me.chans c
  if !h.isOpen || h.owner != owner then (resClosed, s)
  else
    (resOk, ({ s with me.chans := mput {} s.me.chans c { h with isOpen := false, retry := false, draining := true } }).chanDrained c)

/-- What a takeover does to the engine: messages discarded, channels closed, latches cleared; configuration and groups kept
(R493). -/
def State.meTakeover (s : State) : State :=
  { s with me.queues := [], me.lost := [], me.chans := [], me.latch := [], me.evtDrops := 0 }

end Sys2Proof.Machine
end

