-- ==== Sys2Proof/Machine/RegOps.lean ====
section
/-! DEFINITION. Host access to the register window: finding a register, writing its fields under their access codes, and
the outcomes of accesses that cannot be served (Tables 0.6, 3.3, 24.2). -/

namespace Sys2Proof.Machine
open Sys2Proof

/-- The one name of a register: Sluice and admission offsets below 0x1_0000 lie at two addresses (R855). -/
def canonAddr (a : Nat) : Nat := if 0x70000 ≤ a ∧ a < 0x80000 then a - 0x70000 + 0x800000 else a

/-- The indices with which a descriptor gives the address, if it does. -/
def RDesc.index (d : RDesc) (a : Nat) : Option (Nat × Nat) :=
  if a < d.base then none
  else
    let o := a - d.base
    let i := if d.stride = 0 then 0 else o / d.stride
    let o2 := if d.stride = 0 then o else o % d.stride
    let j := if d.stride2 = 0 then 0 else o2 / d.stride2
    let o3 := if d.stride2 = 0 then o2 else o2 % d.stride2
    if o3 = 0 ∧ i < d.count ∧ j < d.count2 then some (i, j) else none

/-- Search a list of descriptors for an address. -/
def findIn (a : Nat) : List RDesc → Option (RDesc × Nat × Nat)
  | [] => none
  | d :: t => match d.index a with
    | some ij => some (d, ij.1, ij.2)
    | none => findIn a t

/-- The register at an address, with its indices. -/
def findReg (a : Nat) : Option (RDesc × Nat × Nat) := findIn (canonAddr a) regTable

/-- A field's reset value, which for a few fields depends on the register's indices. -/
def FDesc.resetAt (f : FDesc) (i j : Nat) : Nat :=
  match f.sel with
  | 0 => f.rst
  | 1 => if j = 0 then f.rst else 0
  | 2 => if i = 0 then f.rst else 0
  | 3 => if i ≤ 15 then 1 else 0
  | 4 => if 8 ≤ i ∧ i ≤ 15 then 1 else 0
  | 5 => if i ≤ 15 then i % 8 else 15
  | 6 => if i ≤ 15 then 4 else 1
  | _ => f.rst

/-- The named field that a descriptor's field is at a given address. -/
def FDesc.fld (f : FDesc) (a i j : Nat) : Fld := ⟨a, f.hi, f.lo, f.resetAt i j⟩

/-- Some stored bits of a register: every field but the live ones (reads of WO and reserved fields are zero, Table 0.6). -/
def storedBits (s : State) (a i j : Nat) (fs : List FDesc) : Nat :=
  (fs.map (fun f => match f.acc with
    | .ro | .rw | .w1c | .rwl | .rwd => s.rf (f.fld a i j) * 2 ^ f.lo
    | _ => 0)).sum

/-- The lock that guards a locked field: TH_TRIP.LOCK for every locked field of the trip register, AUTOLOCK included (DESIGN
CHOICE, log entry 102), and PC_PROFILE_CTL.LOCK for the rail profile. While the provisioning window is open, THRESH and every field
under PC_PROFILE_CTL.LOCK but that bit itself take any value in range (R790). -/
def State.locked (s : State) (a lo : Nat) : Bool :=
  let open_ := s.rb Reg.SE_STAT_PROV_OPEN
  if a = Reg.TH_TRIP_LOCK.addr then s.rb Reg.TH_TRIP_LOCK && !(open_ && lo == Reg.TH_TRIP_THRESH.lo)
  else s.rb Reg.PC_PROFILE_CTL_LOCK && !(open_ && !(a == Reg.PC_PROFILE_CTL_LOCK.addr && lo == Reg.PC_PROFILE_CTL_LOCK.lo))

/-- A locked field written while the provisioning window is open is noted, for event 0xE009 (R790). DEDUCED, log entry 45. -/
def State.noteProv (s : State) (fl : Fld) : State :=
  if s.rb Reg.SE_STAT_PROV_OPEN && !s.se.provKeys.contains fl.key then { s with se.provKeys := s.se.provKeys ++ [fl.key] } else s

/-- The byte, in two's complement, of the value in a signed range nearest to the one the byte `v` holds. -/
def signedByte (lo hi : Int) (v : Nat) : Nat :=
  let x : Int := if v < 128 then v else (v : Int) - 256
  let w := max lo (min hi x)
  if w < 0 then (w + 256).toNat else w.toNat

/-- The value of a field's range nearest to `v`, of two equally near the lower (DESIGN CHOICE, log entry 116). The ranges that are no
interval or that move: PC_DT_CMD.CODE is 0 or 0xD0 to 0xFD; PC_PMB_CFG.OT_WARN lies below OT_FAULT (Tables 4.10 and 4.11);
CF_RING_TAIL.TAIL lies below the ring's size (R561); the module's temperature bounds are signed, and its CELLS of 1 to 7 become 8
(Table 8.12); a predecessor is a channel 0 to 23 or 31 for none (Table 7.8). `i` is the register's index. -/
def State.nearest (s : State) (i : Nat) (f : FDesc) (v : Nat) : Nat :=
  match f.sel with
  | 7 => if v ≤ 0x68 then 0 else clampN 0xD0 0xFD v
  | 8 => clampN f.rlo (min f.rhi (s.rf Reg.PC_PMB_CFG_OT_FAULT - 1)) v
  | 9 => min v (2 ^ s.rf (Reg.CF_RING_CFG_SIZE_LOG2 i) - 1)
  | 10 => signedByte (-20) 65 v
  | 11 => signedByte 0 55 v
  | 12 => if v = 0 then 0 else clampN 8 16 v
  | 13 => if v ≤ 23 then v else if v ≤ 27 then 23 else 31
  | _ => clampN f.rlo f.rhi v

/-- The value a field takes of a write that no lock discards, and the bit of GL_STATUS that the write sets: out of range, the value
is the nearest end, with RSVD_WRITE (R203 and its like). -/
def State.putRanged (s : State) (i : Nat) (f : FDesc) (v : Nat) : Option Nat × Option Fld :=
  let w := s.nearest i f v
  (some w, if w = v then none else some Reg.GL_STATUS_RSVD_WRITE)

/-- What one field makes of its part `v` of a write under its access code: the value it takes, if any, and the bit of GL_STATUS that
the write sets, if any (Table 0.6, R18, R19, R24). A locked field judges the value as written, before its range: DESIGN CHOICE, log
entry 102. -/
def writeField (s : State) (a i j : Nat) (f : FDesc) (v : Nat) : Option Nat × Option Fld :=
  let old := s.rf (f.fld a i j)
  match f.acc with
  | .ro | .live => (none, none)
  | .wo => (none, if s.nearest i f v = v then none else some Reg.GL_STATUS_RSVD_WRITE)
  | .rsvd => (none, if v = 0 then none else some Reg.GL_STATUS_RSVD_WRITE)
  | .rw => s.putRanged i f v
  | .w1c => (some (old - (old &&& v)), none)
  | .rwl =>
    if s.locked a f.lo then (none, if v = old then none else some Reg.GL_STATUS_LOCK_REJECT) else s.putRanged i f v
  | .rwd =>
    if s.locked a f.lo then
      if v < old then s.putRanged i f v else (none, if v = old then none else some Reg.GL_STATUS_LOCK_REJECT)
    else s.putRanged i f v

/-- A field takes its value of a write; a field with a lock is noted in the provisioning window. -/
def State.fieldSet (s : State) (a i j : Nat) (f : FDesc) (w : Nat) : State :=
  let s1 := s.wr (f.fld a i j) w
  if (f.acc == .rwl || f.acc == .rwd) && !s.locked a f.lo then s1.noteProv (f.fld a i j) else s1

/-- Bits of a register that belong to some field. -/
def coveredBits (fs : List FDesc) : Nat := (fs.map (fun f => (2 ^ (f.hi + 1 - f.lo) - 1) * 2 ^ f.lo)).sum

/-- Order in which the fields take a write: a lock bit first, so that it guards the rest of the same write (R20). -/
def lockFirst (a : Nat) (fs : List FDesc) : List FDesc :=
  let isLock := fun (f : FDesc) => f.acc == .rwl && f.hi == 31 && f.lo == 31
    && (a == Reg.TH_TRIP_LOCK.addr || a == Reg.PC_PROFILE_CTL_LOCK.addr)
  fs.filter isLock ++ fs.filter (fun f => !isLock f)

/-- Bits of a word written that belong to no field of the register: they are reserved (R24). -/
def strayBits (fs : List FDesc) (v : Nat) : Nat := v % 2 ^ 32 - (v % 2 ^ 32 &&& coveredBits fs)

/-- The bits of GL_STATUS that an access at offset `ga` sets: after everything else of the access, so that a set wins over a write of
1 in that access (R16), and captured when every bit read 0 before it, in `was` (R25). -/
def State.glErrs (s was : State) (ga : Nat) (errs : List Fld) : State :=
  let s1 := if was.glClean && !errs.isEmpty then s.wr Reg.GL_ERR_OFFSET_OFFSET ga else s
  errs.foldl (fun x f => x.wr f 1) s1

/-- A write covers every field of the register (R18); bits that belong to no field are reserved (R24). `ga` is the address
used, which GL_ERR_OFFSET captures. DEDUCED, log entry 101. -/
def State.writeFields (s : State) (ga v : Nat) : State :=
  match findReg ga with
  | none => s
  | some (d, i, j) =>
    let a := canonAddr ga
    let r := (lockFirst a d.fields).foldl (fun (x : State × List Fld) f =>
      let t := writeField x.1 a i j f (bitsOf v f.hi f.lo)
      (match t.1 with
        | some w => x.1.fieldSet a i j f w
        | none => x.1, x.2 ++ t.2.toList)) (s, [])
    r.1.glErrs s ga (r.2 ++ if strayBits d.fields v = 0 then [] else [Reg.GL_STATUS_RSVD_WRITE])

/-- The reserved bits of a write that takes no effect on the fields still set RSVD_WRITE (R24). -/
def State.rsvdCheck (s : State) (ga v : Nat) : State :=
  match findReg ga with
  | none => s
  | some (d, _, _) =>
    let hit := (d.fields.any (fun f => f.acc == .rsvd && bitsOf v f.hi f.lo != 0)) || strayBits d.fields v != 0
    s.glErrs s ga (if hit then [Reg.GL_STATUS_RSVD_WRITE] else [])

/-- Islands that a Halt Sweep stops, as register holders: POL, FAB and TWN (Table 21.2). -/
def stopsInHalt (n : Nat) : Bool := n == 3 || n == 4 || n == 6

/-- An access to a register whose island is in reset: absent response (Table 3.3). -/
def State.absent (s : State) (isl : Nat) : State :=
  if s.rb Reg.IS_ACCESS_ERR_IN_RESET then s
  else (s.wr Reg.IS_ACCESS_ERR_ISLAND isl).wr Reg.IS_ACCESS_ERR_IN_RESET 1

/-- No access reaches the window: the Host Tunnel is down, or the package is in Keep (Table 24.2). DEDUCED, log entry 90. -/
def State.noAccess (s : State) : Bool := s.isl.hostDown || s.isl.pkg == 3

/-- An access to something an island holds: neither is the island in reset nor, for a change, stopped (Tables 3.3, 24.2). -/
def State.serveIn (s : State) (isl : Nat) (change : Bool) : Bool × State :=
  if s.inReset isl then (false, s.absent isl)
  else if change && s.ob.halted && stopsInHalt isl then (false, s.wr Reg.OB_FELL_HALT_WRITE 1)
  else (true, s)

/-- The access is served: its register exists, and its island is neither in reset nor, for a change, stopped (Table 24.2).
The state is the one the unserved access leaves. -/
def State.serve (s : State) (a : Nat) (change : Bool) : Bool × State :=
  if s.noAccess then (false, s)
  else match findReg a with
    | none => (false, s.glErr Reg.GL_STATUS_UNMAPPED a)
    | some (d, _, _) => s.serveIn d.isl change

/-- A write served and applied to the fields. -/
def State.hostWrite (s : State) (a v : Nat) (after : State → State) : State :=
  match s.serve a true with
  | (true, s1) => after (s1.writeFields a v)
  | (false, s1) => s1

/-- A keyed write: with KEY 0x5C it acts, with another KEY it is discarded and REFUSED is set. -/
def State.keyedWrite (s : State) (a v : Nat) (act : State → State) : State :=
  match s.serve a true with
  | (true, s1) => if keyOk v then act (s1.writeFields a v) else s1.refuse
  | (false, s1) => s1

/-- Fields of a class (1 Config, 2 Rail profile) that a block holds, as named fields of every index: the addresses of a
register's instances. -/
def RDesc.addrs (d : RDesc) : List (Nat × Nat × Nat) :=
  (List.range d.count).flatMap (fun i => (List.range d.count2).map (fun j => (d.base + d.stride * i + d.stride2 * j, i, j)))

/-- The class of the field with a given key: 1 Config, 2 Rail profile, 3 Persistent, 0 none. -/
def keyClass (k : Nat) : Nat :=
  match findIn (k / 32) regTable with
  | none => 0
  | some (d, _, _) => match d.fields.find? (fun f => f.lo == k % 32) with
    | some f => f.cls
    | none => 0

/-- The reset classes the field with a given key survives, and its island. -/
def keyKept (k : Nat) : Nat × Nat :=
  match findIn (k / 32) regTable with
  | none => (0, 8)
  | some (d, _, _) => match d.fields.find? (fun f => f.lo == k % 32) with
    | some f => (f.kept, d.isl)
    | none => (0, d.isl)

/-- Blocks that a SAVE field writes: 0 the rail profile, 1 Sluice, 2 admission, 3 reservoir, 4 thermal, 5 budgets, 6 Ikiva,
7 front end, 8 Flume, 9 Vexurn and Catchment, 10 Ledger. The address lies in the block. -/
def blkHolds (b a : Nat) : Bool :=
  match b with
  | 0 => decide (0x20000 ≤ a ∧ a < 0x50000)
  | 1 => decide (0x800000 ≤ a ∧ a < 0x840000)
  | 2 => decide (0x840000 ≤ a ∧ a < 0x900000)
  | 3 => decide (0x40000 ≤ a ∧ a < 0x50000)
  | 4 => decide (0x50000 ≤ a ∧ a < 0x60000)
  | 5 => decide (0x60000 ≤ a ∧ a < 0x70000)
  | 6 => decide (0x300000 ≤ a ∧ a < 0x400000)
  | 7 => decide (0x400000 ≤ a ∧ a < 0x480000)
  | 8 => decide (0x480000 ≤ a ∧ a < 0x500000)
  | 9 => decide (0x500000 ≤ a ∧ a < 0x580000)
  | 10 => decide (0x600000 ≤ a ∧ a < 0x680000)
  | _ => false

/-- The key is of a field that block `b` saves: its rail profile fields (block 0) or its Config fields. -/
def blkPick (b k : Nat) : Bool := blkHolds b (k / 32) && keyClass k == (if b = 0 then 2 else 1)

/-- Insert every entry of one store into another. -/
def mergeKeys (new old : List (Nat × Nat)) : List (Nat × Nat) := new.foldl (fun m e => mins m e.1 e.2) old

/-- The rail profile's fields of one register instance, as a word (R874). -/
def profWord (s : State) (d : RDesc) (a i j : Nat) : Nat :=
  (d.fields.map (fun f => if f.cls == 2 then s.rf (f.fld a i j) * 2 ^ f.lo else 0)).sum

/-- Every profile register with its address (R874). -/
def profWords (s : State) : List (Nat × Nat) :=
  (regTable.filter (fun d => d.fields.any (fun f => f.cls == 2))).foldl (fun m d =>
    d.addrs.foldl (fun m e => mins m e.1 (profWord s d e.1 e.2.1 e.2.2)) m) []

/-- CRC-32 of the profile image (R874). -/
def State.profileCrc (s : State) : Nat := crc32 ((profWords s).flatMap (fun e => leBytes 4 e.2))

/-- Start a save of block `b`, or queue one behind the save in progress; a save captures the values in force at its own
start (R872). DEDUCED, log entry 13. -/
def State.saveBlock (s : State) (b : Nat) : State :=
  if bitOf s.isl.saving b then { s with isl.saveQueued := s.isl.saveQueued ||| 2 ^ b }
  else { s with
    isl.saving := s.isl.saving ||| 2 ^ b
    isl.saveBuf := mput [] s.isl.saveBuf b (s.regs.filter (fun e : Nat × Nat => blkPick b e.1)) }

/-- A save completes: flash holds the values it captured, and for the rail profile the CRC of their image behind it (R145, R874); a
queued save starts (R872). -/
def State.saveDone (s : State) (b : Nat) : State :=
  if bitOf s.isl.saving b then
    let buf : List (Nat × Nat) := mget [] s.isl.saveBuf b
    let s1 := { s with
      flash := mergeKeys buf (s.flash.filter (fun e => !blkPick b e.1))
      isl.saving := s.isl.saving - 2 ^ b
      isl.saveBuf := mput [] s.isl.saveBuf b []
      ao.profCrc := if b = 0 then some ({ s with regs := buf }).profileCrc else s.ao.profCrc }
    let s2 := s1.out (.flashSave b)
    if bitOf s2.isl.saveQueued b then
      ({ s2 with isl.saveQueued := s2.isl.saveQueued - 2 ^ b }).saveBlock b
    else s2
  else s

/-- Reload from flash the Config and Rail profile fields held in an island (R871). -/
def State.reloadConfig (s : State) (isl : Nat) : State :=
  let pick := fun (e : Nat × Nat) => let c := keyClass e.1
    (c == 1 || c == 2) && (keyKept e.1).2 == isl
  { s with regs := mergeKeys (s.flash.filter pick) (s.regs.filter (fun e => !pick e)) }

/-- Return to reset value every field that the reset class does not keep: class bit 1 WR, 4 HR, 8 TT, 16 FR, 32 DR, 64 Keep,
128 CS; or 2 IR, for the fields held in the island `isl`. DEDUCED, log entry 74. -/
def State.clearFields (s : State) (cls : Nat) (hit : Nat → Bool) : State :=
  { s with regs := s.regs.filter (fun e => let k := keyKept e.1; !(hit k.2) || (k.1 &&& cls) != 0) }

end Sys2Proof.Machine
end

