-- ==== Sys2Proof/Machine/RailOps.lean ====
section
/-! DEFINITION. Rails and phases: mapping, health, derating, limits, setpoints, and the shared operations on them (Phase
Controller). -/

namespace Sys2Proof.Machine
open Sys2Proof

/-- The die holds ownership (Table 18.1). -/
def State.owner (s : State) : Bool := s.tw.role == 3

/-- Main rail `r`. -/
def State.rail (s : State) (r : Nat) : Rail := mget {} s.ph.rails r

/-- Change rail `r`. -/
def State.setRail (s : State) (r : Nat) (x : Rail) : State := { s with ph.rails := mput {} s.ph.rails r x }

/-- Phase of lane `n`. -/
def State.lane (s : State) (n : Nat) : Phase := mget {} s.ph.lanes n

/-- Change the phase of lane `n`. -/
def State.setLane (s : State) (n : Nat) (x : Phase) : State := { s with ph.lanes := mput {} s.ph.lanes n x }

/-- Rail domain `d`. -/
def State.dom (s : State) (d : Nat) : Dom := mget {} s.ad.doms d

/-- Change domain `d`. -/
def State.setDom (s : State) (d : Nat) (x : Dom) : State := { s with ad.doms := mput {} s.ad.doms d x }

/-- Zone `z` of Table 9.8. -/
def State.zone (s : State) (z : Nat) : Zone := mget {} s.th.zones z

/-- Change zone `z`. -/
def State.setZone (s : State) (z : Nat) (x : Zone) : State := { s with th.zones := mput {} s.th.zones z x }

/-- What a slew reads at time `t`. -/
def Ramp.at (r : Ramp) (t : Nat) : Nat :=
  let moved := r.num * (t - r.since) / r.den
  if r.frm ≤ r.goal then min r.goal (r.frm + moved) else max r.goal (r.frm - moved)

/-- A slew that stands at a value. -/
def Ramp.still (v : Nat) : Ramp := { frm := v, goal := v }

/-- The rail a lane is mapped to; while no profile is accepted every lane is unused (R144, R147; values 8 to 14 act as 15). -/
def State.laneRail (s : State) (n : Nat) : Option Nat :=
  let v := s.rf ⟨Reg.PC_LANE_MAP (n / 8), 4 * (n % 8) + 3, 4 * (n % 8), 15⟩
  if s.ph.loadOk && decide (v < 8) then some v else none

/-- Lanes mapped to rail `r`, ascending. -/
def State.mapped (s : State) (r : Nat) : List Nat := (List.range 256).filter (fun n => s.laneRail n == some r)

/-- Healthy phases of rail `r`: neither failed, suspect nor hot (R163). -/
def State.healthy (s : State) (r : Nat) : List Nat := (s.mapped r).filter (fun n => (s.lane n).mark == 0)

/-- Active phases of rail `r`. -/
def State.actives (s : State) (r : Nat) : List Nat := (s.mapped r).filter (fun n => (s.lane n).active)

/-- Derated rating in amperes (R164). -/
def State.derated (s : State) (r : Nat) : Nat :=
  s.rf (Reg.PC_RAIL_LIMIT_RATING r) * (s.healthy r).length / (s.mapped r).length

/-- Thermally stepped limit in 1/32 A (R164). -/
def State.thermLimit (s : State) (r : Nat) : Nat := s.rf (Reg.PC_RAIL_LIMIT_RATING r) * (32 - (s.zone r).step)

/-- The rail current limit in force in 1/32 A (R39), with its source: 0 rating, 1 thermal, 2 policy. -/
def State.limit32 (s : State) (r : Nat) : Nat × Nat :=
  let a := 32 * s.derated r
  let b := s.thermLimit r
  let c := 32 * s.rf (Reg.PC_RAIL_LIMIT_POLICY_LIMIT r)
  let ab := if b < a then (b, 1) else (a, 0)
  if c ≠ 0 ∧ c < ab.1 then (c, 2) else ab

/-- The rail current limit in force as it is reported: whole amperes, rounded down (DESIGN CHOICE, log entry 104), and its source. -/
def State.railLimit (s : State) (r : Nat) : Nat × Nat := ((s.limit32 r).1 / 32, (s.limit32 r).2)

/-- Voltage of grade `g` of domain `d` in 0.1 mV (R285). -/
def State.gradeV (s : State) (d g : Nat) : Nat := 4500 + 25 * s.rf (Reg.AD_GRADE_VCODE d g)

/-- Pre-boost offset in force in 0.1 mV: the largest that any round holds (R284); none during an orderly stop (R41). -/
def State.boostNow (s : State) (d : Nat) : Nat :=
  if s.th.stop ≠ 0 then 0 else ((s.dom d).boosts.map (fun b => b.ramp.at s.now)).foldl max 0

/-- The voltage setpoint in force in 0.1 mV, limited to 1.10 V (R40). -/
def State.setpoint (s : State) (r : Nat) : Nat := min 11000 ((s.rail r).base.at s.now + s.boostNow r)

/-- The target of the setpoint's slew in 0.1 mV (R189). -/
def State.setpointGoal (s : State) (r : Nat) : Nat :=
  min 11000 ((s.rail r).base.goal +
    (if s.th.stop ≠ 0 then 0 else ((s.dom r).boosts.map (fun b => b.ramp.goal)).foldl max 0))

/-- Every healthy phase stays active: pre-boost, hold, soft-start, and 100 us after each of these ends (R161). -/
def State.allActive (s : State) (r : Nat) : Bool :=
  decide (0 < s.boostNow r) || (s.rail r).hold || (s.rail r).mode == 1 || decide (s.now < (s.rail r).allUntil)

/-- Drive a lane to a level: only the owner drives the lanes (R31, R54, R68). -/
def State.drive (s : State) (n : Nat) (v : Pin) : State :=
  if !s.owner || (s.lane n).pin == v then s else (s.setLane n { s.lane n with pin := v }).out (.pwm n v)

/-- Active phases of a rail that are not ramping down: the N of R159. DESIGN CHOICE, log entry 105. -/
def State.staying (s : State) (r : Nat) : List Nat := (s.actives r).filter (fun n => (s.lane n).rampDown == 0)

/-- Make phases of rail `r` active: one that was not ramps up over 8 cycles from its interleave angle (R152, R162). -/
def State.turnOn (s : State) (r : Nat) (l : List Nat) : State :=
  let was := s.actives r
  let s1 := s.each l (fun n x =>
    let p := x.lane n
    x.setLane n { p with active := true, rampDown := 0, rampUp := if p.active && p.rampDown == 0 then p.rampUp else 8 })
  let act := s1.actives r
  s1.each (l.filter (fun n => !was.contains n)) (fun n x => x.setLane n { x.lane n with angNum := act.idxOf n, angDen := act.length })

/-- Take lanes out of switching, to high impedance. -/
def State.turnOff (s : State) (l : List Nat) : State :=
  s.each l (fun n x => (x.setLane n { x.lane n with active := false, rampUp := 0, rampDown := 0, limLow := false }).drive n .hiZ)

/-- Activate every healthy phase of a rail (R161). -/
def State.activateAll (s : State) (r : Nat) : State := s.turnOn r (s.healthy r)

/-- Take every phase of a rail to high impedance. -/
def State.releaseLanes (s : State) (r : Nat) : State := s.turnOff (s.mapped r)

/-- A rail that switches keeps every healthy phase active under R161, and at least MIN_ACTIVE phases while healthy ones remain: lowest
lanes first (R160, R161). -/
def State.fillMin (s : State) (r : Nat) : State :=
  let m := (s.rail r).mode
  if m = 1 ∨ m = 2 ∨ m = 6 then
    if s.allActive r then s.activateAll r
    else
      let st := s.staying r
      let lack := s.rf (Reg.PC_RAIL_CFG_MIN_ACTIVE r) - st.length
      s.turnOn r (((s.healthy r).filter (fun n => !st.contains n)).take lack)
  else s

/-- CRC-8 of the PMBus packet error check, polynomial x^8 + x^2 + x + 1. PRESUMED, log entry 106. -/
def pecByte (c b : Nat) : Nat :=
  (List.range 8).foldl (fun x _ => let y := 2 * x; if 256 ≤ y then (y - 256) ^^^ 0x07 else y) (c ^^^ b)

/-- Packet error checking is enabled on a segment (R77, Table 4.11). -/
def State.pecOn (s : State) (seg : Nat) : Bool := !s.rb ⟨Reg.PC_PMB_CFG, 4 * seg + 2, 4 * seg + 2, 0⟩

/-- The owner uses a PMBus segment: it is not lost (R187, R190, R202). -/
def State.segUsed (s : State) (seg : Nat) : Bool := s.owner && !bitOf s.ph.segLost seg

/-- Data bytes of a PMBus write command (Table 4.3): none for CLEAR_FAULTS, one for OPERATION and WRITE_PROTECT, else a word.
PRESUMED, log entry 106. -/
def pmbusData (cmd data : Nat) : List Nat :=
  match cmd with
  | 0x03 => []
  | 0x01 | 0x10 => [data % 256]
  | _ => [data % 256, data / 256 % 256]

/-- A PMBus write to the stage of a lane, sent by the owner only, on a segment that is not lost (R149, R187, R202). -/
def State.pmbus (s : State) (n cmd data : Nat) : State :=
  let seg := n / 64
  let a := s.rf (Reg.PC_PHASE_CFG_ADDR n)
  let d := pmbusData cmd data
  if s.segUsed seg then
    s.out (.pmbus seg a cmd d (if s.pecOn seg then some (([2 * a, cmd] ++ d).foldl pecByte 0) else none))
  else s

/-- PMBus reads of the stage of a lane. -/
def State.pmbusReads (s : State) (n : Nat) (cmds : List Nat) : State :=
  s.each cmds (fun c x => if x.segUsed (n / 64) then x.out (.pmbusRead (n / 64) (x.rf (Reg.PC_PHASE_CFG_ADDR n)) c (x.pecOn (n / 64))) else x)

/-- Rails of a list of lanes, ascending. -/
def State.railsOf (s : State) (l : List Nat) : List Nat := (List.range 8).filter (fun r => l.any (fun n => s.laneRail n == some r))

/-- A change in a rail's healthy phases: its derated rating is reported with 0x2023 (R198). -/
def State.noteDerated (s : State) (r : Nat) : State := s.emitHw (some 1) 1 0x2023 r (s.healthy r).length (s.derated r)

/-- The PMBus traffic at the start of a rail, with the stages of its healthy phases: the presence check and CAPABILITY read, then on,
the limits, and the write protection (Table 4.3); the tries of each stage start anew (R196). -/
def State.stagesOn (s : State) (r : Nat) : State :=
  s.each (s.healthy r) (fun n x =>
    ((((((x.setLane n { x.lane n with opOn := true, startRead := true, tries := 0 }).pmbusReads n [0x98, 0x99, 0x9A, 0x19]).pmbus
      n 0x01 0x80).pmbus n 0x46 (18 * x.rf (Reg.PC_PHASE_CFG_RATING n) / 10)).pmbus
      n 0x4F (x.rf Reg.PC_PMB_CFG_OT_FAULT)).pmbus n 0x51 (x.rf Reg.PC_PMB_CFG_OT_WARN)).pmbus n 0x10 0x80)

/-- Rails in use: those with mapped phases whose grade 0 voltage lies in its range (R148, R285). -/
def State.usedRails (s : State) : List Nat :=
  (List.range 8).filter (fun r => decide (0 < (s.mapped r).length) && decide (s.rf (Reg.AD_GRADE_VCODE r 0) ≤ 260)
    && decide (0 < s.rf (Reg.AD_GRADE_FREQ r 0)))

/-- Auxiliary channel `n`. -/
def State.aux (s : State) (n : Nat) : AuxCh := mget {} s.ax.chans n

/-- Every enabled channel with MAIN_DEP set is GOOD (R315). -/
def State.mainDepOk (s : State) : Bool :=
  (List.range 24).all (fun n => !(s.rb (Reg.AX_CH_CFG1_ENABLE n) && s.rb (Reg.AX_CH_CFG1_MAIN_DEP n)) || (s.aux n).st == 4)

/-- Begin the soft-stop of a rail at time `at_`: the setpoint ramps down to 0.30 V at SS_SLEW (R171). -/
def State.railStop (s : State) (r at_ : Nat) : State :=
  let x := s.rail r
  if x.mode = 0 ∨ x.mode = 5 then s
  else s.setRail r { x with
    mode := 6, powerGood := false
    base := { frm := x.base.at s.now, goal := 3000, num := s.rf (Reg.PC_RAIL_SS_SS_SLEW r), den := usec, since := at_ } }

/-- Nanoseconds that the soft-stop of a rail takes from its setpoint now, to the nearest nanosecond above (R171). -/
def State.stopTime (s : State) (r : Nat) : Nat :=
  let d := max 1 (s.rf (Reg.PC_RAIL_SS_SS_SLEW r))
  (((s.rail r).base.at s.now - 3000) * usec + d - 1) / d

/-- A rail is off: its phases at high impedance. The regulation fault state stays until CLEAR_FAULT (R193). -/
def State.railOff (s : State) (r : Nat) : State :=
  let x := s.rail r
  (s.setRail r { x with
    mode := if x.mode = 5 then 5 else 0, powerGood := false, hold := false, handback := false, strobeWaits := false, limiting := false
    discharge := false, base := {} }).releaseLanes r

/-- Rails that run: neither off nor in the regulation fault state. -/
def State.runningRails (s : State) : List Nat := (List.range 8).filter (fun r => (s.rail r).mode != 0 && (s.rail r).mode != 5)

/-- Some main rail is on. -/
def State.anyRailOn (s : State) : Bool := !s.runningRails.isEmpty

/-- A rail whose soft-stop has reached 0.30 V is off: all its phases go to high impedance (R171). -/
def State.stopSettle (s : State) (r : Nat) : State :=
  let x := s.rail r
  if x.mode = 6 ∧ x.base.at s.now ≤ 3000 ∧ x.base.since ≤ s.now then s.railOff r else s

/-- A stage reports a fault (R873): its STATUS_WORD, the STATUS_TEMPERATURE and STATUS_IOUT read after it, and whether the
stage is commanded on. -/
def stageFault (word tempB ioutB : Nat) (on : Bool) : Bool :=
  bitOf word 5 || bitOf word 4 || bitOf word 3 || (bitOf word 6 && on) || (bitOf word 2 && bitOf tempB 7)
  || (bitOf word 14 && (bitOf ioutB 7 || bitOf ioutB 6))

/-- Dead-time row of a stage temperature with the hysteresis of R183; an unknown temperature uses PS-C. -/
def State.dtRow (s : State) (old : Nat) (t : Option Int) : Nat :=
  let lo : Int := s.rf Reg.PC_DT_CMD_BAND_LO
  let hi : Int := s.rf Reg.PC_DT_CMD_BAND_HI
  match t with
  | none => 2
  | some v =>
    if hi ≤ v then 2
    else if old = 2 ∧ hi - 3 ≤ v then 2
    else if lo ≤ v then 1
    else if 1 ≤ old ∧ lo - 3 ≤ v then 1
    else 0

/-- Dead time in 0.5 ns of table `t` and row `row` for main stages (R182, R184). -/
def State.dtMain (s : State) (t row : Nat) : Nat :=
  match t, row with
  | 0, 0 => s.rf Reg.PC_DT_MAIN0_PSA
  | 0, 1 => s.rf Reg.PC_DT_MAIN0_PSB
  | 0, _ => s.rf Reg.PC_DT_MAIN0_PSC
  | _, 0 => s.rf Reg.PC_DT_MAIN1_PSA
  | _, 1 => s.rf Reg.PC_DT_MAIN1_PSB
  | _, _ => s.rf Reg.PC_DT_MAIN1_PSC

/-- Dead time in 0.5 ns of table `t` and row `row` for the reservoir half-bridges (R186). -/
def State.dtRes (s : State) (t row : Nat) : Nat :=
  match t, row with
  | 0, 0 => s.rf Reg.PC_DT_RES0_PSA
  | 0, 1 => s.rf Reg.PC_DT_RES0_PSB
  | 0, _ => s.rf Reg.PC_DT_RES0_PSC
  | _, 0 => s.rf Reg.PC_DT_RES1_PSA
  | _, 1 => s.rf Reg.PC_DT_RES1_PSB
  | _, _ => s.rf Reg.PC_DT_RES1_PSC

/-- Write the target of a rail's setpoint to each of its stages over AVSBus, in millivolts rounded up, so that it never lies below the
setpoint (R149, R189). -/
def State.avsWrite (s : State) (r : Nat) : State :=
  if s.owner then
    (s.setRail r { s.rail r with avs := s.setpointGoal r }).each (s.mapped r) (fun n x =>
      x.out (.avs (n / 64) n ((s.setpointGoal r + 9) / 10)))
  else s

/-- The burst phases of an entry: BURST_PHASES healthy phases from the rotation's index on (R173). -/
def State.burstLanes (s : State) (r : Nat) : List Nat :=
  let h := s.healthy r
  (List.range (min h.length (s.rf (Reg.PC_RAIL_SHED_BURST_PHASES r)))).map (fun i =>
    h.getD (((s.rail r).burstCur + i) % h.length) 0)

/-- Dead time of a lane's stage in force, in 0.5 ns (R155, R185). -/
def State.deadOf (s : State) (n : Nat) : Nat := s.dtMain (s.lane n).dtTab (s.lane n).row

/-- FRI commands a burst exit of a rail in burst mode; no grant follows before REG reports (R175, R176, R267). -/
def State.burstExitCmd (s : State) (r : Nat) : State :=
  if (s.rail r).mode = 3 then s.setDom r { s.dom r with burstWait := true } else s

/-- The first rule of R144 that the profile breaks after the CRC, and its rail: 1 R148, 2 R159, 3 R165. -/
def State.profileRule (s : State) : Option (Nat × Nat) :=
  let m := fun (r : Nat) => (List.range 256).filter (fun n =>
    s.rf ⟨Reg.PC_LANE_MAP (n / 8), 4 * (n % 8) + 3, 4 * (n % 8), 15⟩ == r)
  let bad1 := fun (r : Nat) => (m r).length == 1 || decide (64 < (m r).length)
  let bad2 := fun (r : Nat) => decide (s.rf (Reg.PC_RAIL_SHED_I_ADD r) ≤ s.rf (Reg.PC_RAIL_SHED_I_SHED r))
  let bad3 := fun (r : Nat) => decide (9 * ((m r).map (fun n => s.rf (Reg.PC_PHASE_CFG_RATING n))).sum < 10 * s.rf (Reg.PC_RAIL_LIMIT_RATING r))
  match (List.range 8).find? bad1 with
  | some r => some (1, r)
  | none => match (List.range 8).find? bad2 with
    | some r => some (2, r)
    | none => match (List.range 8).find? bad3 with
      | some r => some (3, r)
      | none => none

end Sys2Proof.Machine
end

