-- ==== Sys2Proof/Machine/SluiceOps.lean ====
section
/-! DEFINITION. Sluice messages, the tile table, downstream sending, CLAMP codes and the checks on upstream messages (The
Sluice Endpoint). -/

namespace Sys2Proof.Machine
open Sys2Proof

/-- Link `n`. -/
def State.link (s : State) (n : Nat) : Link := mget {} s.sl.links n

/-- Change link `n`. -/
def State.setLink (s : State) (n : Nat) (x : Link) : State := { s with sl.links := mput {} s.sl.links n x }

/-- Tile `t` as the KG8 keeps it. -/
def State.tile (s : State) (t : Nat) : Tile := mget {} s.sl.tiles t

/-- Change tile `t`. -/
def State.setTile (s : State) (t : Nat) (x : Tile) : State := { s with sl.tiles := mput {} s.sl.tiles t x }

/-- Open tiles, ascending. -/
def State.openTiles (s : State) : List Nat := (s.sl.tiles.filter (fun e => e.2.isOpen)).map (·.1)

/-- Open tiles of domain `d`. -/
def State.domTiles (s : State) (d : Nat) : List Nat := s.openTiles.filter (fun t => (s.tile t).dom == d)

/-- Open tiles of partition `p`. -/
def State.partTiles (s : State) (p : Nat) : List Nat := s.openTiles.filter (fun t => (s.tile t).part == p)

/-- Open tiles on link `n`. -/
def State.linkTiles (s : State) (n : Nat) : List Nat := s.openTiles.filter (fun t => (s.tile t).link == n)

/-- Byte `i` of a message. -/
def mByte (m : Msg) (i : Nat) : Nat := m.toNat / 256 ^ i % 256

/-- The 16-bit pair at bytes `i` and `i + 1` of a message (R3). -/
def mPair (m : Msg) (i : Nat) : Nat := mByte m i + 256 * mByte m (i + 1)

/-- A message of a type, addressing mode and target, with fields given as byte offset, width in bytes and value (R215,
R218). -/
def mkMsg (ty mode target : Nat) (fs : List (Nat × Nat × Nat)) : Msg :=
  BitVec.ofNat 120 (ty + 256 * (target % 0x4000 + 0x4000 * (mode % 4))
    + (fs.map (fun f => f.2.2 % 256 ^ f.2.1 * 256 ^ f.1)).sum)

/-- The tile that an upstream message names. -/
def mTile (m : Msg) : Nat := mPair m 1 % 0x4000

/-- The flit layer of link `n` takes a new state and puts flits out. -/
def State.putFlits (s : State) (n : Nat) (r : FlitLink × List (List Nat)) : State :=
  r.2.foldl (fun x f => x.out (.sluice n f)) (s.setLink n { s.link n with fl := r.1 })

/-- Put a message on a link: it leaves in a flit, or waits while 64 flits are held (R209, R213). -/
def State.down (s : State) (n : Nat) (m : Msg) : State := s.putFlits n ((s.link n).fl.send m)

/-- Send a message on a link that is active; tile traffic is sent by the owner only (R29, Table 18.9). -/
def State.sendLink (s : State) (n : Nat) (m : Msg) : State := if s.owner && (s.link n).st == 2 then s.down n m else s

/-- Send a MODE 0 message to a tile on a link. -/
def State.sendTileOn (s : State) (n t ty : Nat) (fs : List (Nat × Nat × Nat)) : State := s.sendLink n (mkMsg ty 0 t fs)

/-- Send a MODE 0 message to an open tile on its link. -/
def State.sendTile (s : State) (t ty : Nat) (fs : List (Nat × Nat × Nat)) : State := s.sendTileOn (s.tile t).link t ty fs

/-- Send a message on every active link. -/
def State.sendAll (s : State) (ty mode target : Nat) (fs : List (Nat × Nat × Nat)) : State :=
  s.upto 16 (fun n x => x.sendLink n (mkMsg ty mode target fs))

/-- NAK codes of Table 5.4. -/
def nakQfull : Nat := 1
def nakCap : Nat := 2
def nakFloor : Nat := 3
def nakShed : Nat := 4
def nakThermal : Nat := 5
def nakClosed : Nat := 6
def nakBadtag : Nat := 7

/-- SEQ of a message that has one: INTENT, RELEASE and STATE. -/
def mSeq (m : Msg) : Nat := if mByte m 0 = 1 ∨ mByte m 0 = 2 ∨ mByte m 0 = 4 then mByte m 3 else 0

/-- A NAK to a tile (Table 5.4). -/
def State.nak (s : State) (n t seq code echo detail : Nat) : State :=
  s.sendTileOn n t 0x83 [(3, 1, seq), (4, 1, code), (5, 1, echo), (6, 1, detail)]

/-- A CLOSE to a tile. -/
def State.sendClose (s : State) (n t reason : Nat) : State := s.sendTileOn n t 0x8B [(4, 1, reason)]

/-- Field STATE of SL_TILE_STAT: 0 closed, 1 open, 2 queued, 3 parked, 4 granted, 5 nonconforming. -/
def State.tileStat (s : State) (t v : Nat) : State := s.wr (Reg.SL_TILE_STAT_STATE t) v

/-- The KG8's view of a tile, from what it holds for it. -/
def tileView (x : Tile) : Nat :=
  if !x.isOpen then (if x.refused then 5 else 0)
  else if x.intents.any (fun p => p.stage == 1) then 3
  else if !x.intents.isEmpty then 2
  else if 0 < x.resv then 4 else 1

/-- A tile whose state, allowance or parked INTENT changes is marked for the mirror (R715), and its status register follows. -/
def State.noteTile (s : State) (t : Nat) : State :=
  let x := s.tile t
  let s1 := (s.tileStat t (tileView x)).wr (Reg.SL_TILE_STAT_ALLOWANCE t) x.resv
  { s1 with tw.marked := s1.tw.marked.filter (fun e => e.1 != t) ++ [(t, none)] }

/-- Change a tile and note it. -/
def State.putTile (s : State) (t : Nat) (x : Tile) : State := (s.setTile t x).noteTile t

/-- Bits that each byte 3 to 14 of an upstream message may carry (Table 5.4). -/
def allowedBits (ty : Nat) : List Nat :=
  match ty with
  | 1 => [255, 255, 255, 15, 3, 255, 255, 255, 15, 255, 15, 0]
  | 2 => [255, 255, 1, 0, 0, 0, 0, 0, 0, 0, 0, 0]
  | 3 => [255, 255, 3, 7, 0, 0, 0, 0, 0, 0, 0, 0]
  | 4 => [255, 7, 255, 255, 15, 0, 0, 0, 0, 0, 0, 0]
  | 5 => [0, 255, 3, 3, 1, 0, 0, 0, 0, 0, 0, 0]
  | 6 => [0, 255, 255, 255, 0, 0, 0, 0, 0, 0, 0, 0]
  | 7 => [0, 255, 255, 255, 255, 255, 255, 255, 255, 255, 0, 0]
  | _ => []

/-- An upstream TYPE of Table 5.3. -/
def upType (ty : Nat) : Bool := decide (1 ≤ ty ∧ ty ≤ 7)

/-- Byte offsets of the fields that failing checks of R237 concern, each check's lowest byte. -/
def State.badBytes (s : State) (m : Msg) : List Nat :=
  let ty := mByte m 0
  let x := s.tile (mTile m)
  let typ := if upType ty then [] else [0]
  let mode := if mPair m 1 / 0x4000 = 0 then [] else [2]
  let rsvd := ((allowedBits ty).zipIdx 3).filterMap (fun e => if mByte m e.2 - (mByte m e.2 &&& e.1) = 0 then none else some e.2)
  let cls := mByte m 4
  let own := match ty with
    | 1 =>
      let flags := mByte m 7
      (if cls = 0 then [4] else []) ++ (if mPair m 5 % 4096 = 0 then [5] else [])
      ++ (if bitOf flags 0 && mPair m 12 % 4096 == 0xFFF then [7] else [])
      ++ (if x.isOpen && (decide (x.maxcls < cls) || (bitOf flags 1 && decide (x.resv < cls))) then [4] else [])
    | 3 => if mByte m 3 = 1 then [] else [3]
    | 2 =>
      let seq := mByte m 3
      if bitOf (mByte m 5) 0 then
        (if (x.intents.any (fun p => p.seq == seq) || x.resvSeq == some seq) && decide (x.resv < cls) then [4] else [])
      else (if x.resvSeq == some seq && decide (0 < x.resv) && decide (x.resv ≤ cls) then [4] else [])
    | _ => []
  typ ++ mode ++ rsvd ++ own

/-- A NAK that answers a message, counted when the message is an INTENT (Table 21.1). -/
def State.nakMsg (s : State) (n : Nat) (m : Msg) (code detail : Nat) : State :=
  let t := mTile m
  let s1 := s.nak n t (mSeq m) code (mByte m 0) detail
  if mByte m 0 = 1 then s1.count 2 {
    op := some (mPair m 8), layer := some (mPair m 10 % 4096), part := some (s.tile t).part, dom := some (s.tile t).dom
    q := code }
  else s1

/-- BADTAG: NAK with the lowest byte offset, and 0x3005 (R237). -/
def State.badtag (s : State) (n : Nat) (m : Msg) (bytes : List Nat) : State :=
  let d := bytes.foldl min 14
  (s.nakMsg n m nakBadtag d).emit 2 0x3005 (mTile m) (mByte m 0) d

/-- Links whose intake is not empty: the busy links of R827. -/
def State.busyLinks (s : State) : Nat := ((List.range 16).filter (fun n => !(s.link n).intake.isEmpty)).length

/-- A full intake marks its period, with the busy links when it first filled (R835). -/
def State.intakeMark (s : State) (n : Nat) : State :=
  let l := s.link n
  if decide (256 ≤ l.intake.length) && !l.msFull then s.setLink n { l with msFull := true, msBusy := s.busyLinks } else s

/-- QFULL for a message that meets a full intake (R827, R835). -/
def State.intakeFull (s : State) (n : Nat) (m : Msg) : State :=
  let s1 := s.intakeMark n
  let l := s1.link n
  ((s1.setLink n { l with msFulls := satU 32 (l.msFulls + 1) }).satAdd (Reg.SL_INTAKE_STAT_QFULLS n) 1).nakMsg n m nakQfull 0

/-- QFULL for a message that meets its tile's full intent queue (Table 5.7). -/
def State.queueFull (s : State) (n : Nat) (m : Msg) : State :=
  (s.satAdd (Reg.ME_IQ_QFULL_QFULLS (mTile m)) 1).nakMsg n m nakQfull 0

/-- Messages that a tile's intent queue holds: its INTENTs, and what FRI has not taken (R453, R454). -/
def State.queueLen (s : State) (t : Nat) : Nat :=
  (s.tile t).intents.length + (s.sl.held.filter (fun e => mTile e.2 == t)).length

/-- A message accepted from an intake counts in its microsecond (Table 22.6). -/
def State.noteRate (s : State) : State :=
  let u := s.now / usec
  if s.sl.rateAt = u then { s with sl.rateNow := s.sl.rateNow + 1 }
  else { s with sl.rateAt := u, sl.rateNow := 1, sl.ratePrev := if s.sl.rateAt + 1 = u then s.sl.rateNow else 0 }

/-- Messages accepted from all intakes in the last whole microsecond (SL_INTAKE_TOTAL.RATE). -/
def State.intakeRate (s : State) : Nat :=
  let u := s.now / usec
  if s.sl.rateAt = u then s.sl.ratePrev else if s.sl.rateAt + 1 = u then s.sl.rateNow else 0

/-- Acceptance of a message into its intent queue is observed (Table 21.1, sources 0 and 3). -/
def State.noteAccept (s : State) (m : Msg) : State :=
  let x := s.tile (mTile m)
  let i := mByte m 0 == 1
  let op := if i then mPair m 8 else x.op
  let layer := if i then mPair m 10 % 4096 else x.layer
  let tags : ObsTags := { op := some op, layer := some layer, part := some x.part, dom := some x.dom }
  let s1 := s.noteRate.count 3 { tags with q := s.queueLen (mTile m) + 1 }
  if i then s1.count 0 { tags with q := mByte m 4 } else s1

/-- Change the messages that wait for the end of a Halt Sweep (Table 21.2). -/
def State.setHeld (s : State) (l : List (Nat × Msg)) : State := { s with sl.held := l }

/-- A message arrives upstream on an active link: it leaves the intake it waits in, or meets a full one; a message for a full
intent queue is refused; during a Halt Sweep it stays in the intent queue; else the checks of R237 are judged, and what passes
goes to `act`, what fails to `bad`. `queued` is false for TEMP and DROOP (R236). -/
def State.upJudge (s : State) (n : Nat) (m : Msg) (queued : Bool) (bad act : State → State) : State :=
  let l := s.link n
  if s.inReset 2 || l.st != 2 then s
  else
    let was := l.intake.contains m
    let kept := s.sl.held.contains (n, m)
    if queued && !was && !kept && decide (256 ≤ l.intake.length) then s.intakeFull n m
    else
      let s1 := if kept then s.setHeld (s.sl.held.erase (n, m))
        else if was then s.setLink n { l with intake := l.intake.erase m } else s
      if queued && decide (16 ≤ s1.queueLen (mTile m)) then s1.queueFull n m
      else if queued && s.ob.halted then
        (if kept then s1 else s1.noteAccept m).setHeld (s1.sl.held ++ [(n, m)])
      else
        let s2 := if queued && !kept then s1.noteAccept m else s1
        let b := s2.badBytes m
        if b.isEmpty then act s2 else bad (s2.badtag n m b)

/-- As `upJudge`, where a failing check has no effect but its NAK. -/
def State.upReceive (s : State) (n : Nat) (m : Msg) (queued : Bool) (act : State → State) : State := s.upJudge n m queued id act

/-- The die's pause duty that Thermal Sensing and Action assigns to die `n`. -/
def State.dieDuty (s : State) (n : Nat) : Nat := (s.zone (0x10 + n)).duty

/-- Die `n` has an open tile in a domain whose rail is in the regulation fault state (R193). -/
def State.dieFault (s : State) (n : Nat) : Bool := (s.linkTiles n).any (fun t => (s.rail (s.tile t).dom).mode == 5)

/-- The CLAMP code of die `n` (R193, R248, R293, Table 9.4). -/
def State.clampCode (s : State) (n : Nat) : Nat :=
  let l := s.link n
  let a := if l.lost then s.rf Reg.SL_CTL_LOSS_DUTY else if l.enumerated then 0 else 15
  let b := if s.dieFault n || s.th.drainCut then 15 else 0
  max (max a b) (s.dieDuty n)

/-- Drive each die's CLAMP lines with its code; the owner only drives the pins (R54). -/
def State.clampAll (s : State) : State :=
  s.upto 16 (fun n x =>
    let c := x.clampCode n
    if mget 15 x.sl.clampOut n = c then x
    else
      let x1 := { x with sl.clampOut := mput 15 x.sl.clampOut n c }
      if x1.owner then x1.out (.clampPins n c) else x1)

/-- Tiles expected on link `n`: enabled in SL_TILE_CFG with that LINK. -/
def State.expectedTiles (s : State) (n : Nat) : List Nat :=
  (s.regs.filter (fun e => decide (Reg.SL_TILE_CFG 0 ≤ e.1 / 32) && decide (e.1 / 32 < Reg.SL_TILE_CFG 16384)
    && e.1 % 32 == 31)).filterMap (fun e =>
      let t := (e.1 / 32 - Reg.SL_TILE_CFG 0) / 4
      if s.rb (Reg.SL_TILE_CFG_ENABLE t) && s.rf (Reg.SL_TILE_CFG_LINK t) == n then some t else none)

/-- Frequency in MHz of grade `g` of domain `d`. -/
def State.gradeF (s : State) (d g : Nat) : Nat := s.rf (Reg.AD_GRADE_FREQ d g)

/-- FSTEP with a grade and frequency to every tile of a domain, MODE 3 (R290). -/
def State.sendFstep (s : State) (mask grade freq : Nat) : State := s.sendAll 0x87 3 0 [(4, 1, mask), (5, 1, grade), (6, 2, freq)]

/-- BUDGET to a partition, MODE 1 (R235, R444). -/
def State.sendBudget (s : State) (p clears headroom : Nat) : State :=
  s.sendAll 0x84 1 p [(4, 1, clears), (5, 2, satU 16 headroom)]

/-- GROUP: set or empty a slot of a tile, and remember it. -/
def State.sendGroupSlot (s : State) (t slot grp : Nat) (valid : Bool) : State :=
  let x := s.tile t
  let sl := x.slots.filter (fun e => e.1 != slot)
  (s.setTile t { x with slots := if valid then sl ++ [(slot, grp)] else sl }).sendTile t 0x86
    [(4, 1, slot), (5, 2, grp + 0x8000 * b01 valid)]

end Sys2Proof.Machine
end

