-- ==== Sys2Proof/Machine/BudgetOps.lean ====
section
/-! DEFINITION. The grid ceiling, the package budget, committed power, allocation and the judging of INTENTs (Budgets,
Partitions and Contention). Powers are in microwatts. -/

namespace Sys2Proof.Machine
open Sys2Proof

/-- One watt in microwatts. -/
def watt : Nat := 1000000

/-- The share in force in watts: ORPHAN while orphaned, until a first share has arrived, and 5 ms into a Halt Sweep (R420,
R693, R814). -/
def State.shareW (s : State) : Nat := if s.cb.orphan || s.ob.orphanTaken then s.rf Reg.VX_CB_CFG_ORPHAN else s.cb.share

/-- S in watts: the shed level while a shed is in force, else the share in force (R420, R697). -/
def State.sW (s : State) : Nat := if s.cb.shed then s.cb.shedLevel else s.shareW

/-- I_LIM_W: IN_LIMIT at the BUSV average, or at 40 V while the BUSV reading is lost (R420, Table 10.6). -/
def State.iLim (s : State) : Nat := s.rf Reg.BG_PKG_CFG2_IN_LIMIT * (if s.bg.busLost then 40000 else s.bg.busMv) * 100

/-- The grid ceiling (R420). -/
def State.gCeil (s : State) : Nat := min (s.sW * watt) s.iLim

/-- Step counts of the eight domain zones, added. -/
def State.sumK (s : State) : Nat := ((List.range 8).map (fun d => (s.zone d).step)).sum

/-- The thermal allowance in watts (R402). -/
def State.thermW (s : State) : Nat := if s.th.stop ≠ 0 then 0 else s.rf Reg.TH_ALLOW_PKG_W * (256 - s.sumK) / 256

/-- RGA as FRI takes it: the value REG returned, falling by RAMP while none is received (Table 10.6). -/
def State.rgaNow (s : State) : Nat :=
  if s.bg.rgaLost then s.bg.rga - s.rf Reg.RV_OP_CFG0_RAMP * (s.now - s.bg.rgaAt) else s.bg.rga

/-- The package budget B (R421). -/
def State.bPkg (s : State) : Nat := min s.rgaNow (s.thermW * watt)

/-- The rail-side budget b (R423). -/
def State.bRail (s : State) : Nat := (s.bPkg - s.rf Reg.BG_PKG_CFG2_OVERHEAD * watt) * s.rf Reg.BG_PKG_CFG_EFF / 100

/-- SOURCE of the package budget (Table 10.1). -/
def State.budgetSource (s : State) : Nat :=
  if s.thermW * watt ≤ s.rgaNow then 0
  else if s.bg.rgaTerm = 1 then 1
  else if s.sW * watt ≤ s.iLim then 2 else 3

/-- V_d of R424 in 0.1 mV: the grade in force, or the target while an upward step is in progress. -/
def State.domV (s : State) (d : Nat) : Nat :=
  let x := s.dom d
  s.gradeV d (if x.step = 1 then x.target else x.grade)

/-- The value of class `c` of domain `d`: c times 4 mA times V_d (R424). -/
def State.value (s : State) (c d : Nat) : Nat := c * s.domV d * 2 / 5

/-- What a tile holds: floor class and reservation. -/
def State.heldValue (s : State) (t : Nat) : Nat :=
  let x := s.tile t
  s.value x.floor x.dom + s.value x.resv x.dom

/-- Classes of a tile's entries accepted and not yet granted, added. -/
def Tile.waiting (x : Tile) : Nat := ((x.intents.filter (fun p => p.stage == 2 && !p.renew)).map (·.cls)).sum

/-- Held power of partition `p`: C_p less the value of ungranted entries (R445). -/
def State.heldPower (s : State) (p : Nat) : Nat := ((s.partTiles p).map s.heldValue).sum

/-- The committed power C_p (R425). DEDUCED, log entry 23. -/
def State.committed (s : State) (p : Nat) : Nat :=
  ((s.partTiles p).map (fun t => s.heldValue t + s.value (s.tile t).waiting (s.tile t).dom)).sum

/-- Granted power of the package (R440). -/
def State.grantedPower (s : State) : Nat := (s.openTiles.map s.heldValue).sum

/-- Partition `p` is enabled. -/
def State.partOn (s : State) (p : Nat) : Bool := s.rb (Reg.BG_PART_CFG1_ENABLE p)

/-- FLOOR, CEILING and allocations of partition `p`. -/
def State.partFloor (s : State) (p : Nat) : Nat := s.rf (Reg.BG_PART_CFG0_FLOOR p) * watt
def State.partCeil (s : State) (p : Nat) : Nat := s.rf (Reg.BG_PART_CFG0_CEILING p) * watt
def State.partWeight (s : State) (p : Nat) : Nat := s.rf (Reg.BG_PART_CFG1_WEIGHT p)
def State.alloc (s : State) (p : Nat) : Nat := mget 0 s.bg.alloc p
def State.floorShare (s : State) (p : Nat) : Nat := mget 0 s.bg.af p

/-- Demand d_p (R431). -/
def State.demandOf (s : State) (p : Nat) : Nat :=
  let asks := (s.partTiles p).map (fun t => match (s.tile t).held with
    | some h => if h.counts then s.value h.cls (s.tile t).dom else 0
    | none => 0)
  min (s.committed p + asks.sum) (s.partCeil p)

/-- One round of the fill of R432 over the partitions still below their limits: allocations and what is left. -/
def fillRound (w lim : Nat → Nat) (act : List Nat) (a : List (Nat × Nat)) (rest : Nat) : List (Nat × Nat) × Nat :=
  let sw := (act.map w).sum
  act.foldl (fun (x : List (Nat × Nat) × Nat) p =>
    let have_ := mget 0 x.1 p
    let d := min (rest * w p / sw) (lim p - have_)
    (mput 0 x.1 p (have_ + d), x.2 - d)) (a, rest)

/-- fill(lim) of R432: rounds while more than 0.5 W is left and a partition lies below its limit. -/
def fill (w lim : Nat → Nat) (on : List Nat) : Nat → List (Nat × Nat) → Nat → List (Nat × Nat) × Nat
  | 0, a, rest => (a, rest)
  | n + 1, a, rest =>
    let act := on.filter (fun p => decide (0 < w p) && decide (mget 0 a p < lim p))
    if 500000 < rest ∧ act ≠ [] then
      let r := fillRound w lim act a rest
      fill w lim on n r.1 r.2
    else (a, rest)

/-- The procedure `allocate` of R432: floor shares, allocations, and the sum of the floors. -/
def State.allocation (s : State) : List (Nat × Nat) × List (Nat × Nat) × Nat :=
  let on := (List.range 64).filter s.partOn
  let b := s.bRail
  let fs := (on.map s.partFloor).sum
  let af : List (Nat × Nat) := on.foldl (fun m p =>
    mput 0 m p (if fs ≤ b then s.partFloor p else s.partFloor p * b / fs)) []
  let rest := b - (on.map (fun p => mget 0 af p)).sum
  let r1 := fill s.partWeight (fun p => min (s.demandOf p) (s.partCeil p)) on 66 af rest
  let r2 := fill s.partWeight s.partCeil on 66 r1.1 r1.2
  (af, r2.1, fs)

/-- Partition `p` has a tile in HELD. -/
def State.partHeld (s : State) (p : Nat) : List Nat := (s.partTiles p).filter (fun t => (s.tile t).held.isSome)

/-- HEADROOM of R444 in amperes. -/
def State.headroom (s : State) (p : Nat) : Nat :=
  let v := ((s.partTiles p).map (fun t => s.gradeV (s.tile t).dom (s.dom (s.tile t).dom).grade)).foldl max 0
  if v = 0 then 0 else (s.alloc p - s.committed p) / (100 * v)

/-- Partitions over allocation are recorded once per episode (R442). -/
def State.noteOver (s : State) : State :=
  s.upto 64 (fun p x =>
    let overs := decide (x.alloc p < x.committed p)
    if overs && !bitOf x.bg.overs p then
      (({ x with bg.overs := x.bg.overs + 2 ^ p }).wr Reg.BG_FELL_OVER 1).emitHw (some 9) 0 0x7011 p (x.committed p / watt)
        (x.alloc p / watt)
    else if !overs && bitOf x.bg.overs p then { x with bg.overs := x.bg.overs - 2 ^ p }
    else x)

/-- Floor-class power of partition `p`. -/
def State.floorPower (s : State) (p : Nat) : Nat :=
  ((s.partTiles p).map (fun t => s.value (s.tile t).floor (s.tile t).dom)).sum

/-- Partitions whose floor-class power exceeds FLOOR are recorded once per episode (R429). -/
def State.noteShort (s : State) : State :=
  s.upto 64 (fun p x =>
    let short := decide (x.partFloor p < x.floorPower p)
    if short && !bitOf x.bg.short p then
      (({ x with bg.short := x.bg.short + 2 ^ p }).wr Reg.BG_FELL_FLOOR_SHORT 1).emit 0 0x7006 p (x.floorPower p / watt)
        (x.rf (Reg.BG_PART_CFG0_FLOOR p))
    else if !short && bitOf x.bg.short p then { x with bg.short := x.bg.short - 2 ^ p }
    else if short then x.wr Reg.BG_FELL_FLOOR_SHORT 1 else x)

/-- BUDGET to a partition whose allocation has risen (R235, R444). -/
def State.budgetNotice (s : State) (p old : Nat) : State :=
  if old < s.alloc p then s.sendBudget p 1 (s.headroom p) else s

/-- Recompute the allocations (R430 to R434, R442, R444). -/
def State.allocate (s : State) : State :=
  let r := s.allocation
  let b := s.bRail
  let fs := r.2.2
  let scale := if fs ≤ b then 1000 else b * 1000 / fs
  let scaled := decide (b < fs)
  let s1 := { s with bg.af := r.1, bg.alloc := r.2.1, bg.scale := scale, bg.scaled := scaled }
  let s2 := if scaled && !s.bg.scaled then (s1.wr Reg.BG_FELL_SCALED 1).emit 0 0x7003 scale (b / watt) (fs / watt)
    else if !scaled && s.bg.scaled then s1.emit 0 0x7003 1000 (b / watt) (fs / watt)
    else s1
  (s2.upto 64 (fun p x => x.budgetNotice p (s.alloc p))).noteOver.noteShort

/-- A change of SOURCE is recorded (R422). -/
def State.noteSource (s : State) : State :=
  let n := s.budgetSource
  if n = s.bg.source then s
  else ({ s with bg.source := n }).emitHw (some 8) 0 0x7001 s.bg.source n (s.bPkg / watt)

/-- A term of the budget has moved: SOURCE follows, and the allocations when b falls below their sum (R422, R430). -/
def State.budgetMoved (s : State) : State :=
  let s1 := s.noteSource
  if s1.bRail < (s1.bg.alloc.map (·.2)).sum then s1.allocate else s1

/-- A shed is in force (R696). -/
def State.shedOn (s : State) : Bool := s.cb.shed

/-- judge of R435: none for ACCEPT, else the NAK code. -/
def State.judge (s : State) (t c : Nat) : Option Nat :=
  let x := s.tile t
  let v := s.value c x.dom
  let p := x.part
  if s.th.stop ≠ 0 ∨ (s.rail x.dom).mode = 5 then some nakThermal
  else if s.partOn p && decide (s.committed p + v ≤ s.alloc p) then none
  else if !s.partOn p then some nakCap
  else if s.shedOn then some nakShed
  else
    let free : Int := (s.bRail : Int) - ((List.range 64).map (fun q => (s.committed q : Int))).sum
    let unused := (((List.range 64).filter (fun q => q != p)).map (fun q => (s.floorShare q - s.committed q : Nat))).sum
    if (v : Int) ≤ free ∧ free - (unused : Int) < (v : Int) then some nakFloor else some nakCap

/-- DETAIL of a budget NAK (R437). -/
def State.nakDetail (s : State) (p code : Nat) : Nat :=
  if code = nakCap then p
  else if code = nakFloor then
    ((List.range 64).find? (fun q => q != p && decide (s.committed q < s.floorShare q))).getD 0
  else 0

/-- Refuse an INTENT on budget: NAK, 0x7010, and the tile is HELD under Table 5.7 with its ask counted for CAP, FLOOR and SHED
(R431, R437). -/
def State.refuseBudget (s : State) (t : Nat) (p : Pend) (code : Nat) : State :=
  let x := s.tile t
  let detail := s.nakDetail x.part code
  let s1 := ((s.nak x.link t p.seq code 1 detail).emit 0 0x7010 t code detail).count 2 {
    op := some p.op, layer := some p.layer, part := some x.part, dom := some x.dom, q := code }
  let y := s1.tile t
  s1.putTile t { y with held := some {
    cls := p.cls, code := code, since := s.now, counts := code == nakCap || code == nakFloor || code == nakShed } }

end Sys2Proof.Machine
end

