-- ==== Sys2Proof/Machine/AdmissionOps.lean ====
section
/-! DEFINITION. The wave walk and its grants, barrier rounds and their release, pre-boost, grades and pause duties (Admission
and Droop). -/

namespace Sys2Proof.Machine
open Sys2Proof

/-- No entry of domain `d` is granted (R267, R813). -/
def State.frozen (s : State) (d : Nat) : Bool :=
  s.th.stop != 0 || s.isl.frozen || s.ob.halted || !((s.rail d).mode == 2 || (s.rail d).mode == 3) || (s.dom d).burstWait || (s.dom d).storm
    || (!s.ad.settle.isEmpty && decide (s.now < s.ad.settleTo))

/-- The INTENT of a tile with a SEQ. -/
def State.pend (s : State) (t seq : Nat) : Option Pend := (s.tile t).intents.find? (fun p => p.seq == seq)

/-- Take an entry's member out of an entry; an entry with none left goes. -/
def Entry.without (t seq : Nat) (e : Entry) : Option Entry :=
  if e.kind = 2 then some e
  else
    let m := e.members.filter (fun x => x != (t, seq))
    if m.isEmpty then none else some { e with members := m }

/-- Remove the INTENT of a tile from its domain's lists. -/
def State.unlist (s : State) (t seq : Nat) : State :=
  let d := (s.tile t).dom
  let x := s.dom d
  s.setDom d { x with
    list := x.list.filterMap (Entry.without t seq)
    incoming := x.incoming.filterMap (Entry.without t seq)
    releases := x.releases.map (fun r => (r.1, r.2.filterMap (Entry.without t seq))) }

/-- Remove an INTENT of a tile everywhere: intent queue, lists and barrier round. -/
def State.dropIntent (s : State) (t seq : Nat) : State :=
  let s1 := s.unlist t seq
  let s2 := match s.pend t seq with
    | some p => if p.stage = 1 then
        let r := mget ({} : BarRound) s1.ad.rounds p.grp
        { s1 with ad.rounds := mput {} s1.ad.rounds p.grp { r with arrived := r.arrived.filter (fun e => e != (t, seq)) } }
      else s1
    | none => s1
  let x := s2.tile t
  s2.putTile t { x with intents := x.intents.filter (fun p => p.seq != seq) }

/-- Quanta of an entry: the classes of its members; for a pause step one sixteenth of the reservations of the tiles it
addresses in the domain, rounded down to a quantum (R264, R295; DESIGN CHOICE, log entry 25). -/
def State.entryQuanta (s : State) (d : Nat) (e : Entry) : Nat :=
  if e.kind = 2 then
    let p := (mget ({} : PauseStep) s.ad.steps e.step).key
    (((s.partTiles p).filter (fun t => (s.tile t).dom == d)).map (fun t => (s.tile t).resv)).sum / 16
  else (e.members.map (fun m => match s.pend m.1 m.2 with
    | some p => p.cls
    | none => 0)).sum

/-- What granting an entry adds to the reservations of the domain: a grant replaces the reservation its tile holds (R226,
R265). -/
def State.entryRaise (s : State) (d : Nat) (e : Entry) : Int :=
  (s.entryQuanta d e : Int) - (if e.kind = 2 then 0 else (e.members.map (fun m => ((s.tile m.1).resv : Int))).sum)

/-- Floor classes of the open tiles of a domain and its reservations, those of closed tiles that have not returned yet with them,
in quanta (R248, R254, R265). -/
def State.domQuanta (s : State) (d : Nat) : Nat :=
  ((s.sl.tiles.filter (fun e => e.2.dom == d)).map (fun e => (if e.2.isOpen then e.2.floor else 0) + e.2.resv)).sum

/-- Granting the entry would raise the domain's current above the rail current limit in force (R265). -/
def State.overRail (s : State) (d : Nat) (e : Entry) : Bool :=
  decide (((s.limit32 d).1 * 1000 : Nat) < 128 * ((s.domQuanta d : Int) + s.entryRaise d e))

/-- Granting the entry would raise the package's granted power above b (R440); a pause step grants nothing. -/
def State.overBudget (s : State) (d : Nat) (e : Entry) : Bool :=
  let up := s.entryRaise d e
  e.kind != 2 && decide (0 < up) && decide ((s.bRail : Int) < (s.grantedPower : Int) + up * s.domV d * 2 / 5)

/-- GRADE byte and FREQ of a grant to tiles of the partitions: VALID when every partition's AD_PART_GGRADE is, and then the
lower of that grade and the grade in force (R290). -/
def State.grantGrade (s : State) (d : Nat) (parts : List Nat) : Nat × Nat :=
  if parts.all (fun p => s.rb (Reg.AD_PART_GGRADE_VALID p)) then
    let g := (parts.map (fun p => s.rf (Reg.AD_PART_GGRADE_GRADE p))).foldl min (s.dom d).grade
    (0x80 + g, s.gradeF d g)
  else (0, 0)

/-- The effect of a grant on its tile: the reservation in force is that of the INTENT, which leaves the queue (R228, R232). -/
def State.reserve (s : State) (t : Nat) (p : Pend) : State :=
  let x := s.tile t
  s.putTile t { x with
    resv := p.cls, resvSeq := some p.seq, lease := p.lease, grantAt := s.now, held := none, returning := false
    intents := x.intents.filter (fun q => q.seq != p.seq) }

/-- GRANT to a tile (R269). -/
def State.sendGrant (s : State) (t d : Nat) (p : Pend) (delay : Nat) : State :=
  let g := s.grantGrade d [(s.tile t).part]
  s.sendTile t 0x81 [(3, 1, p.seq), (4, 1, p.cls), (5, 2, (s.dom d).ctr), (7, 2, satU 16 delay), (9, 1, g.1), (10, 2, g.2)]

/-- Grant one INTENT unicast. -/
def State.grantOne (s : State) (d t seq delay : Nat) : State :=
  match s.pend t seq with
  | none => s
  | some p => (((s.sendGrant t d p delay).reserve t p).count 1 {
      op := some p.op, layer := some p.layer, part := some (s.tile t).part, dom := some d, q := delay })

/-- Answer a RENEW with DELAY 0, without entering the list (R268). -/
def State.answerRenew (s : State) (t : Nat) (p : Pend) : State :=
  (s.sendGrant t (s.tile t).dom p 0).reserve t p

/-- A tile outside a block that holds its multicast group in a slot and has an outstanding INTENT of its BARRIER_GRP
(R271). -/
def State.blockOutsider (s : State) (e : Entry) : Option Nat :=
  s.openTiles.find? (fun t => !e.members.any (fun m => m.1 == t)
    && (s.tile t).slots.any (fun x => x.2 == e.mgroup)
    && (s.tile t).intents.any (fun p => p.grp == e.grp))

/-- Members of an entry by ascending tile. -/
def Entry.sorted (e : Entry) : List (Nat × Nat) := e.members.foldl (fun l m => mins l m.1 m.2) []

/-- Grant a planned block: one MGRANT with CLASS 0, or unicast GRANTs with 0x3017 (R271). -/
def State.grantBlock (s : State) (d : Nat) (e : Entry) (delay : Nat) : State :=
  match s.blockOutsider e with
  | some out =>
    e.sorted.foldl (fun x m => x.grantOne d m.1 m.2 delay) (s.emit 0 0x3017 e.grp e.mgroup out)
  | none =>
    let g := s.grantGrade d (e.members.map (fun m => (s.tile m.1).part))
    let s1 := s.sendAll 0x82 2 e.mgroup [(4, 1, 0), (5, 2, (s.dom d).ctr), (7, 2, satU 16 delay), (9, 1, g.1), (10, 2, g.2),
      (12, 2, e.grp)]
    e.sorted.foldl (fun x m => match x.pend m.1 m.2 with
      | some p => (x.reserve m.1 p).count 1 {
          op := some p.op, layer := some p.layer, part := some (x.tile m.1).part, dom := some d, q := delay }
      | none => x) s1

/-- Duty a PAUSE puts in force, to a partition's tiles in the domains of a mask (R294). -/
def State.sendPause (s : State) (p : Nat) (doms : List Nat) (duty : Nat) : State :=
  let s1 := doms.foldl (fun x d => { x with ad.pause := mput 0 x.ad.pause (8 * p + d) duty }) s
  s1.sendAll 0x88 1 p [(4, 1, (doms.map (fun d => 2 ^ d)).sum), (5, 1, duty)]

/-- Policy pause duty of partition `p`. -/
def State.policyDuty (s : State) (p : Nat) : Nat := s.rf ⟨Reg.AD_PAUSE_PART (p / 8), 4 * (p % 8) + 3, 4 * (p % 8), 0⟩

/-- The largest of the three duties of R294 for partition `p` in domain `d`. -/
def State.wantDuty (s : State) (p d : Nat) : Nat := max (s.zone d).duty (max (mget 0 s.bg.duty p) (s.policyDuty p))

/-- Pause duty in force for partition `p` in domain `d`. -/
def State.pauseOf (s : State) (p d : Nat) : Nat := mget 0 s.ad.pause (8 * p + d)

/-- Domains in which partition `p` has an open tile. -/
def State.partDoms (s : State) (p : Nat) : List Nat :=
  (List.range 8).filter (fun d => s.openTiles.any (fun t => (s.tile t).part == p && (s.tile t).dom == d))

/-- Rises of a partition's duties are sent at once; a pause step that addresses a domain that rises no longer does (R295). -/
def State.pauseRise (s : State) (p : Nat) : State :=
  (s.partDoms p).foldl (fun x d =>
    if x.pauseOf p d < x.wantDuty p d then
      ({ x with ad.steps := x.ad.steps.map (fun (e : Nat × PauseStep) =>
          if e.2.key = p then (e.1, { e.2 with doms := e.2.doms.filter (fun y => y != d) }) else e) }).sendPause p [d]
        (x.wantDuty p d)
    else x) s

/-- Falls of a partition's duties begin as pause steps, one for the domains that fall from the same duty (R295). -/
def State.pauseFall (s : State) (p : Nat) : State :=
  let busy := fun (x : State) (d : Nat) => x.ad.steps.any (fun e => e.2.key == p && e.2.doms.contains d)
  s.upto 16 (fun c x =>
    let ds := (x.partDoms p).filter (fun d => x.pauseOf p d == c && decide (x.wantDuty p d < c) && !busy x d)
    if ds.isEmpty then x
    else
      let n := x.ad.nextStep
      let x1 := { x with
        ad.steps := mput {} x.ad.steps n { key := p, duty := c - 1, doms := ds, waits := ds }
        ad.nextStep := n + 1 }
      ds.foldl (fun y d => y.setDom d { y.dom d with incoming := (y.dom d).incoming ++ [{ kind := 2, step := n }] }) x1)

/-- The duties of partition `p` follow their sources (R294, R295); a pair with no open tile takes its value silently. -/
def State.pauseUpdate (s : State) (p : Nat) : State :=
  let s1 := (List.range 8).foldl (fun x d =>
    if (x.partDoms p).contains d then x else { x with ad.pause := mput 0 x.ad.pause (8 * p + d) (x.wantDuty p d) }) s
  (s1.pauseRise p).pauseFall p

/-- The duties of every partition follow their sources. -/
def State.pauseAll (s : State) : State := s.upto 64 (fun p x => x.pauseUpdate p)

/-- A domain's entry for a pause step is granted; with the last of them the step is sent, and a further fall begins (R295). -/
def State.grantPause (s : State) (d n : Nat) : State :=
  let st := mget ({} : PauseStep) s.ad.steps n
  let w := st.waits.filter (fun x => x != d)
  if w.isEmpty then
    let s1 := { s with ad.steps := mdel s.ad.steps n }
    let s2 := if st.doms.isEmpty then s1 else s1.sendPause st.key st.doms st.duty
    s2.pauseFall st.key
  else { s with ad.steps := mput {} s.ad.steps n { st with waits := w } }

/-- Grant an entry of domain `d`, which leaves the list. -/
def State.grantEntry (s : State) (d : Nat) (e : Entry) : State :=
  let delay := (s.dom d).waves - e.adm
  if e.kind = 2 then s.grantPause d e.step
  else if e.kind = 1 then s.grantBlock d e delay
  else e.members.foldl (fun x m => x.grantOne d m.1 m.2 delay) s

/-- The singles that replace a planned block (R264). -/
def Entry.singles (e : Entry) : List Entry :=
  e.sorted.map (fun m => { e with kind := 0, members := [m] })

/-- What the walk of one wave answers: the state, the entries that stay, the quanta admitted and the entries granted. -/
structure WalkEnd where
  s : State
  stay : List Entry
  used : Nat
  granted : Nat

/-- The walk of R264 to R266 and R440 over a list: capacity left, whether the head of the wave's start is still at the head,
entries it may still evaluate. -/
def walk (d : Nat) : Nat → State → List Entry → Nat → Bool → Nat → Nat → Nat → WalkEnd
  | 0, s, l, _, _, _, used, gr => ⟨s, l, used, gr⟩
  | _ + 1, s, [], _, _, _, used, gr => ⟨s, [], used, gr⟩
  | n + 1, s, e :: t, cap, first, seen, used, gr =>
    if seen = 0 then ⟨s, e :: t, used, gr⟩
    else
      let q := s.entryQuanta d e
      if s.overBudget d e then
        let r := walk d n s t cap false (seen - 1) used gr
        ⟨r.s, e :: r.stay, r.used, r.granted⟩
      else if first && decide (cap < q) && e.kind == 1 then walk d n s (e.singles ++ t) cap first (seen - 1) used gr
      else if s.overRail d e then ⟨s, e :: t, used, gr⟩
      else if cap < q then
        if first then ⟨s.grantEntry d e, t, used + q, gr + 1⟩ else ⟨s, e :: t, used, gr⟩
      else walk d n (s.grantEntry d e) t (cap - q) false (seen - 1) (used + q) (gr + 1)

/-- A release's wave is cold: the pre-boost in force is below OFFSET (R283). -/
def State.cold (s : State) (d : Nat) : Bool :=
  (s.dom d).list.any (fun e => e.release) && decide (s.boostNow d < s.rf (Reg.AD_PB_CFG_OFFSET d) * 5)

/-- Capacity of a wave in quanta before what a restart cut short (R257, R283, R300). -/
def State.waveCap (s : State) (d : Nat) : Nat :=
  let c := s.rf (Reg.AD_WAVE_CFG_DIDT d) * min (s.rf (Reg.AD_WAVE_CFG_WAVE d)) (s.rf Reg.SL_CTL_RAMP * 10) / 4
  let c1 := if s.cold d then c * s.rf (Reg.AD_WAVE_CFG_COLD_PCT d) / 100 else c
  if 0 < (s.dom d).backoff then c1 / 2 else c1

/-- The new judgment of R439 for partition `p`: its accepted, ungranted entries are refused, the most recently accepted
first, until C_p no longer exceeds a_p. -/
def rejudge (p : Nat) : Nat → State → State
  | 0, s => s
  | n + 1, s =>
    if s.committed p ≤ s.alloc p then s
    else
      let l := (s.partTiles p).flatMap (fun t => ((s.tile t).intents.filter (fun q => q.stage == 2)).map (fun q => (q.order, t, q)))
      match l.foldl (fun (b : Option (Nat × Nat × Pend)) e => match b with
          | none => some e
          | some m => if m.1 < e.1 then some e else some m) none with
      | none => s
      | some (_, t, q) =>
        rejudge p n ((s.dropIntent t q.seq).refuseBudget t q (if s.shedOn then nakShed else nakCap))

/-- The new judgment for every partition (R439); at most as many refusals as there are entries. -/
def State.rejudgeAll (s : State) : State :=
  s.upto 64 (fun p x => rejudge p (((x.partTiles p).map (fun t => (x.tile t).intents.length)).sum) x)

/-- Withdraw a round's pre-boost on a domain: the offset falls at DECAY, and every healthy phase stays active until 100 us
after it ends (R161, R282). -/
def State.boostFall (s : State) (d g : Nat) : State :=
  let x := s.dom d
  let rate := s.rf (Reg.AD_PB_CFG_DECAY d) * 5
  let bs := x.boosts.map (fun b => if b.grp = g ∧ !b.withdrawing then
    { b with withdrawing := true, ramp := { frm := b.ramp.at s.now, goal := 0, num := rate, den := usec, since := s.now } } else b)
  let top := (bs.map (fun b => b.ramp.at s.now)).foldl max 0
  let s1 := s.setDom d { x with boosts := bs }
  s1.setRail d { s1.rail d with allUntil := max (s1.rail d).allUntil (s.now + top * usec / rate + 100 * usec) }

/-- At a wave start: offsets whose release has no entry left begin to fall, and those that have fallen go (R282). -/
def State.boostEnd (s : State) (d : Nat) : State :=
  let x := s.dom d
  let s1 := s.setDom d { x with boosts := x.boosts.filter (fun b => !(b.withdrawing && b.ramp.at s.now == 0)) }
  let inUse := fun (g : Nat) => x.list.any (fun e => e.release && e.grp == g)
    || x.releases.any (fun r => r.2.any (fun e => e.grp == g))
  (((s1.dom d).boosts.filter (fun b => b.released && !b.withdrawing && !inUse b.grp)).map (·.grp)).foldl
    (fun y g => y.boostFall d g) s1

/-- A wave of domain `d` starts (R258, R259, R261): entries that become admissible join the list, then those of a release
whose wave 0 this is; the current that a cut-short wave admitted counts against it. -/
def State.waveOpen (s : State) (d : Nat) : State × Nat :=
  let x := s.dom d
  let due := x.releases.filter (fun r => decide (r.1 ≤ s.now))
  let cut := if !due.isEmpty && decide (s.now < x.waveAt + s.rf (Reg.AD_WAVE_CFG_WAVE d)) then x.admitted else 0
  let stamp := fun (e : Entry) => { e with adm := x.waves + 1 }
  (s.setDom d { x with
    ctr := (x.ctr + 1) % 65536, waves := x.waves + 1, waveAt := s.now, admitted := 0
    list := x.list ++ x.incoming.map stamp ++ (due.flatMap (·.2)).map stamp
    incoming := [], releases := x.releases.filter (fun r => !decide (r.1 ≤ s.now)) }, cut)

/-- Renewals that a freeze held are judged once it ends, while the reservation lasts (R268, R438). -/
def State.heldRenewals (s : State) (d : Nat) : State :=
  (s.domTiles d).foldl (fun x t => match (x.tile t).intents.find? (fun p => p.stage == 3) with
    | some p =>
      let part := (x.tile t).part
      if (x.tile t).resv < p.cls then x
      else if x.alloc part < x.committed part then (x.dropIntent t p.seq).refuseBudget t p (if x.shedOn then nakShed else nakCap)
      else x.answerRenew t p
    | none => x) s

/-- The walk of a wave start (R263 to R266). -/
def State.waveStart (s : State) (d : Nat) : State :=
  let o := s.waveOpen d
  let s1 := o.1.boostEnd d
  if s1.frozen d then s1.count 6 { dom := some d }
  else
    let s2 := s1.rejudgeAll.heldRenewals d
    let cap := s2.waveCap d - o.2
    let x := s2.dom d
    let s3 := s2.setDom d { x with backoff := x.backoff - 1, list := [] }
    let members := (x.list.map (fun e => e.members.length + 1)).sum
    let r := walk d (members + x.list.length) s3 x.list cap true (s.rf (Reg.AD_WAVE_CFG_WAVE d) * 24 / 10 - 16) 0 0
    let y := r.s.dom d
    (r.s.setDom d { y with list := r.stay ++ y.list, admitted := r.used }).count 6 { dom := some d, q := r.granted }

/-- Tiles recorded for a barrier group that are not open (R272, R273). -/
def State.closedMembers (s : State) (g : Nat) : Nat := (s.sl.tiles.filter (fun e => e.2.barGrp == some g && !e.2.isOpen)).length

/-- The expected count of a round (R273). -/
def State.expected (s : State) (g : Nat) : Nat := s.rf (Reg.AD_BAR_CFG_EXPECT g) - s.closedMembers g

/-- The round of group `g`. -/
def State.round (s : State) (g : Nat) : BarRound := mget {} s.ad.rounds g

/-- Change the round of group `g`. -/
def State.setRound (s : State) (g : Nat) (r : BarRound) : State := { s with ad.rounds := mput {} s.ad.rounds g r }

/-- Plan entries of a group in a domain, by planned wave, as (wave, index, multicast group) (R276). -/
def State.plans (s : State) (g d : Nat) : List (Nat × Nat) :=
  (List.range 1024).foldl (fun l n =>
    if s.rb (Reg.AD_PLAN1W_VALID n) && s.rf (Reg.AD_PLAN1W_DOMAIN n) == d && s.rf (Reg.AD_PLAN0W_BARRIER_GRP n) == g then
      mins l (s.rf (Reg.AD_PLAN1W_WAVE n) * 1024 + n) (s.rf (Reg.AD_PLAN0W_MGROUP n))
    else l) []

/-- The planned blocks and the unplanned members among released members of a domain, in the order of R262. -/
def State.releaseOrder (s : State) (g d : Nat) (m : List (Nat × Nat)) : List Entry :=
  let r := (s.plans g d).foldl (fun (a : List Entry × List (Nat × Nat)) pl =>
    let mine := a.2.filter (fun e => (s.tile e.1).slots.any (fun x => x.2 == pl.2))
    if mine.isEmpty then a
    else (a.1 ++ [{ kind := 1, members := mine, grp := g, mgroup := pl.2, release := true }],
      a.2.filter (fun e => !mine.contains e))) ([], m)
  r.1 ++ r.2.map (fun e => { kind := 0, members := [e], grp := g, release := true })

/-- Judge the members of an entry of a release in ascending tile ID: a refused one leaves it (R436). -/
def State.judgeEntry (s : State) (e : Entry) : State × Option Entry :=
  let r := e.sorted.foldl (fun (a : State × List (Nat × Nat)) m =>
    match a.1.pend m.1 m.2 with
    | none => a
    | some p => match a.1.judge m.1 p.cls with
      | some code => ((a.1.dropIntent m.1 m.2).refuseBudget m.1 p code, a.2)
      | none =>
        let x := a.1.tile m.1
        let y := a.1.putTile m.1 { x with intents := x.intents.map (fun q => if q.seq = m.2 then
          { q with stage := 2, order := a.1.sl.order } else q) }
        ({ y with sl.order := y.sl.order + 1 }, a.2 ++ [m])) (s, [])
  (r.1, if r.2.isEmpty then none else some { e with members := r.2 })

/-- Release the round of group `g`: its members are judged, and their entries wait for wave 0, the stagger slot times 250 ns
later (R48, R262, R274). -/
def State.release (s : State) (g : Nat) : State :=
  let m := (s.round g).arrived.foldl (fun l e => mins l e.1 e.2) []
  let s1 := { s with ad.rounds := mdel s.ad.rounds g }
  let at0 := s.now + s.cb.slot * 250
  s1.upto 8 (fun d x =>
    let mine := m.filter (fun e => (x.tile e.1).dom == d)
    let marked := fun (y : State) => y.setDom d { y.dom d with boosts := (y.dom d).boosts.map (fun b =>
      if b.grp = g ∧ !b.withdrawing then { b with released := true } else b) }
    if mine.isEmpty then marked x
    else
      let r := (x.releaseOrder g d mine).foldl (fun (a : State × List Entry) e =>
        let j := a.1.judgeEntry e
        (j.1, match j.2 with
          | some e1 => a.2 ++ [e1]
          | none => a.2)) (x, [])
      let y := r.1.dom d
      marked (r.1.setDom d { y with releases := y.releases ++ [(at0, r.2)] }))

/-- Release the round when its arrived count has reached its expected count (R274). -/
def State.checkRelease (s : State) (g : Nat) : State :=
  let n := (s.round g).arrived.length
  if 0 < n ∧ s.expected g ≤ n ∧ s.friRuns = true then s.release g else s

/-- Predicted release of a round for a domain: now + (N - n) / r over the last WINDOW; none when no arrival fell in it (R277,
R278). -/
def State.predict (s : State) (g d : Nat) : Option Nat :=
  let r := s.round g
  let win := s.rf (Reg.AD_PB_CFG2_WINDOW d) * usec
  let a := (r.times.filter (fun t => decide (s.now < t + win) || t == s.now)).length
  let w := min win (s.now - r.firstAt)
  if a = 0 then none else some (s.now + (s.expected g - r.arrived.length) * w / a)

/-- Start or renew the predictions of a round for the domains whose THRESH its arrivals have reached (R277). -/
def State.predictStart (s : State) (g : Nat) : State :=
  s.upto 8 (fun d x =>
    let r := x.round g
    let n := r.arrived.length
    let need := (x.expected g * x.rf (Reg.AD_PB_CFG_THRESH d) + 99) / 100
    if need ≤ n ∧ !(r.preds.any (fun e => e.1 == d)) then
      match x.predict g d with
      | some t => x.setRound g { r with preds := r.preds ++ [(d, t)] }
      | none => x
    else x)

/-- An arrival of a barrier round (R272, R274, R277). -/
def State.arrive (s : State) (g t seq : Nat) : State :=
  let r := s.round g
  let s1 := s.setRound g { r with
    arrived := r.arrived.filter (fun e => e.1 != t) ++ [(t, seq)], firstAt := if r.arrived.isEmpty then s.now else r.firstAt
    times := r.times ++ [s.now] }
  (s1.predictStart g).checkRelease g

/-- Parked current of a round in a domain, in quanta (R279). -/
def State.parked (s : State) (g d : Nat) : Nat :=
  (((s.round g).arrived.filter (fun e => (s.tile e.1).dom == d)).map (fun e => match s.pend e.1 e.2 with
    | some p => p.cls
    | none => 0)).sum

/-- The grade table of a domain is valid (R285). -/
def State.gradesValid (s : State) (d : Nat) : Bool :=
  let top := s.rf (Reg.AD_GR_CFG_TOP d)
  let v := fun g => s.rf (Reg.AD_GRADE_VCODE d g)
  let f := fun g => s.rf (Reg.AD_GRADE_FREQ d g)
  (List.range (top + 1)).all (fun g => decide (v g ≤ 260) && decide (1 ≤ f g)
    && (g == 0 || (decide (v (g - 1) ≤ v g) && decide (f (g - 1) ≤ f g))))

/-- Slew a rail's voltage to a grade at a rate in 0.5 mV/us. -/
def State.slewTo (s : State) (d g rate : Nat) : State :=
  let x := s.rail d
  s.setRail d { x with base := {
    frm := x.base.at s.now, goal := s.gradeV d g, num := rate * 5, den := usec, since := s.now } }

/-- Start the step to the domain's target when its rail regulates (R286 to R288): upward the voltage slews first, downward
FSTEP is issued first. An upward step is a burst-exit command (R175). -/
def State.startStep (s : State) (d : Nat) : State :=
  let x := s.dom d
  let m := (s.rail d).mode
  if m ≠ 2 ∧ m ≠ 3 then s
  else if x.grade < x.target then
    ((s.setDom d { x with step := 1 }).slewTo d x.target (s.rf (Reg.AD_GR_CFG_SLEW_UP d))).burstExitCmd d
  else if x.target < x.grade then
    (s.setDom d { x with step := 2, grade := x.target, freq := s.gradeF d x.target }).sendFstep (2 ^ d) x.target
      (s.gradeF d x.target)
  else if x.step = 1 then (s.setDom d { x with step := 0 }).slewTo d x.grade (s.rf (Reg.AD_GR_CFG_SLEW_DN d))
  else s

/-- Set a domain's target and start its step; AD_GRADE_REQ follows (R291, R292). C_p is valued at the target while an upward
step lasts (R424), so partitions over allocation are recorded. -/
def State.retarget (s : State) (d g : Nat) : State :=
  ((((s.setDom d { s.dom d with target := g }).wr (Reg.AD_GRADE_REQ_TARGET d) g).startStep d).noteOver).noteShort

/-- A request for a grade (R285, R292): refused above TOP or in an invalid table; capped in Woad (R399); grade 0 during an
orderly stop (R41). -/
def State.gradeRequest (s : State) (d g : Nat) : State :=
  let top := s.rf (Reg.AD_GR_CFG_TOP d)
  if !s.gradesValid d then (s.wr (Reg.AD_GRADE_REQ_TARGET d) (s.dom d).target).emit 0 0x3014 d g 0xFF
  else if top < g then (s.wr (Reg.AD_GRADE_REQ_TARGET d) (s.dom d).target).emit 0 0x3014 d g top
  else
    let z := s.zone d
    let g1 := if z.judged ∧ z.band = 0 then min g (s.rf Reg.TH_STEP_CFG_WOAD_GRADE) else g
    s.retarget d (if s.th.stop ≠ 0 then 0 else g1)

/-- Refuse with THERMAL every accepted, ungranted entry of a list of tiles (R193, R441). -/
def State.refuseListed (s : State) (l : List Nat) : State :=
  l.foldl (fun x t => ((x.tile t).intents.filter (fun q => q.stage == 2)).foldl (fun y q =>
    (y.dropIntent t q.seq).refuseBudget t q nakThermal) x) s

/-- A rail enters the regulation fault state (R193): its phases at high impedance, its listed INTENTs refused with THERMAL, and
CLAMP code 15 on its dies. -/
def State.regFault (s : State) (r cause v : Nat) : State :=
  if (s.rail r).mode = 5 then s
  else
    let s1 := ((s.setRail r { s.rail r with
      mode := 5, powerGood := false, hold := false, handback := false, strobeWaits := false, limiting := false
      discharge := false, base := {} }).releaseLanes r)
    let s2 := (s1.wr (Reg.PC_RAIL_FAULT_CAUSE r) cause).wr (Reg.PC_RAIL_FAULT_VALUE r) (satU 24 v)
    ((s2.emit 1 0x2010 r cause v).refuseListed (s2.domTiles r)).clampAll

end Sys2Proof.Machine
end

