-- ==== Sys2Proof/Machine/RailStart.lean ====
section
/-! DEFINITION. Health, starting and holding of the main rails: what a change in the healthy phases does, soft-start, and the Floodgate
hold (Phase Controller). -/

namespace Sys2Proof.Machine
open Sys2Proof

/-- REG runs and drives the lanes: it is out of reset on the die that owns (R187, R199). -/
def State.regOn (s : State) : Bool := !s.inReset 1 && s.owner

/-- A rail that is on with fewer healthy phases than MIN_ACTIVE enters the regulation fault state (a rail that is off is judged as it
starts: log entry 107); else it keeps the phases active that R160 and R161 ask for (R160, R161, R191). -/
def State.minCheck (s : State) (r : Nat) : State :=
  let h := (s.healthy r).length
  let m := (s.rail r).mode
  if h < s.rf (Reg.PC_RAIL_CFG_MIN_ACTIVE r) ∧ m ≠ 0 ∧ m ≠ 5 then s.regFault r 5 h else s.fillMin r

/-- The healthy phases of a rail have changed (R160, R191, R198). -/
def State.healthChange (s : State) (r : Nat) : State := (s.noteDerated r).minCheck r

/-- The rails whose healthy phases differ from those of an earlier state take note of it (R198). -/
def State.healthSince (s was : State) : State :=
  s.each ((List.range 8).filter (fun r => s.healthy r != was.healthy r)) (fun r x => x.healthChange r)

/-- Start a soft-start of a rail: from its sensed voltage to the grade 0 voltage at SS_SLEW, every healthy phase active (R161, R169);
with too few healthy phases it enters the regulation fault state instead (R191). -/
def State.railStart (s : State) (r : Nat) : State :=
  let x := s.rail r
  ((((s.setRail r { x with
    mode := 1, powerGood := false, ssAt := s.now, limiting := false, u := 0, e1 := 0, e2 := 0
    base := { frm := x.sensed, goal := s.gradeV r 0, num := s.rf (Reg.PC_RAIL_SS_SS_SLEW r), den := usec, since := s.now } }).setDom r { s.dom r with grade := 0, step := 0 }).activateAll r).stagesOn r).minCheck r

/-- While the package wakes, start every rail that is off and of which every rail of lower ORDER is power-good (R168, R315). -/
def State.startReady (s : State) : State :=
  let u := if s.isl.waking && s.mainDepOk then s.usedRails else []
  let ready := u.filter (fun r => (s.rail r).mode == 0 && u.all (fun q =>
    decide (s.rf (Reg.PC_RAIL_CFG_ORDER r) ≤ s.rf (Reg.PC_RAIL_CFG_ORDER q)) || (s.rail q).powerGood))
  s.each ready (fun r x => x.railStart r)

/-- Every enabled phase of a rail is driven high-side: the hold of a Floodgate strobe begins (R178, R181). -/
def State.strobeHold (s : State) (r : Nat) : State :=
  let s1 := s.setRail r { s.rail r with hold := true, handback := false, strobeWaits := false, mode := 2 }
  let s2 := (s1.setDom r { s1.dom r with burstWait := false }).activateAll r
  s2.each (s2.healthy r) (fun n x => (x.setLane n { x.lane n with rampUp := 0, limLow := false }).drive n .high)

end Sys2Proof.Machine
end

