-- ==== Sys2Proof/Machine/Admission.lean ====
section
/-! DEFINITION. The commands of admission and droop: waves, barriers, pre-boost, grades, pause duties and Floodgate detection
(Admission and Droop). -/

namespace Sys2Proof.Machine
open Sys2Proof

/-- WAVE_START (R258 to R270, R439, R440). -/
def execWaveStart (d : Fin 8) (s : State) : Res := .next (if s.friRuns then s.waveStart d else s)

/-- BARRIER_TIMEOUT: a round with arrivals is released with the members that have arrived, with 0x3013 (R275). -/
def execBarrierTimeout (g : Fin 4095) (s : State) : Res :=
  let n := (s.round g).arrived.length
  .next (if n = 0 ∨ s.friRuns = false then s else (s.emitHw (some 3) 0 0x3013 g n (s.expected g)).release g)

/-- PREDICT_TICK: t_pred of each prediction of a round is computed again; with no arrival in WINDOW it stands (R278). -/
def execPredictTick (g : Fin 4095) (s : State) : Res :=
  let r := s.round g
  .next (if s.friRuns then s.setRound g { r with preds := r.preds.map (fun e => match s.predict g e.1 with
      | some t => (e.1, t)
      | none => e) }
    else s)

/-- PREBOOST_START: a predicted round whose parked current reaches PB_MIN_A raises the offset on the domain; every healthy
phase becomes active and burst is left (R279, R280, R284). -/
def execPreboostStart (g : Fin 4095) (d : Fin 8) (s : State) : Res :=
  let x := s.dom d
  let off := s.rf (Reg.AD_PB_CFG_OFFSET d) * 5
  .next (if s.friRuns && (s.round g).preds.any (fun e => e.1 == d.val) && decide (s.rf (Reg.AD_PB_CFG2_PB_MIN_A d) * 1000 ≤ s.parked g d * 4)
      && !x.boosts.any (fun b => b.grp == g.val && !b.withdrawing) then
    let s1 := s.setDom d { x with boosts := x.boosts ++ [{ grp := g, ramp := {
      frm := 0, goal := off, num := off, den := s.rf (Reg.AD_PB_CFG_LEAD d) * 100, since := s.now } }] }
    (s1.burstExitCmd d).activateAll d
  else s)

/-- PREBOOST_MAXHOLD: an offset whose round has not been released is withdrawn, with 0x3016 (R281). -/
def execPreboostMaxhold (g : Fin 4095) (d : Fin 8) (s : State) : Res :=
  .next (if (s.dom d).boosts.any (fun b => b.grp == g.val && !b.withdrawing && !b.released) then
    (s.boostFall d g).emitHw (some 4) 0 0x3016 d g (s.round g).arrived.length
  else s)

/-- GRADE_REQ_WRITE: AD_GRADE_REQ sets the domain's target (R285, R292). -/
def execGradeReqWrite (d : Fin 8) (v : Word) (s : State) : Res :=
  .next (s.hostWrite (Reg.AD_GRADE_REQ d) v.toNat (fun x => x.gradeRequest d (v.toNat % 32)))

/-- GRADE_SETTLED: after an upward slew the grade is in force, and FSTEP carries it (R286). -/
def execGradeSettled (d : Fin 8) (s : State) : Res :=
  let x := s.dom d
  .next (if x.step = 1 then
    (s.setDom d { x with step := 0, grade := x.target, freq := s.gradeF d x.target }).sendFstep (2 ^ d.val) x.target
      (s.gradeF d x.target)
  else s)

/-- GRADE_DOWN_FALL: the grade voltage begins to fall (R287). -/
def execGradeDownFall (d : Fin 8) (s : State) : Res :=
  let x := s.dom d
  .next (if x.step = 2 then (s.setDom d { x with step := 0 }).slewTo d x.grade (s.rf (Reg.AD_GR_CFG_SLEW_DN d)) else s)

/-- GRADE_SETTLE_TIMEOUT: the target is set back to the grade in force, with 0x3012 (R289). -/
def execGradeSettleTimeout (d : Fin 8) (s : State) : Res :=
  let x := s.dom d
  .next (if x.step = 1 then
    let s1 := s.emit 0 0x3012 d x.target ((s.rail d).sensed / 10)
    ((s1.setDom d { x with step := 0, target := x.grade }).wr (Reg.AD_GRADE_REQ_TARGET d) x.grade).slewTo d x.grade
      (s.rf (Reg.AD_GR_CFG_SLEW_DN d))
  else s)

/-- LIMIT_STEP: a rail current-limited for LIMIT_DWELL lowers its domain's target by one grade, never below 0 (R291). -/
def execLimitStep (d : Fin 8) (s : State) : Res :=
  let x := s.dom d
  .next (if s.rb (Reg.AD_GR_CFG_LIMSTEP_EN d) && (s.rail d).limiting && decide (0 < x.target) then
    (s.emit 0 0x3015 d (x.target - 1) (s.railLimit d).1).retarget d (x.target - 1)
  else s)

/-- PAUSE_DUTY_CHANGE: a policy duty of AD_PAUSE_PART changes; the largest duty of each tile is sent, a rise at once and a
fall by steps (R294, R295). -/
def execPauseDutyChange (n : Fin 8) (v : Word) (s : State) : Res :=
  .next (s.hostWrite (Reg.AD_PAUSE_PART n) v.toNat (fun x => x.upto 8 (fun j y => y.pauseUpdate (8 * n + j))))

/-- Floodgate detection is armed on a rail (R296). -/
def State.fgArmed (s : State) (r : Nat) : Bool :=
  let x := s.rail r
  (x.mode == 2 || x.mode == 3) && s.rb (Reg.AD_FG_CFG_FG_ENABLE r) && !x.hold && !x.handback && !(s.dom r).strobe

/-- Depth of a VSN code of 0.5 mV below the setpoint in force, in whole millivolts. -/
def State.fgDepth (s : State) (r raw : Nat) : Nat := (s.setpoint r - 5 * raw) / 10

/-- Sample `k` of a rail's 4 ns samples qualifies: UNDER or more below the setpoint, or SLOPE or more below the sample 100 ns
before it (R73, R297). -/
def State.fgQualifies (s : State) (r : Nat) (l : List Nat) (k : Nat) : Bool :=
  let v := 5 * l.getD k 0
  decide (v + 10 * s.rf (Reg.AD_FG_CFG_UNDER r) ≤ s.setpoint r)
    || (decide (25 ≤ k) && decide (v + 10 * s.rf (Reg.AD_FG_CFG_SLOPE r) ≤ 5 * l.getD (k - 25) 0))

/-- The last QUAL of a rail's samples qualify (R297). -/
def State.fgDetects (s : State) (r : Nat) (l : List Nat) : Bool :=
  let q := s.rf (Reg.AD_FG_CFG_QUAL r)
  decide (q ≤ l.length) && (List.range q).all (fun i => s.fgQualifies r l (l.length - 1 - i))

/-- Deepest of a rail's samples below the setpoint. -/
def State.fgDeepest (s : State) (r : Nat) (l : List Nat) : Nat := satU 8 ((l.map (s.fgDepth r)).foldl max 0)

/-- The last two samples lie at or above the setpoint less REC (R298). -/
def State.fgRecovered (s : State) (r : Nat) (l : List Nat) : Bool :=
  decide (2 ≤ l.length) && (l.drop (l.length - 2)).all (fun v => decide (s.setpoint r ≤ 5 * v + 10 * s.rf (Reg.AD_FG_CFG_REC r)))

/-- FLOODGATE_DETECT: the samples up to now, oldest first, of which the last QUAL qualify; a fire counts, raises the backoff, may begin
a storm freeze, and launches the strobe on the owner (R296, R297, R300, R301, R303). -/
def execFloodgateDetect (r : Fin 8) (l : List (BitVec 12)) (s : State) : Res :=
  let x := s.dom r
  let v := l.map (·.toNat)
  .next (if !s.inReset 0 && s.fgArmed r && s.fgDetects r v then
    let under := s.fgDeepest r v
    let recent := (x.fires.filter (fun t => decide (s.now < t + 100 * usec))) ++ [s.now]
    let storm := decide (s.rf (Reg.AD_FG_CFG2_STORM r) ≤ recent.length)
    let s1 := (s.setDom r { x with
      fires := recent, backoff := s.rf (Reg.AD_FG_CFG2_BACKOFF r), storm := x.storm || storm
      strobe := s.owner, fgAt := s.now, deepest := under }).satAdd (Reg.AD_FG_STAT_FIRES r) 1
    let s2 := if storm && !x.storm then s1.emitHw (some 2) 0 0x3011 r recent.length 0 else s1
    if s.owner then s2
    else ((s2.wr (Reg.AD_FG_STAT_LAST_UNDER r) under).emit 0 0x3010 r under 0).count 7 { dom := some r.val, q := under }
  else s)

/-- STROBE_WITHDRAW: the samples since the launch; after two at or above the setpoint less REC, or else at HOLD, the strobe ends and the
fire is recorded with its deepest undershoot and its hold (R298, R303). -/
def execStrobeWithdraw (r : Fin 8) (l : List (BitVec 12)) (s : State) : Res :=
  let x := s.dom r
  let v := l.map (·.toNat)
  let most := s.rf (Reg.AD_FG_CFG_HOLD r)
  let hold := if s.fgRecovered r v then min (s.now - x.fgAt) most else most
  let deep := max x.deepest (s.fgDeepest r v)
  .next (if x.strobe then
    (((s.setDom r { x with strobe := false }).wr (Reg.AD_FG_STAT_LAST_UNDER r) deep).wr (Reg.AD_FG_STAT_LAST_HOLD r)
      hold).emit 0 0x3010 r deep hold |>.count 7 { dom := some r.val, q := deep }
  else s)

/-- FLOODGATE_REARM: REG reports the handback complete (R299); a strobe held until then is acted on (R181), on the owner (R31). -/
def execFloodgateRearm (r : Fin 8) (s : State) : Res :=
  .next (if (s.rail r).hold then s
    else if (s.rail r).strobeWaits && s.regOn then s.strobeHold r
    else s.setRail r { s.rail r with handback := false, strobeWaits := false })

/-- FREEZE_END: a storm freeze ends (R301). -/
def execFreezeEnd (d : Fin 8) (s : State) : Res := .next (s.setDom d { s.dom d with storm := false })

/-- AD_SAVE: AD_CTL.SAVE writes every Config field of the block to flash (R306, R872). -/
def execAdSave (v : Word) (s : State) : Res :=
  .next (s.hostWrite Reg.AD_CTL v.toNat (fun x => if bitOf v.toNat 31 then x.saveBlock 2 else x))

end Sys2Proof.Machine
end

