-- ==== Sys2Proof/Machine/AuxOps.lean ====
section
/-! DEFINITION. Auxiliary channels and supply groups: configuration check, sequence, soft-start, faults, sags and turn-off
(Auxiliary Rails). -/

namespace Sys2Proof.Machine
open Sys2Proof

/-- Change channel `n`. -/
def State.setAux (s : State) (n : Nat) (x : AuxCh) : State := { s with ax.chans := mput {} s.ax.chans n x }

/-- Supply group `g`. -/
def State.auxGrp (s : State) (g : Nat) : AuxGrp := mget {} s.ax.grps g

/-- Change group `g`. -/
def State.setAuxGrp (s : State) (g : Nat) (x : AuxGrp) : State := { s with ax.grps := mput {} s.ax.grps g x }

/-- Channels of group `g`. -/
def grpChans (g : Nat) : List Nat := (List.range 6).map (· + 6 * g)

/-- Channel `n` is enabled. -/
def State.auxOn (s : State) (n : Nat) : Bool := s.rb (Reg.AX_CH_CFG1_ENABLE n)

/-- The predecessors of channel `n`. -/
def State.auxPreds (s : State) (n : Nat) : List Nat :=
  [s.rf (Reg.AX_CH_CFG1_DEP0 n), s.rf (Reg.AX_CH_CFG1_DEP1 n)].filter (fun d => d != 31)

/-- The dependents of channel `n`, directly or through other channels. -/
def State.auxDependents (s : State) (n : Nat) : List Nat :=
  (List.range 24).foldl (fun l _ => (List.range 24).filter (fun m => (s.auxPreds m).any (fun d => d == n || l.contains d))) []

/-- The first rule of R311 that channel `n` fails. -/
def State.auxRule (s : State) (n k : Nat) : Bool :=
  let ilim := s.rf (Reg.AX_CH_CFG0_ILIM n)
  let run := s.rf (Reg.AX_CH_CFG0_RUN_LIM n)
  let scale := s.rf (Reg.AX_CH_CFG0_ISCALE n)
  let fast := s.rf (Reg.AX_CH_CFG0_FAST_LIM n)
  match k with
  | 1 => decide (ilim ≤ 2 * scale) && decide (run ≤ 2 * scale)
  | 2 => decide (5 * max ilim run ≤ 8 * fast) && decide (fast ≤ scale)
  | 3 => decide (s.rf (Reg.AX_CH_CFG2_RAMP_T n) + 2 ≤ s.rf (Reg.AX_CH_CFG1_SS_TIMER n))
  | 4 => (s.auxPreds n).all (fun d => decide (d < 24) && s.auxOn d)
  | _ => !(s.auxDependents n).contains n

/-- The first rule of R311 failed, with the lowest enabled channel failing it. -/
def State.auxInvalid (s : State) : Option (Nat × Nat) :=
  [1, 2, 3, 4, 5].findSome? (fun k =>
    ((List.range 24).find? (fun n => s.auxOn n && !s.auxRule n k)).map (fun n => (k, n)))

/-- Drive AUXG, in mV; the owner's outputs are the ones that drive (R50). -/
def State.auxDrive (s : State) (n mv : Nat) : State :=
  let s1 := s.setAux n { s.aux n with gate := mv }
  if s.owner then s1.out (.auxGate n mv) else s1

/-- The mask of the channels in a state. -/
def State.auxMask (s : State) (p : AuxCh → Bool) : Nat :=
  (((List.range 24).filter (fun n => p (s.aux n))).map (fun n => 2 ^ n)).sum

/-- SEQ_DONE once every enabled channel is GOOD, FAULTED or in a stopped group (R316). -/
def State.auxSeq (s : State) : State :=
  if s.ax.running && (List.range 24).all (fun n =>
      !s.auxOn n || (s.aux n).st == 4 || (s.aux n).st == 5 || (s.auxGrp (n / 6)).stopped) then
    ({ s with ax.running := false, ax.seqDone := true }).emit 1 0x4002 (s.auxMask (fun x => x.st == 4)) (s.auxMask (fun x => x.st == 5))
      ((s.now - s.ax.startAt) / usec)
  else s

/-- The configuration is judged; the sequence starts from channels that are off (R311, R312). -/
def State.auxStart (s : State) : State :=
  match s.auxInvalid with
  | some (k, n) => ({ s with ax.cfgBad := true, ax.running := false, ax.seqDone := false }).emit 1 0x4003 k n
  | none =>
    let s1 := { s with ax.cfgBad := false, ax.running := true, ax.startAt := s.now, ax.seqDone := false }
    (s1.upto 24 (fun n x =>
      let y := x.aux n
      if !x.auxOn n || (x.auxGrp (n / 6)).stopped then x
      else if y.st = 0 then x.setAux n { y with st := 1, ready := false }
      else if y.st = 6 ∧ y.offTo = 0 then x.setAux n { y with offTo := 1 } else x)).auxSeq

/-- At profile acceptance: the configuration is judged, and AUTO_START starts the sequence (R311, R312). -/
def State.auxProfile (s : State) : State :=
  match s.auxInvalid with
  | some (k, n) => ({ s with ax.cfgBad := true }).emit 1 0x4003 k n
  | none => if s.rb Reg.AX_SEQ_CFG_AUTO_START then s.auxStart else { s with ax.cfgBad := false }

/-- Channels that are to be turned off and whose dependents being turned off are all off now are driven to 0 V (R330). -/
def State.auxRelease (s : State) : State :=
  let busy := (List.range 24).filter (fun n => (s.aux n).st == 6)
  let now := busy.filter (fun n => (s.aux n).offAt.isNone && !(s.auxDependents n).any (fun m => m != n && busy.contains m))
  s.each now (fun n x => (x.setAux n { x.aux n with offAt := some s.now }).auxDrive n 0)

/-- Raise the Urgent event of a MAIN_DEP channel that leaves GOOD while a main rail runs, with the parameters of its record
(R325, Table 12.9). -/
def State.mainDepLost (s : State) (n cause val : Nat) : State :=
  if s.rb (Reg.AX_CH_CFG1_MAIN_DEP n) && s.anyRailOn then s.hwEvent none 0x4001 n cause val else s

/-- A record of a channel's fault (R323, Table 7.3). -/
def State.auxFaultRec (s : State) (n cause val id : Nat) : State :=
  let s1 := ((s.setBit Reg.AX_FELL_FELL n).wr (Reg.AX_CH_STAT_CAUSE n) cause).wr (Reg.AX_GRP_CORR_LAST_ID (n / 6)) id
  s1.emit 1 0x4001 n cause val id

/-- Turn a list of channels off in reverse dependency order, to end in state `to`: 0 OFF or 5 FAULTED (R330). -/
def State.auxTurnOff (s : State) (l : List Nat) (into : Nat) : State :=
  (s.each l (fun n x =>
    let y := x.aux n
    if y.st = 1 then x.setAux n { y with st := 0, ready := false }
    else if 2 ≤ y.st ∧ y.st ≤ 4 then x.setAux n { y with st := 6, ready := false, offTo := into, offAt := none } else x)).auxRelease

/-- A channel has left GOOD: its dependents that are GOOD or in soft-start are off with cause UPSTREAM, and those that wait are not ready
any more (R313, R324). DEDUCED, log entry 53. -/
def State.auxCascade (s : State) (n id : Nat) : State :=
  let deps := (s.auxDependents n).filter (fun m => m != n)
  let l := deps.filter (fun m => decide (2 ≤ (s.aux m).st ∧ (s.aux m).st ≤ 4))
  (s.each deps (fun m x =>
    let y := x.aux m
    if y.st = 1 then x.setAux m { y with ready := false }
    else if 2 ≤ y.st ∧ y.st ≤ 4 then
      let x1 := x.auxFaultRec m 4 y.ma id
      if y.st = 4 then x1.mainDepLost m 4 y.ma else x1
    else x)).auxTurnOff l 5

/-- The next correlation ID (R331). -/
def nextCorr (c : Nat) : Nat := if c = 0xFFFF then 1 else c + 1

/-- A channel faults: FAULTED with AUXG at 0 V, a new incident, its record, and its dependents follow (R323, R324, R331). -/
def State.auxFault (s : State) (n cause val : Nat) : State :=
  let x := s.aux n
  let id := nextCorr s.ax.corr
  let g := n / 6
  let s1 := (({ s with ax.corr := id }).setAuxGrp g { s.auxGrp g with faultId := id, faultAt := some s.now }).setAux n {
    x with st := 5, ready := false, offAt := none }
  let s2 := (s1.auxDrive n 0).auxFaultRec n cause val id
  let s3 := if x.st = 4 then (s2.mainDepLost n cause val).auxCascade n id else s2
  s3.auxRelease.auxSeq

/-- A channel or source voltage of 12 bits over 1.80 V, in millivolts (R81, R308). DESIGN CHOICE, log entry 119. -/
def auxMv (c : BitVec 12) : Nat := c.toNat * 1800 / 4095

/-- A channel current of 12 bits over 1.20 V, in milliamps at the channel's ISCALE amperes (R81, Table 7.6). -/
def State.auxMa (s : State) (n : Nat) (c : BitVec 12) : Nat := c.toNat * 1000 * s.rf (Reg.AX_CH_CFG0_ISCALE n) / 4095

/-- Readings of a channel. -/
def State.auxRead (s : State) (n : Nat) (mv ma : Option Nat) : State :=
  let x := s.aux n
  s.setAux n { x with mv := mv.getD x.mv, ma := ma.getD x.ma }

/-- A reading of a group's source. -/
def State.agvRead (s : State) (g mv : Nat) : State := s.setAuxGrp g { s.auxGrp g with source := mv }

/-- Paused time of a channel since its admission, a pause that lasts with it (R328). -/
def State.auxPausedTotal (s : State) (n : Nat) : Nat :=
  let x := s.aux n
  x.paused + (if x.st = 3 then s.now - x.since else 0)

/-- A channel of group `g` has been paused for longer than SAG_MAX in total (R328). -/
def State.sagSpent (s : State) (g : Nat) : Bool :=
  (grpChans g).any (fun n => ((s.aux n).st == 2 || (s.aux n).st == 3)
    && decide (s.rf (Reg.AX_GRP_CFG2_SAG_MAX g) * 10 * usec < s.auxPausedTotal n))

/-- A group stops: its channels that are not OFF or FAULTED, and their dependents, are off in reverse order. Outside a sag its record
carries the longest paused time (R328, R329). DESIGN CHOICE, log entry 53. -/
def State.auxGroupStop (s : State) (g : Nat) : State :=
  let live := fun (n : Nat) => (s.aux n).st != 0 && (s.aux n).st != 5
  let own := (grpChans g).filter live
  let l := (List.range 24).filter (fun m => live m && (own.contains m || own.any (fun n => (s.auxDependents n).contains m)))
  let x := s.auxGrp g
  let mask := (l.map (fun n => 2 ^ n)).sum
  let good := l.filter (fun n => (s.aux n).st == 4)
  let long := if x.sag then s.now - x.sagAt else ((grpChans g).map s.auxPausedTotal).foldl max 0
  let s1 := s.setAuxGrp g { x with stopped := true, sag := false, rolled := mask }
  let s2 := (s1.emit 1 0x4012 g (long / usec) mask x.corr).auxTurnOff l 0
  let s3 := good.foldl (fun (y : State) n =>
    let d := y.draw 62
    d.2.mainDepLost n (d.1 % 6) (y.aux n).ma) s2
  s3.auxSeq

/-- Pause a channel in soft-start: its setpoint and its timer stop (R327). -/
def State.auxPause (s : State) (n : Nat) : State :=
  let x := s.aux n
  if x.st = 2 then s.setAux n { x with
    st := 3, timer := x.timer + (s.now - x.since), since := s.now, ramp := { x.ramp with frm := x.ramp.at s.now, since := s.now } }
  else s

/-- A paused channel goes on from where it stopped (R327). -/
def State.auxResume (s : State) (n : Nat) : State :=
  let x := s.aux n
  if x.st = 3 then s.setAux n { x with
    st := 2, paused := x.paused + (s.now - x.since), since := s.now, ramp := { x.ramp with since := s.now } }
  else s

/-- A sag begins (R326, R327, R331). -/
def State.sagBegin (s : State) (g low : Nat) : State :=
  let x := s.auxGrp g
  let share := match x.faultAt with
    | some t => decide (s.now ≤ t + 10 * usec)
    | none => false
  let id := if share then x.faultId else nextCorr s.ax.corr
  let s1 := if share then s else { s with ax.corr := id }
  let s2 := (s1.setAuxGrp g { x with sag := true, sagAt := s.now, corr := id }).each (grpChans g) (fun n y => y.auxPause n)
  let mask := (((grpChans g).filter (fun n => (s2.aux n).st == 3)).map (fun n => 2 ^ n)).sum
  (s2.wr (Reg.AX_GRP_CORR_LAST_ID g) id).emit 1 0x4010 g low mask id

/-- Admit ready channels of group `g` within GRP_INRUSH; the level that the soft-start loop drives AUXG to is a free value (R314,
R317). -/
def State.auxAdmit (s : State) (g : Nat) : State :=
  if (s.auxGrp g).sag || (s.auxGrp g).stopped then s
  else s.each (grpChans g) (fun n x =>
    let y := x.aux n
    let busy := (grpChans g).filter (fun m => (x.aux m).st == 2 || (x.aux m).st == 3)
    let used := (busy.map (fun m => x.rf (Reg.AX_CH_CFG0_ILIM m))).sum
    let want := x.rf (Reg.AX_CH_CFG0_ILIM n)
    let room := 2 * x.rf (Reg.AX_GRP_CFG_GRP_INRUSH g)
    let nom := x.rf (Reg.AX_GRP_CFG_AGV_NOM g)
    if y.st = 1 ∧ y.ready = true ∧ (used + want ≤ room ∨ (room < want ∧ busy.isEmpty = true)) then
      let d := x.draw 70
      (d.2.setAux n { y with
        st := 2, ready := false, timer := 0, paused := 0, since := x.now
        ramp := { frm := y.mv, goal := nom, num := nom, den := x.rf (Reg.AX_CH_CFG2_RAMP_T n) * 100 * usec, since := x.now }
      }).auxDrive n (d.1 % 1801)
    else x)

/-- Turn every channel off in reverse dependency order (R333, R334). -/
def State.auxAllOff (s : State) : State := s.auxTurnOff (List.range 24) 0

/-- RESTART of a stopped group: the channels that its stop turned off wait again (R329). -/
def State.auxRestart (s : State) (g : Nat) : State :=
  let x := s.auxGrp g
  if !x.stopped then s
  else (s.setAuxGrp g { x with stopped := false, rolled := 0 }).upto 24 (fun n y =>
    let c := y.aux n
    if !bitOf x.rolled n || (y.auxGrp (n / 6)).stopped then y
    else if c.st = 0 then y.setAux n { c with st := 1, ready := false }
    else if c.st = 6 ∧ c.offTo = 0 then y.setAux n { c with offTo := 1 } else y)

/-- A keyed write of AX_CTL; a STOP while a main rail is on is discarded whole (R323, R329, R334, R337). DEDUCED, log entry 53. -/
def State.axCtl (s : State) (v : Nat) : State :=
  s.keyedWrite Reg.AX_CTL v (fun x =>
    let stop := bitOf v 18
    if stop && x.anyRailOn then x.refuse
    else
      let a := x.upto 4 (fun g y => if bitOf v (20 + g) then y.auxRestart g else y)
      let n := bitsOf v 4 0
      let b := if bitOf v 17 && (a.aux n).st == 5 then a.setAux n { a.aux n with st := 1, ready := false } else a
      let c := if stop then ({ b with ax.seqDone := false, ax.running := false }).auxAllOff else b
      if bitOf v 19 then c.auxStart else c)

end Sys2Proof.Machine
end

