-- ==== Sys2Proof/Machine/AuxRails.lean ====
section
/-! DEFINITION. The commands of the auxiliary rails (Auxiliary Rails). A command that says that a condition has held for its time
carries the readings, as the 12-bit codes of AUXC, AUXV and AGV, and does nothing where they do not meet it. -/

namespace Sys2Proof.Machine
open Sys2Proof

/-- REG, which holds the auxiliary rails, is out of reset. -/
def State.axOn (s : State) : Bool := !s.inReset 1

/-- AX_RUN (R312). -/
def execAxRun (v : Word) (s : State) : Res := .next (s.axCtl v.toNat)

/-- AX_STOP (R334). -/
def execAxStop (v : Word) (s : State) : Res := .next (s.axCtl v.toNat)

/-- AX_CLEAR (R323). -/
def execAxClear (v : Word) (s : State) : Res := .next (s.axCtl v.toNat)

/-- AX_RESTART (R329). -/
def execAxRestart (v : Word) (s : State) : Res := .next (s.axCtl v.toNat)

/-- AUX_READY: every predecessor of a waiting channel has been GOOD for DELAY (R313). -/
def execAuxReady (n : Fin 24) (s : State) : Res :=
  let x := s.aux n.val
  .next (if s.axOn && x.st == 1 && !(s.auxGrp (n.val / 6)).stopped && (s.auxPreds n.val).all (fun d => (s.aux d).st == 4) then
      s.setAux n.val { x with ready := true }
    else s)

/-- AUX_ADMIT_TICK: ready channels are admitted group by group (R314). -/
def execAuxAdmitTick (s : State) : Res := .next (if s.axOn then s.upto 4 (fun g x => x.auxAdmit g) else s)

/-- AUX_GOOD: AUXV has stayed at or above PG_PCT of AGV for 100 us: the channel is GOOD and fully on (R318). -/
def execAuxGood (n : Fin 24) (agv v : BitVec 12) (s : State) : Res :=
  let mv := auxMv v
  .next (if s.axOn then
      let s1 := (s.agvRead (n.val / 6) (auxMv agv)).auxRead n.val (some mv) none
      let x := s1.aux n.val
      if x.st = 2 ∧ s1.rf (Reg.AX_CH_CFG2_PG_PCT n.val) * auxMv agv ≤ 100 * mv then
        (((s1.setAux n.val { x with st := 4, timer := x.timer + (s1.now - x.since) }).auxDrive n.val 1800).auxSeq).startReady
      else s1
    else s)

/-- AUX_SS_TIMEOUT: the soft-start timer reaches SS_TIMER (R319). -/
def execAuxSsTimeout (n : Fin 24) (c : BitVec 12) (s : State) : Res :=
  let ma := s.auxMa n.val c
  .next (if s.axOn && (s.aux n.val).st == 2 then (s.auxRead n.val none (some ma)).auxFault n.val 1 ma else s)

/-- AUX_FAST: the fast comparator fires, in any state except OFF (R320). -/
def execAuxFast (n : Fin 24) (c : BitVec 12) (s : State) : Res :=
  let ma := s.auxMa n.val c
  .next (if s.axOn && (s.aux n.val).st != 0 then (s.auxRead n.val none (some ma)).auxFault n.val 0 ma else s)

/-- AUX_OVERLOAD: a GOOD channel above RUN_LIM for RUN_T, not during a sag (R321, R327). -/
def execAuxOverload (n : Fin 24) (c : BitVec 12) (s : State) : Res :=
  let ma := s.auxMa n.val c
  .next (if s.axOn then
      let s1 := s.auxRead n.val none (some ma)
      if (s1.aux n.val).st = 4 ∧ (s1.auxGrp (n.val / 6)).sag = false ∧ s1.rf (Reg.AX_CH_CFG0_RUN_LIM n.val) * 500 < ma then
        s1.auxFault n.val 2 ma
      else s1
    else s)

/-- AUX_UV: a GOOD channel below PG_PCT less 5 % of AGV for 20 us, not during a sag (R322, R327). -/
def execAuxUv (n : Fin 24) (agv v : BitVec 12) (s : State) : Res :=
  let mv := auxMv v
  .next (if s.axOn then
      let s1 := (s.agvRead (n.val / 6) (auxMv agv)).auxRead n.val (some mv) none
      if (s1.aux n.val).st = 4 ∧ (s1.auxGrp (n.val / 6)).sag = false
          ∧ 100 * mv < (s1.rf (Reg.AX_CH_CFG2_PG_PCT n.val) - 5) * auxMv agv then
        s1.auxFault n.val 3 mv
      else s1
    else s)

/-- AUX_SENSE: AUXV or AUXC at its full-scale end for 4 us, on a channel that is neither OFF nor FAULTED nor in a stopped group (R329,
R336). -/
def execAuxSense (n : Fin 24) (c : BitVec 12) (s : State) (v : BitVec 12 := 0) : Res :=
  let ma := s.auxMa n.val c
  .next (if s.axOn && (s.aux n.val).st != 0 && (s.aux n.val).st != 5 && !(s.auxGrp (n.val / 6)).stopped && (v == 4095 || c == 4095) then
      (s.auxRead n.val none (some ma)).auxFault n.val 5 ma
    else s)

/-- Summed current of a group in amperes, rounded down, from its channels' AUXC codes (R325). -/
def State.grpAmps (s : State) (g : Nat) (cs : List (BitVec 12)) : Nat :=
  ((List.range 6).map (fun i => s.auxMa (6 * g + i) (cs.getD i 0))).sum / 1000

/-- GROUP_WARN: the summed current of a group at or above GRP_WARN for 1 ms (R325). -/
def execGroupWarn (g : Fin 4) (cs : List (BitVec 12)) (s : State) : Res :=
  let w := s.rf (Reg.AX_GRP_CFG2_GRP_WARN g.val)
  let amps := s.grpAmps g.val cs
  .next (if s.axOn then
      let s1 := s.upto 6 (fun i x => x.auxRead (6 * g.val + i) none (some (x.auxMa (6 * g.val + i) (cs.getD i 0))))
      if (s.auxGrp g.val).stopped = false ∧ w ≤ amps then s1.emitHw none 1 0x4013 g.val amps w else s1
    else s)

/-- SAG_BEGIN: two consecutive AGV samples below SAG_PCT of AGV_NOM; a group of which a channel has been paused for too long in total
stops at the first of them (R326 to R328). -/
def execSagBegin (g : Fin 4) (a b : BitVec 12) (s : State) : Res :=
  .next (if s.axOn then
      let s1 := s.agvRead g.val (auxMv b)
      let lim := s1.rf (Reg.AX_GRP_CFG_SAG_PCT g.val) * s1.rf (Reg.AX_GRP_CFG_AGV_NOM g.val)
      let x := s1.auxGrp g.val
      if x.stopped = true then s1
      else if s1.sagSpent g.val = true ∧ (100 * auxMv a < lim ∨ 100 * auxMv b < lim) then s1.auxGroupStop g.val
      else if x.sag = false ∧ 100 * auxMv a < lim ∧ 100 * auxMv b < lim then
        s1.sagBegin g.val (min (auxMv a) (auxMv b))
      else s1
    else s)

/-- SAG_END: ten consecutive samples at or above SAG_PCT plus 2 % (R326, R327). -/
def execSagEnd (g : Fin 4) (agv : BitVec 12) (s : State) : Res :=
  .next (if s.axOn then
      let s1 := s.agvRead g.val (auxMv agv)
      let x := s1.auxGrp g.val
      if x.sag = true ∧ (s1.rf (Reg.AX_GRP_CFG_SAG_PCT g.val) + 2) * s1.rf (Reg.AX_GRP_CFG_AGV_NOM g.val) ≤ 100 * auxMv agv then
        ((s1.setAuxGrp g.val { x with sag := false }).each (grpChans g.val) (fun n y => y.auxResume n)).emit 1 0x4011 g.val
          ((s1.now - x.sagAt) / usec) 0 x.corr
      else s1
    else s)

/-- SAG_MAX_EXPIRY: a sag longer than SAG_MAX stops the group (R328, R329). -/
def execSagMaxExpiry (g : Fin 4) (s : State) : Res :=
  .next (if s.axOn && (s.auxGrp g.val).sag then s.auxGroupStop g.val else s)

/-- REVERSE_OFF_STEP: a channel driven to 0 V is below 10 % of AGV_NOM, or 1 ms has passed: its turn-off ends, and those that
waited for it are driven (R330). -/
def execReverseOffStep (n : Fin 24) (v : BitVec 12) (s : State) : Res :=
  let mv := auxMv v
  .next (if s.axOn then
      let s1 := s.auxRead n.val (some mv) none
      let x := s1.aux n.val
      match x.offAt with
      | none => s1
      | some t =>
        if x.st = 6 ∧ (10 * mv < s1.rf (Reg.AX_GRP_CFG_AGV_NOM (n.val / 6)) ∨ t + msec ≤ s1.now) then
          ((s1.setAux n.val { x with st := x.offTo, offAt := none }).auxRelease).auxSeq
        else s1
    else s)

end Sys2Proof.Machine
end

