-- ==== Sys2Proof/Machine/Budgets.lean ====
section
/-! DEFINITION. The commands of the package budget and the partitions (Budgets, Partitions and Contention). -/

namespace Sys2Proof.Machine
open Sys2Proof

/-- ALLOCATION: the engine recomputes every allocation (R430, R432). -/
def execAllocation (s : State) : Res := .next (if s.friRuns then s.noteSource.allocate else s)

/-- Measured input demand averaged since the last tick (R445), in microwatts. -/
def State.measured (s : State) : Nat :=
  (if s.rv.cntDuty = 0 then ((s.rv.pGrid : Int) + s.rv.pConv).toNat else s.rv.accDuty / s.rv.cntDuty) * 10000

/-- One partition's budget duty up by one, with 0x7004, when it was below 15. -/
def State.dutyUp (s : State) (p m : Nat) : State :=
  let d := mget 0 s.bg.duty p
  if d < 15 then
    (({ s with bg.duty := mput 0 s.bg.duty p (d + 1) }).emit 0 0x7004 p (d + 1) (m / watt)).pauseUpdate p
  else s

/-- One partition's budget duty down by one; the fall follows R295. -/
def State.dutyDown (s : State) (p : Nat) : State :=
  let d := mget 0 s.bg.duty p
  if d = 0 then s else ({ s with bg.duty := mput 0 s.bg.duty p (d - 1) }).pauseUpdate p

/-- BUDGET_DUTY_TICK: measured demand is compared with B, and the budget pause duties follow (R445). -/
def execBudgetDutyTick (s : State) : Res :=
  let m := s.measured
  let b := s.bPkg
  let mg := s.rf Reg.BG_PKG_CFG3_DUTY_MARGIN
  let s1 := { s with rv.accDuty := 0, rv.cntDuty := 0 }
  .next (if s.friRuns = false then s
    else if b * (100 + mg) < m * 100 then
      let o1 := (List.range 64).filter (fun p => decide (s.alloc p < s.heldPower p))
      let o2 := if o1.isEmpty then (List.range 64).filter (fun p => decide (s.floorShare p < s.heldPower p)) else o1
      s1.each o2 (fun p x => x.dutyUp p m)
    else if m * 100 < b * (100 - mg) then s1.upto 64 (fun p x => x.dutyDown p)
    else s1)

/-- Pause duty of tile `t` in force: the largest of its PAUSE and its die's CLAMP code (R38). -/
def State.tileDuty (s : State) (t : Nat) : Nat :=
  let x := s.tile t
  max (s.pauseOf x.part x.dom) (mget 15 s.sl.clampOut x.link)

/-- ESTIMATE_TICK: each partition's estimate grows by 10 us of its floor classes and its paused reservations, and BG_UNATTR
holds what the meter saw beyond them (R447). -/
def execEstimateTick (s : State) : Res :=
  let eff := s.rf Reg.BG_PKG_CFG_EFF
  let add := fun (p : Nat) => ((s.partTiles p).map (fun t =>
    s.value (s.tile t).floor (s.tile t).dom + s.value (s.tile t).resv (s.tile t).dom * (16 - s.tileDuty t) / 16)).sum * 1000 / eff
  let s1 := s.upto 64 (fun p x =>
    let e := mget 0 x.bg.est p + add p
    let uj := e / 1000000
    (({ x with bg.est := mput 0 x.bg.est p e }).wr (Reg.BG_PART_EST_LO_EST p) (loWord uj)).wr (Reg.BG_PART_EST_HI_EST p) (hiWord uj))
  let sum := ((s1.bg.est.map (fun e => e.2 / 1000000)).sum : Nat)
  let un := codeOf 64 (((s1.ao.meterUj : Int) - s1.bg.meterAt) - sum)
  .next (if s.inReset 0 then s else (s1.wr Reg.BG_UNATTR_LO_UNATTR (loWord un)).wr Reg.BG_UNATTR_HI_UNATTR (hiWord un))

/-- Zero the estimates and BG_UNATTR (R449). -/
def State.estClear (s : State) : State :=
  let s1 := { s with bg.est := [], bg.meterAt := s.ao.meterUj }
  let s2 := s1.upto 64 (fun p x => (x.wr (Reg.BG_PART_EST_LO_EST p) 0).wr (Reg.BG_PART_EST_HI_EST p) 0)
  (s2.wr Reg.BG_UNATTR_LO_UNATTR 0).wr Reg.BG_UNATTR_HI_UNATTR 0

/-- A write of BG_CTL: EST_CLEAR and SAVE (Table 10.8). -/
def State.bgCtl (s : State) (v : Nat) : State :=
  s.hostWrite Reg.BG_CTL v (fun x =>
    let x1 := if bitOf v 1 then x.estClear else x
    if bitOf v 31 then x1.saveBlock 5 else x1)

/-- EST_CLEAR (R449). -/
def execEstClear (v : Word) (s : State) : Res := .next (s.bgCtl v.toNat)

/-- BG_SAVE (R452, R872). -/
def execBgSave (v : Word) (s : State) : Res := .next (s.bgCtl v.toNat)

/-- The first rule of R427 that the partition table breaks: partition, rule and value. -/
def State.tableBad (s : State) (p : Nat) : Option (Nat × Nat × Nat) :=
  let on := (List.range 64).filter s.partOn
  match on.find? (fun q => decide (s.rf (Reg.BG_PART_CFG0_CEILING q) < s.rf (Reg.BG_PART_CFG0_FLOOR q))) with
  | some q => some (q, 1, s.rf (Reg.BG_PART_CFG0_CEILING q))
  | none =>
    let fs := (on.map (fun q => s.rf (Reg.BG_PART_CFG0_FLOOR q))).sum
    if s.rf Reg.BG_PKG_CFG_MIN_GUAR * s.rf Reg.BG_PKG_CFG_EFF < s.rf Reg.BG_PKG_CFG2_OVERHEAD * s.rf Reg.BG_PKG_CFG_EFF + fs * 100 then some (p, 2, fs)
    else none

/-- A change of the partition table: accepted when the table stays valid, and then the allocations are recomputed; otherwise
discarded with REFUSED and 0x7005 (R427, R430). The Bool says that it was accepted. -/
def State.tableWrite (s : State) (p : Nat) (change : State → State) : Bool × State :=
  let s1 := change s
  match s1.tableBad p with
  | some (q, rule, v) => (false, (s.wr Reg.BG_FELL_REFUSED 1).emit 0 0x7005 q rule v)
  | none => (true, s1.allocate)

/-- PART_CFG_WRITE: a host write of word `hi` of BG_PART_CFG of partition `p` (R427). -/
def execPartCfgWrite (p : Fin 64) (hi : Bool) (v : Word) (s : State) : Res :=
  let a := if hi then Reg.BG_PART_CFG1 p else Reg.BG_PART_CFG0 p
  .next (match s.serve a true with
    | (false, s1) => s1
    | (true, s1) =>
      let r := s1.tableWrite p (fun x => x.writeFields a v.toNat)
      if r.1 then r.2 else r.2.rsvdCheck a v.toNat)

/-- HELD_ASK_EXPIRY: a HELD ask no longer counts in demand (R431). -/
def execHeldAskExpiry (t : Fin 16384) (s : State) : Res :=
  let x := s.tile t
  .next (match x.held with
    | some h => s.setTile t { x with held := some { h with counts := false } }
    | none => s)

/-- RGA_TIMEOUT: RGA falls from its last value at RAMP until REG returns it again (Table 10.6). -/
def execRgaTimeout (s : State) : Res :=
  .next (if s.inReset 0 then s else ({ s with bg.rgaLost := true }).budgetMoved)

end Sys2Proof.Machine
end

