-- ==== Sys2Proof/Machine/FabricOps.lean ====
section
/-! DEFINITION. The Vexurn node: frames and egress queues, neighbours, link state, addresses, routes, summaries and time
(Vexurn Fabric). -/

namespace Sys2Proof.Machine
open Sys2Proof

/-- Port `p`. -/
def State.vp (s : State) (p : Nat) : VxPort := mget {} s.fb.ports p

/-- Change port `p`. -/
def State.setVp (s : State) (p : Nat) (x : VxPort) : State := { s with fb.ports := mput {} s.fb.ports p x }

/-- This node's identity and the address it holds. -/
def State.myId (s : State) : Nat := s.fuse.ident.toNat
def State.myAddr (s : State) : Nat := s.rf Reg.VX_ADDR_ADDRESS

/-- Catchment of an address, and its Catchment and group together (R631). -/
def catchOf (a : Nat) : Nat := a / 2 ^ 24
def cgOf (a : Nat) : Nat := a / 2 ^ 15

/-- CATCH and GROUP of this node: provisioned, or adopted (R632). -/
def State.cgNow (s : State) : Option (Nat × Nat) :=
  if s.rb Reg.VX_PROV2_CG_PROV then some (s.rf Reg.VX_PROV_CATCH, s.rf Reg.VX_PROV_GROUP) else s.fb.cg

/-- Address with member 0 of this node's group. -/
def State.groupBase (s : State) : Option Nat := s.cgNow.map (fun e => e.1 * 2 ^ 24 + e.2 * 2 ^ 15)

/-- The neighbour on port `p` is FULL. -/
def State.full (s : State) (p : Nat) : Bool := (s.vp p).nbr == 3

/-- The address belongs to this node's group. -/
def State.sameGroup (s : State) (a : Nat) : Bool := a != 0 && (s.groupBase.map cgOf) == some (cgOf a)

/-- The address belongs to this node's Catchment. -/
def State.sameCatch (s : State) (a : Nat) : Bool := a != 0 && (s.groupBase.map catchOf) == some (catchOf a)

/-- FULL ports of this node's group, of other groups, and of its Catchment. -/
def State.groupPorts (s : State) : List Nat := (List.range 6).filter (fun p => s.full p && s.sameGroup (s.vp p).nbAddr)
def State.foreignPorts (s : State) : List Nat :=
  (List.range 6).filter (fun p => s.full p && (s.vp p).nbAddr != 0 && !s.sameGroup (s.vp p).nbAddr)
def State.catchPorts (s : State) : List Nat := (List.range 6).filter (fun p => s.full p && s.sameCatch (s.vp p).nbAddr)

/-- A border node has a FULL neighbour in another group. -/
def State.border (s : State) : Bool := !s.foreignPorts.isEmpty

/-- A received Vexurn frame: what its MAC layer says of it, its header fields and its body bytes (R627, Table 16.1). -/
structure VxFrame where
  fcsOk : Bool := true
  vlan : Bool := false
  len : Nat := 64
  ether : Nat := 0x88B5
  dmac : Nat := 0x0300000088B5
  version : Byte := 1
  ty : Byte := 0
  cls : Byte := 0
  ttl : Byte := 0
  dst : Word := 0
  src : Word := 0
  blen : BitVec 16 := 0
  seq : BitVec 16 := 0
  body : List Byte := []
deriving DecidableEq, Repr

/-- Bytes as numbers. -/
def natBytes (l : List Byte) : List Nat := l.map (fun b => b.toNat)

/-- A number of bytes read in the order of IEEE 802.3, first byte highest. -/
def ofBe (l : List Nat) : Nat := l.foldl (fun a b => 256 * a + b) 0

/-- The frame that the bytes from a destination address to an FCS hold. The FCS is the CRC-32 of the bytes before it, low byte first:
PRESUMED, log entry 118. -/
def vxFrame (l : List Byte) : VxFrame :=
  let b := natBytes l
  let n := l.length
  let le := fun (off k : Nat) => ofLe ((b.drop off).take k)
  { fcsOk := decide (4 ≤ n) && le (n - 4) 4 == crc32 (b.take (n - 4)), vlan := ofBe ((b.drop 12).take 2) == 0x8100, len := n
    ether := ofBe ((b.drop 12).take 2), dmac := ofBe (b.take 6), version := l.getD 14 0, ty := l.getD 15 0, cls := l.getD 16 0
    ttl := l.getD 17 0, dst := BitVec.ofNat 32 (le 18 4), src := BitVec.ofNat 32 (le 22 4), blen := BitVec.ofNat 16 (le 26 2)
    seq := BitVec.ofNat 16 (le 28 2), body := ((l.take (n - 4)).drop 30).take (le 26 2) }

/-- Little-endian field of a body. -/
def fbody (f : VxFrame) (off n : Nat) : Nat := ofLe (((f.body.drop off).take n).map (fun b => b.toNat))

/-- CLASS and SCOPE that Table 16.2 and Table 17.1 allow a TYPE, as CLS bytes. -/
def clsAllowed (ty : Nat) : List Nat :=
  match ty with
  | 0x01 | 0x02 | 0x03 => [0x09]
  | 0x04 => [0x12]
  | 0x05 => [0x12, 0x0A]
  | 0x06 => [0x03, 0x04]
  | 0x07 => [0x04]
  | 0x20 => [0x1A]
  | 0x21 | 0x22 => [0x0A]
  | 0x23 => [0x18]
  | _ => []

/-- Bytes of a body that are zero, and reserved bits of its flag bytes, by TYPE: (offset, mask). -/
def bodyReserved (ty : Nat) (f : VxFrame) : List (Nat × Nat) :=
  match ty with
  | 0x01 => [(13, 0xC0)]
  | 0x02 | 0x03 => [(2, 0xFF), (3, 0xFF)]
  | 0x04 => [(18, 0xF0), (25, 0xFF), (26, 0xFF), (27, 0xFF)]
    ++ (List.range (fbody f 24 1)).flatMap (fun k => [(34 + 8 * k, 0xFF), (35 + 8 * k, 0xFF)])
  | 0x05 => [(14, 0xFF), (15, 0xFF), (24, 0xFC), (26, 0xFF), (27, 0xFF)]
    ++ (List.range (fbody f 12 2)).flatMap (fun i => [(30 + 8 * i, 0xFE), (32 + 8 * i, 0xFF), (33 + 8 * i, 0xFF),
      (34 + 8 * i, 0xFF), (35 + 8 * i, 0xFF)])
  | 0x06 => [(3, 0xF0)]
  | 0x07 => [(5, 0xFF), (6, 0xFF), (7, 0xFF)]
  | 0x20 => [(21, 0xFF), (22, 0xFF), (23, 0xFF)]
  | 0x21 => [(15, 0xFC), (16, 0xFF), (17, 0xFF), (18, 0xFF), (19, 0xFF)]
  | 0x22 => [(12, 0xFE), (13, 0xFF), (14, 0xFF), (15, 0xFF)]
  | 0x23 => [(13, 0xFF), (14, 0xFF), (15, 0xFF)]
  | _ => []

/-- A frame that R627 or R629 discards. -/
def vxBad (f : VxFrame) : Bool :=
  !f.fcsOk || f.vlan || decide (f.len < 64) || decide (1518 < f.len) || f.ether != 0x88B5 || f.dmac != 0x0300000088B5
  || f.version != 1 || !(clsAllowed f.ty.toNat).contains f.cls.toNat || decide (f.len < f.blen.toNat + 34)
  || decide (1484 < f.blen.toNat)
  || (bodyReserved f.ty.toNat f).any (fun e => fbody f e.1 1 &&& e.2 != 0)

/-- FAB acts: out of reset, and not stopped by a Halt Sweep (R670). -/
def State.fabRuns (s : State) : Bool := !s.inReset 4 && !s.ob.halted

/-- The bytes of a frame of a TYPE arrive on a port that is up: discarded and counted when bad, else acted on. -/
def State.vxTake (s : State) (p : Nat) (ty : Nat) (l : List Byte) (act : VxFrame → State → State) : State :=
  let f := vxFrame l
  if !s.fabRuns || (s.vp p).link != 2 then s
  else if vxBad f then s.satAdd (Reg.VX_PORT_ERR_ERRORS p) 1
  else if f.ty.toNat = ty then act f s else s

/-- Bytes of a frame on the wire, without preamble and gap. -/
def wireLen (bodyLen : Nat) : Nat := max 64 (34 + bodyLen)

/-- Bytes a class's egress queue holds (Table 16.6). -/
def egressSize (cls : Nat) : Nat :=
  match cls with
  | 0 => 8192
  | 1 => 4096
  | 2 => 65536
  | 3 => 65536
  | _ => 131072

/-- Room for a frame in the queue of its class on a port. -/
def State.egressRoom (s : State) (p cls bodyLen : Nat) : Bool :=
  decide ((((s.vp p).egress.filter (fun o => o.cls % 8 == cls)).map (fun o => wireLen o.body.length)).sum + wireLen bodyLen
    ≤ egressSize cls)

/-- Put a frame into its egress queue, or drop and count it; REPORT and ALLOT enter at the head (R651, R679). -/
def State.egressPut (s : State) (p : Nat) (o : VxOut) : State :=
  let x := s.vp p
  if x.link ≠ 2 then s
  else if s.egressRoom p (o.cls % 8) o.body.length then
    s.setVp p { x with egress := if o.ty = 0x21 ∨ o.ty = 0x22 then o :: x.egress else x.egress ++ [o] }
  else s.satAdd (Reg.VX_PORT_DROP_DROPS p) 1

/-- The TTL a frame of this node's own starts with: 32 routed, 64 flooded; no rule states that of a link-local one (R630; log entry
140). -/
def startTtl (ty cls : Nat) : Nat :=
  match cls / 8 with
  | 0 => 32
  | 1 => (Config.linkTtl ty).toNat
  | _ => 64

/-- Send a frame of this node's own on a list of ports; SEQ counts per TYPE (Table 16.1). -/
def State.vxSend (s : State) (ports : List Nat) (ty cls dst : Nat) (body : List Nat) : State :=
  let n := mget 0 s.fb.seqs ty
  let o : VxOut := { cls := cls, ty := ty, ttl := startTtl ty cls, dst := dst, src := s.myAddr, seq := n, body := body }
  if ports.isEmpty then s
  else ports.foldl (fun x p => x.egressPut p o) { s with fb.seqs := mput 0 s.fb.seqs ty ((n + 1) % 65536) }

/-- A received frame as it goes on: one hop less, with a new body (R649). -/
def fwdOut (f : VxFrame) (body : List Nat) : VxOut := {
  cls := f.cls.toNat, ty := f.ty.toNat, ttl := f.ttl.toNat - 1, dst := f.dst.toNat, src := f.src.toNat, seq := f.seq.toNat, body := body }

/-- Forward a received frame on a list of ports, unless its TTL ends here (R649). -/
def State.vxForward (s : State) (ports : List Nat) (f : VxFrame) (body : List Nat) : State :=
  if f.ttl.toNat ≤ 1 then s else ports.foldl (fun x p => x.egressPut p (fwdOut f body)) s

/-- The frame a port sends next: the oldest of its highest class (R651). -/
def nextOut (l : List VxOut) : Option VxOut :=
  l.foldl (fun b o => match b with
    | none => some o
    | some m => if o.cls % 8 < m.cls % 8 then some o else some m) none

/-- The bytes of a frame as a port sends it: addresses, EtherType, header, body, padding and FCS (R627, Table 16.1). -/
def State.vxBytes (s : State) (p : Nat) (o : VxOut) : List Nat :=
  let h := [0x03, 0, 0, 0, 0x88, 0xB5, 0x02] ++ (leBytes 4 (loWord s.myId)).reverse ++ [p, 0x88, 0xB5, 1, o.ty, o.cls, o.ttl]
    ++ leBytes 4 o.dst ++ leBytes 4 o.src ++ leBytes 2 o.body.length ++ leBytes 2 o.seq ++ o.body
  let f := h ++ List.replicate (60 - h.length) 0
  f ++ leBytes 4 (crc32 f)

/-- Weir time in units of 2^-16 ns. -/
def State.weir16 (s : State) : Nat := (((s.now : Int) * 65536 + s.fb.ofs) % (2 ^ 80 : Nat)).toNat

/-- Weir time in nanoseconds, 64 bits. -/
def State.weirNs (s : State) : Nat := s.weir16 / 65536

/-- A time stamp of 10 bytes (R658). -/
def stamp (t : Nat) : List Nat := leBytes 8 (t / 65536) ++ leBytes 2 (t % 65536)

/-- The frame as it leaves its port: the departure of a TREQ (T1, which the node keeps) or of a TRSP (T3) is written into it then
(R657, R658). -/
def State.departs (s : State) (o : VxOut) : VxOut × State :=
  match o.ty with
  | 2 => ({ o with body := o.body.take 4 ++ stamp s.weir16 ++ o.body.drop 14 }, { s with fb.t1 := s.weir16 })
  | 3 => ({ o with body := o.body.take 24 ++ stamp s.weir16 ++ o.body.drop 34 }, s)
  | _ => (o, s)

/-- A port that is idle starts its next frame; a frame takes its bytes with preamble and gap at 10 Gb/s. -/
def State.portSend (s : State) (p : Nat) : State :=
  let x := s.vp p
  if x.link ≠ 2 ∨ s.now < x.busyTo then s
  else match nextOut x.egress with
    | none => s
    | some o =>
      let d := s.departs o
      (d.2.setVp p { x with egress := x.egress.erase o, busyTo := s.now + (wireLen o.body.length + 20) * 8 / 10 }).out
        (.vx p (s.vxBytes p d.1))

/-- VXn_TXDIS of a port: high while it is disabled (R624). -/
def State.txDisOut (s : State) (p : Nat) : State := s.out (.txDis p (!s.rb (Reg.VX_PORT_CFG_ENABLE p)))

/-- Every port sends (R651). -/
def State.vxDrain (s : State) : State := if s.fabRuns then s.upto 6 (fun p x => x.portSend p) else s

/-- This node is the root of its group, and of its Catchment. -/
def State.isGroot (s : State) : Bool := s.fb.groot == s.myId && s.fb.groot != 0
def State.isCroot (s : State) : Bool := s.fb.croot == s.myId && s.fb.croot != 0

/-- LOCKED (R662); the Catchment root keeps the time itself. DEDUCED, log entry 37. -/
def State.vxLocked (s : State) : Bool := s.fb.locked || s.isCroot

/-- FLAGS of this node's HELLO on a port (Table 16.3). -/
def State.helloFlags (s : State) (p : Nat) : Nat :=
  b01 (s.fb.addrKind == 1) + 2 * b01 s.owner + 4 * b01 s.fb.ppsValid + 8 * b01 s.vxLocked + 16 * b01 (s.vp p).synced
    + 32 * b01 s.border

/-- HELLO on a port (Table 16.3). -/
def State.sendHello (s : State) (p : Nat) : State :=
  s.vxSend [p] 0x01 0x09 0xFFFFFFFF (leBytes 8 s.myId ++ leBytes 4 s.myAddr ++ [p, s.helloFlags p, s.fb.thops, s.fb.chops]
    ++ leBytes 8 (if (s.vp p).nbr = 0 then 0 else (s.vp p).nbId) ++ leBytes 8 s.fb.groot)

/-- AGE of a held LSA now. -/
def State.lsaAge (s : State) (l : Lsa) : Nat := l.age + (s.now - l.since) / second

/-- Body of an LSA (Table 16.4a). -/
def State.lsaBody (s : State) (id : Nat) (l : Lsa) : List Nat :=
  leBytes 8 id ++ leBytes 4 l.address ++ leBytes 4 l.lseq ++ leBytes 2 (s.lsaAge l) ++ [l.flags, l.tprio] ++ leBytes 4 l.twin
    ++ [l.nbrs.length, 0, 0, 0] ++ l.nbrs.flatMap (fun n => leBytes 4 n.1 ++ [n.2.1, n.2.2, 0, 0])

/-- The fabric address of the other die of the package, as the database shows it for the identity that die gave on the twin link; 0 for
none (Table 16.4a). DEDUCED, log entry 141. -/
def State.twinAddr (s : State) : Nat :=
  let id := s.rf Reg.TW_PEER_LO_IDENTITY + 2 ^ 32 * s.rf Reg.TW_PEER_HI_IDENTITY
  if id = 0 then 0 else (mget ({} : Lsa) s.fb.lsas id).address

/-- This node's own LSA. -/
def State.ownLsa (s : State) (lseq : Nat) : Lsa := {
  address := s.myAddr, lseq := lseq, since := s.now, tprio := s.rf Reg.VX_PROV2_TPRIO, twin := s.twinAddr
  flags := b01 (s.fb.addrKind == 1) + 2 * b01 s.owner + 4 * b01 s.fb.ppsValid + 8 * b01 s.border
  nbrs := ((List.range 6).filter s.full).map (fun p => ((s.vp p).nbAddr, s.rf (Reg.VX_PORT_CFG_COST p), p)) }

/-- Originate this node's LSA, when it holds an address (R636, R640). -/
def State.originate (s : State) : State :=
  if s.myAddr = 0 ∨ s.inReset 4 then s
  else
    let n := (s.fb.lseq + 1) % 2 ^ 32
    let l := s.ownLsa n
    let s1 := { s with fb.lseq := n, fb.lsas := mput {} s.fb.lsas s.myId l }
    s1.vxSend s1.groupPorts 0x04 0x12 0xFFFFFFFF (s1.lsaBody s1.myId l)

/-- MEMBER of probe `k` (R633). -/
def State.probeMember (s : State) (k : Nat) : Nat :=
  let h := crc32 (leBytes 8 s.myId)
  let step := h / 2 ^ 15 % 2 ^ 15
  (h % 2 ^ 15 + k * (step + 1 - step % 2)) % 32768

/-- An identity other than this node's holds the address. -/
def State.addrTaken (s : State) (a : Nat) : Bool := s.fb.lsas.any (fun e => e.1 != s.myId && e.2.address == a)

/-- Claim an address, self-assigned ones from probe `k` on, with 0xB005 (R633, R634). -/
def State.claim (s : State) (k : Nat) : State :=
  match s.groupBase with
  | none => s
  | some b =>
    if s.rb Reg.VX_PROV2_ADDR_PROV ∧ !s.fb.provLost then
      let a := b + s.rf Reg.VX_PROV_MEMBER
      ((({ s with fb.addrKind := 1, fb.probe := 0 }).wr Reg.VX_ADDR_ADDRESS a).emit 4 0xB005 a 0 0).originate
    else match (List.range 32768).find? (fun i => !s.addrTaken (b + s.probeMember (k + i))) with
      | none => s
      | some i =>
        let a := b + s.probeMember (k + i)
        ((({ s with fb.addrKind := 2, fb.probe := k + i }).wr Reg.VX_ADDR_ADDRESS a).emit 4 0xB005 a 1 (k + i)).originate

/-- Of two identities with one address, the first wins: provisioned, then the lower identity (R635). -/
def beats (flagsA idA flagsB idB : Nat) : Bool :=
  if flagsA % 2 = flagsB % 2 then decide (idA < idB) else flagsA % 2 == 1

/-- This node loses its address to another identity in the database, and claims again (R635). -/
def State.conflict (s : State) : State :=
  let mine := b01 (s.fb.addrKind == 1)
  match s.fb.lsas.find? (fun e => e.1 != s.myId && s.myAddr != 0 && e.2.address == s.myAddr && beats e.2.flags e.1 mine s.myId) with
  | none => s
  | some e =>
    let old := s.myAddr
    let s1 := if s.fb.addrKind = 1 then ({ s with fb.provLost := true }).claim 0 else s.claim (s.fb.probe + 1)
    (s1.wr Reg.VX_FELL_CONFLICT 1).emit 4 0xB006 old (loWord e.1) s1.myAddr

/-- The LSA of an address's winner, with its identity (R643). -/
def State.lsaAt (s : State) (a : Nat) : Option (Nat × Lsa) :=
  (s.fb.lsas.filter (fun e => e.2.address == a)).foldl (fun b e => match b with
    | none => some e
    | some m => if beats e.2.flags e.1 m.2.flags m.1 then some e else some m) none

/-- Costs of the links out of an address: used only when each end lists the other (R643). -/
def State.linksFrom (s : State) (a : Nat) : List (Nat × Nat) :=
  match s.lsaAt a with
  | none => []
  | some e => e.2.nbrs.filterMap (fun n => match s.lsaAt n.1 with
    | some f => if f.2.nbrs.any (fun m => m.1 == a) then some (n.1, n.2.1) else none
    | none => none)

/-- One relaxation over every known address. -/
def State.relax (s : State) (t : List (Nat × Nat)) : List (Nat × Nat) :=
  t.foldl (fun m e => (s.linksFrom e.1).foldl (fun m l =>
    match m.find? (fun x => x.1 == l.1) with
    | some x => if e.2 + l.2 < x.2 then mins m l.1 (e.2 + l.2) else m
    | none => mins m l.1 (e.2 + l.2)) m) t

/-- Least costs from an address to every other, after `n` relaxations. -/
def State.costs (s : State) (a : Nat) : Nat → List (Nat × Nat)
  | 0 => [(a, 0)]
  | n + 1 => s.relax (s.costs a n)

/-- Routes of the group: for each address the least cost and its port; ties go to the neighbour of lowest address (R643). -/
def State.computeRoutes (s : State) : List (Nat × Nat × Nat) :=
  let nbs := s.groupPorts.filterMap (fun p =>
    let a := (s.vp p).nbAddr
    if (s.linksFrom s.myAddr).any (fun l => l.1 == a) then some (a, p, s.rf (Reg.VX_PORT_CFG_COST p)) else none)
  let tabs := nbs.map (fun n => (n, s.costs n.1 s.fb.lsas.length))
  let dsts := (tabs.flatMap (fun t => t.2.map (·.1))).foldl (fun (m : List (Nat × Nat)) a => mins m a 0) []
  dsts.filterMap (fun e =>
    if e.1 = s.myAddr then none
    else
      let c := tabs.filterMap (fun t => (t.2.find? (fun x => x.1 == e.1)).map (fun x => (x.2 + t.1.2.2, t.1.1, t.1.2.1)))
      (c.foldl (fun (b : Option (Nat × Nat × Nat)) x => match b with
        | none => some x
        | some y => if x.1 < y.1 ∨ (x.1 = y.1 ∧ x.2.1 < y.2.1) then some x else some y) none).map (fun x => (e.1, x.1, x.2.2)))

/-- Least cost to an address of the group; 0 to this node itself. -/
def State.costTo (s : State) (a : Nat) : Option Nat :=
  if a = s.myAddr then some 0 else (s.fb.routes.find? (fun r => r.1 == a)).map (fun r => r.2.1)

/-- Ways to a foreign group or Catchment: (metric, cost to the border node, its address, the foreign port at this node);
a metric of 64 leads nowhere (R647, R648). -/
def State.ways (s : State) (c g : Nat) : List (Nat × Nat × Nat × Option Nat) :=
  s.fb.sums.flatMap (fun m => (m.entries.filter (fun e => e.1 == c && e.2.1 == g && decide (e.2.2 + b01 m.port.isSome < 64))).filterMap (fun e =>
    match m.port with
    | some p => if s.full p then some (e.2.2 + 1, 0, s.myAddr, some p) else none
    | none => (s.costTo m.origin).map (fun k => (e.2.2, k, m.origin, none))))

/-- The chosen way: lowest metric, then lowest cost, then lowest border address (R648). -/
def State.bestWay (s : State) (c g : Nat) : Option (Nat × Nat × Nat × Option Nat) :=
  (s.ways c g).foldl (fun b x => match b with
    | none => some x
    | some y => if x.1 < y.1 ∨ (x.1 = y.1 ∧ (x.2.1 < y.2.1 ∨ (x.2.1 = y.2.1 ∧ x.2.2.1 < y.2.2.1))) then some x else some y) none

/-- Egress port toward an address, which only a FULL neighbour gives: none when unreachable (R638, R648), or to this node's own (log entry
142). -/
def State.egressTo (s : State) (dst : Nat) : Option Nat :=
  let inGroup := fun (a : Nat) => (s.fb.routes.find? (fun r => r.1 == a && s.full r.2.2)).map (fun r => r.2.2)
  if s.sameGroup dst then inGroup dst
  else
    let way := match s.bestWay (catchOf dst) (dst / 2 ^ 15 % 512) with
      | some w => some w
      | none => s.bestWay (catchOf dst) 511
    match way with
    | none => none
    | some (_, _, _, some p) => some p
    | some (_, _, b, none) => inGroup b

/-- Return a DGNAK to a source, at most one per source address per 10 us (R656). -/
def State.dgnak (s : State) (src tag queue code : Nat) : State :=
  let due := match s.fb.nakAt.find? (fun e => e.1 == src) with
    | some e => decide (e.2 + 10 * usec ≤ s.now)
    | none => true
  if due then
    let s1 := { s with fb.nakAt := mins s.fb.nakAt src s.now }
    match s1.egressTo src with
    | some p => s1.vxSend [p] 0x07 0x04 src (leBytes 2 tag ++ leBytes 2 queue ++ [code, 0, 0, 0])
    | none => s1
  else s

/-- Forward a routed frame: discarded without a word for a route lost with its port (R669), with DGNAK UNREACH when TTL ends
or nothing leads there, with DGNAK QFULL when the egress queue is full (R649, R651, R656); a DGNAK is never answered. -/
def State.vxRoute (s : State) (f : VxFrame) : State :=
  let dst := f.dst.toNat
  let nak := fun (x : State) (code : Nat) =>
    if f.ty.toNat = 0x06 then x.dgnak f.src.toNat (fbody f 0 2) (fbody f 2 2 % 4096) code else x
  match s.fb.dead.find? (fun e => e.1 == dst) with
  | some e => s.satAdd (Reg.VX_PORT_DROP_DROPS e.2) 1
  | none =>
    if f.ttl.toNat ≤ 1 then nak s 8
    else match s.egressTo dst with
      | none => nak s 8
      | some p =>
        if s.egressRoom p (f.cls.toNat % 8) f.body.length then s.vxForward [p] f (f.body.map (fun b => b.toNat))
        else nak (s.satAdd (Reg.VX_PORT_DROP_DROPS p) 1) 1

/-- A REMOTE send to entry `e` of VX_REP (R653, R654), with its result: CLOSED, QFULL or OK. -/
def State.sendRemote (s : State) (e tag : Nat) (p0 p1 p2 : DWord) : Nat × State :=
  if !s.rb (Reg.VX_REP1_VALID e) then (resClosed, s)
  else
    let dst := s.rf (Reg.VX_REP0_ADDRESS e)
    let cls := if s.rb (Reg.VX_REP1_TELEM e) then 3 else 4
    let body := leBytes 2 tag ++ leBytes 2 (s.rf (Reg.VX_REP1_QUEUE e)) ++ leBytes 4 (hiWord p0.toNat)
      ++ leBytes 8 p1.toNat ++ leBytes 8 p2.toNat
    match (if s.fabRuns then s.egressTo dst else none) with
    | none => (resQfull, s)
    | some p => if (s.vp p).link = 2 ∧ s.egressRoom p cls 24 then (resOk, s.vxSend [p] 0x06 cls dst body) else (resQfull, s)

/-- Enter holdover from a former parent's port: cause 0 parent lost, 1 no TRSP (R663). -/
def State.enterHoldover (s : State) (p cause : Nat) : State :=
  if s.fb.holdover then s
  else (({ s with fb.holdover := true }).wr Reg.VX_FELL_TIME 1).emit 4 0xB00B p cause

/-- Hops plus one; 64 for none (R661). -/
def hops1 (h : Nat) : Nat := if h < 63 then h + 1 else 64

/-- The port whose neighbour has the lowest hop count, ties to the lowest identity; none where all have none. -/
def State.bestPort (s : State) (l : List Nat) (h : VxPort → Nat) : Option Nat :=
  (l.filter (fun p => decide (h (s.vp p) < 64))).foldl (fun b p => match b with
    | none => some p
    | some q => if h (s.vp p) < h (s.vp q) ∨ (h (s.vp p) = h (s.vp q) ∧ (s.vp p).nbId < (s.vp q).nbId) then some p else some q) none

/-- Choose the time parent and the hop counts (R661); a parent that is gone puts the node in holdover (R663). -/
def State.timeParent (s : State) : State :=
  let par := if s.isCroot then none
    else if s.isGroot then s.bestPort s.foreignPorts (·.nbChops)
    else s.bestPort s.groupPorts (·.nbThops)
  let th := if s.isGroot then 0 else match par with
    | some p => hops1 (s.vp p).nbThops
    | none => 64
  let ch := if s.isCroot then 0 else match par with
    | some p => hops1 (s.vp p).nbChops
    | none => 64
  let s1 := match s.fb.parent with
    | some q => if par ≠ some q ∧ (par.isNone ∨ !s.full q) ∧ !s.isCroot then s.enterHoldover q 0 else s
    | none => s
  let moved := decide (par ≠ s.fb.parent) && par.isSome
  { s1 with
    fb.parent := par
    fb.thops := th
    fb.chops := ch
    fb.holdover := s1.fb.holdover && !s1.isCroot
    fb.newParent := s1.fb.newParent || moved }

/-- The key of R660, as one number: lower is better. -/
def rootKey (flags tprio id : Nat) : Nat :=
  ((b01 (!bitOf flags 2) * 2 + b01 (!bitOf flags 3)) * 256 + tprio) * 2 ^ 64 + id

/-- The same key from the fields of a SUMMARY. -/
def sumKey (m : Summary) : Nat := ((b01 (bitOf m.crkey 0) * 2 + b01 (bitOf m.crkey 1)) * 256 + m.crprio) * 2 ^ 64 + m.croot

/-- The lowest of a list of keys. -/
def lowest (l : List Nat) : Option Nat := l.foldl (fun b k => match b with
  | none => some k
  | some m => some (min m k)) none

/-- Keys of the members that the database shows reachable, this node among them. -/
def State.memberKeys (s : State) : List Nat :=
  (s.fb.lsas.filter (fun e => e.1 == s.myId || (s.costTo e.2.address).isSome)).map (fun e => rootKey e.2.flags e.2.tprio e.1)

/-- Judge both time roots again (R660), recording each change, and choose the parent. -/
def State.judgeRoots (s : State) : State :=
  let gk := lowest s.memberKeys
  let ck := lowest (gk.toList ++ ((s.fb.sums.filter (fun m => s.sameCatch m.origin && m.croot != 0)).map sumKey))
  let g := match gk with
    | some k => k % 2 ^ 64
    | none => 0
  let c := match ck with
    | some k => k % 2 ^ 64
    | none => 0
  let s1 := ({ s with fb.groot := g, fb.croot := c }).timeParent
  let hc := s1.fb.thops * 256 + s1.fb.chops
  let s2 := if g = s.fb.groot then s1 else s1.emit 4 0xB009 0 (loWord g) hc
  if c = s.fb.croot then s2 else s2.emit 4 0xB009 1 (loWord c) hc

/-- Entries in groups of 160 (R645). -/
def chunks : Nat → List (Nat × Nat × Nat) → List (List (Nat × Nat × Nat))
  | 0, _ => []
  | n + 1, l => if l.length ≤ 160 then [l] else l.take 160 :: chunks n (l.drop 160)

/-- Send a SUMMARY of these entries on ports, in parts (Table 16.5); CRKEY, CRPRIO and CROOT give the best Catchment root
known. -/
def State.sendSummary (s : State) (ports : List Nat) (cls : Nat) (entries : List (Nat × Nat × Nat)) : State :=
  let ck := (lowest (s.memberKeys ++ ((s.fb.sums.filter (fun m => s.sameCatch m.origin && m.croot != 0)).map sumKey))).getD 0
  let root := ck % 2 ^ 64
  let prio := ck / 2 ^ 64 % 256
  let k := ck / 2 ^ 72
  let parts := chunks 26 entries
  let s1 := { s with fb.sseq := (s.fb.sseq + 1) % 2 ^ 32 }
  if ports.isEmpty then s
  else (List.range parts.length).foldl (fun x i =>
    let l := parts.getD i []
    x.vxSend ports 0x05 cls 0xFFFFFFFF (leBytes 4 x.myAddr ++ leBytes 4 s1.fb.sseq ++ [0, 0, i, parts.length]
      ++ leBytes 2 l.length ++ [0, 0] ++ leBytes 8 root ++ [k / 2 % 2 + 2 * (k % 2), prio, 0, 0]
      ++ l.flatMap (fun e => [e.1] ++ leBytes 2 e.2.1 ++ [e.2.2, 0, 0, 0, 0]))) s1

/-- Foreign groups known, without this node's own: (Catchment, group). -/
def State.foreignGroups (s : State) : List (Nat × Nat) :=
  let l := (s.fb.sums.flatMap (fun m => m.entries.map (fun e => e.1 * 512 + e.2.1))).foldl
    (fun (m : List (Nat × Nat)) k => mins m k 0) []
  (l.map (fun e => (e.1 / 512, e.1 % 512))).filter (fun e => some e != s.cgNow)

/-- What a border node's SUMMARY into its own group lists: the groups learned from its foreign neighbours, at the metric received plus 1
(R647). -/
def State.learned (s : State) : List (Nat × Nat × Nat) :=
  s.foreignGroups.filterMap (fun e =>
    (lowest ((s.ways e.1 e.2).filterMap (fun w => w.2.2.2.map (fun _ => w.1)))).map (fun m => (e.1, e.2, m)))

/-- A border node floods it (R647). -/
def State.floodSummary (s : State) : State :=
  if s.border && s.myAddr != 0 then s.sendSummary s.groupPorts 0x12 s.learned else s

/-- The link-local SUMMARY to a foreign neighbour (R646). -/
def State.foreignSummary (s : State) (p : Nat) : State :=
  match s.cgNow with
  | none => s
  | some (c, g) =>
    let metric := fun (e : Nat × Nat) => (s.bestWay e.1 e.2).map (fun w => (e.1, e.2, if w.2.2.2 = some p then 64 else w.1))
    if s.sameCatch (s.vp p).nbAddr then s.sendSummary [p] 0x0A ((c, g, 0) :: s.foreignGroups.filterMap metric)
    else s.sendSummary [p] 0x0A ((c, 511, 0) :: (s.foreignGroups.filter (fun e => e.2 == 511 && e.1 != c)).filterMap metric)

/-- What the held SUMMARYs say, apart from their numbers and ages. -/
def State.sumView (s : State) : List (Nat × Option Nat × List (Nat × Nat × Nat)) := s.fb.sums.map (fun m => (m.origin, m.port, m.entries))

/-- After a change in what is held, a border node tells its foreign neighbours (R646). -/
def State.sumTell (old s : State) : State :=
  if s.border && s.myAddr != 0 && s.sumView != old.sumView then s.foreignPorts.foldl (fun x p => x.foreignSummary p) s else s

end Sys2Proof.Machine
end

