-- ==== Sys2Proof/Machine/CatchmentOps.lean ====
section
/-! DEFINITION. Ports going down, children, the division of an allotment, orphan share and shed (Vexurn Fabric; The Building
as One Governor). -/

namespace Sys2Proof.Machine
open Sys2Proof

/-- Child on port `p`. -/
def State.child (s : State) (p : Nat) : Child := mget {} s.cb.children p

/-- Change the child on port `p`. -/
def State.setChild (s : State) (p : Nat) (x : Child) : State := { s with cb.children := mput {} s.cb.children p x }

/-- Hold a reporting child down: 0 port, 1 reports elsewhere, 2 missing (R691). -/
def State.holdDown (s : State) (p cause : Nat) : State :=
  let c := s.child p
  if c.reports && !c.heldDown then
    ((s.setChild p { c with heldDown := true }).wr Reg.VX_CB_FELL_HELD_DOWN 1).emit 4 0xB025 p cause c.allot
  else s

/-- The neighbour of a port is lost: 0xB004 on leaving FULL, its child is held down, the parent is chosen again and this node
reoriginates (R636, R638, R691). -/
def State.nbrLost (s : State) (p cause into : Nat) : State :=
  let x := s.vp p
  if x.nbr = 3 then
    let s1 := (s.setVp p { x with nbr := into, synced := false }).emit 4 0xB004 p x.nbAddr cause
    ((s1.holdDown p 0).timeParent).originate
  else s.setVp p { x with nbr := into, synced := false }

/-- A port goes down (R626, R669): its egress is flushed and counted, its neighbour is lost, its routes go. `to` is the LINK
state it is left in. -/
def State.portDown (s : State) (p cause into : Nat) : State :=
  let x := s.vp p
  if x.link ≠ 2 then s.setVp p { x with link := into }
  else
    let n := x.egress.length
    let s1 := ((s.setVp p { x with link := into, egress := [], fecOn := false, foreignTold := false }).satAdd
      (Reg.VX_PORT_DROP_DROPS p) n).wr Reg.VX_FELL_PORT 1
    let s2 := s1.emit 4 0xB002 p cause n
    let gone := s2.fb.routes.filter (fun (r : Nat × Nat × Nat) => r.2.2 == p)
    let s3 := { s2 with
      fb.routes := s2.fb.routes.filter (fun (r : Nat × Nat × Nat) => r.2.2 != p)
      fb.dead := s2.fb.dead ++ gone.map (fun (r : Nat × Nat × Nat) => (r.1, p)) }
    s3.nbrLost p cause 0

/-- Every port that is enabled goes down and trains again (R667, VXREF loss). -/
def State.portsDown (s : State) (cause into : Nat) : State :=
  s.upto 6 (fun p x => if (x.vp p).link = 0 then x else x.portDown p cause into)

/-- A fabric reset: ports, neighbours, LSAs, SUMMARYs and routes go; Weir time and the address stay (R667). -/
def State.fabricReset (s : State) : State :=
  let s1 := s.portsDown 4 1
  { s1 with fb.lsas := [], fb.sums := [], fb.routes := [], fb.dead := [] }

/-- PERIOD of the ceiling held in milliseconds, 1 when none is held. -/
def State.cbPeriod (s : State) : Nat := if s.rf Reg.VX_CB_HELD_PERIOD = 2 then 2 else 1

/-- PNUM (R677). -/
def State.pnum (s : State) : Nat := s.weirNs / (s.cbPeriod * msec) % 2 ^ 32

/-- HELD_IN in watts: the HELD asks of every partition at the input (R687). -/
def State.heldIn (s : State) : Nat :=
  let v := (s.openTiles.map (fun t => match (s.tile t).held with
    | some h => if h.counts then s.value h.cls (s.tile t).dom else 0
    | none => 0)).sum
  v * 100 / s.rf Reg.BG_PKG_CFG_EFF / watt

/-- The Active's own demand D in watts; 0 on the other die (R674, R687). -/
def State.ownDemand (s : State) : Nat :=
  if !s.owner then 0
  else
    let m := (if s.rv.cntRep = 0 then ((s.rv.pGrid : Int) + s.rv.pConv).toNat else s.rv.accRep / s.rv.cntRep) / 100
    min (s.rf Reg.VX_CB_CFG2_PKG_MAX) (m + s.heldIn + s.rf Reg.VX_CB_CFG2_GROW_W)

/-- This node's own floor and package count (R674, R687). -/
def State.ownFloor (s : State) : Nat := if s.owner then s.rf Reg.VX_CB_CFG_ORPHAN else 0

/-- Children that report or are held down. -/
def State.kin (s : State) : List Nat := (List.range 6).filter (fun p => (s.child p).reports)

/-- REPORTs that came late are used from here on (R688). -/
def State.takeLate (s : State) : State :=
  { s with cb.children := s.cb.children.map (fun (e : Nat × Child) => match e.2.late with
      | some r => (e.1, { e.2 with demand := r.1, floor := r.2.1, pkgs := r.2.2, late := none })
      | none => e) }

/-- Form the sums of this period's REPORT, with the REPORTs that came late in the last one (R686, R688). -/
def State.formReport (s : State) : State :=
  let t := s.takeLate
  let d := s.ownDemand
  let add := fun (f : Child → Nat) => (t.kin.map (fun p => f (t.child p))).sum
  { t with
    cb.ownD := d
    cb.subDemand := d + add (·.demand)
    cb.subFloor := s.ownFloor + add (·.floor)
    cb.subPkgs := b01 s.owner + add (·.pkgs)
    cb.sentPnum := some s.pnum
    rv.accRep := 0
    rv.cntRep := 0 }

/-- One who shares in a division: key (6 for this package, else the child's port), demand, floor and packages; in
milliwatts. -/
structure Sharer where
  key : Nat
  demand : Nat
  floor : Nat
  pkgs : Nat

/-- Demand first, equal per package: rounds of R690 while more than 1 W is left. -/
def shareOut (l : List Sharer) : Nat → List (Nat × Nat) → Nat → List (Nat × Nat) × Nat
  | 0, a, rest => (a, rest)
  | n + 1, a, rest =>
    let act := l.filter (fun x => decide (0 < x.pkgs) && decide (mget 0 a x.key < x.demand))
    if 1000 < rest ∧ !act.isEmpty then
      let k := (act.map (·.pkgs)).sum
      let r := act.foldl (fun (m : List (Nat × Nat) × Nat) x =>
        let h := mget 0 m.1 x.key
        let d := min (rest * x.pkgs / k) (x.demand - h)
        (mput 0 m.1 x.key (h + d), m.2 - d)) (a, rest)
      shareOut l n r.1 r.2
    else (a, rest)

/-- divide(A) of R690 in milliwatts: what each live sharer gets, after the held-down children's last allotments. -/
def State.divide (s : State) (aW : Nat) : List (Nat × Nat) :=
  let held := (s.kin.filter (fun p => (s.child p).heldDown)).map (fun p => (s.child p).allot)
  let a : Nat := (aW - held.sum) * 1000
  let own : List Sharer := if s.owner then [⟨6, s.cb.ownD * 1000, s.ownFloor * 1000, 1⟩] else []
  let live := own ++ (s.kin.filter (fun p => !(s.child p).heldDown)).map (fun p =>
    let c := s.child p
    ⟨p, c.demand * 1000, c.floor * 1000, c.pkgs⟩)
  let fs := (live.map (·.floor)).sum
  let base : List (Nat × Nat) := live.foldl (fun m x => mput 0 m x.key (if fs ≤ a then x.floor else x.floor * a / fs)) []
  let rest := a - (live.map (fun x => mget 0 base x.key)).sum
  let r := shareOut live 8 base rest
  let k := (live.map (·.pkgs)).sum
  if r.2 = 0 ∨ k = 0 then r.1
  else live.foldl (fun m x => if x.pkgs = 0 then m else mput 0 m x.key (mget 0 m x.key + r.2 * x.pkgs / k)) r.1

/-- ALLOT on a port (Table 17.1). -/
def State.sendAllot (s : State) (p watts version : Nat) (maj : Bool) : State :=
  s.vxSend [p] 0x22 0x0A 0xFFFFFFFF (leBytes 4 s.pnum ++ leBytes 4 watts ++ leBytes 4 version ++ [b01 maj, 0, 0, 0])

/-- The share changes hands (R690, R693): the Active takes its own part as its share, leaves an orphan state with 0xB024, and
the budget follows. -/
def State.takeShare (s : State) (watts : Nat) : State :=
  let s1 := { s with
    cb.share := watts
    cb.allotAt := some s.now
    cb.copy := false
    cb.orphan := false
    cb.orphanTold := false }
  let s2 := if s.cb.orphan && s.owner then s1.emit 4 0xB024 ((s.now - s.cb.orphanAt) / msec) watts else s1
  s2.budgetMoved

/-- Divide an allotment with MAJORITY 1 among this package and the reporting children (R690). -/
def State.allotOut (s : State) (watts version : Nat) : State :=
  let a := s.divide watts
  let s1 := { s with cb.subAllot := watts, cb.majority := true }
  let s2 := (s.kin.filter (fun p => !(s.child p).heldDown)).foldl (fun x p =>
    let w := mget 0 a p / 1000
    (x.setChild p { x.child p with allot := w }).sendAllot p w version true) s1
  if s.owner then s2.takeShare (mget 0 a 6 / 1000)
  else { s2 with cb.allotAt := some s.now }

/-- Pass an ALLOT with MAJORITY 0 to every child as ALLOT 0; no share changes (R690). -/
def State.allotNone (s : State) (version : Nat) : State :=
  (s.kin.filter s.full).foldl (fun x p => x.sendAllot p 0 version false)
    { s with cb.majority := false, cb.subAllot := 0 }

/-- Body of the ceiling held (Table 17.1). -/
def State.ceilBody (s : State) : List Nat :=
  leBytes 8 s.cb.injector ++ leBytes 4 (s.rf Reg.VX_CVER_VERSION) ++ leBytes 4 (s.rf Reg.VX_CEIL_CEIL)
    ++ leBytes 4 (s.rf Reg.VX_ORPH_TOTAL_ORPH_TOTAL) ++ [s.rf Reg.VX_CB_HELD_PERIOD, 0, 0, 0]

/-- Hold a ceiling, with 0xB020 (R681, R682). -/
def State.holdCeil (s : State) (inj ver ceil orph per : Nat) : State :=
  (((((({ s with cb.injector := inj }).wr Reg.VX_CVER_VERSION ver).wr Reg.VX_CEIL_CEIL ceil).wr
    Reg.VX_ORPH_TOTAL_ORPH_TOTAL orph).wr Reg.VX_CB_HELD_PERIOD per).emit 4 0xB020 ver ceil orph)

/-- Flood the ceiling held on ports. -/
def State.floodCeil (s : State) (ports : List Nat) : State := s.vxSend ports 0x20 0x1A 0xFFFFFFFF s.ceilBody

/-- A shed comes into force (R696, R697): its level is the lower of the share and SHED_PCT of the grid draw averaged over the
last 1 ms; the allocations are recomputed (R430). -/
def State.shedBegin (s : State) (origin : Nat) (flood : Bool) : State :=
  if s.cb.shed then s
  else
    let n := s.rv.gridHist.length
    let avg := if n = 0 then s.rv.pGrid else s.rv.gridHist.sum / n
    let level := min s.shareW (avg * s.rf Reg.VX_CB_CFG_SHED_PCT / 10000)
    let s1 := { s with cb.shed := true, cb.shedAt := s.now, cb.shedLevel := level }
    ((s1.wr Reg.VX_CB_FELL_SHED 1).emit 4 0xB030 (loWord origin) (b01 flood) level).noteSource.allocate

/-- The shed ends (R696, R697): S returns to the share, and the partitions hear of it (R235, R430). -/
def State.shedEnd (s : State) : State :=
  if s.cb.shed then
    let s1 := ({ s with cb.shed := false }).emit 4 0xB031 ((s.now - s.cb.shedAt) / msec) s.cb.shedLevel
    let s2 := s1.noteSource.allocate
    s2.upto 64 (fun p x => x.sendBudget p 2 (x.headroom p))
  else s

/-- Body of a SHED (Table 17.1). -/
def shedBody (origin remain copy : Nat) : List Nat := leBytes 8 origin ++ leBytes 4 remain ++ [copy, 0, 0, 0]

/-- Originate a SHED with REMAIN = SHED_HOLD (R694). -/
def State.originateShed (s : State) : State :=
  if s.fabRuns then s.vxSend s.catchPorts 0x23 0x18 0xFFFFFFFF (shedBody s.myId (s.rf Reg.VX_SHED_CFG_SHED_HOLD * 1000) 0) else s

/-- FAB's time: it stands while a Halt Sweep stops FAB (R811). -/
def State.fabNow (s : State) : Nat := if s.ob.halted then s.ob.haltAt else s.now

/-- An accepted level of SHED_IN (R96, R694, R696): high puts shed in force and originates; low ends it unless the flood
keeps it. -/
def State.shedInput (s : State) (high : Bool) : State :=
  let s1 := { s with edge.shedIn := high }
  if high then (if s.edge.shedIn then s1 else (s1.shedBegin s.myId false).originateShed)
  else if s.fabNow < s.cb.shedUntil then s1 else s1.shedEnd

end Sys2Proof.Machine
end

