-- ==== Sys2Proof/Machine/Catchment.lean ====
section
/-! DEFINITION. The commands of the Catchment: ceiling, aggregation tree, orphan share, shed and stagger (The Building as One
Governor). -/

namespace Sys2Proof.Machine
open Sys2Proof

/-- The rule of R681 that an injection breaks: 1 values, 2 PERIOD, 3 no address; 0 for none. -/
def State.injectRule (s : State) (ceil orph period : Nat) : Nat :=
  if !(decide (0 < orph) && decide (orph < ceil)) then 1
  else if period ≠ 1 ∧ period ≠ 2 then 2
  else if s.myAddr = 0 then 3 else 0

/-- CEIL_INJECT: VX_CB_CTL injects the ceiling of VX_CEIL_SET and VX_ORPH_SET, or refuses it with REJECT and 0xB021
(R681). -/
def execCeilInject (v : Word) (s : State) : Res :=
  .next (s.keyedWrite Reg.VX_CB_CTL v.toNat (fun x =>
    let c := x.rf Reg.VX_CEIL_SET_CEIL
    let o := x.rf Reg.VX_ORPH_SET_ORPH_TOTAL
    let per := bitsOf v.toNat 9 8
    let rule := x.injectRule c o per
    if !bitOf v.toNat 0 then x
    else if rule ≠ 0 then (x.wr Reg.VX_CB_FELL_REJECT 1).emit 4 0xB021 c o rule
    else
      let y := x.holdCeil x.myId (x.rf Reg.VX_CVER_VERSION + 1) c o per
      y.floodCeil y.catchPorts))

/-- CEILING_RECEIVED: a higher VERSION, or an equal one of a lower INJECTOR, replaces the ceiling held and is forwarded
(R678, R682). -/
def execCeilingReceived (p : Fin 6) (l : List Byte) (s : State) : Res :=
  .next (s.vxTake p 0x20 l (fun f s =>
    let inj := fbody f 0 8
    let ver := fbody f 8 4
    let held := s.rf Reg.VX_CVER_VERSION
    if !s.catchPorts.contains p.val then s
    else if held < ver ∨ (held = ver ∧ inj < s.cb.injector) then
      let s1 := s.holdCeil inj ver (fbody f 12 4) (fbody f 16 4) (fbody f 20 1)
      s1.vxForward (s1.catchPorts.filter (fun q => q != p.val)) f (f.body.map (fun b => b.toNat))
    else s))

/-- REPORT_SLOT: a node with CHOPS from 1 to 63 reports its sums to its parent (R685, R686). -/
def execReportSlot (s : State) : Res :=
  .next (match s.fb.parent with
    | none => s
    | some p =>
      if s.fabRuns && decide (1 ≤ s.fb.chops ∧ s.fb.chops ≤ 63) && s.catchPorts.contains p then
        let s1 := s.formReport
        s1.vxSend [p] 0x21 0x0A 0xFFFFFFFF (leBytes 4 s1.pnum ++ leBytes 4 s1.cb.subDemand ++ leBytes 4 s1.cb.subFloor
          ++ leBytes 3 s1.cb.subPkgs ++ [b01 s1.cb.shed + 2 * b01 s1.cb.orphan, 0, 0, 0, 0])
      else s)

/-- REPORT_RECEIVED: a child's REPORT serves this node's own of the period, or the next when it comes late; it ends a hold
(R685, R688, R691). -/
def execReportReceived (p : Fin 6) (l : List Byte) (s : State) : Res :=
  .next (s.vxTake p 0x21 l (fun f s =>
    let c := s.child p
    let r := (fbody f 4 4, fbody f 8 4, fbody f 12 3)
    if !s.catchPorts.contains p.val then s
    else if s.cb.sentPnum = some s.pnum ∧ c.reports then
      s.setChild p { c with heldDown := false, late := some r }
    else s.setChild p { c with
      reports := true, heldDown := false, demand := r.1, floor := r.2.1, pkgs := r.2.2, late := none }))

/-- ROOT_COMPUTE: the root judges its majority and divides the ceiling (R689, R690). -/
def execRootCompute (s : State) : Res :=
  .next (if s.fabRuns && s.fb.chops == 0 then
    let s1 := s.formReport
    let fl := s1.cb.subFloor
    let orph := s1.rf Reg.VX_ORPH_TOTAL_ORPH_TOTAL
    let ver := s1.rf Reg.VX_CVER_VERSION
    let maj := decide (ver ≠ 0) && decide (orph < 2 * fl)
    let s2 := { s1 with cb.rootMaj := maj, cb.excess := decide (ver ≠ 0 ∧ orph < fl) }
    let s3 := if maj = s.cb.rootMaj then s2 else s2.emit 4 0xB022 (b01 maj) fl orph
    let s4 := if s2.cb.excess && !s.cb.excess then (s3.wr Reg.VX_CB_FELL_FLOOR_EXCESS 1).emit 4 0xB027 fl orph else s3
    if maj then s4.allotOut (s4.rf Reg.VX_CEIL_CEIL - (orph - fl)) ver else s4.allotNone ver
  else s)

/-- ALLOT_RECEIVED: an ALLOT of the parent with MAJORITY 1 is divided and sets the share; with MAJORITY 0 it is passed on
(R674, R690, R693). -/
def execAllotReceived (p : Fin 6) (l : List Byte) (s : State) : Res :=
  .next (s.vxTake p 0x22 l (fun f s =>
    if s.fb.parent ≠ some p.val ∨ !s.catchPorts.contains p.val then s
    else if bitOf (fbody f 12 1) 0 then s.allotOut (fbody f 4 4) (fbody f 8 4)
    else s.allotNone (fbody f 8 4)))

/-- CHILD_MISSING: a child that reports elsewhere, or whose REPORT is missing from three periods, is held down (R691). -/
def execChildMissing (p : Fin 6) (elsewhere : Bool) (s : State) : Res :=
  .next (if s.fabRuns then s.holdDown p (if elsewhere then 1 else 2) else s)

/-- CHILD_DROP: a held-down child is dropped after 7 ms, with 0xB026 (R691). -/
def execChildDrop (p : Fin 6) (s : State) : Res :=
  let c := s.child p
  .next (if s.fabRuns && c.heldDown then (s.setChild p {}).emit 4 0xB026 p c.floor c.pkgs else s)

/-- ORPHAN_TIMEOUT: with no ALLOT of MAJORITY 1 for 5 ms the Active is orphaned, with 0xB023 once (R693); the time
since the last ALLOT is free where there was none (log entry 3). -/
def execOrphanTimeout (s : State) : Res :=
  .next (if !s.inReset 4 && s.owner && !(s.cb.orphan && s.cb.orphanTold) then
    let ms := match s.cb.allotAt with
      | some t => ((s.now - t) / msec, s)
      | none => s.draw 163
    let s1 := { ms.2 with cb.orphan := true, cb.orphanTold := true, cb.orphanAt := s.now }
    ((s1.wr Reg.VX_CB_FELL_ORPHAN 1).emit 4 0xB023 ms.1 (s.rf Reg.VX_CB_CFG_ORPHAN)).budgetMoved
  else s)

/-- SHED_REFRESH: while SHED_IN stays high another SHED is originated (R694). -/
def execShedRefresh (s : State) : Res := .next (if s.edge.shedIn then s.originateShed else s)

/-- SHED_RECEIVED: a SHED starts a shed, or pushes its expiry by 1 ms or more, and is forwarded with COPY 0 and 50 us later
with COPY 1; else it only raises shed_until (R695, R696). REMAIN goes on as 0 where u has passed (log entry 145). -/
def execShedReceived (p : Fin 6) (l : List Byte) (s : State) : Res :=
  .next (s.vxTake p 0x23 l (fun f s =>
    let u := s.now + fbody f 8 4 * usec - 10 * usec
    let org := fbody f 0 8
    if !s.catchPorts.contains p.val then s
    else if (!s.cb.shed && decide (s.now < u)) || decide (s.cb.shedUntil + msec ≤ u) then
      let s1 := { s with cb.shedUntil := u }
      let ports := s1.catchPorts.filter (fun q => q != p.val)
      let remain := (u - s.now) / usec
      let s2 := if s.now < u then s1.shedBegin org true else s1
      let s3 := s2.vxForward ports f (shedBody org remain 0)
      if f.ttl.toNat ≤ 1 then s3 else { s3 with cb.copies := s3.cb.copies ++ [(ports, fwdOut f (shedBody org remain 1))] }
    else { s with cb.shedUntil := max s.cb.shedUntil u }))

/-- SHED_COPY1: the second, identical SHED with COPY 1 (R695). -/
def execShedCopy1 (s : State) : Res :=
  .next (match s.cb.copies with
    | [] => s
    | e :: t =>
      let s1 := { s with cb.copies := t }
      if s1.fabRuns then (e.1.filter s1.full).foldl (fun x p => x.egressPut p e.2) s1 else s1)

/-- SHED_EXPIRY: shed_until passes; the shed ends unless SHED_IN is high here (R696, R697). -/
def execShedExpiry (s : State) : Res := .next (if s.edge.shedIn then s else s.shedEnd)

/-- TWIN_SHARE_COPY: the Active sends its share, shed level, stagger slot and orphan state; the Standby, which the operands reach,
holds them as its copy (R675, R693). DEDUCED, log entry 38. -/
def execTwinShareCopy (watts level : Word) (slot : Byte) (orphan : Bool) (s : State) : Res :=
  .next (if !s.tw.linkUp then s
    else if s.owner then
      (if s.fabRuns then s.out (.twin 3 [s.shareW, if s.cb.shed then s.cb.shedLevel else 0, s.cb.slot, b01 s.cb.orphan]) else s)
    else { s with
      tw.shareCopy := some (watts.toNat, s.now), cb.orphan := orphan, cb.slot := slot.toNat
      cb.shedLevel := if s.cb.shed then s.cb.shedLevel else level.toNat })

/-- STAGGER_WRITE: VX_STAGGER.SLOT passes to FRI, with 0xB032; a release in progress keeps its slot (R699). -/
def execStaggerWrite (v : Word) (s : State) : Res :=
  .next (s.hostWrite Reg.VX_STAGGER v.toNat (fun x =>
    let new := x.rf Reg.VX_STAGGER_SLOT
    ({ x with cb.slot := new }).emit 4 0xB032 s.cb.slot new))

end Sys2Proof.Machine
end

