-- ==== Sys2Proof/Machine/IkivaOps.lean ====
section
/-! DEFINITION. The policy cores: registers, memories, the running of one instruction, exceptions, stops and starts, dispatch
(Ikiva Policy Cores). -/

namespace Sys2Proof.Machine
open Sys2Proof

/-- Core `c`. -/
def State.core (s : State) (c : Nat) : IkCore := mget {} s.ik.cores c

/-- Change core `c`. -/
def State.setCore (s : State) (c : Nat) (k : IkCore) : State := { s with ik.cores := mput {} s.ik.cores c k }

/-- The bank of the level that runs (R499). -/
def IkCore.bank (k : IkCore) : Bank := if k.level = 2 then k.bankU else k.bankN

/-- Replace the bank of the level that runs. -/
def IkCore.setBank (k : IkCore) (b : Bank) : IkCore := if k.level = 2 then { k with bankU := b } else { k with bankN := b }

/-- g register `r`; g0 reads zero (R537). -/
def IkCore.g (k : IkCore) (r : Nat) : DWord := if r = 0 then 0 else mget 0 k.bank.g r

/-- Write g register `r`; a write to g0 is discarded (R537). -/
def IkCore.setG (k : IkCore) (r : Nat) (v : DWord) : IkCore :=
  if r = 0 then k else k.setBank { k.bank with g := mput 0 k.bank.g r v }

/-- Accumulator `i`. -/
def IkCore.acc (k : IkCore) (i : Nat) : BitVec 96 := mget 0 k.bank.a i

/-- Write accumulator `i`. -/
def IkCore.setAcc (k : IkCore) (i : Nat) (v : BitVec 96) : IkCore := k.setBank { k.bank with a := mput 0 k.bank.a i v }

/-- Message register `i`. -/
def IkCore.m (k : IkCore) (i : Nat) : DWord := mget 0 k.bank.m i

/-- Flags of the bank in use. -/
def IkCore.flags (k : IkCore) : BitVec 5 := k.bank.flags

/-- Write the flags of the bank in use. -/
def IkCore.setFlags (k : IkCore) (f : BitVec 5) : IkCore := k.setBank { k.bank with flags := f }

/-- Set flags.SAT when a clamp clamped (R538). -/
def IkCore.sat (k : IkCore) (clamped : Bool) : IkCore := if clamped then k.setFlags (k.flags ||| 16) else k

/-- hcause of the context that runs (Table 12.5). -/
def IkCore.hcause (k : IkCore) : Nat := match k.level with
  | 0 => k.causeT
  | 1 => k.causeN
  | _ => k.causeU

/-- hcause word: handler, kind and source (Table 12.5). -/
def causeWord (handler kind source : Nat) : Nat := source % 4096 + 0x4000 * kind + 0x10000 * handler

/-- The core can issue an instruction: started, not held, not at a wait, its island up and no Halt Sweep in force. -/
def State.canIssue (s : State) (c : Nat) : Bool :=
  (s.core c).running && !(s.core c).waiting && !s.ob.halted && !s.inReset 3

/-- A core is at a wait point: its thread executes WAITQ (R506). -/
def IkCore.atWait (k : IkCore) : Bool := k.running && k.waiting && k.level == 0

/-- Autonomous floor: the duties of a stopped core; the first entry after each start is recorded and delivered (R34, R37,
Table 12.8). -/
def State.enterFloor (s : State) (c cause : Nat) : State :=
  let k := s.core c
  let s1 := (s.setCore c { k with floor := true, floorTold := true }).wr (Reg.IK_CORE_STAT_LAST_CAUSE c) cause
  let s2 := if cause = 6 then s1 else s1.setBit Reg.GL_AUTONOMY_CORE_FELL c
  if k.floorTold then s2 else s2.emitHw (some 0) 3 0x0010 c cause 0

/-- Close every channel the core has opened (R516, R472). -/
def State.closeAll (s : State) (owner : Nat) : State :=
  s.each ((s.me.chans.filter (fun e => e.2.isOpen && e.2.owner == owner)).map (·.1)) (fun c x => (x.chanClose owner c).2)

/-- What a core reset clears: both banks, qsel, the latch, the channels and the dispatch in progress (R516). -/
def State.resetCore (s : State) (c : Nat) : State :=
  let k := s.core c
  let s1 := s.setCore c { k with
    bankN := {}, bankU := {}, qsel := 0, level := 0, waiting := false, running := false
    cntN := 0, cntU := 0, launchId := none, launch := [] }
  ({ s1 with me.latch := mput (0, []) s1.me.latch c (0, []) }).closeAll c

/-- Handler index of the context: 0x100 for the thread (Table 12.16). -/
def IkCore.handlerIdx (k : IkCore) : Nat := if k.level = 0 then 0x100 else k.hcause / 0x10000

/-- A fault of core `c`: `code` 0 for an overrun, else an exception of Table 12.7. The core is stopped and reset; it restarts
after 1 ms, or is held after the third fault in 1 s or after PARITY (R516, R517, Table 12.15). -/
def State.coreFault (s : State) (c code : Nat) : State :=
  let k := s.core c
  let cause := if code = 0 then 1 else 2
  let thread := k.level == 0
  let recent := (k.faultAt.filter (fun t => decide (s.now < t + second))) ++ [s.now]
  let hold := decide (3 ≤ recent.length) || code == 8
  let s1 := ((((s.wr (Reg.IK_CORE_FAULT_HANDLER c) (if thread then 0 else k.handlerIdx)).wr (Reg.IK_CORE_FAULT_THREAD c)
    (b01 thread)).wr (Reg.IK_CORE_FAULT_CODE c) code).wr (Reg.IK_CORE_FAULT_PC c) k.pc)
  let s2 := if code = 0 then (s1.setBit Reg.IK_FELL_OVERRUN c).emit 3 0x9001 c k.handlerIdx (if k.level = 2 then 2 else 1)
    else (s1.setBit Reg.IK_FELL_EXCEPT c).emit 3 0x9002 c code k.pc
  let s3 := s2.resetCore c
  let s4 := s3.setCore c { s3.core c with faultAt := recent, held := hold, restartDue := !hold }
  let s5 := s4.enterFloor c cause
  if hold then s5.emit 3 0x9004 c cause recent.length else s5

/-- Start core `c` at ENTRY with a thread-start reason (Table 12.5): 0 image load, 1 restart, 2 takeover, 3 host restart. -/
def State.startCore (s : State) (c reason : Nat) : State :=
  let k := s.core c
  if k.loaded then
    (s.setCore c { k with
      running := true, held := false, restartDue := false, waiting := false, level := 0, pc := k.entry
      causeT := causeWord 0 0 reason, cntN := 0, cntU := 0, floorTold := false, launchId := none, launch := [] }).emit 3 0x9006 c
      (if k.held then 1 else 0) reason
  else s

/-- Stop core `c` for a cause of Table 12.8, keeping its registers. -/
def State.stopCore (s : State) (c cause : Nat) : State :=
  if (s.core c).running then (s.setCore c { s.core c with running := false }).enterFloor c cause else s

/-- Cycles of an instruction: they count for the shared clock and for the level's budget (R498, R512). DESIGN CHOICE, log entry 12. -/
def State.spend (s : State) (c n : Nat) : State :=
  let k := s.core c
  let k1 := if k.level = 2 then { k with cntU := k.cntU + n } else { k with cntN := k.cntN + n }
  ({ s with ik.cyc := s.ik.cyc + n }).setCore c k1

/-- The end of a count: the largest seen is kept (Table 12.21). -/
def State.noteMax (s : State) (c : Nat) : State :=
  let k := s.core c
  if k.level = 2 then s.wr (Reg.IK_CORE_MAXCYC_MAX_U c) (max (satU 16 k.cntU) (s.rf (Reg.IK_CORE_MAXCYC_MAX_U c)))
  else s.wr (Reg.IK_CORE_MAXCYC_MAX_N c) (max (satU 16 k.cntN) (s.rf (Reg.IK_CORE_MAXCYC_MAX_N c)))

/-- Run one instruction of core `c` that takes `cyc` cycles and `len` bytes: nothing happens while the core cannot issue; a
fetch outside the text is IADDR; an exception of its operands stops the core and writes nothing else; a fall through past the
last word is IADDR; otherwise it acts and pc moves on (R533, R536, R545). DESIGN CHOICE, log entry 87. -/
def State.issue (s : State) (c cyc len : Nat) (exc : Option Nat) (act : State → State) : State :=
  let k := s.core c
  if !s.canIssue c then s
  else if k.textLen ≤ k.pc then s.coreFault c 2
  else match exc with
    | some e => s.coreFault c e
    | none =>
      if k.textLen ≤ k.pc + len then s.coreFault c 2
      else
        let s1 := s.spend c cyc
        act (s1.setCore c { s1.core c with pc := k.pc + len })

/-- An instruction that only changes its core's registers. -/
def State.issueReg (s : State) (c cyc : Nat) (exc : Option Nat) (f : IkCore → IkCore) : State :=
  s.issue c cyc 4 exc (fun x => x.setCore c (f (x.core c)))

/-- A control transfer: the target must be a multiple of 4 inside the text, else IADDR at the instruction; an untaken branch
falls through (R545). -/
def State.jump (s : State) (c : Nat) (taken : Bool) (target : Int) (f : IkCore → IkCore) : State :=
  let k := s.core c
  if !s.canIssue c then s
  else if k.textLen ≤ k.pc then s.coreFault c 2
  else
    let tgt : Int := if taken then target else (k.pc : Int) + 4
    if tgt < 0 ∨ tgt % 4 ≠ 0 ∨ (k.textLen : Int) ≤ tgt then s.coreFault c 2
    else
      let s1 := s.spend c 1
      s1.setCore c { f (s1.core c) with pc := tgt.toNat }

/-- The `n` bytes from an address, little-endian (R3). DESIGN CHOICE, log entry 8. -/
def readBytes (m : List Host.Cell) (a n : Nat) : Nat :=
  ofLe ((List.range n).map (fun i => (mget (0 : Byte) m (a + i)).toNat))

/-- Write the low `n` bytes of a value from an address, little-endian (R3). -/
def writeBytes (m : List Host.Cell) (a n v : Nat) : List Host.Cell :=
  (List.range n).foldl (fun m i => mput (0 : Byte) m (a + i) (BitVec.ofNat 8 (v / 256 ^ i))) m

/-- Regions of the core's address map (Table 12.3): 0 instruction SRAM, 1 data SRAM, 2 launch constants, 3 table SRAM,
4 none. -/
def region (a : Nat) : Nat :=
  if a < 0x10000 then 0
  else if 0x100000 ≤ a ∧ a < 0x120000 then 1
  else if 0x120000 ≤ a ∧ a < 0x120100 then 2
  else if 0x1000000 ≤ a ∧ a < 0x1100000 then 3
  else 4

/-- The address of a load or store: rb + sext(OFF15) on 64 bits (R542). -/
def effAddr (k : IkCore) (rb : Nat) (off : BitVec 15) : Nat := (k.g rb + off.signExtend 64).toNat

/-- The exception a load raises (R542). -/
def loadExc (a n : Nat) : Option Nat :=
  if a % n = 0 ∧ (region a = 1 ∨ region a = 2 ∨ region a = 3) then none else some 3

/-- The exception a store raises: DADDR first, then WRITE_RO for the launch constants and the instruction SRAM (R542). -/
def storeExc (a n : Nat) : Option Nat :=
  if a % n ≠ 0 ∨ region a = 4 then some 3
  else if region a = 0 ∨ region a = 2 then some 4 else none

/-- Cycles of a data access: 2, or the wheel's latency for table SRAM (R502, R542). -/
def accessCycles (c t a : Nat) : Nat := if region a = 3 then 2 + (c + 8 - t % 8) % 8 else 2

/-- The value of `n` bytes at a core address. -/
def State.coreRead (s : State) (c a n : Nat) : Nat :=
  if region a = 1 then readBytes (s.core c).data a n
  else if region a = 2 then readBytes (s.core c).launch a n
  else readBytes s.ik.table (a - 0x1000000) n

/-- Store `n` bytes at a core address (data SRAM or table SRAM). -/
def State.coreWrite (s : State) (c a n v : Nat) : State :=
  if region a = 1 then s.setCore c { s.core c with data := writeBytes (s.core c).data a n v }
  else { s with ik.table := writeBytes s.ik.table (a - 0x1000000) n v }

/-- A load of `n` bytes into rt, with or without sign extension (Table 13.6). -/
def State.load (s : State) (c rt rb : Nat) (off : BitVec 15) (n : Nat) (sgn : Bool) : State :=
  let a := effAddr (s.core c) rb off
  s.issue c (accessCycles c s.ik.cyc a) 4 (loadExc a n) (fun x =>
    let v := x.coreRead c a n
    x.setCore c ((x.core c).setG rt (if sgn then BitVec.ofInt 64 (signedOf (8 * n) v) else BitVec.ofNat 64 v)))

/-- A store of the low `n` bytes of rt (Table 13.6). -/
def State.store (s : State) (c rt rb : Nat) (off : BitVec 15) (n : Nat) : State :=
  let a := effAddr (s.core c) rb off
  s.issue c (accessCycles c s.ik.cyc a) 4 (storeExc a n) (fun x => x.coreWrite c a n ((x.core c).g rt).toNat)

/-- The flags CMP sets from r = x - y (R538); SAT is kept. -/
def cmpFlags (x y : DWord) (old : BitVec 5) : BitVec 5 :=
  let r := x - y
  let v := x.toInt - y.toInt != r.toInt
  BitVec.ofNat 5 (b01 (r == 0) + 2 * b01 (bitOf r.toNat 63) + 4 * b01 (decide (y.toNat ≤ x.toNat)) + 8 * b01 v
    + 16 * b01 (bitOf old.toNat 4))

/-- sat96: the clamped value and whether it clamped. -/
def sat96 (x : Int) : BitVec 96 × Bool :=
  let y := clampI (-(2 ^ 95)) (2 ^ 95 - 1) x
  (BitVec.ofInt 96 y, y != x)

/-- sat64: the clamped value and whether it clamped. -/
def sat64 (x : Int) : DWord × Bool :=
  let y := clampI (-(2 ^ 63)) (2 ^ 63 - 1) x
  (BitVec.ofInt 64 y, y != x)

/-- The shifted Q32.32 product, rounded toward minus infinity as an arithmetic shift does (Table 13.7). -/
def mulq (x y : DWord) : Int := (x.toInt * y.toInt) / 4294967296

/-- Write a saturated accumulator value and the sticky SAT flag. -/
def IkCore.setSatAcc (k : IkCore) (i : Nat) (r : BitVec 96 × Bool) : IkCore := (k.setAcc i r.1).sat r.2

/-- Signed quotient truncated toward zero, with the defined results of R540. -/
def divS (x y : DWord) : DWord :=
  if y = 0 then BitVec.allOnes 64 else BitVec.ofInt 64 (Int.tdiv x.toInt y.toInt)

/-- Signed remainder with the sign of the dividend (R540). -/
def remS (x y : DWord) : DWord := if y = 0 then x else BitVec.ofInt 64 (Int.tmod x.toInt y.toInt)

/-- Unsigned quotient (R540). -/
def divU (x y : DWord) : DWord := if y = 0 then BitVec.allOnes 64 else BitVec.ofNat 64 (x.toNat / y.toNat)

/-- Unsigned remainder (R540). -/
def remU (x y : DWord) : DWord := if y = 0 then x else BitVec.ofNat 64 (x.toNat % y.toNat)

/-- Leading zeros of the low `n` bits. -/
def clzFrom : Nat → Nat → Nat
  | 0, _ => 0
  | n + 1, v => if bitOf v n then 0 else 1 + clzFrom n v

/-- Ones among the low `n` bits. -/
def popFrom : Nat → Nat → Nat
  | 0, _ => 0
  | n + 1, v => b01 (bitOf v n) + popFrom n v

/-- Special register `n` as core `c` reads it (Table 12.2); unlisted numbers read zero (R500). -/
def State.special (s : State) (c n : Nat) : Nat :=
  let k := s.core c
  match n with
  | 0 => k.pc
  | 1 => s.ik.cyc
  | 2 => k.qsel
  | 3 => k.hcause
  | 4 => c
  | 5 => if k.level = 2 then s.rf Reg.IK_BUDGET_BUDGET_U - k.cntU
    else if k.waiting && k.level == 0 then 0 else s.rf Reg.IK_BUDGET_BUDGET_N - k.cntN
  | 6 => k.flags.toNat
  | 7 => k.upc
  | 8 => k.npc
  | 9 => k.level
  | _ => 0

/-- The core holds duty `d` of Table 12.6 (R514); codes 8 to 14 of IK_DUTY act as 15, none. -/
def State.holdsDuty (s : State) (c d : Nat) : Bool :=
  let f : Fld := if d < 8 then ⟨Reg.IK_DUTY0, 4 * d + 3, 4 * d, 15⟩ else ⟨Reg.IK_DUTY1, 4 * (d - 8) + 3, 4 * (d - 8), 15⟩
  decide (d < 14) && s.rf f == c

/-- Queues that can dispatch core `c` at a level: DISPATCH queues whose READER it is and that hold a message, by priority,
then number (R489). -/
def State.dispatchable (s : State) (c : Nat) (urgent : Bool) : List Nat :=
  (s.me.queues.map (·.1)).filter (fun q => s.rb (Reg.ME_QCFG_DISPATCH q) && s.rb (Reg.ME_QCFG_URGENT q) == urgent
    && s.qReader q == c && decide (0 < s.qLen q))

/-- The queue of highest PRIO, the lowest number among those. -/
def State.bestPrio (s : State) (l : List Nat) : Option Nat :=
  l.foldl (fun b q => match b with
    | none => some q
    | some p => if s.rf (Reg.ME_QCFG_PRIO p) < s.rf (Reg.ME_QCFG_PRIO q) then some q else some p) none

/-- Queue at position `p` of a selection set, when in use (Table 11.12). -/
def State.selAt (s : State) (c set p : Nat) : Option Nat :=
  let n := 4 * c + set
  if p % 2 = 0 then (if s.rb (Reg.ME_SEL_Q_V0 n (p / 2)) then some (s.rf (Reg.ME_SEL_Q_Q0 n (p / 2))) else none)
  else (if s.rb (Reg.ME_SEL_Q_V1 n (p / 2)) then some (s.rf (Reg.ME_SEL_Q_Q1 n (p / 2))) else none)

/-- The positions of a set whose queue WAITQ may choose: READER is the core, DISPATCH is 0, a message is held (R487). -/
def State.selReady (s : State) (c set : Nat) : List (Nat × Nat) :=
  (List.range 16).filterMap (fun p => match s.selAt c set p with
    | some q => if s.qReader q == c && !s.rb (Reg.ME_QCFG_DISPATCH q) && decide (0 < s.qLen q) then some (p, q) else none
    | none => none)

/-- WAITQ's choice: position and queue (R488). DESIGN CHOICE, log entry 10. -/
def State.selChoose (s : State) (c set : Nat) : Option (Nat × Nat) :=
  let l := s.selReady c set
  if s.rb (Reg.ME_SEL_CTL_ROTATE (4 * c + set)) then
    let last := mget 15 s.me.rotPos (4 * c + set)
    match l.filter (fun e => decide (last < e.1)) with
    | e :: _ => some e
    | [] => l.head?
  else l.foldl (fun b e => match b with
    | none => some e
    | some p => if s.rf (Reg.ME_QCFG_PRIO p.2) < s.rf (Reg.ME_QCFG_PRIO e.2) then some e else some p) none

/-- A handler entry allows a level: VALID, and flagged for Normal (bit 1) or Urgent (bit 2) (Table 12.13, R524). -/
def IkCore.handlerOk (k : IkCore) (h : Nat) (urgent : Bool) : Bool :=
  match k.handlers[h]? with
  | none => false
  | some e => bitOf e.2.1 0 && bitOf e.2.1 (if urgent then 2 else 1)

/-- m0 to m3 of a message (R460). -/
def msgRegs (m : QMsg) : List (Nat × DWord) :=
  let w := qWords m
  let b : List (Nat × DWord) := []
  mput 0 (mput 0 (mput 0 (mput 0 b 0 (BitVec.ofNat 64 (w.getD 0 0 + 2 ^ 32 * w.getD 1 0))) 1 m.p0) 2 m.p1) 3 m.p2

/-- Dispatch of handler `h` from queue `q` at Normal level, at a wait point (R507): npc and the flags are saved, m0 to m3 are
loaded, hcause is written, the Normal count starts with the 4 cycles of the dispatch. -/
def State.dispatchNormal (s : State) (c q h : Nat) (m : QMsg) : State :=
  let k := s.core c
  let adr := ((k.handlers[h]?).getD (0, 0, 0)).1
  (({ s with ik.cyc := s.ik.cyc + 4 }).setCore c { k with
    npc := k.pc, flagsBack := k.bankN.flags, bankN := { k.bankN with m := msgRegs m }, level := 1, waiting := false
    pc := adr, causeN := causeWord h 1 q, cntN := 4 }).satAdd (Reg.IK_CORE_DISPATCH_COUNT c) 1

/-- Dispatch of handler `h` at Urgent level at an instruction boundary (R510): upc is saved, the Urgent bank is in use. -/
def State.dispatchUrgent (s : State) (c q h : Nat) (m : QMsg) : State :=
  let k := s.core c
  let adr := ((k.handlers[h]?).getD (0, 0, 0)).1
  (({ s with ik.cyc := s.ik.cyc + 4 }).setCore c { k with
    upc := k.pc, levelBack := k.level, bankU := { k.bankU with m := msgRegs m }, level := 2
    waiting := false, pc := adr, causeU := causeWord h 2 q, cntU := 4 }).satAdd (Reg.IK_CORE_DISPATCH_COUNT c) 1

end Sys2Proof.Machine
end

