-- ==== Sys2Proof/Machine/VecOps.lean ====
section
/-! DEFINITION. Interrupt vectors to the host (R558, R559), and whether POL acts. -/

namespace Sys2Proof.Machine
open Sys2Proof

/-- Raise a vector: an interrupt on a masked vector sets PENDING and is not sent (R559). -/
def State.raiseVec (s : State) (v : Nat) : State :=
  if s.inReset 5 then s
  else if s.rb (Reg.CF_VEC_MASK v) then s.wr (Reg.CF_VEC_PENDING v) 1 else s.out (.irq v)

/-- POL is out of reset and not stopped by a Halt Sweep (Table 21.2). -/
def State.polRuns (s : State) : Bool := !s.inReset 3 && !s.ob.halted

end Sys2Proof.Machine
end

