-- ==== Sys2Proof/Machine/FlumeOps.lean ====
section
/-! DEFINITION. Translation, faults and their records, channels and their granules (Flume DMA and Translation). Users of
translation are numbered: channels 0 to 15, ring r as 16 + r, the fault log 1040. -/

namespace Sys2Proof.Machine
open Sys2Proof

/-- A channel. -/
def State.fch (s : State) (n : Nat) : FlCh := mget {} s.fl.chans n

/-- The state with another channel. -/
def State.setFch (s : State) (n : Nat) (c : FlCh) : State := { s with fl.chans := mput {} s.fl.chans n c }

/-- Address bits of the page that a leaf at a level maps (R604). -/
def pageBits (level : Nat) : Nat := 12 + 9 * level

/-- Level of a page size. -/
def levelOf (bits : Nat) : Nat := (bits - 12) / 9

/-- The TLB entry that an access hits (R606). -/
def State.tlbHit (s : State) (ctx a : Nat) : Option Tlb :=
  s.fl.tlb.find? (fun e => e.ctx == ctx && a / 2 ^ e.bits == e.iova)

/-- The entry becomes the most recently used. -/
def State.tlbUse (s : State) (e : Tlb) : State := { s with fl.tlb := e :: s.fl.tlb.filter (fun x => x != e) }

/-- A leaf fills the TLB in place of the least recently used entry (R606). -/
def State.tlbFill (s : State) (e : Tlb) : State := { s with fl.tlb := (e :: s.fl.tlb).take 1024 }

/-- ROOT of a context (Table 15.10). -/
def State.ctxRoot (s : State) (c : Nat) : Nat := s.rf (Reg.FL_CTX0_ROOT c) * 2 ^ 12 + s.rf (Reg.FL_CTX1_ROOT c) * 2 ^ 32

/-- What an attempt to translate answers. -/
inductive Trans where
  /-- The output address. -/
  | hit (out : Nat)
  /-- A walk is needed. -/
  | miss
  /-- A fault kind, its level when one is known, and whether it was on a walk read. -/
  | bad (kind : Nat) (level : Option Nat)
deriving DecidableEq, Repr

/-- Translate one address for an access of a context (R602, R605, R606; Table 15.3). -/
def State.translate (s : State) (ctx a : Nat) (write : Bool) : Trans × State :=
  if 2 ^ 48 ≤ a then (.bad 4 none, s)
  else if !s.rb (Reg.FL_CTX0_ENABLE ctx) then (.bad 5 none, s)
  else match s.tlbHit ctx a with
    | none => (.miss, s)
    | some e =>
      if (if write then e.w else e.r) then (.hit (e.out * 2 ^ e.bits + a % 2 ^ e.bits), s.tlbUse e)
      else (.bad 2 (some (levelOf e.bits)), s)

/-- Address of the entry that a walk reads next (R603). -/
def Walk.entryAt (w : Walk) : Nat := w.table + 8 * (w.iova / 2 ^ pageBits w.level % 512)

/-- Start a walk for a user; its first read goes out (R603). -/
def State.walkStart (s : State) (user ctx a : Nat) (write : Bool) : Walk × State :=
  let w : Walk := { ctx := ctx, iova := a, write := write, level := 3, table := s.ctxRoot ctx }
  (w, s.out (.hostRead user w.entryAt 8))

/-- What an entry read does to a walk: the leaf's TLB entry, the next step, or a fault kind (R604, R605). -/
inductive WalkEnd1 where
  | leaf (e : Tlb)
  | next (w : Walk)
  | bad (kind : Nat)
deriving DecidableEq, Repr

/-- Judge an entry read at a walk's level (R605). -/
def Walk.judge (w : Walk) (e : Nat) : WalkEnd1 :=
  let bits := pageBits w.level
  let leaf := bitOf e 3
  let adr := bitsOf e 51 12 * 2 ^ 12
  if !bitOf e 0 then .bad 1
  else if bitsOf e 11 4 ≠ 0 ∨ bitsOf e 63 52 ≠ 0 ∨ (leaf = true ∧ w.level = 3) ∨ (leaf = false ∧ w.level = 0)
      ∨ (leaf = false ∧ (bitOf e 1 = true ∨ bitOf e 2 = true)) ∨ (leaf = true ∧ adr % 2 ^ bits ≠ 0) then .bad 3
  else if leaf then
    if (if w.write then bitOf e 2 else bitOf e 1) then
      .leaf { ctx := w.ctx, bits := bits, iova := w.iova / 2 ^ bits, out := adr / 2 ^ bits, r := bitOf e 1, w := bitOf e 2 }
    else .bad 2
  else .next { w with level := w.level - 1, table := adr }

/-- The 32 bytes of a fault record (Table 15.4). -/
def faultBytes (ch kind info ctx ring iova done len cmd seq : Nat) : List Nat :=
  [1, ch, kind, info] ++ leBytes 2 ctx ++ leBytes 2 ring ++ leBytes 8 iova ++ leBytes 4 done ++ leBytes 4 len
    ++ leBytes 2 cmd ++ leBytes 2 seq ++ [0, 0, 0, 0]

/-- The eight words of a record. -/
def recWord (l : List Nat) (j : Nat) : Nat := ofLe ((l.drop (4 * j)).take 4)

/-- Keep a record in FL_FE_FAULT. -/
def State.feFaultRegs (s : State) (l : List Nat) : State :=
  s.upto 8 (fun j x => x.wr (Reg.FL_FE_FAULT_WORD0_to_WORD7 j) (recWord l j))

/-- INFO of a fault; the walk level of a fault without a walk is not stated, and is free (Table 15.4). -/
def State.faultInfo (s : State) (level : Option Nat) (write walk : Bool) : Nat × State :=
  let d := match level with
    | some l => (l, s)
    | none => let f := s.draw 40; (f.1 % 4, f.2)
  (d.1 + 4 * b01 write + 8 * b01 walk, d.2)

/-- A slot of the fault log is free (R611). -/
def State.flogFree (s : State) : Bool :=
  (s.rf Reg.FL_FLOG_TAIL_TAIL + 1) % 2 ^ s.rf Reg.FL_FLOG_CFG_SIZE_LOG2 != s.rf Reg.FL_FLOG_HEAD_HEAD

/-- Post a record to the fault log when it is enabled and has a free slot; with none, LOG_FULL and 0xA013 (R610, R611). -/
def State.flogPost (s : State) (ch kind : Nat) (l : List Nat) : State :=
  if !s.rb Reg.FL_FLOG_CFG_ENABLE then s
  else if !s.flogFree then (s.wr Reg.FL_FELL_LOG_FULL 1).emit 3 0xA013 ch kind 0
  else
    let t := s.rf Reg.FL_FLOG_TAIL_TAIL
    let base := s.rf Reg.FL_FLOG_BASE_LO_BASE * 32 + s.rf Reg.FL_FLOG_BASE_HI_BASE * 2 ^ 32
    ({ s with fl.fe := s.fl.fe ++ [({ ring := 1024, kind := 5, iova := base + 32 * t, bytes := l } : FeAcc)] }).wr
      Reg.FL_FLOG_TAIL_TAIL ((t + 1) % 2 ^ s.rf Reg.FL_FLOG_CFG_SIZE_LOG2)

/-- What every fault does once its record is built: FAULT, the log, the vector and 0xA010 (R610). -/
def State.faultTail (s : State) (ch kind ctx : Nat) (l : List Nat) (log : Bool) : State :=
  let s1 := ({ s with fl.faultSeq := (s.fl.faultSeq + 1) % 65536 }).wr Reg.FL_FELL_FAULT 1
  let s2 := if log then s1.flogPost ch kind l else s1
  (s2.raiseVec (s2.rf Reg.FL_CFG_FAULT_VEC)).emit 3 0xA010 ch kind ctx

/-- Write DONE of a channel. -/
def State.setDone (s : State) (n d : Nat) : State := (s.setFch n { s.fch n with done := d }).wr (Reg.FL_CH_DONE_DONE n) d

/-- A fault of granule `k` halts its channel; granules below it are still written (R609, R610). -/
def State.chFault (s : State) (n k kind addr : Nat) (level : Option Nat) (walk : Bool) : State :=
  let c := s.fch n
  let i := s.faultInfo level c.toHost walk
  let s1 := i.2
  let rc := match c.load with
    | some e => (e.1, e.2.1)
    | none => (0xFFFF, 0xFFFF)
  let l := faultBytes n kind i.1 c.ctx rc.1 addr (64 * k) c.len rc.2 s1.fl.faultSeq
  let s2 := s1.setFch n { c with
    st := 2, walk := none, issued := k, arrived := c.arrived.filter (fun e => decide (e.1 < k))
    outs := c.outs.filter (fun e => decide (e.1 < k)) }
  let s3 := s2.upto 8 (fun j x => x.wr (Reg.FL_CH_FAULT_WORD0_to_WORD7 n j) (recWord l j))
  s3.faultTail n kind c.ctx l true

/-- Granules of a transfer. -/
def FlCh.granules (c : FlCh) : Nat := (c.len + 63) / 64

/-- Granules written. -/
def FlCh.written (c : FlCh) : Nat := (c.done + 63) / 64

/-- Upstream reads outstanding across all channels (R598). -/
def State.outstanding (s : State) : Nat :=
  (s.fl.chans.map (fun e => if e.2.toHost then 0 else e.2.issued - e.2.written - e.2.arrived.length)).sum

/-- Bytes of granule `k`. -/
def FlCh.size (c : FlCh) (k : Nat) : Nat := min 64 (c.len - 64 * k)

/-- Channel `n` can take a granule now (R596, R598, R574). -/
def State.chCan (s : State) (n : Nat) : Bool :=
  let c := s.fch n
  c.st == 1 && c.walk.isNone && decide (c.issued < c.granules) && !s.cf.retire.contains n
    && (c.toHost || decide (s.outstanding < 256))

/-- Class of a channel (Table 15.1). -/
def chClass (n : Nat) : Nat := if n = 6 then 1 else if n = 7 then 3 else 2

/-- The channel that takes the next granule: the highest class, then in ascending number from the last (R600). -/
def State.chNext (s : State) : Option Nat :=
  let order := (List.range 16).map (fun i => (s.fl.last + 1 + i) % 16)
  let l := order.filter s.chCan
  match l.find? (fun n => chClass n == 1) with
  | some n => some n
  | none => match l.find? (fun n => chClass n == 2) with
    | some n => some n
    | none => l.head?

/-- Take one granule: translate its page or pages, then issue it; or start a walk, or fault (R595, R596). -/
def State.chTake (s : State) (n : Nat) : State :=
  let c := s.fch n
  let k := c.issued
  let a := c.iova + 64 * k
  let b := a + c.size k - 1
  let s1 := { s with fl.last := n }
  if 2 ^ 48 < c.iova + c.len then s1.chFault n k 4 a none false
  else match s1.translate c.ctx a c.toHost with
    | (.bad kind lv, s2) => s2.chFault n k kind a lv false
    | (.miss, s2) =>
      let w := s2.walkStart n c.ctx a c.toHost
      w.2.setFch n { c with walk := some w.1 }
    | (.hit o, s2) =>
      let issue := fun (x : State) (parts : List (Nat × Nat)) =>
        if c.toHost then x.setFch n { c with issued := k + 1, outs := c.outs ++ [(k, parts)] }
        else parts.foldl (fun y p => y.out (.hostRead n p.1 p.2)) (x.setFch n { c with issued := k + 1 })
      if a / 4096 = b / 4096 then issue s2 [(o, c.size k)]
      else
        let a2 := b / 4096 * 4096
        match s2.translate c.ctx a2 c.toHost with
        | (.bad kind lv, s3) => s3.chFault n k kind a2 lv false
        | (.miss, s3) =>
          let w := s3.walkStart n c.ctx a2 c.toHost
          w.2.setFch n { c with walk := some w.1 }
        | (.hit o2, s3) => issue s3 [(o, a2 - a), (o2, b + 1 - a2)]

/-- Let every channel that can take granules do so, in the order of R600. -/
def chPump : Nat → State → State
  | 0, s => s
  | n + 1, s =>
    if !s.polRuns then s
    else match s.chNext with
      | none => s
      | some c => chPump n (s.chTake c)

/-- Granule attempts that one command can make: each issues a granule, starts a walk or halts a channel. -/
def pumpFuel : Nat := 20000

/-- Let the channels run. DESIGN CHOICE, log entry 47. -/
def State.flPump (s : State) : State := chPump pumpFuel s

/-- Start a transfer on a channel: its registers are set by its user (R594). -/
def State.chStart (s : State) (n : Nat) (c : FlCh) : State :=
  let s1 := s.setFch n { c with st := 1, done := 0, issued := 0, arrived := [], outs := [], walk := none }
  let s2 := if n < 8 then ((((((s1.wr (Reg.FL_CH_CFG_CONTEXT n) c.ctx).wr (Reg.FL_CH_CFG_DIR n) (b01 c.toHost)).wr
    (Reg.FL_CH_IOVA_LO_IOVA n) (c.iova / 8)).wr (Reg.FL_CH_IOVA_HI_IOVA n) (c.iova / 2 ^ 32)).wr
    (Reg.FL_CH_TSRAM_OFFSET n) (c.tsram / 8)).wr (Reg.FL_CH_LEN_LEN n) c.len) else s1
  s2.wr (Reg.FL_CH_DONE_DONE n) 0

/-- Write granule `k` at its destination: table SRAM through port B, or upstream at its output addresses (R596, R597). -/
def State.chWrite (s : State) (n k : Nat) (bytes : List Nat) : State :=
  let c := s.fch n
  let sz := c.size k
  let s1 :=
    if c.toHost then
      let v := (List.range sz).map (fun i => (mget (0 : Byte) s.ik.table (c.tsram + 64 * k + i)).toNat)
      let parts := ((c.outs.find? (fun e => e.1 == k)).map (·.2)).getD []
      (parts.foldl (fun (y : State × List Nat) p =>
        (y.1.out (.hostWrite c.ctx p.1 (y.2.take p.2)), y.2.drop p.2)) (s, v)).1.setFch n
        { c with outs := c.outs.filter (fun e => e.1 != k) }
    else { s with ik.table := writeBytes s.ik.table (c.tsram + 64 * k) sz (ofLe (bytes.take sz)) }
  s1.setDone n (min c.len (64 * k + sz))

/-- Write every arrived granule that is next in order (R596). -/
def chDrain (n : Nat) : Nat → State → State
  | 0, s => s
  | f + 1, s =>
    let c := s.fch n
    let k := c.written
    match c.arrived.find? (fun e => e.1 == k) with
    | none => s
    | some e =>
      let s1 := s.chWrite n k e.2
      chDrain n f (s1.setFch n { s1.fch n with arrived := c.arrived.filter (fun x => x.1 != k) })

/-- The transfer of a running channel has ended. -/
def FlCh.complete (c : FlCh) : Bool := c.st == 1 && c.done == c.len

/-- Abandon the transfers of every channel with a cause: 2 HR, 3 TT (R619, R620). -/
def State.flStop (s : State) (cause : Nat) : State :=
  let s1 := s.upto 16 (fun n x =>
    let c := x.fch n
    if c.st = 1 ∨ c.st = 2 then (x.setFch n { c with st := 4, walk := none, load := none }).emit 3 0xA012 n c.done cause else x)
  { s1 with fl.chans := [], fl.tlb := [], cf.retire := [], cf.loads := [], ob.inFlight := false }

/-- Remove TLB entries of a context, or all of them. -/
def State.tlbDrop (s : State) (all : Bool) (ctx : Nat) : State :=
  { s with fl.tlb := s.fl.tlb.filter (fun e => !all && e.ctx != ctx) }

end Sys2Proof.Machine
end

