-- ==== Sys2Proof/Machine/FrontOps.lean ====
section
/-! DEFINITION. Rings, descriptors, commands, handles, launches and the front end's own accesses (Command Front End). -/

namespace Sys2Proof.Machine
open Sys2Proof

/-- A ring. -/
def State.ring (s : State) (r : Nat) : CfRing := mget {} s.cf.rings r

/-- The state with another ring. -/
def State.setRing (s : State) (r : Nat) (x : CfRing) : State := { s with cf.rings := mput {} s.cf.rings r x }

/-- The state with another descriptor in progress on a ring. -/
def State.setDesc (s : State) (r : Nat) (d : Option CfDesc) : State := s.setRing r { s.ring r with desc := d }

/-- Little-endian field of a descriptor (R564). -/
def CfDesc.le (d : CfDesc) (i n : Nat) : Nat := ofLe (((d.bytes.getD []).drop i).take n)

/-- Little-endian field of a command (R566). -/
def CfCmd.le (c : CfCmd) (i n : Nat) : Nat := ofLe ((c.bytes.drop i).take n)

/-- TYPE of a command. -/
def CfCmd.ty (c : CfCmd) : Nat := c.le 0 1

/-- OWNER of a ring: its translation context (R560). -/
def State.ringOwner (s : State) (r : Nat) : Nat := s.rf (Reg.CF_RING_CFG_OWNER r)

/-- The first byte at which a descriptor is malformed (R564). -/
def descBad (l : List Nat) : Option Nat :=
  let v := fun (i n : Nat) => ofLe ((l.drop i).take n)
  let kind := v 24 1
  let checks : List (Nat × Bool) :=
    [(0, v 0 1 != 1), (1, decide (4 ≤ v 1 1)), (3, v 3 1 != 0),
     (4, decide (v 4 4 < 16) || decide (65536 < v 4 4) || v 4 4 % 16 != 0),
     (8, v 8 8 % 16 != 0 || decide (2 ^ 48 ≤ v 8 8)), (16, v 16 8 % 64 != 0), (24, decide (2 < kind)), (25, v 25 1 != 0),
     (26, kind == 2 && decide (4095 < v 26 2)),
     (28, (kind == 1 && v 28 4 % 8 != 0) || (kind == 2 && decide (65535 < v 28 4)))]
    ++ (List.range 8).map (fun i => (48 + i, v (48 + i) 1 != 0))
  (checks.find? (fun e => e.2)).map (·.1)

/-- Length that a command's TYPE and fields give (Table 14.3). -/
def cmdLen (c : CfCmd) : Option Nat :=
  match c.ty with
  | 1 | 2 | 7 | 8 => some 16
  | 3 | 6 => some 32
  | 4 => some (32 + (c.le 12 2 + 15) / 16 * 16)
  | 5 => some (32 + 16 * c.le 17 1)
  | _ => none

/-- Every byte of a command's range is zero. -/
def CfCmd.zero (c : CfCmd) (i n : Nat) : Bool := ((c.bytes.drop i).take n).all (fun b => b == 0)

/-- The body of a command keeps the layout of its TYPE (Tables 14.3 and 14.4). -/
def CfCmd.bodyOk (c : CfCmd) : Bool :=
  match c.ty with
  | 1 => decide (c.le 8 1 < 64) && decide (c.le 9 1 < 8) && c.zero 11 1 && c.zero 14 2
  | 2 => decide (c.le 8 1 < 64) && c.zero 9 3 && c.zero 14 2
  | 3 => c.le 12 4 % 8 == 0 && c.le 16 4 % 8 == 0 && c.zero 20 12
  | 4 => decide (c.le 8 1 < 8) && c.zero 9 1 && c.le 10 2 != 0xFFFF && decide (c.le 12 2 ≤ 256) && c.le 12 2 % 8 == 0
      && c.zero 14 2 && c.zero (32 + c.le 12 2) 16
  | 5 => c.zero 8 8 && decide (c.le 16 1 < 64) && decide (c.le 17 1 ≤ 15) && decide (c.le 20 4 ≤ 32768)
      && (List.range (c.le 17 1)).all (fun i => decide (c.le (34 + 16 * i) 2 < 4096))
  | 6 =>
    let k := c.le 8 1
    decide (1 ≤ k) && decide (k ≤ 3) && c.zero 24 8
      && (k != 1 || c.le 12 4 % 8 == 0) && (k != 2 || (decide (c.le 10 2 < 4096) && decide (c.le 12 4 < 65536)))
  | 7 => c.zero 8 8
  | 8 => c.le 8 8 % 64 == 0 && c.le 8 8 != 0
  | _ => false

/-- A dependency field keeps R566 and names a lower index (R567). -/
def depOk (i v : Nat) : Bool := decide (bitsOf v 14 12 = 0) && (!bitOf v 15 || decide (v % 4096 < i))

/-- Command `i`, whose bytes are all at hand, keeps R567. -/
def CfCmd.ok (c : CfCmd) (i : Nat) : Bool :=
  decide (i < 4096) && cmdLen c == some (16 * c.le 1 1) && depOk i (c.le 2 2) && depOk i (c.le 4 2)
    && (c.le 6 1 == 0 || (c.le 6 1 == 1 && (c.ty == 4 || c.ty == 5))) && c.zero 7 1 && c.bodyOk

/-- The predecessors of a command. -/
def CfCmd.deps (c : CfCmd) : List Nat :=
  ([c.le 2 2, c.le 4 2].filter (fun v => bitOf v 15)).map (fun v => v % 4096)

/-- The lowest command of a descriptor that can start (R568). -/
def CfDesc.startable (d : CfDesc) : Option Nat :=
  if d.err.isSome || d.ended then none
  else
    let dn := fun i => match d.cmds[i]? with
      | some x => x.done
      | none => false
    let rec go : Nat → List CfCmd → Option Nat
      | _, [] => none
      | i, c :: t =>
        if !c.started && c.deps.all dn then some i
        else if c.ty = 7 ∧ !c.done then none
        else go (i + 1) t
    go 0 d.cmds

/-- Change command `i` of a descriptor. -/
def CfDesc.setCmd (d : CfDesc) (i : Nat) (f : CfCmd → CfCmd) : CfDesc := { d with cmds := d.cmds.modify i f }

/-- Started FENCEs complete when every command before them has (R568). -/
def fences : Bool → List CfCmd → List CfCmd
  | _, [] => []
  | all, c :: t =>
    let c1 := if c.ty = 7 ∧ c.started = true ∧ all = true then { c with done := true } else c
    c1 :: fences (all && c1.done) t

/-- KIND of a handle; handles from 4,096 are invalid, and KIND 3 acts as 0 (R571, Table 14.10). -/
def State.hKind (s : State) (h : Nat) : Nat :=
  if 4096 ≤ h then 0 else let k := s.rf (Reg.CF_HANDLE0_KIND h); if k = 3 then 0 else k

/-- SIZE of a handle in bytes. -/
def State.hSize (s : State) (h : Nat) : Nat := 8 * s.rf (Reg.CF_HANDLE0_SIZE h)

/-- OWNER of a handle: the context of its addresses (R572). -/
def State.hOwner (s : State) (h : Nat) : Nat := s.rf (Reg.CF_HANDLE0_OWNER h)

/-- IOVA of a HOST handle (Table 14.10). -/
def State.hIova (s : State) (h : Nat) : Nat :=
  s.rf (Reg.CF_HANDLE1_BANK0 h) + s.rf (Reg.CF_HANDLE1_BANK0X h) * 2 ^ 14 + s.rf (Reg.CF_HANDLE1_BANK1 h) * 2 ^ 16
    + s.rf (Reg.CF_HANDLE1_BANK1X h) * 2 ^ 30 + s.rf (Reg.CF_HANDLE2_DIR h) % 2 ^ 16 * 2 ^ 32

/-- A ring may use a handle of a KIND for a range: status 0, 3 DENIED or 4 HANDLE (R571, R572). -/
def State.hCheck (s : State) (r h kind last : Nat) : Nat :=
  if s.hKind h ≠ kind then 4
  else if s.ringOwner r ≠ 0 ∧ s.hOwner h ≠ s.ringOwner r then 3
  else if s.hSize h < last then 4 else 0

/-- A TABLE entry keeps R575. -/
def State.tableOk (s : State) (h : Nat) : Bool :=
  let b0 := 64 * s.rf (Reg.CF_HANDLE1_BANK0 h)
  let b1 := 64 * s.rf (Reg.CF_HANDLE1_BANK1 h)
  let n := s.hSize h
  decide (n ≤ 524288) && decide (b0 + n ≤ 1048576) && decide (b1 + n ≤ 1048576) && decide (b0 + n ≤ b1 ∨ b1 + n ≤ b0)
    && decide (8 * s.rf (Reg.CF_HANDLE2_DIR h) + 8 ≤ 1048576)

/-- Descriptors in progress (R562). -/
def State.inProgress (s : State) : Nat := (s.cf.rings.filter (fun e => e.2.desc.isSome)).length

/-- The ring has a pending descriptor that it may begin (R561, R562, R588). -/
def State.ringPending (s : State) (r : Nat) : Bool :=
  s.rb (Reg.CF_RING_CFG_ENABLE r) && !(s.ring r).stopped && (s.ring r).desc.isNone
    && s.rf (Reg.CF_RING_HEAD_HEAD r) != s.rf (Reg.CF_RING_TAIL_TAIL r)

/-- Put an access of the front end in line (R593). -/
def State.fePut (s : State) (a : FeAcc) : State := { s with fl.fe := s.fl.fe ++ [a] }

/-- BASE of a ring. -/
def State.ringBase (s : State) (r : Nat) : Nat := s.rf (Reg.CF_RING_BASE_LO_BASE r) * 64 + s.rf (Reg.CF_RING_BASE_HI_BASE r) * 2 ^ 32

/-- Begin the descriptor at an address (R585). -/
def State.descFetch (s : State) (r loc chained : Nat) : State :=
  (s.setDesc r (some { loc := loc, chained := chained, fetching := true })).fePut
    { ring := r, kind := 0, ctx := s.ringOwner r, iova := loc, len := 64 }

/-- Rings in the order of their turns (R583). -/
def State.turnOrder (s : State) : List Nat := (List.range 1024).map (fun i => (s.cf.last + 1 + i) % 1024)

/-- Fetch the descriptor of the next ring due a turn with a new one, when no descriptor fetch is outstanding (R562, R585). -/
def State.cfPrefetch (s : State) : State :=
  if !s.owner || !s.polRuns || s.isl.hostDown || decide (16 ≤ s.inProgress) || s.fl.fe.any (fun a => a.kind == 0) then s
  else match s.turnOrder.find? s.ringPending with
    | none => s
    | some r => s.descFetch r (s.ringBase r + 64 * s.rf (Reg.CF_RING_HEAD_HEAD r)) 0

/-- Fetch the next piece of a command buffer: up to 4 KiB ahead of parsing, one page at a time (R585). -/
def State.bufFetch (s : State) (r : Nat) : State :=
  match (s.ring r).desc with
  | none => s
  | some d =>
    let have_ := d.buf.length
    let want := min (d.le 4 4) (d.parsed + 4096)
    if d.bytes.isNone || d.fetching || d.err.isSome || decide (want ≤ have_) then s
    else
      let a := d.le 8 8 + have_
      let n := min (want - have_) (4096 - a % 4096)
      (s.setDesc r (some { d with fetching := true })).fePut { ring := r, kind := 1, ctx := s.ringOwner r, iova := a, len := n }

/-- STATUS of a descriptor (R565). -/
def CfDesc.status (d : CfDesc) : Nat :=
  let n := (d.cmds.filter (fun c => c.done)).length
  let e := match d.err with
    | none => 0
    | some (st, none) => st
    | some (st, some i) => st + i * 2 ^ 8 + 2 ^ 21
  e + 2 ^ 20 + n * 2 ^ 32

/-- The last error of a ring (Table 14.9). -/
def State.ringErr (s : State) (r st : Nat) (i : Option Nat) : State :=
  ((s.wr (Reg.CF_RING_ERR_STATUS r) st).wr (Reg.CF_RING_ERR_CMD r) (i.getD 0)).wr (Reg.CF_RING_ERR_CMD_VALID r) (b01 i.isSome)

/-- The ring enters STOPPED on an error (R588); 0xA001 but for DESC, CHAIN_LIMIT and ABORTED (Table 14.6; DESIGN
CHOICE, log entry 139). -/
def State.ringStop (s : State) (r st : Nat) (i : Option Nat) : State :=
  let s1 := s.setRing r { s.ring r with stopped := true, desc := none }
  if st = 1 ∨ st = 10 ∨ st = 11 then s1
  else (s1.wr Reg.CF_FELL_RING_ERR 1).emit 3 0xA001 r st (match i with
    | some k => k
    | none => 0xFFFFFFFF)

/-- The end of a descriptor after its signals: the interrupt, then the chain, the next slot or STOPPED (R565, R582, R588). -/
def State.descFinish (s : State) (r : Nat) : State :=
  match (s.ring r).desc with
  | none => s
  | some d =>
    let s1 := if bitOf (d.le 1 1) 0 && d.err != some (1, none) then s.raiseVec (d.le 2 1) else s
    match d.err with
    | some e =>
      let s2 := s1.ringErr r e.1 e.2
      (if bitOf (d.le 1 1) 1 && e.1 != 1 then s2.setDesc r none else s2.ringStop r e.1 e.2).cfPrefetch
    | none =>
      let nx := match d.next with
        | some a => a
        | none => d.le 16 8
      if nx = 0 ∨ s1.rb (Reg.CF_RING_CFG_ENABLE r) = false then (s1.setDesc r none).cfPrefetch
      else if s1.rf Reg.CF_CFG_CHAIN_MAX ≤ d.chained then
        ((((s1.ringErr r 10 none).ringStop r 10 none).wr Reg.CF_FELL_CHAIN 1).emit 3 0xA006 r
          (s1.rf Reg.CF_CFG_CHAIN_MAX)).cfPrefetch
      else s1.descFetch r nx (d.chained + 1)

/-- The completion signal, once STATUS has been written (R565, R581). -/
def State.descSignal (s : State) (r : Nat) : State :=
  match (s.ring r).desc with
  | none => s
  | some d =>
    let st := match d.err with
      | some e => e.1
      | none => 0
    let ref := d.le 26 2
    if st = 1 then s.descFinish r
    else match d.le 24 1 with
      | 1 =>
        if s.hCheck r ref 2 (d.le 28 4 + 8) = 0 then
          s.fePut { ring := r, kind := 3, ctx := s.hOwner ref, iova := s.hIova ref + d.le 28 4, len := 8, bytes := leBytes 8 (d.le 32 8) }
        else s.descFinish r
      | 2 =>
        if s.ringOwner r ≠ 0 then s.descFinish r
        else
          let q := s.sendRemote ref (d.le 28 2) 0 (BitVec.ofNat 64 (d.le 32 8)) 0
          if q.1 = 0 then q.2.descFinish r
          else (q.2.setDesc r (some { d with err := some ((d.err).getD (13, none)) })).descFinish r
      | _ => s.descFinish r

/-- The status that a descriptor's own completion signal is refused with, if any (R571, R572, R581). -/
def State.complBad (s : State) (r : Nat) (d : CfDesc) : Option (Nat × Option Nat) :=
  match d.le 24 1 with
  | 1 => let h := s.hCheck r (d.le 26 2) 2 (d.le 28 4 + 8); if h = 0 then none else some (h, none)
  | 2 => if s.ringOwner r = 0 then none else some (3, none)
  | _ => none

/-- A descriptor ends when nothing of it remains: STATUS is written back (R565, R588), or it goes without (R613). -/
def State.descCheck (s : State) (r : Nat) : State :=
  match (s.ring r).desc with
  | none => s
  | some d =>
    let idle := d.cmds.all (fun c => !c.started || c.done)
    let fin := decide (d.parsed = d.le 4 4) && d.cmds.all (fun c => c.done)
    if d.ended || d.bytes.isNone || !idle || !(fin || d.err.isSome) then s
    else if d.noWb then s.setDesc r none
    else
      let d1 := { d with ended := true, err := match d.err with
        | some e => some e
        | none => s.complBad r d }
      (s.setDesc r (some d1)).fePut
        { ring := r, kind := 2, ctx := s.ringOwner r, iova := d.loc + 56, len := 8, bytes := leBytes 8 d1.status }

/-- Command `i` of the ring's descriptor completes with a status (R569, R588). -/
def State.cmdDone (s : State) (r i st : Nat) : State :=
  match (s.ring r).desc with
  | none => s
  | some d =>
    match d.cmds[i]? with
    | none => s
    | some c =>
      if !c.started || c.done then s
      else
        let d1 := d.setCmd i (fun x => { x with done := true })
        let d2 := { d1 with cmds := fences true d1.cmds, err := if st = 0 then d.err else some ((d.err).getD (st, some i)) }
        (s.setDesc r (some d2)).descCheck r

/-- Cost of parsing or starting a command of `n` bytes (R584). -/
def cmdCost (n : Nat) : Nat := 8 + n / 16

/-- Parse the next command of the ring in turn, when its bytes are at hand (R566, R567, R584). -/
def State.parseOne (s : State) (r : Nat) (d : CfDesc) : Option (State × Nat) :=
  let rest := d.buf.drop d.parsed
  let blen := d.le 4 4
  if d.err.isSome || d.ended || d.bytes.isNone || decide (blen ≤ d.parsed) || decide (rest.length < 16) then none
  else
    let n := 16 * rest.getD 1 0
    let i := d.cmds.length
    let bad := fun (_ : Unit) =>
      ((s.setDesc r (some { d with err := some (2, if i < 4096 then some i else none) })).descCheck r, cmdCost 16)
    let head : CfCmd := { bytes := rest.take 32 }
    if n = 0 ∨ blen < d.parsed + n ∨ 4096 ≤ i ∨ (head.ty = 0 ∨ 8 < head.ty) then some (bad ())
    else if rest.length < n then none
    else
      let c : CfCmd := { bytes := rest.take n, paid := true }
      if !c.ok i then some (bad ())
      else some ((s.setDesc r (some { d with parsed := d.parsed + n, cmds := d.cmds ++ [c] })).bufFetch r, cmdCost n)

/-- Parse on until a command can start, nothing is at hand or the turn is used up (R568, R583). -/
def parseOn : Nat → State → State
  | 0, s => s
  | n + 1, s =>
    match s.cf.turn with
    | none => s
    | some (r, left) =>
      match (s.ring r).desc with
      | none => { s with cf.turn := none }
      | some d =>
        if left = 0 then { s with cf.turn := none }
        else if d.startable.isSome then s
        else match s.parseOne r d with
          | none => { s with cf.turn := none }
          | some (x, cost) => parseOn n { x with cf.turn := some (r, left - cost) }

/-- The end of a turn leaves no parse cost paid. -/
def State.turnTidy (s : State) (r : Nat) : State :=
  if s.cf.turn.isSome then s
  else match (s.ring r).desc with
    | none => s
    | some d => s.setDesc r (some { d with cmds := d.cmds.map (fun c => { c with paid := false }) })

/-- A ring is due a turn of parsing or starting (R583). -/
def State.turnDue (s : State) (r : Nat) : Bool :=
  match (s.ring r).desc with
  | none => false
  | some d => d.startable.isSome || (s.parseOne r d).isSome

/-- The core's free constant slot of the lowest number (R578). -/
def State.slotFree (s : State) (c : Nat) : Option Nat :=
  (List.range 32).find? (fun k => !s.cf.sent.any (fun e => e.2.core == c && e.2.slot == some k))

/-- P0 of a launch (R576). -/
def Launch.p0 (l : Launch) (k : Nat) : Nat := l.ring + l.cmd * 2 ^ 10 + k * 2 ^ 32 + l.consts.length * 2 ^ 48

/-- Try to send launch number `n`: a constant slot and room in the launch queue are needed (R576, R578, R579). -/
def State.launchTry (s : State) (n : Nat) (l : Launch) : Option State :=
  match s.slotFree l.core with
  | none => none
  | some k =>
    if !s.rb (Reg.ME_QCFG_ENABLE l.core) || !s.qAccepts l.core false || !s.qReady l.core then none
    else
      let m : QMsg := { tag := l.func, source := 0x10, p0 := BitVec.ofNat 64 (l.p0 k), p1 := BitVec.ofNat 64 l.arg0, p2 := BitVec.ofNat 64 l.arg1 }
      let s1 := (s.sendQueue l.core m).2
      let s2 := { s1 with
        cf.waiting := mdel s1.cf.waiting n
        cf.sent := mins s1.cf.sent n { l with slot := some k } }
      some (if l.nowait then s2.cmdDone l.ring l.cmd 0 else s2)

/-- A new launch: sent at once, or retried each microsecond (R579). -/
def State.launchNew (s : State) (l : Launch) : State :=
  let n := s.cf.nextLaunch
  let s1 := { s with cf.nextLaunch := n + 1 }
  match s1.launchTry n l with
  | some s2 => s2
  | none => { s1 with cf.waiting := mins s1.cf.waiting n l }

/-- A sent launch completes with a status; a lost one records 0xA005 (R577, R588). -/
def State.launchDone (s : State) (n st : Nat) : State :=
  match s.cf.sent.find? (fun e => e.1 == n) with
  | none => s
  | some (_, l) =>
    let s1 := { s with cf.sent := mdel s.cf.sent n }
    let s2 := if st = 0 then s1 else (s1.wr Reg.CF_FELL_LAUNCH 1).emit 3 0xA005 l.ring l.core l.cmd
    if l.nowait then s2 else s2.cmdDone l.ring l.cmd st

/-- The message of a sent launch is still queued, or its handler runs. -/
def State.launchAlive (s : State) (n : Nat) (l : Launch) : Bool :=
  (s.core l.core).launchId == some n
    || (s.qMsgs l.core).any (fun m => m.source == 0x10 && some (m.p0.toNat / 2 ^ 32 % 32) == l.slot)

/-- The sent launch that a message of a core's launch queue carries. -/
def State.launchOf (s : State) (c : Nat) (m : QMsg) : Option Nat :=
  if m.source = 0x10 then
    (s.cf.sent.find? (fun e => e.2.core == c && e.2.slot == some (m.p0.toNat / 2 ^ 32 % 32))).map (·.1)
  else none

/-- Launches whose message is gone without an RTE complete with status FAULT (R577). -/
def State.launchSweep (s : State) : State :=
  s.each ((s.cf.sent.filter (fun e => !s.launchAlive e.1 e.2)).map (·.1)) (fun n x => x.launchDone n 8)

/-- Idle table channels of the front end (R592). -/
def State.loadFree (s : State) : Option Nat := (List.range 6).find? (fun n => (s.fch n).load.isNone && (s.fch n).st != 1 && (s.fch n).st != 2)

/-- A waiting LOADTBL may take a channel: no transfer into its own handle is under way, whose publication would make the bank it writes
the active one (R574, R618; DESIGN CHOICE, log entry 138). -/
def State.loadMay (s : State) (e : Nat × Nat × Option Nat) : Bool :=
  e.2.2.isNone && match (s.ring e.1).desc.bind (fun d => d.cmds[e.2.1]?) with
    | none => true
    | some c => !(List.range 6).any (fun n => ((s.fch n).load.map (·.2.2)) == some (c.le 8 2))

/-- Put the oldest waiting LOADTBL on the lowest idle table channel; it is held until RETIRE has passed since the last
publication of its handle (R573, R574, R592). -/
def State.loadAssign (s : State) : State :=
  match s.cf.loads.find? s.loadMay, s.loadFree with
  | some (r, i, _), some n =>
    match (s.ring r).desc.bind (fun d => d.cmds[i]?) with
    | none => { s with cf.loads := s.cf.loads.filter (fun (e : Nat × Nat × Option Nat) => !(e.1 == r && e.2.1 == i)) }
    | some c =>
      let dst := c.le 8 2
      let src := c.le 10 2
      let bank := if s.rb (Reg.CF_HANDLE0_ACTIVE dst) then s.rf (Reg.CF_HANDLE1_BANK0 dst) else s.rf (Reg.CF_HANDLE1_BANK1 dst)
      let wait := match s.cf.pubAt.find? (fun e => e.1 == dst) with
        | none => false
        | some e => decide (s.now < e.2 + usec * s.rf Reg.CF_CFG_RETIRE)
      let s1 := { s with
        cf.loads := s.cf.loads.map (fun (e : Nat × Nat × Option Nat) => if e.1 = r ∧ e.2.1 = i then (r, i, some n) else e)
        cf.retire := if wait then s.cf.retire ++ [n] else s.cf.retire.filter (fun x => x != n) }
      s1.chStart n {
        ctx := s.hOwner src, iova := s.hIova src + c.le 12 4, tsram := 64 * bank, len := c.le 16 4, toHost := false
        load := some (r, i, dst) }
  | _, _ => s

/-- A table channel is aborted: its LOADTBL completes with XLATE (R615). -/
def State.loadAbort (s : State) (n cause : Nat) : State :=
  let c := s.fch n
  let s1 := (s.setFch n { c with st := 4, load := none, walk := none }).emit 3 0xA012 n c.done cause
  match c.load with
  | none => s1
  | some (r, i, _) =>
    (({ s1 with cf.loads := s1.cf.loads.filter (fun (e : Nat × Nat × Option Nat) => !(e.1 == r && e.2.1 == i)) }).cmdDone r i 9).loadAssign

/-- A fault that puts the ring in STOPPED with XLATE and no write-back (R613). -/
def State.ringXlate (s : State) (r : Nat) : State :=
  let s1 := s.ringErr r 9 none
  let d := (s1.ring r).desc
  let s2 := s1.ringStop r 9 none
  match d with
  | none => s2
  | some d =>
    if d.cmds.any (fun c => c.started && !c.done) then
      s2.setDesc r (some { d with err := some (9, none), noWb := true, ended := false, fetching := false })
    else s2.cfPrefetch

/-- What an access does once it has been written (R565, R581). -/
def State.feWritten (s : State) (a : FeAcc) : State :=
  match a.kind with
  | 2 => s.descSignal a.ring
  | 3 => s.descFinish a.ring
  | 4 => s.cmdDone a.ring a.cmd 0
  | _ => s

/-- What a faulted access leaves (R612, R613). -/
def State.feFailed (s : State) (a : FeAcc) (kind : Nat) : State :=
  match a.kind with
  | 3 => match (s.ring a.ring).desc with
    | none => s
    | some d => (s.setDesc a.ring (some { d with err := some ((d.err).getD (9, none)) })).descFinish a.ring
  | 4 => s.cmdDone a.ring a.cmd 9
  | 5 => ((s.wr Reg.FL_FLOG_CFG_ENABLE 0).wr Reg.FL_FELL_LOG_FAULT 1).emit 3 0xA013 (a.bytes.getD 1 0) (a.bytes.getD 2 kind) 1
  | 6 => s
  | _ => s.ringXlate a.ring

/-- A fault of a front-end access (R610, R613): the access is gone from the line. -/
def State.feFault (s : State) (a : FeAcc) (kind addr : Nat) (level : Option Nat) (walk : Bool) : State :=
  let i := s.faultInfo level (decide (2 ≤ a.kind)) walk
  let l := faultBytes 0xFF kind i.1 a.ctx (if a.ring = 1024 then 0xFFFF else a.ring) addr 0 (if a.kind = 5 then 32 else a.len)
    (if a.kind = 4 then a.cmd else 0xFFFF) i.2.fl.faultSeq
  (((i.2.feFaultRegs l).faultTail 0xFF kind a.ctx l (a.kind != 5))).feFailed a kind

/-- The first access in line that may translate: a ring's accesses translate in order (R558, R596). -/
def feReady : List Nat → List FeAcc → Option FeAcc
  | _, [] => none
  | blocked, a :: t =>
    if a.issued then feReady blocked t
    else if blocked.contains a.ring || a.walk.isSome then feReady (a.ring :: blocked) t
    else some a

/-- Replace an access in line. -/
def State.feSwap (s : State) (a : FeAcc) (b : Option FeAcc) : State :=
  { s with fl.fe := s.fl.fe.flatMap (fun x => if x = a then b.toList else [x]) }

/-- A translated access is issued: a write is done with it, a read waits for its data. -/
def State.feIssue (s : State) (a : FeAcc) (o : Nat) : State :=
  if a.kind < 2 then (s.feSwap a (some { a with issued := true, walk := none })).out (.hostRead (16 + a.ring) o a.len)
  else ((s.feSwap a none).out (.hostWrite a.ctx o a.bytes)).feWritten a

/-- Let the front end's accesses translate and issue. -/
def fePump : Nat → State → State
  | 0, s => s
  | n + 1, s =>
    if !s.polRuns then s
    else match feReady [] s.fl.fe with
      | none => s
      | some a =>
        let w := decide (2 ≤ a.kind)
        match s.translate a.ctx a.iova w with
        | (.bad kind lv, s1) => fePump n ((s1.feSwap a none).feFault a kind a.iova lv false)
        | (.miss, s1) =>
          let x := s1.walkStart (16 + a.ring) a.ctx a.iova w
          fePump n (x.2.feSwap a (some { a with walk := some x.1 }))
        | (.hit o, s1) => fePump n (s1.feIssue a o)

/-- Waiting LOADTBLs take idle channels. -/
def State.loadAll (s : State) : State := (List.range 6).foldl (fun x _ => x.loadAssign) s

/-- Let the front end and Flume do what they can. -/
def State.cfSettle (s : State) : State := ((fePump 20000 s).loadAll).flPump

/-- FRI takes a SETCAP (type 1) or a SETFLOOR and judges it as one change; its answer ends the command with 0 or 5 (R427, R570). -/
def State.capTake (s : State) (r i : Nat) (c : CfCmd) : State :=
  let p := c.le 8 1
  let f := c.le 9 1
  let w0 := if c.ty = 1 then c.le 12 2 * 2 ^ 16 + s.rf (Reg.BG_PART_CFG0_FLOOR p) else s.rf (Reg.BG_PART_CFG0_CEILING p) * 2 ^ 16 + c.le 12 2
  let en := if bitOf f 2 then b01 (bitOf f 0) else s.rf (Reg.BG_PART_CFG1_ENABLE p)
  let wt := if bitOf f 1 then c.le 10 1 else s.rf (Reg.BG_PART_CFG1_WEIGHT p)
  let t := s.tableWrite p (fun y =>
    let z := y.writeFields (Reg.BG_PART_CFG0 p) w0
    if c.ty = 1 then z.writeFields (Reg.BG_PART_CFG1 p) (en * 2 ^ 31 + wt) else z)
  t.2.cmdDone r i (if t.1 then 0 else 5)

/-- A SETCAP or SETFLOOR of the operator's ring crosses to FRI, and is held while FRI is in reset (R570, Table 3.3). -/
def State.capSend (s : State) (r i : Nat) (c : CfCmd) : State :=
  if s.ringOwner r ≠ 0 then s.cmdDone r i 3
  else if s.inReset 0 then { s with isl.retries := s.isl.retries ++ [(0, 6, r :: i :: c.bytes)] }
  else s.capTake r i c

/-- Start command `i` of the ring in turn when it is the lowest startable one and of the type (R568, R583, R584). -/
def State.cfStart (s : State) (ty : Nat) (act : State → Nat → Nat → CfCmd → State) : State :=
  if !s.owner || !s.polRuns || s.isl.hostDown then s
  else match s.cf.turn with
    | none => s
    | some (r, left) =>
      match (s.ring r).desc with
      | none => s
      | some d =>
        match d.startable with
        | none => s
        | some i =>
          match d.cmds[i]? with
          | none => s
          | some c =>
            if c.ty ≠ ty then s
            else
              let cost := if c.paid then 0 else cmdCost c.bytes.length
              let d1 := d.setCmd i (fun x => { x with started := true })
              let s1 := { s.setDesc r (some d1) with cf.turn := some (r, left - cost) }
              (((parseOn 4097 ((act s1 r i c).cfSettle)).turnTidy r).bufFetch r).cfSettle

/-- Every ring quiesced with a cause: 0 HR, without a word to the host; 1 TT, with STATUS and IRQ (R586, R587). A
SETCAP or SETFLOOR that waits for FRI still crosses, for no ring. -/
def State.cfQuiesce (s : State) (cause : Nat) : State :=
  let l := s.cf.rings.filter (fun e => e.2.desc.isSome)
  let s1 := if cause = 1 then l.foldl (fun (x : State) e => match e.2.desc with
    | none => x
    | some d =>
      if d.bytes.isNone then x
      else
        let q : CfDesc := { d with err := some (12, none) }
        let y := x.fePut { ring := e.1, kind := 6, ctx := x.ringOwner e.1, iova := d.loc + 56, len := 8, bytes := leBytes 8 q.status }
        let z := fePump 64 y
        if bitOf (d.le 1 1) 0 then z.raiseVec (d.le 2 1) else z) s else s
  let s2 := { s1 with
    cf.rings := [], cf.turn := none, cf.loads := []
    cf.waiting := s1.cf.waiting.map (fun (e : Nat × Launch) => (e.1, { e.2 with nowait := true }))
    cf.sent := s1.cf.sent.map (fun (e : Nat × Launch) => (e.1, { e.2 with nowait := true }))
    fl.fe := s1.fl.fe.filter (fun a => a.kind == 6)
    isl.retries := s1.isl.retries.map (fun (e : Nat × Nat × List Nat) => if e.2.1 = 6 then (e.1, 6, 1024 :: e.2.2.tail) else e) }
  let s3 := s2.upto 1024 (fun r x => x.wr (Reg.CF_RING_CFG_ENABLE r) 0)
  (s3.wr Reg.CF_FELL_QUIESCED 1).emit 3 0xA002 cause l.length

end Sys2Proof.Machine
end

