-- ==== Sys2Proof/Machine/ObserveOps.lean ====
section
/-! DEFINITION. Trigger, freeze, Halt Sweep, notices and export (Observation and Debug). -/

namespace Sys2Proof.Machine
open Sys2Proof

/-- A notice: a datagram to OB_NOTIFY.QUEUE with the event code; beyond 120 operations in any 10 us it is dropped and counted (R823). In
a Halt Sweep it waits for the engine's release (log entry 14). -/
def State.notice (s : State) (code rseq : Nat) : State :=
  let recent := s.ob.notes.filter (fun t => decide (s.now < t + 10 * usec))
  let q := s.rf Reg.OB_NOTIFY_QUEUE
  let m : QMsg := { tag := code, source := 0x30, p0 := BitVec.ofNat 64 rseq }
  if !s.rb Reg.OB_NOTIFY_VALID || s.inReset 3 then s
  else if 120 ≤ recent.length then s.satAdd Reg.OB_EXP_SKIP_SKIPS 1
  else
    let s1 := { s with ob.notes := recent ++ [s.now] }
    if s1.meHalted then { s1 with me.held := s1.me.held ++ [.notice q m] } else (s1.sendQueue q m).2

/-- The engine, released, takes what waited for it, oldest first. -/
def State.meRelease (s : State) : State :=
  s.me.held.foldl (fun (x : State) e => match e with
    | .event code p0 p1 p2 => x.hwDeliver code p0 p1 p2
    | .notice q m => (x.sendQueue q m).2) { s with me.held := [] }

/-- No timer of a stopped function advances for the halted time `d`: ages of ALLOT, advertisements and summaries, the flood hold of SHED,
the rate of DGNAK, RETIRE, and the second of R517 (R811). -/
def State.haltShift (s : State) (d : Nat) : State :=
  { s with
    cb.allotAt := s.cb.allotAt.map (· + d), cb.shedUntil := s.cb.shedUntil + d
    fb.lsas := s.fb.lsas.map (fun e => (e.1, { e.2 with since := e.2.since + d }))
    fb.sums := s.fb.sums.map (fun m => { m with since := m.since + d })
    fb.nakAt := s.fb.nakAt.map (fun e => (e.1, e.2 + d))
    cf.pubAt := s.cf.pubAt.map (fun e => (e.1, e.2 + d))
    ik.cores := s.ik.cores.map (fun e => (e.1, { e.2 with faultAt := e.2.faultAt.map (· + d) })) }

/-- Debug is unlocked (R789). -/
def State.debugOpen (s : State) : Bool := s.rb Reg.SE_STAT_DEBUG_UNLOCKED

/-- The registers' fields that an island holds, as a segment captures them: never SE_RESP (R817, R818). -/
def State.scanIsland (s : State) (isl : Nat) : ScanSeg :=
  { fields := s.regs.filter (fun e => (keyKept e.1).2 == isl && !(decide (Reg.SE_RESP 0 ≤ e.1 / 32) && decide (e.1 / 32 ≤ Reg.SE_RESP 7))) }

/-- Bytes of a core's instruction SRAM behind those of its data SRAM. -/
def IkCore.sram (k : IkCore) : List Host.Cell :=
  k.data ++ k.imem.flatMap (fun e => (List.range 4).map (fun i => (131072 + 4 * e.1 + i, BitVec.ofNat 8 (e.2.toNat / 256 ^ i))))

/-- What every segment of Table 21.3 captures. The message pool, the intent queues, the fuses' secret, the device key and the random source
are in none (R818). DESIGN CHOICE, log entry 100. -/
def State.scanCapture (s : State) : List (Nat × ScanSeg) :=
  [(0, s.scanIsland 7), (1, s.scanIsland 0), (2, s.scanIsland 1), (3, s.scanIsland 2), (20, { mem := s.ik.table }), (21, s.scanIsland 3),
    (22, s.scanIsland 4), (23, s.scanIsland 6), (24, s.scanIsland 5)]
  ++ (List.range 8).flatMap (fun c =>
    let k := s.core c
    [(4 + c, { banks := [k.bankN, k.bankU], special := [k.qsel, k.npc, k.upc, k.pc] }), (12 + c, { mem := k.sram })])

/-- A segment as the network reads it: zero outside a Halt Sweep (R817). -/
def State.segment (s : State) (n : Nat) : ScanSeg := if s.ob.halted then mget {} s.ob.scan n else {}

/-- The TAP takes an instruction while debug is unlocked; BYPASS and IDCODE always (R103). -/
def State.tapTakes (s : State) (i : TapInstr) : Bool := i == .bypass || i == .idcode || s.debugOpen

/-- What a scan of the network puts out of segment `n`: zero while debug is locked, or behind a closed segment insertion bit (R103,
R817). -/
def State.scanOut (s : State) (n : Nat) : ScanSeg := if s.tapTakes .network && bitOf s.ob.sibs n then s.segment n else {}

/-- A Halt Sweep begins: every running core enters the autonomous floor with cause 3, and the scan segments capture (R810, R813, R817). -/
def State.haltBegin (s : State) (source : Nat) : State :=
  let s1 := { s with ob.halted := true, ob.haltAt := s.now, ob.orphanTaken := false }
  let s2 := ((s1.wr Reg.OB_HALT_STAT_SOURCE source).wr Reg.OB_HALT_STAT_DURATION 0).emit 5 0xE010 source s.isl.pkg
  let s3 := s2.upto 8 (fun c x => if (x.core c).running then x.enterFloor c 3 else x)
  { s3 with ob.scan := s3.scanCapture, ob.stopCb := s.cb, ob.stopTw := s.tw, ob.stopEdge := s.edge }

/-- A request for a Halt Sweep: 0 JTAG, 1 host, 2 trigger (R809). -/
def State.haltRequest (s : State) (source : Nat) : State :=
  let bad := if !s.debugOpen then some 0 else if s.isl.pkg = 3 then some 1 else if s.ob.halted then some 2 else none
  match bad with
  | some c => (s.wr Reg.OB_FELL_HALT_REFUSED 1).emit 5 0xE013 c
  | none => s.haltBegin source

/-- FAB resumes with its state as it stood; neighbours come back through INIT, and Weir time continues from holdover (R670). -/
def State.fabResume (s : State) : State :=
  let s1 := match s.fb.parent with
    | some p => s.enterHoldover p 0
    | none => s
  (s1.upto 6 (fun p x =>
    let v := x.vp p
    if v.nbr = 0 then x else x.setVp p { v with nbr := 1, synced := false })).timeParent

/-- Restart every domain's wave clock, its first 4 waves at half capacity (R304, R815). -/
def State.wavesRestart (s : State) : State :=
  s.upto 8 (fun d x => x.setDom d { x.dom d with backoff := 4, waveAt := x.now })

/-- A Halt Sweep is released with a cause of event 0xE011 (R815). -/
def State.haltRelease (s : State) (cause : Nat) : State :=
  if !s.ob.halted then s
  else
    let ms := (s.now - s.ob.haltAt) / msec
    let s1 := ({ s with ob.halted := false, ob.orphanTaken := false, ob.scan := [], ob.stopCb := {}, ob.stopTw := {}, ob.stopEdge := {} }).haltShift
      (s.now - s.ob.haltAt)
    let s2 := (s1.wr Reg.OB_HALT_STAT_DURATION (satU 16 ms)).emit 5 0xE011 cause ms
    let s3 := s2.upto 8 (fun c x =>
      let k := x.core c
      if k.running then x.setCore c { k with floor := false } else x)
    let s4 := (if s3.inReset 4 then s3 else s3.fabResume).wavesRestart.meRelease
    let s5 := s4.each (s4.ad.rounds.map (·.1)) (fun g x => x.checkRelease g)
    (s5.notice 0xE011 0).budgetMoved

/-- The trigger fires: 0 TRIG_IN, 1 Ledger code, 2 host (R805 to R808). -/
def State.trigFire (s : State) (source code : Nat) : State :=
  if !s.rb Reg.OB_STAT_ARMED then s
  else
    let s1 := (s.wr Reg.OB_STAT_ARMED 0).wr Reg.OB_FELL_TRIGGER 1
    let s2 := if source = 0 then s1 else s1.out .trigOut
    let s3 := s2.emit 7 0xE012 source code
    let s4 := if s3.rb Reg.OB_STAT_FROZEN then s3 else (s3.wr Reg.OB_STAT_FROZEN 1).notice 0xE012 0
    if s4.rb Reg.OB_TRIG_CFG2_HALT then s4.haltRequest 2 else s4

/-- A record arriving at AO matches the armed trigger (R805). -/
def State.trigMatch (s : State) (code : Nat) : Bool :=
  s.rb Reg.OB_STAT_ARMED && s.rb Reg.OB_TRIG_CFG2_CODE_EN && !(decide (0xE010 ≤ code) && decide (code ≤ 0xE01F))
    && (code &&& s.rf Reg.OB_TRIG_CFG_CODE_MASK) == s.rf Reg.OB_TRIG_CFG_CODE_VAL

/-- Clear the counters of a list of groups. -/
def State.cntClear (s : State) (g n : Nat) : State :=
  { s with ob.cnt := s.ob.cnt.filter (fun e => decide (e.1 < 8 * g) || decide (8 * g + 8 * n ≤ e.1)) }

/-- Counters lost with their power: values and group configuration (R799). -/
def State.obGate (s : State) : State :=
  let s1 := { s with ob.cnt := [], regs := s.regs.filter (fun e =>
    !(decide (Reg.OB_GRP0 0 ≤ e.1 / 32) && decide (e.1 / 32 < Reg.OB_GRP0 512))) }
  s1.wr Reg.OB_STAT_ENABLED 0

/-- A keyed write of OB_CTL; UNFREEZE acts before FIRE (R824). -/
def State.obCtl (s : State) (v : Nat) : State :=
  s.keyedWrite Reg.OB_CTL v (fun x =>
    let a := if bitOf v 0 && !x.rb Reg.OB_STAT_ENABLED then ({ x with ob.cnt := [] }).wr Reg.OB_STAT_ENABLED 1 else x
    let b := if bitOf v 1 then a.obGate else a
    let c := if bitOf v 2 then { b with ob.cnt := [] } else b
    let d := if bitOf v 3 then c.wr Reg.OB_STAT_FROZEN 0 else c
    let e := if bitOf v 4 then d.wr Reg.OB_STAT_ARMED 1 else d
    if bitOf v 5 then e.trigFire 2 0 else e)

/-- A keyed write of OB_HALT. -/
def State.obHalt (s : State) (v : Nat) : State :=
  s.keyedWrite Reg.OB_HALT v (fun x =>
    let a := if bitOf v 1 then x.haltRelease 0 else x
    if bitOf v 0 then a.haltRequest 1 else a)

/-- Bytes of a ring slot of the export (R820). -/
def State.expLen (s : State) : Nat := 32 + 64 * s.rf Reg.OB_EXP_CFG_COUNT

/-- The export record of this snapshot (Table 21.4). -/
def State.expRecord (s : State) : List Nat :=
  let first := s.rf Reg.OB_EXP_CFG_FIRST
  let n := s.rf Reg.OB_EXP_CFG_COUNT
  leBytes 8 (if s.vxLocked then s.weirNs else 0) ++ leBytes 8 s.ob.rseq ++ leBytes 2 first ++ leBytes 2 n
    ++ [b01 (s.rb Reg.OB_STAT_FROZEN) + 2 * b01 (decide (0 < s.ob.skips))] ++ List.replicate 11 0
    ++ (List.range (8 * n)).flatMap (fun i => leBytes 8 (mget 0 s.ob.cnt (first + i)))

/-- A tick is skipped with a cause: 0 late, 1 ring full, 2 channel halted (R821). -/
def State.expSkip (s : State) (cause : Nat) : State :=
  let s1 := { s with ob.skips := s.ob.skips + 1 }
  (s1.satAdd Reg.OB_EXP_SKIP_SKIPS 1).emit 5 0xE014 cause s1.ob.skips

/-- An export tick: the snapshot goes to the staging area, and channel 7 moves it to the ring (R819, R821). DESIGN CHOICE, log entry 99. -/
def State.expTick (s : State) : State :=
  if s.inReset 5 || !s.rb Reg.OB_EXP_CFG_ENABLE then s
  else
    let t := s.rf Reg.OB_EXP_TAIL_TAIL
    let m := 2 ^ s.rf Reg.OB_EXP_CFG2_SIZE_LOG2
    if (s.fch 7).st = 2 then s.expSkip 2
    else if s.ob.inFlight || !s.polRuns then s.expSkip 0
    else if (t + 1) % m = s.rf Reg.OB_EXP_HEAD_HEAD then s.expSkip 1
    else
      let l := s.expRecord
      let base := s.rf Reg.OB_EXP_BASE_LO_BASE + s.rf Reg.OB_EXP_BASE_HI_BASE * 2 ^ 32
      let stage := s.rf Reg.OB_EXP_STAGE_OFFSET * 4096
      let s1 := { s with
        ik.table := writeBytes s.ik.table stage l.length (ofLe l), ob.inFlight := true, ob.skips := 0 }
      (s1.chStart 7 { ctx := 0, iova := base + s.expLen * t, tsram := stage, len := l.length, toHost := true }).flPump

/-- An export record has reached the ring (R819, R823). -/
def State.expDone (s : State) : State :=
  let m := 2 ^ s.rf Reg.OB_EXP_CFG2_SIZE_LOG2
  let s1 := { s with ob.inFlight := false, ob.rseq := s.ob.rseq + 1 }
  let s2 := s1.wr Reg.OB_EXP_TAIL_TAIL ((s.rf Reg.OB_EXP_TAIL_TAIL + 1) % m)
  let due := match s.ob.lastVec with
    | none => true
    | some t => decide (t + msec ≤ s.now)
  let s3 := if due then ({ s2 with ob.lastVec := some s.now }).raiseVec (s2.rf Reg.OB_EXP_CFG2_VEC) else s2
  s3.notice 0xE014 s.ob.rseq

end Sys2Proof.Machine
end

