-- ==== Sys2Proof/Machine/Catalogue.lean ====
section
/-! DEFINITION. The severity of every record that hardware raises (Event Code Catalogue, Table 25.3). -/

namespace Sys2Proof.Machine
open Sys2Proof

/-- Codes of severity info. -/
def codesInfo : List Nat := [
  0x1010, 0x1019, 0x2040, 0x3002, 0x4002, 0x5001, 0x6011, 0x7010, 0xA011, 0xB001, 0xB003, 0xB005,
  0xB032, 0xC003, 0xE005, 0xE014, 0xF002, 0xF004, 0xF005]

/-- Codes of severity notice. -/
def codesNotice : List Nat := [
  0x1001, 0x1002, 0x1003, 0x1005, 0x1006, 0x1012, 0x3005, 0x3006, 0x3007, 0x3008, 0x3015, 0x3016,
  0x3017, 0x4011, 0x5010, 0x5021, 0x5042, 0x5051, 0x6001, 0x6013, 0x6022, 0x7001, 0x7011, 0x8001,
  0x8006, 0x8008, 0x9006, 0xA002, 0xA012, 0xB004, 0xB009, 0xB00A, 0xB00E, 0xB020, 0xB024, 0xB025,
  0xB031, 0xC001, 0xC015, 0xD003, 0xE001, 0xE004, 0xE006, 0xE008, 0xE009, 0xE011, 0xE012, 0xE013,
  0xF001]

/-- Codes of severity warning. -/
def codesWarning : List Nat := [
  0x0010, 0x0022, 0x0023, 0x0030, 0x1004, 0x1011, 0x1016, 0x1017, 0x1018, 0x2011, 0x2021, 0x2023,
  0x2024, 0x2025, 0x3003, 0x3004, 0x3010, 0x3012, 0x3013, 0x3014, 0x4010, 0x4013, 0x5011, 0x5040,
  0x5041, 0x5050, 0x5052, 0x6010, 0x6020, 0x7003, 0x7004, 0x7005, 0x7006, 0x8002, 0x8003, 0x8004,
  0x8005, 0x8007, 0x9005, 0x9008, 0xA001, 0xA003, 0xA004, 0xA005, 0xA006, 0xA010, 0xA013, 0xB002,
  0xB006, 0xB00B, 0xB00C, 0xB00D, 0xB021, 0xB022, 0xB023, 0xB026, 0xB030, 0xC002, 0xC004, 0xC011,
  0xC012, 0xC013, 0xD001, 0xD002, 0xD004, 0xD007, 0xD008, 0xE007, 0xE010, 0xF007]

/-- Codes of severity fault. -/
def codesFault : List Nat := [
  0x0020, 0x0021, 0x0025, 0x0026, 0x1013, 0x1015, 0x2020, 0x2022, 0x3001, 0x3011, 0x4001, 0x4003,
  0x4012, 0x5002, 0x5003, 0x5004, 0x5020, 0x5022, 0x5023, 0x5030, 0x6012, 0x9001, 0x9002, 0x9003,
  0xB008, 0xB027, 0xC010, 0xC014, 0xE002, 0xE003, 0xE00A, 0xF003]

/-- Codes of severity critical. -/
def codesCritical : List Nat := [
  0x0024, 0x1014, 0x2002, 0x2010, 0x6002, 0x6003, 0x6004, 0x9004, 0xC016, 0xD005, 0xF006]

/-- Severity of a code (R861); 0 for a code hardware does not write. -/
def sevOf (c : Nat) : Nat :=
  if codesCritical.contains c then 4 else if codesFault.contains c then 3 else if codesWarning.contains c then 2
  else if codesNotice.contains c then 1 else 0

end Sys2Proof.Machine
end

