-- ==== Sys2Proof/Machine/LedgerOps.lean ====
section
/-! DEFINITION. Records and their admission, page programs, sectors, flushes, tail flush, clear and checkpoints (The Ledger). -/

namespace Sys2Proof.Machine
open Sys2Proof

/-- Severity of a record. -/
def LRec.level (r : LRec) : Nat := r.sev % 8

/-- Bytes 0 to 29 of a record (Table 19.1). -/
def LRec.head (r : LRec) : List Nat :=
  leBytes 2 r.code ++ [r.sev, r.src] ++ leBytes 4 r.opsec ++ leBytes 2 r.subsec ++ leBytes 3 r.pcyc ++ [r.seq % 256]
    ++ leBytes 4 r.p0 ++ leBytes 4 r.p1 ++ leBytes 4 r.p2 ++ leBytes 4 r.p3

/-- The 32 bytes of a record, with its CRC and the Mordant mark (R731, R732). -/
def LRec.bytes (r : LRec) : List Nat := r.head ++ [crc8 r.head, 0x5A]

/-- A record stamped now (R734, R736). -/
def State.stampRec (s : State) (r : Raised) : LRec := {
  code := r.code
  sev := (match r.sev with
    | none => sevOf r.code
    | some v => 8 + min v 3) + 16 * b01 s.owner
  src := r.src, opsec := s.ao.opNs / second, subsec := s.ao.opNs % second * 65536 / second
  pcyc := s.ao.powerCycles % 2 ^ 24, p0 := r.p0, p1 := r.p1, p2 := r.p2, p3 := r.p3 }

/-- A record that the Ledger itself writes. -/
def State.metaRec (s : State) (code p0 p1 p2 p3 : Nat) : LRec :=
  s.stampRec { src := 7, code := code, p0 := p32 p0, p1 := p32 p1, p2 := p32 p2, p3 := p32 p3 }

/-- Records of the buffer not yet marked, in sequence order (R741). -/
def State.unflushed (s : State) : List LRec := (s.lg.buf.filter (fun b => !b.flushed)).map (·.r)

/-- The unflushed count; a failed store flushes nothing and bounds nothing (R741, R759). -/
def State.unflCount (s : State) : Nat := if s.lg.failed then 0 else s.unflushed.length + s.lg.held.length

/-- A record of severity fault or higher is unflushed. -/
def State.unflFault (s : State) : Bool := (s.unflushed ++ s.lg.held).any (fun r => decide (3 ≤ r.level))

/-- The last 8,192 of a list (R740). -/
def lgTrim (l : List BRec) : List BRec := l.drop (l.length - 8192)

/-- Accept a record: the next sequence number and a place in the buffer; until the scan is done it is held unnumbered (R735,
R751). -/
def State.lgAccept (s : State) (r : LRec) : State :=
  if s.lg.scanning then { s with lg.held := s.lg.held ++ [r] }
  else { s with
    me.evtDrops := if r.code = 0x8004 then 0 else s.me.evtDrops
    lg.next := s.lg.next + 1
    lg.buf := lgTrim (s.lg.buf ++ [({ r := { r with seq := s.lg.next } } : BRec)]) }

/-- The LG_RL entry that names a code (R737). -/
def State.rlEntry (s : State) (code : Nat) : Option Nat :=
  (List.range 1024).find? (fun i => s.rb (Reg.LG_RL0_VALID i) && s.rf (Reg.LG_RL0_CODE i) == code)

/-- BURST of a code; none when it is not limited (R737, R738). -/
def State.burstOf (s : State) (code level : Nat) : Option Nat :=
  if 4 ≤ level ∨ 0xF000 ≤ code then none
  else match s.rlEntry code with
    | some i => if s.rb (Reg.LG_RL0_NOLIMIT i) then none else some (s.rf (Reg.LG_RL1_BURST i))
    | none => some (s.rf Reg.LG_RL_DEF_BURST)

/-- The admission bound of R741: accept a record, or count it as overflowed (R742). -/
def State.admitRec (s : State) (r : LRec) : State :=
  let top := if 0xF000 ≤ r.code then 256 else if 3 ≤ r.level then 253 else 221
  if s.unflCount < top then s.lgAccept r
  else ({ s with
    lg.overs := s.lg.overs + 1
    lg.overFault := s.lg.overFault + b01 (decide (3 ≤ r.level))
    lg.overFirst := if s.lg.overs = 0 then r.code else s.lg.overFirst }).wr Reg.LG_FELL_OVERFLOW 1

/-- Judge a record on its rate limit, then on admission, and accept, suppress or overflow it (R737 to R742). -/
def State.lgJudge (s : State) (r : LRec) : State :=
  let used := mget 0 s.lg.used r.code
  match s.burstOf r.code r.level with
  | some b =>
    if b ≤ used then
      ({ s with lg.supp := mput 0 s.lg.supp r.code (mget 0 s.lg.supp r.code + 1) }).wr Reg.LG_FELL_SUPPRESSED 1
    else ({ s with lg.used := mput 0 s.lg.used r.code (used + 1) }).admitRec r
  | none => s.admitRec r

/-- Follow the retirements of a physical sector. -/
def Ledger.follow (lg : Ledger) : Nat → Nat → Nat
  | 0, p => p
  | n + 1, p => match lg.retired.find? (fun e => e.1 == p) with
    | some e => lg.follow n e.2
    | none => p

/-- Physical sector of a logical one (R752, R758). -/
def Ledger.phys (lg : Ledger) (l : Nat) : Nat := lg.follow 40 l

/-- Spares not yet used. -/
def Ledger.spares (lg : Ledger) : Nat := 32 - (lg.retired.filter (fun e => decide (e.2 < 1056))).length

/-- Logical sectors in rotation after the one in use, in order (R754, R759). -/
def Ledger.ahead (lg : Ledger) : List Nat :=
  let base := match lg.cur with
    | some l => l + 1
    | none => 0
  ((List.range 1024).map (fun i => (base + i) % 1024)).filter (fun l => !lg.removed.contains l && some l != lg.cur)

/-- Sectors in rotation. -/
def Ledger.inRotation (lg : Ledger) : Nat := 1024 - lg.removed.length

/-- Start the erase of the first logical sector ahead that is not erased, until four stand erased; those of a clear first
(R754, R767). -/
def State.eraseNext (s : State) : State :=
  if s.lg.erasing.isSome || s.lg.failed then s
  else match s.lg.clearErase with
    | l :: _ => { s with lg.erasing := some l }
    | [] =>
      if 4 ≤ s.lg.erased.length then s
      else { s with lg.erasing := s.lg.ahead.find? (fun l => !s.lg.erased.contains l) }

/-- Open the next erased sector with its opening record, numbered at once; none when no sector is ready (R753). -/
def State.openSector (s : State) : Option State :=
  match s.lg.ahead.find? (fun l => s.lg.erased.contains l) with
  | none => none
  | some l =>
    let p := s.lg.phys l
    let n := mget 0 s.lg.opens p + 1
    let q := s.lg.next
    let r := { s.metaRec 0xF002 (loWord q) (hiWord q) l n with seq := q }
    some ({ s with
      lg.next := q + 1
      lg.cur := some l
      lg.slot := 0
      lg.erased := s.lg.erased.filter (fun x => x != l)
      lg.opens := mput 0 s.lg.opens p n
      lg.buf := lgTrim (s.lg.buf ++ [({ r := r } : BRec)])
      lg.prog := [r] }).eraseNext

/-- Start a page program of the first of a list of records, on a fresh page or in the partly filled one; how many it takes; with
no sector ready it waits (R743, R745, R754). -/
def State.pageStart (s : State) (l : List LRec) (fresh : Bool) : State × Nat :=
  let at0 := if fresh then (s.lg.slot + 7) / 8 * 8 else s.lg.slot
  if 2048 ≤ at0 ∨ s.lg.cur.isNone then
    match s.openSector with
    | none => (s, 0)
    | some s1 => ({ s1 with lg.pass := 1, lg.prog := s1.lg.prog ++ l.take 7, lg.progAt := 0 }, min 7 l.length)
  else ({ s with lg.pass := 1, lg.prog := l.take (8 - at0 % 8), lg.progAt := at0 }, min (8 - at0 % 8) l.length)

/-- Flush in sequence order when no program is in progress (R745). -/
def State.flushGo (s : State) : State :=
  if s.lg.pass ≠ 0 || s.lg.tail || s.lg.scanning || s.lg.failed || s.unflushed.isEmpty then s
  else (s.pageStart s.unflushed false).1

/-- Program the next page of a tail flush, or end it; an erase resumes unless PFAIL_N is low (R747, R748). -/
def State.tailGo (s : State) : State :=
  if s.lg.tailQ.isEmpty then { s with lg.tail := false, lg.suspended := s.lg.suspended && s.edge.pfailPinLow }
  else
    let r := s.pageStart s.lg.tailQ true
    { r.1 with lg.tailQ := r.1.lg.tailQ.drop r.2 }

/-- A 0xF006 record that awaits its mark is flushed first among the critical ones (Table 19.3). -/
def State.clearFirst (s : State) (l : List LRec) : List LRec :=
  let mine := fun (r : LRec) => s.lg.clear == 2 && r.seq == s.lg.clearSeq
  let pre := l.takeWhile (fun r => decide (r.level < 4))
  let rest := l.drop pre.length
  pre ++ rest.filter mine ++ rest.filter (fun r => !mine r)

/-- Begin a tail flush; one in progress continues (R747, R748, R768). -/
def State.tailFlush (s : State) : State :=
  if s.lg.tail || s.lg.scanning || s.lg.failed then s
  else
    let busy := if s.lg.pass = 0 then [] else s.lg.prog.map (·.seq)
    let u := s.unflushed.filter (fun r => !busy.contains r.seq)
    let f := match u with
      | r :: _ => r.seq
      | [] => s.lg.next
    let faults := u.filter (fun r => decide (3 ≤ r.level))
    let rest := u.filter (fun r => decide (r.level < 3))
    let e := f + u.length
    let a := { s.metaRec 0xF004 (loWord f) (hiWord f) u.length faults.length with seq := s.lg.next }
    let z := { s.metaRec 0xF005 (loWord e) (hiWord e) 0 0 with seq := s.lg.next + 1 }
    let s1 := { s with
      lg.next := s.lg.next + 2
      lg.buf := lgTrim (s.lg.buf ++ [({ r := a } : BRec), { r := z }])
      lg.tail := true
      lg.tailQ := [a] ++ s.clearFirst faults ++ rest ++ [z]
      lg.suspended := s.lg.erasing.isSome }
    if s.lg.pass = 0 then s1.tailGo else s1

/-- The data pass leaves the records of the page in flash without their marks. -/
def State.writeData (s : State) : State :=
  match s.lg.cur with
  | none => s
  | some l =>
    let b := 2048 * s.lg.phys l + s.lg.progAt
    { s with lg.slots := (s.lg.prog.zipIdx).foldl (fun m e => mins m (b + e.2) ({ r := e.1 } : FSlot)) s.lg.slots }

/-- The mark pass completes: the records of the page exist, and they are flushed (R743). -/
def State.writeMarks (s : State) : State :=
  match s.lg.cur with
  | none => s
  | some l =>
    let b := 2048 * s.lg.phys l + s.lg.progAt
    let seqs := s.lg.prog.map (·.seq)
    { s with
      lg.slots := (s.lg.prog.zipIdx).foldl (fun m e => mins m (b + e.2) ({ r := e.1, marked := true } : FSlot)) s.lg.slots
      lg.buf := s.lg.buf.map (fun x => if seqs.contains x.r.seq then { x with flushed := true } else x)
      lg.slot := s.lg.progAt + s.lg.prog.length
      lg.pass := 0
      lg.prog := [] }

/-- Slots of a physical sector. -/
def Ledger.sector (lg : Ledger) (p : Nat) : List (Nat × FSlot) :=
  lg.slots.filter (fun e => decide (2048 * p ≤ e.1) && decide (e.1 < 2048 * p + 2048))

/-- A sector shows wear: 0xD002; it is retired to the lowest spare, with 0xD003, or its logical sector leaves the rotation with
0xD004, and fewer than 64 fail the store with 0xD005 (R757 to R759). -/
def State.retire (s : State) (l cause ms typ : Nat) : State :=
  let p := s.lg.phys l
  let s1 := (s.emit 7 0xD002 p cause ms typ).wr Reg.LG_FELL_RETIRED 1
  let n := s.lg.spares
  if n = 0 then
    let s2 := { s1 with
      lg.retired := s1.lg.retired ++ [(p, 1056)]
      lg.removed := s1.lg.removed ++ [l]
      lg.erased := s1.lg.erased.filter (fun x => x != l) }
    let s3 := s2.emit 7 0xD004 l s2.lg.inRotation
    if s2.lg.inRotation < 64 ∧ !s2.lg.failed then
      (({ s3 with lg.failed := true }).wr Reg.LG_FELL_STORE_FAIL 1).emit 7 0xD005 s2.lg.inRotation
    else s3
  else
    let q := 1024 + (32 - n)
    ({ s1 with
      lg.retired := s1.lg.retired ++ [(p, q)]
      lg.erased := s1.lg.erased.filter (fun x => x != l) }).emit 7 0xD003 l p q (n - 1)

/-- Records that a read can return: how many (R766). -/
def State.lgPresent (s : State) : Nat :=
  let fl := (s.lg.slots.filter (fun e => e.2.marked && decide (s.lg.oldest ≤ e.2.r.seq))).map (fun e => e.2.r.seq)
  fl.length + (s.lg.buf.filter (fun b => !fl.contains b.r.seq)).length

/-- An authorised clear: 0xF006, flushed at once; it takes effect at its mark (R766). -/
def State.clearGrant (s : State) (key : Nat) : State :=
  let q := s.lg.next - 1
  let s1 := { s with lg.clear := 2, lg.clearSeq := s.lg.next }
  (s1.lgAccept (s.metaRec 0xF006 (loWord q) (hiWord q) s.lgPresent key)).flushGo

/-- The clear takes effect, and the sectors that hold only cleared records are to be erased (R766, R767). -/
def State.clearEffect (s : State) : State :=
  let old := s.lg.ahead.filter (fun l => !s.lg.erased.contains l && !(s.lg.sector (s.lg.phys l)).isEmpty)
  (({ s with
    lg.clear := 0
    lg.oldest := s.lg.clearSeq
    lg.buf := s.lg.buf.filter (fun b => decide (s.lg.clearSeq ≤ b.r.seq))
    lg.clearErase := (List.range 1024).filter (fun l => old.contains l) }).wr Reg.LG_FELL_CLEARED 1).eraseNext

/-- The record with a sequence number, from the buffer or from flash (R760). -/
def State.recordAt (s : State) (n : Nat) : Option LRec :=
  if n < s.lg.oldest ∨ s.lg.next ≤ n then none
  else match s.lg.buf.find? (fun b => b.r.seq == n) with
    | some b => some b.r
    | none => (s.lg.slots.find? (fun e => e.2.marked && e.2.r.seq == n)).map (fun e => e.2.r)

/-- AO checkpoints the meter, operating seconds, power cycles and the next sequence number (R139, R750). -/
def State.checkpoint (s : State) : State :=
  { s with
    ao.ckMeter := s.ao.meterUj
    ao.ckOpSec := s.ao.opNs / second
    ao.ckCycles := s.ao.powerCycles
    ao.ckNext := if s.lg.scanning then s.ao.ckNext else some s.lg.next }

end Sys2Proof.Machine
end

