-- ==== Sys2Proof/Machine/StreamOps.lean ====
section
/-! DEFINITION. The Ledger stream (R762 to R764). -/

namespace Sys2Proof.Machine
open Sys2Proof

/-- The next record to stream: the first of the buffer at or above the one due (R762). -/
def State.streamNext (s : State) (n : Nat) : Option LRec := ((s.lg.buf.map (·.r)).filter (fun r => decide (n ≤ r.seq))).foldl (fun b r => match b with
  | none => some r
  | some x => if r.seq < x.seq then some r else some x) none

/-- The sequence number at which streaming goes on: past what a clear took, and past what has left the buffer, which is a gap
(R764, R766). -/
def State.streamFrom (s : State) (n : Nat) : Nat × State :=
  let n1 := max n s.lg.oldest
  if s.lg.buf.any (fun b => b.r.seq == n1) || decide (s.lg.next ≤ n1) then (n1, s)
  else match s.lg.buf with
    | [] => (n1, s)
    | b :: _ =>
      let m := (s.lg.buf.map (fun x => x.r.seq)).foldl min b.r.seq
      if n1 < m then (m, (s.wr Reg.LG_FELL_STREAM_GAP 1).emit 7 0xD008 (loWord n1) (m - n1)) else (n1, s)

/-- Stream the next record when channel 6 is free and the ring has a slot: it is staged in table SRAM and moved (R762, R763). DEDUCED, log
entry 46. -/
def State.streamPump (s : State) : State :=
  let t := s.rf Reg.LG_ST_TAIL_TAIL
  let m := 2 ^ s.rf Reg.LG_ST_CFG_SIZE_LOG2
  match s.lg.stNext with
  | none => s
  | some n0 =>
    if !s.rb Reg.LG_ST_CFG_ENABLE || s.inReset 5 || !s.polRuns || (s.fch 6).st == 1 || (s.fch 6).st == 2
        || (t + 1) % m == s.rf Reg.LG_ST_HEAD_HEAD then s
    else
      let f := s.streamFrom n0
      let s1 := { f.2 with lg.stNext := some f.1 }
      match s1.streamNext f.1 with
      | none => s1
      | some r =>
        let stage := s.rf Reg.LG_ST_STAGE_OFFSET * 4096 + 64 * (t % 64)
        let l := r.bytes ++ leBytes 8 r.seq ++ List.replicate 24 0
        let base := s.rf Reg.LG_ST_BASE_LO_BASE * 64 + s.rf Reg.LG_ST_BASE_HI_BASE * 2 ^ 32
        let s2 := { s1 with ik.table := writeBytes s1.ik.table stage 64 (ofLe l), lg.stNext := some r.seq }
        (s2.chStart 6 { ctx := 0, iova := base + 64 * t, tsram := stage, len := 64, toHost := true }).flPump

/-- A record has reached the host ring (R763). -/
def State.streamDone (s : State) : State :=
  let m := 2 ^ s.rf Reg.LG_ST_CFG_SIZE_LOG2
  (({ s with lg.stSince := true, lg.stNext := s.lg.stNext.map (· + 1) }).wr Reg.LG_ST_TAIL_TAIL ((s.rf Reg.LG_ST_TAIL_TAIL + 1) % m)).streamPump

end Sys2Proof.Machine
end

