-- ==== Sys2Proof/Machine/FlumeRun.lean ====
section
/-! DEFINITION. What the end of a transfer does for each user of Flume, and letting everything run that can (R594, R615). -/

namespace Sys2Proof.Machine
open Sys2Proof

/-- A channel writes what has arrived in order; a transfer that is whole is done: a host channel raises its vector, the stream
and the export go on; a table channel waits for its publication (R573, R596). -/
def State.chSettle (s : State) (n : Nat) : State :=
  if !s.polRuns then s
  else
    let s1 := chDrain n 16384 s
    let c := s1.fch n
    if !c.complete || n < 6 then s1
    else
      let s2 := s1.setFch n { c with st := 3 }
      if n = 6 then s2.streamDone
      else if n = 7 then s2.expDone
      else if s2.rb (Reg.FL_CH_CFG_IRQ n) then s2.raiseVec (s2.rf (Reg.FL_CH_CFG_VEC n)) else s2

/-- With HOLD 0 a halted table channel is aborted at once (R615). -/
def State.holdZero (s : State) : State :=
  if s.rf Reg.FL_CFG_HOLD ≠ 0 then s
  else s.upto 6 (fun n x => if (x.fch n).st = 2 then (x.wr Reg.FL_FELL_EXPIRED 1).loadAbort n 1 else x)

/-- Let the front end and every channel do what they can. -/
def State.flSettle (s : State) : State :=
  ((((s.cfSettle).upto 16 (fun n x => x.chSettle n)).streamPump).holdZero).cfSettle

/-- Launches that are lost complete, and the front end goes on (R577). -/
def State.lostSweep (s : State) : State := s.launchSweep.flSettle

/-- An instruction of a core, after which a launch whose handler was lost with its core completes (R516, R577). -/
def State.ran (s : State) (c : Nat) (t : State) : Res :=
  .next (if (s.core c).launchId.isSome && (t.core c).launchId.isNone then t.lostSweep else t)

/-- A Halt Sweep is released, and what was stopped goes on (R815). -/
def State.haltEnd (s : State) (cause : Nat) : State := if s.ob.halted then (s.haltRelease cause).flSettle else s

/-- End of a halted transfer by ABORT (R614). -/
def State.chAbort (s : State) (n : Nat) : State :=
  let c := s.fch n
  if c.st ≠ 2 then s
  else if n < 6 then s.loadAbort n 0
  else
    let s1 := (s.setFch n { c with st := 4, walk := none }).emit 3 0xA012 n c.done 0
    if n = 7 then { s1 with ob.inFlight := false } else s1

/-- A halted channel goes on from DONE; a RESUME elsewhere is rejected (R614, R617). -/
def State.chResume (s : State) (n : Nat) : State :=
  let c := s.fch n
  if c.st ≠ 2 then s.wr Reg.FL_FELL_REJECT 1
  else (s.setFch n { c with st := 1 }).emit 3 0xA011 n c.done

/-- START of a host channel (R594). -/
def State.chHostStart (s : State) (n : Nat) : State :=
  let len := s.rf (Reg.FL_CH_LEN_LEN n)
  let ts := 8 * s.rf (Reg.FL_CH_TSRAM_OFFSET n)
  let st := (s.fch n).st
  if n < 8 ∨ st = 1 ∨ st = 2 ∨ len = 0 ∨ len % 8 ≠ 0 ∨ 1048576 < len ∨ 1048576 < ts + len then s.wr Reg.FL_FELL_REJECT 1
  else s.chStart n {
    ctx := s.rf (Reg.FL_CH_CFG_CONTEXT n), iova := 8 * s.rf (Reg.FL_CH_IOVA_LO_IOVA n) + s.rf (Reg.FL_CH_IOVA_HI_IOVA n) * 2 ^ 32
    tsram := ts, len := len, toHost := s.rb (Reg.FL_CH_CFG_DIR n) }

/-- A keyed write of FL_CH_CTL. -/
def State.flCtl (s : State) (n v : Nat) : State :=
  s.keyedWrite (Reg.FL_CH_CTL n) v (fun x =>
    let a := if bitOf v 0 then x.chHostStart n else x
    let b := if bitOf v 1 then a.chResume n else a
    (if bitOf v 2 then b.chAbort n else b).flSettle)

/-- A page-table entry arrives for a channel's walk (R603 to R606). -/
def State.chWalk (s : State) (n e : Nat) (ok : Bool) : State :=
  let c := s.fch n
  match c.walk with
  | none => s
  | some w =>
    if !ok then s.chFault n c.issued 6 w.iova (some w.level) true
    else match w.judge e with
      | .bad kind => s.chFault n c.issued kind w.iova (some w.level) true
      | .next w1 => (s.setFch n { c with walk := some w1 }).out (.hostRead n w1.entryAt 8)
      | .leaf t => (s.tlbFill t).setFch n { c with walk := none }

/-- A page-table entry arrives for a walk of a ring (16 + r) or of the fault log; the access goes out with its leaf (R603 to
R606, R613). -/
def State.feWalk (s : State) (u e : Nat) (ok : Bool) : State :=
  match s.fl.fe.find? (fun a => a.ring + 16 == u && a.walk.isSome) with
  | none => s
  | some a =>
    match a.walk with
    | none => s
    | some w =>
      let fail := fun (kind : Nat) => (s.feSwap a none).feFault a kind w.iova (some w.level) true
      if !ok then fail 6
      else match w.judge e with
        | .bad kind => fail kind
        | .next w1 => (s.feSwap a (some { a with walk := some w1 })).out (.hostRead u w1.entryAt 8)
        | .leaf t => (s.tlbFill t).feIssue a (t.out * 2 ^ t.bits + a.iova % 2 ^ t.bits)

/-- Bytes that arrived, cut or filled to a length. -/
def arrivedBytes (l : List Byte) (n : Nat) : List Nat := (List.range n).map (fun i => (l.getD i 0).toNat)

end Sys2Proof.Machine
end

