-- ==== Sys2Proof/Machine/Engine.lean ====
section
/-! DEFINITION. The message engine's commands (Message Engine). -/

namespace Sys2Proof.Machine
open Sys2Proof

/-- A write of ME_QCFG: DEPTH, READER and ACCEPT of an enabled queue do not change; ENABLE takes units from the pool or gives
them back (R457, R458). Queues keep ENABLE at 0 while the fields of the same write apply (R457). -/
def State.qcfgWrite (s : State) (q v : Nat) : State :=
  let a := Reg.ME_QCFG q
  let was := s.rb (Reg.ME_QCFG_ENABLE q)
  let nd := clampN 1 32 (bitsOf v 5 0)
  let changes := nd != s.rf (Reg.ME_QCFG_DEPTH q) || bitsOf v 23 20 != s.rf (Reg.ME_QCFG_READER q)
    || bitsOf v 28 27 != s.rf (Reg.ME_QCFG_ACCEPT q)
  if was && bitOf v 31 && changes then (s.rsvdCheck a v).wr Reg.ME_FELL_ACCESS 1
  else
    let s1 := if was && !bitOf v 31 then s.qDisable q else s
    let s2 := s1.writeFields a (setBitsOf v 31 31 (b01 was))
    let s3 := s2.wr (Reg.ME_QCFG_ENABLE q) (b01 (was && bitOf v 31))
    if !was && bitOf v 31 then s3.qEnable q else s3

/-- QCFG_WRITE (R455, R457, R458). -/
def execQcfgWrite (q : Fin 4096) (v : Word) (s : State) : Res :=
  .next (match s.serve (Reg.ME_QCFG q) true with
    | (true, s1) => (s1.qcfgWrite q v.toNat).launchSweep.flSettle
    | (false, s1) => s1)

/-- A read of the window by a requester: nothing is removed while POL is in reset or stopped (Table 3.3, R812). -/
def State.popRead (s : State) (req q : Nat) (wide : Bool) : State :=
  match s.serve (Reg.ME_POP q) true with
  | (false, s1) => s1.out (.readData (Reg.ME_POP q) 0)
  | (true, s1) =>
    let r0 := s1.popBy req q
    let r := (r0.1, r0.2.launchSweep.flSettle)
    let w0 := r.1.getD 0 0
    let w1 := r.1.getD 1 0
    r.2.out (.readData (Reg.ME_POP q) (if wide then w0 + 2 ^ 32 * w1 else w0))

/-- ME_POP_READ (R482, R483, R485). -/
def execMePopRead (req : Fin 9) (q : Fin 4096) (s : State) : Res := .next (s.popRead req q false)

/-- ME_POP64_READ (R484, R485). -/
def execMePop64Read (req : Fin 9) (q : Fin 4096) (s : State) : Res := .next (s.popRead req q true)

/-- COLLECT_TIMEOUT: a round with arrivals is delivered as it stands, PARTIAL, with 0x8006; TIMEOUT 0 disables the rule
(R481). -/
def execCollectTimeout (g : Fin 4096) (s : State) : Res :=
  let r := mget ({} : Round) s.me.rounds g
  if s.rf (Reg.ME_GRP0_KIND g) = 2 ∧ 0 < r.arrivals ∧ s.rf (Reg.ME_GRP1_TIMEOUT g) ≠ 0 then
    .next ((s.collectDeliver g true).emit 3 0x8006 g r.arrivals (s.rf (Reg.ME_GRP1_EXPECT g)))
  else .next s

/-- COLLECT_RETRY: one retry of each undelivered result of a group, oldest first (R481). -/
def execCollectRetry (g : Fin 4096) (s : State) : Res :=
  let r := mget ({} : Round) s.me.rounds g
  .next (r.results.foldl (fun x e => x.collectTry g e) { s with me.rounds := mput {} s.me.rounds g { r with results := [] } })

end Sys2Proof.Machine
end

