-- ==== Sys2Proof/Machine/Fabric.lean ====
section
/-! DEFINITION. The commands of the Vexurn fabric (Vexurn Fabric). -/

namespace Sys2Proof.Machine
open Sys2Proof

/-- PORT_UP: an enabled port has held block lock for 1 ms with VXn_LOS low, and, over SFI, VXn_ABS_N low: it is up, with 0xB001. `fec` tells
whether the other end advertises clause 74 FEC; it is in use on a 10GBASE-KR port whose FEC is 1 too (R624, R625). -/
def execPortUp (p : Fin 6) (fec : Bool) (s : State) : Res :=
  let x := s.vp p
  let mode := s.rf (Reg.VX_PORT_CFG_MODE p)
  let on := fec && mode == 0 && s.rb (Reg.VX_PORT_CFG_FEC p)
  .next (if s.fabRuns && s.rb (Reg.VX_PORT_CFG_ENABLE p) && s.edge.vxrefOk && x.link != 2 then
    ({ s with
      edge.vxLos := setBitsOf s.edge.vxLos p p 0
      edge.vxAbs := if mode = 0 then s.edge.vxAbs else setBitsOf s.edge.vxAbs p p 0 }.setVp p
        { x with link := 2, fecOn := on, nbr := 0, foreignTold := false, busyTo := s.now }).emit 4 0xB001 p mode (b01 on)
  else s)

/-- PORT_DOWN: VXn_LOS is high (cause 0) or block lock lost (1) for 10 us, or VXn_ABS_N is high (2), which takes down a port over SFI only
(R90, R626, R669). -/
def execPortDown (p : Fin 6) (cause : Fin 3) (s : State) : Res :=
  let s1 : State := match cause.val with
    | 0 => { s with edge.vxLos := setBitsOf s.edge.vxLos p p 1 }
    | 1 => s
    | _ => { s with edge.vxAbs := setBitsOf s.edge.vxAbs p p 1 }
  .next (if s.inReset 4 || (s.vp p).link == 0 || (cause == 2 && !s.rb (Reg.VX_PORT_CFG_MODE p)) then s1 else s1.portDown p cause 3)

/-- AUTONEG_RESTART: a 10GBASE-KR port that has not come up starts auto-negotiation again (R625). -/
def execAutonegRestart (p : Fin 6) (s : State) : Res :=
  let x := s.vp p
  .next (if s.fabRuns && s.rb (Reg.VX_PORT_CFG_ENABLE p) && !s.rb (Reg.VX_PORT_CFG_MODE p) && x.link != 2 then
    s.setVp p { x with link := 1 }
  else s)

/-- HELLO_TIMER: every port that is up sends HELLO (R637). -/
def execHelloTimer (s : State) : Res :=
  .next (if s.fabRuns then s.upto 6 (fun p x => if (x.vp p).link = 2 then x.sendHello p else x) else s)

/-- The body of a held SUMMARY (Table 16.5). -/
def State.sumBody (s : State) (m : Summary) : List Nat :=
  leBytes 4 m.origin ++ leBytes 4 m.sseq ++ leBytes 2 (m.age + (s.now - m.since) / second) ++ [m.part, m.parts]
    ++ leBytes 2 m.entries.length ++ [0, 0] ++ leBytes 8 m.croot ++ [m.crkey, m.crprio, 0, 0]
    ++ m.entries.flatMap (fun e => [e.1] ++ leBytes 2 e.2.1 ++ [e.2.2, 0, 0, 0, 0])

/-- Send the database to a neighbour that has reached TWOWAY (R642): every LSA, and every SUMMARY of the group, a border node's own
included; none crosses a border (R641, R647). -/
def State.dbSync (s : State) (p : Nat) : State :=
  let x := s.vp p
  let s1 := if s.sameGroup x.nbAddr ∨ x.nbAddr = 0 then
      s.fb.lsas.foldl (fun y e => y.vxSend [p] 0x04 0x12 0xFFFFFFFF (y.lsaBody e.1 e.2)) s
    else s
  let s2 := if s1.sameGroup x.nbAddr then
      let t := s1.fb.sums.foldl (fun y m => if m.port.isSome then y else y.vxSend [p] 0x05 0x12 0xFFFFFFFF (y.sumBody m)) s1
      if t.border && t.myAddr != 0 then t.sendSummary [p] 0x12 t.learned else t
    else s1
  s2.setVp p { s2.vp p with synced := true }

/-- A neighbour reaches FULL, with 0xB003: this node claims its address at its first of the group, reoriginates, and sends it
the ceiling held (R634, R636, R682). -/
def State.nbrFull (s : State) (p : Nat) : State :=
  let x := s.vp p
  let s1 := (s.setVp p { x with nbr := 3 }).emit 4 0xB003 p x.nbAddr (loWord x.nbId)
  let s2 := if s1.sameGroup x.nbAddr ∧ (s1.myAddr = 0 ∨ (s1.fb.lsas.find? (fun e => e.1 == s1.myId)).isNone) then (s1.claim s1.fb.probe).conflict
    else s1.originate
  let s3 := if s2.sameCatch x.nbAddr ∧ s2.rf Reg.VX_CVER_VERSION ≠ 0 then s2.floodCeil [p] else s2
  if s3.border then s3.foreignPorts.foldl (fun y q => y.foreignSummary q) s3 else s3

/-- A node with no CATCH and GROUP adopts those of a neighbour in TWOWAY or above that holds an address (R632). A neighbour that takes its
address after reaching TWOWAY counts from then: DEDUCED, log entry 143. -/
def State.adopt (s : State) (p : Nat) : State :=
  let x := s.vp p
  if s.cgNow.isNone ∧ 2 ≤ x.nbr ∧ x.nbAddr ≠ 0 then { s with fb.cg := some (catchOf x.nbAddr, x.nbAddr / 2 ^ 15 % 512) } else s

/-- One step of the neighbour state machine on a HELLO (Table 16.4). -/
def State.helloStep (s : State) (p : Nat) (seen flags : Nat) : State :=
  let x := s.vp p
  match x.nbr with
  | 0 => s.setVp p { x with nbr := 1, synced := false }
  | 1 =>
    if seen = s.myId then
      let s1 := s.setVp p { x with nbr := 2 }
      (s1.adopt p).dbSync p
    else s
  | n =>
    if seen ≠ s.myId then s.nbrLost p 3 1
    else if n = 2 ∧ x.synced ∧ bitOf flags 4 then s.nbrFull p
    else s

/-- HELLO_RECEIVED (R637 to R639, R661). -/
def execHelloReceived (p : Fin 6) (l : List Byte) (s : State) : Res :=
  .next (s.vxTake p 0x01 l (fun f s =>
    let id := fbody f 0 8
    let addr := fbody f 8 4
    let x := s.vp p
    if addr ≠ 0 ∧ s.groupBase.isSome ∧ !s.sameCatch addr ∧ !s.rb (Reg.VX_PORT_CFG_BORDER_CATCH p) then
      let s1 := s.nbrLost p 3 0
      if x.foreignTold then s1
      else (s1.setVp p { s1.vp p with foreignTold := true }).emit 4 0xB00D p addr
    else
      let s1 := if x.nbr ≠ 0 ∧ x.nbId ≠ id then s.nbrLost p 3 0 else s
      let y := s1.vp p
      let moved := y.nbr = 3 ∧ y.nbAddr ≠ addr
      let s2 := s1.setVp p { y with
        nbId := id, nbAddr := addr, nbFlags := fbody f 13 1, nbThops := fbody f 14 1, nbChops := fbody f 15 1 }
      let s3 := s2.adopt p
      let s4 := if !moved then s3
        else if s3.myAddr = 0 ∧ s3.sameGroup addr then (s3.claim s3.fb.probe).conflict
        else s3.originate
      (s4.helloStep p (fbody f 16 8) (fbody f 13 1)).timeParent))

/-- NEIGHBOUR_DEAD: no HELLO for 400 us; the port is down with cause 3 (R626, R638). -/
def execNeighbourDead (p : Fin 6) (s : State) : Res :=
  .next (if s.inReset 4 || (s.vp p).nbr == 0 then s else s.portDown p 3 3)

/-- A time stamp read from a body. -/
def stampAt (f : VxFrame) (off : Nat) : Nat := fbody f off 8 * 65536 + fbody f (off + 8) 2

/-- TREQ_TIMER: a child sends TREQ to its parent (R658). -/
def execTreqTimer (s : State) : Res :=
  .next (match s.fb.parent with
    | none => s
    | some p =>
      if s.fabRuns then
        let n := (s.fb.xseq + 1) % 65536
        let t := s.weir16
        ({ s with fb.xseq := n, fb.t1 := t }).vxSend [p] 0x02 0x09 0xFFFFFFFF (leBytes 2 n ++ [0, 0] ++ stamp t)
      else s)

/-- TREQ_RECEIVED: the parent answers with T1 echoed, the arrival T2 and the departure T3 (R658). -/
def execTreqReceived (p : Fin 6) (l : List Byte) (s : State) : Res :=
  .next (s.vxTake p 0x02 l (fun f s =>
    s.vxSend [p.val] 0x03 0x09 0xFFFFFFFF (leBytes 2 (fbody f 0 2) ++ [0, 0] ++ stamp (stampAt f 4) ++ stamp s.weir16
      ++ stamp s.weir16)))

/-- The clock steers to its parent by an offset of `x` units of 2^-16/20 ns (R662). The size of a slew is the servo's own: a
free value within 200 ppm of the time since the last exchange. -/
def State.steer (s : State) (p : Nat) (x : Int) : State :=
  let us1 : Int := 1310720000
  let ns : Int := 1310720
  let keep := s.fb.locked && !(s.fb.newParent && decide (50 * ns < (x.natAbs : Int)))
  let s0 := { s with fb.newParent := false, fb.holdover := false, fb.theta := x * 10 / ns, fb.exchAt := s.now, fb.locked := keep }
  if s0.isGroot && s0.fb.ppsValid then
    let secs := (x + ns * 500000000) / (ns * 1000000000)
    { s0 with fb.ofs := s0.fb.ofs + secs * 65536 * 1000000000 }
  else if !keep && decide (us1 < (x.natAbs : Int)) then
    let step := x / ns
    let c := codeOf 64 step
    ({ s0 with fb.ofs := s0.fb.ofs + x / 20, fb.good := 0, fb.bad := 0 }).emit 4 0xB00A (loWord c) (hiWord c) p
  else
    let b : Int := ((s.now - s.fb.exchAt) * 65536 / 5000 : Nat)
    let d := s0.draw 162
    let good := if (x.natAbs : Int) ≤ 5 * ns then satU 5 (s.fb.good + 1) else 0
    let bad := if 50 * ns < (x.natAbs : Int) then satU 2 (s.fb.bad + 1) else 0
    { d.2 with
      fb.ofs := s0.fb.ofs + clampI (-b) b (signedOf 64 d.1)
      fb.good := good
      fb.bad := bad
      fb.locked := if keep then decide (bad < 2) else decide (16 ≤ good) }

/-- TRSP_RECEIVED: the answer of the parent to the TREQ last sent gives theta (R658, R662, R663). -/
def execTrspReceived (p : Fin 6) (l : List Byte) (s : State) : Res :=
  .next (s.vxTake p 0x03 l (fun f s =>
    let t4 : Int := (s.weir16 : Nat)
    if s.fb.parent = some p.val ∧ fbody f 0 2 = s.fb.xseq ∧ stampAt f 4 = s.fb.t1 then
      let t1 : Int := (s.fb.t1 : Nat)
      let t2 : Int := (stampAt f 14 : Nat)
      let t3 : Int := (stampAt f 24 : Nat)
      s.steer p (((t2 - t1) + (t3 - t4)) * 10 - signedOf 8 (s.rf (Reg.VX_PORT_CFG_ASYM p)) * 65536)
    else s))

/-- HOLDOVER: a parent that gives no TRSP for 1 ms (R663). -/
def execHoldover (s : State) : Res :=
  .next (match s.fb.parent with
    | some p => if s.fabRuns then s.enterHoldover p 1 else s
    | none => s)

/-- An LSA from a frame's body (Table 16.4a). -/
def State.lsaOf (s : State) (f : VxFrame) : Lsa := {
  address := fbody f 8 4, lseq := fbody f 12 4, age := fbody f 16 2, flags := fbody f 18 1, tprio := fbody f 19 1
  twin := fbody f 20 4, since := s.now
  nbrs := (List.range (fbody f 24 1)).map (fun k => (fbody f (28 + 8 * k) 4, fbody f (32 + 8 * k) 1, fbody f (33 + 8 * k) 1)) }

/-- LSA_RECEIVED: a newer LSA of this node's group replaces the one held and is forwarded; a full database is recorded; a lost
address is claimed again (R635, R641, R650). Of this node's own identity, a copy that outlived it makes it originate a newer
one. -/
def execLsaReceived (p : Fin 6) (l : List Byte) (s : State) : Res :=
  .next (s.vxTake p 0x04 l (fun f s =>
    let id := fbody f 0 8
    let l := s.lsaOf f
    if (s.vp p).nbr < 2 ∨ !s.sameGroup l.address then s
    else if id = s.myId then
      if s.fb.lseq < l.lseq ∧ s.myAddr ≠ 0 then ({ s with fb.lseq := l.lseq }).originate else s
    else
      let held := s.fb.lsas.find? (fun e => e.1 == id)
      let newer := match held with
        | none => true
        | some e => decide (e.2.lseq < l.lseq) || (e.2.lseq == l.lseq && decide (l.age < s.lsaAge e.2))
      if !newer then s
      else if held.isNone && decide (32768 ≤ s.fb.lsas.length) then
        (s.wr Reg.VX_FELL_TABLE 1).emit 4 0xB008 0 s.fb.lsas.length
      else
        let s1 := { s with fb.lsas := mput {} s.fb.lsas id l }
        (s1.vxForward (s1.groupPorts.filter (fun q => q != p.val)) f (s1.lsaBody id l)).conflict))

/-- LSA_REFRESH: this node originates its LSA (R640). -/
def execLsaRefresh (s : State) : Res := .next (if s.fabRuns then s.originate else s)

/-- LSA_AGE_OUT: an LSA of age 120 s is removed (R641). -/
def execLsaAgeOut (id : DWord) (s : State) : Res :=
  .next (if s.fabRuns && id.toNat != s.myId then { s with fb.lsas := mdel s.fb.lsas id.toNat } else s)

/-- ADDRESS_CLAIM: with no FULL neighbour of its group, a node that holds no address claims one (R634). -/
def execAddressClaim (s : State) : Res :=
  .next (if s.fabRuns && s.myAddr == 0 then (s.claim 0).conflict else s)

/-- ROUTE_RECOMPUTE: routes, then the time roots and the parent (R643, R644, R660, R661). -/
def execRouteRecompute (s : State) : Res :=
  .next (if s.fabRuns then ({ s with fb.routes := s.computeRoutes, fb.dead := [] }).judgeRoots else s)

/-- SUMMARY_TIMER: a border node sends SUMMARY to its foreign neighbours and floods its own (R646, R647). -/
def execSummaryTimer (s : State) : Res :=
  .next (if s.fabRuns && s.border && s.myAddr != 0 then (s.foreignPorts.foldl (fun x p => x.foreignSummary p) s).floodSummary else s)

/-- SUMMARY_RECEIVED: a SUMMARY is held; one from a foreign neighbour makes the border node flood its own, a flooded one that
is newer is forwarded; a change goes to the other foreign neighbours; entries past 4,096 are not installed, with 0xB008 (R646, R647, R650, R660). -/
def execSummaryReceived (p : Fin 6) (l : List Byte) (s : State) : Res :=
  .next (s.vxTake p 0x05 l (fun f s =>
    let foreign := f.cls == 0x0A
    let a := (s.vp p).nbAddr
    let m : Summary := {
      origin := fbody f 0 4, part := fbody f 10 1, parts := fbody f 11 1, age := fbody f 8 2, since := s.now, sseq := fbody f 4 4, port := if foreign then some p.val else none
      croot := fbody f 16 8, crkey := fbody f 24 1, crprio := fbody f 25 1
      entries := (List.range (fbody f 12 2)).map (fun i =>
        (fbody f (28 + 8 * i) 1, fbody f (29 + 8 * i) 2 % 512, fbody f (31 + 8 * i) 1)) }
    let same := fun (x : Summary) => x.origin == m.origin && x.port == m.port && x.part == m.part
    let older := match s.fb.sums.find? same with
      | some x => decide (m.sseq < x.sseq) || (!foreign && x.sseq == m.sseq)
      | none => false
    let rest := s.fb.sums.filter (fun x => !same x)
    let count := (rest.map (fun x => x.entries.length)).sum
    if !s.full p || m.origin == s.myAddr || (foreign && s.sameGroup a) || (!foreign && !s.sameGroup a) || older then s
    else
      let s1 := { s with fb.sums := rest ++ [{ m with entries := m.entries.take (4096 - count) }] }
      let s2 := if 4096 < count + m.entries.length then (s1.wr Reg.VX_FELL_TABLE 1).emit 4 0xB008 1 4096 else s1
      let s3 := if foreign then s2.floodSummary
        else s2.vxForward (s2.groupPorts.filter (fun q => q != p.val)) f (f.body.map (fun b => b.toNat))
      State.sumTell s s3.judgeRoots))

/-- SUMMARY_EXPIRY: the SUMMARY of an originator not refreshed for 4 s is dropped (R647). -/
def execSummaryExpiry (origin : Word) (s : State) : Res :=
  .next (if s.fabRuns then
    State.sumTell s ({ s with fb.sums := s.fb.sums.filter (fun m => m.origin != origin.toNat) }).judgeRoots
  else s)

/-- Deliver a DGRAM to its queue, or refuse it (R655). -/
def State.dgramDeliver (s : State) (f : VxFrame) : State :=
  let tag := fbody f 0 2
  let q := fbody f 2 2 % 4096
  let src := f.src.toNat
  if q < 16 ∨ (!s.sameCatch src ∧ !s.rb Reg.VX_PROV2_FOREIGN) then s.dgnak src tag q 7
  else
    let r := s.sendQueue q {
      tag := tag, source := 0x20, p0 := BitVec.ofNat 64 (src + 2 ^ 32 * fbody f 4 4), p1 := BitVec.ofNat 64 (fbody f 8 8)
      p2 := BitVec.ofNat 64 (fbody f 16 8) }
    if r.1 = resOk then r.2 else r.2.dgnak src tag q r.1

/-- DGRAM_RECEIVED: delivered here, or forwarded, or refused (R648, R649, R655, R656). -/
def execDgramReceived (p : Fin 6) (l : List Byte) (s : State) : Res :=
  .next (s.vxTake p 0x06 l (fun f s =>
    if !s.full p then s
    else if f.dst.toNat = s.myAddr ∧ s.myAddr ≠ 0 then s.dgramDeliver f else s.vxRoute f))

/-- Entries of VX_REP in use that name an address and a queue. -/
def State.repNaming (s : State) (a q : Nat) : List Nat :=
  (s.regs.filter (fun e => decide (Reg.VX_REP1 0 ≤ e.1 / 32) && decide (e.1 / 32 < Reg.VX_REP1 4096) && e.1 % 32 == 31)).filterMap
    (fun e =>
      let n := (e.1 / 32 - Reg.VX_REP1 0) / 16
      if s.rb (Reg.VX_REP1_VALID n) && s.rf (Reg.VX_REP0_ADDRESS n) == a && s.rf (Reg.VX_REP1_QUEUE n) == q then some n else none)

/-- DGNAK_RECEIVED: at its originator every entry that names the address and queue counts a notice with 0xB00E, and the notice
queue may get one; elsewhere it is forwarded (R656). -/
def execDgnakReceived (p : Fin 6) (l : List Byte) (s : State) : Res :=
  .next (s.vxTake p 0x07 l (fun f s =>
    if !s.full p then s
    else if f.dst.toNat = s.myAddr ∧ s.myAddr ≠ 0 then
      let src := f.src.toNat
      let q := fbody f 2 2 % 4096
      let code := fbody f 4 1
      let s1 := (s.repNaming src q).foldl (fun (x : State) n =>
        ((x.satAdd (Reg.VX_REP2_NOTICES n) 1).wr (Reg.VX_REP2_LAST_CODE n) code).emit 4 0xB00E n code src) s
      if s1.rb Reg.VX_NOTICE_Q_VALID then
        (s1.sendQueue (s1.rf Reg.VX_NOTICE_Q_QUEUE) {
          tag := fbody f 0 2, source := 0x20, p0 := BitVec.ofNat 64 src, p1 := BitVec.ofNat 64 code, p2 := BitVec.ofNat 64 q }).2
      else s1
    else s.vxRoute f))

/-- Weir time set to a value in nanoseconds. -/
def State.setWeir (s : State) (ns : Nat) : State := { s with fb.ofs := ((ns : Int) - s.now) * 65536 }

/-- PPS_EDGE: three rising edges 1 s apart make PPS_IN valid, which an edge out of place does not end (DEDUCED, log entry 144); a valid edge sets a pending time, or aligns a root's phase (R662,
R665). -/
def execPpsEdge (s : State) : Res :=
  let gap := match s.fb.ppsLast with
    | some t => decide (999800000 ≤ s.now - t) && decide (s.now - t ≤ 1000200000)
    | none => false
  let run := if gap then satU 2 (s.fb.ppsRun + 1) else 1
  let valid := s.fb.ppsValid || decide (3 ≤ run)
  let s1 := { s with
    fb.ppsLast := some s.now
    fb.ppsRun := run
    fb.ppsValid := valid
    fb.ppsSince := if s.fb.ppsValid && valid then s.fb.ppsSince else s.now }
  let s2 := match s1.fb.setDue with
    | some t => if valid then ({ s1 with fb.setDue := none }).setWeir t else s1
    | none =>
      if valid && (s1.isGroot || s1.isCroot) then s1.setWeir ((s1.weirNs + 500000000) / 1000000000 * 1000000000) else s1
  .next (if !s.fabRuns then s else if valid == s.fb.ppsValid then s2 else s2.originate)

/-- PPS_LOST: no edge for 1.1 s (R665). -/
def execPpsLost (s : State) : Res :=
  .next (if s.fabRuns && s.fb.ppsValid then
    ((({ s with fb.ppsValid := false, fb.ppsRun := 0 }).wr Reg.VX_FELL_TIME 1).emit 4 0xB00C
      ((s.now - s.fb.ppsSince) / second)).originate
  else s)

/-- TIME_SET_APPLY: accepted on the Catchment root only, at the next PPS edge when PPS_IN is valid (R665). -/
def execTimeSetApply (v : Word) (s : State) : Res :=
  .next (s.keyedWrite Reg.VX_TIME_CTL v.toNat (fun x =>
    let t := x.rf Reg.VX_TIME_SET_LO_SET + 2 ^ 32 * x.rf Reg.VX_TIME_SET_HI_SET
    if !bitOf v.toNat 0 then x
    else if !x.isCroot then x.wr Reg.VX_FELL_REJECT 1
    else if x.fb.ppsValid then { x with fb.setDue := some t }
    else x.setWeir t))

/-- VX_SAVE (R673, R872). -/
def execVxSave (v : Word) (s : State) : Res :=
  .next (s.hostWrite Reg.VX_CTL v.toNat (fun x => if bitOf v.toNat 1 then x.saveBlock 9 else x))

end Sys2Proof.Machine
end

