-- ==== Sys2Proof/Machine/Flume.lean ====
section
/-! DEFINITION. Flume's commands (Flume DMA and Translation). -/

namespace Sys2Proof.Machine
open Sys2Proof

/-- FL_START: FL_CH_CTL.START begins a host channel transfer (R594). -/
def execFlStart (n : Fin 16) (v : Word) (s : State) : Res := .next (s.flCtl n v.toNat)

/-- FL_RESUME: FL_CH_CTL.RESUME continues a halted transfer (R614, R617). -/
def execFlResume (n : Fin 16) (v : Word) (s : State) : Res := .next (s.flCtl n v.toNat)

/-- FL_ABORT: FL_CH_CTL.ABORT ends a halted transfer (R614). -/
def execFlAbort (n : Fin 16) (v : Word) (s : State) : Res := .next (s.flCtl n v.toNat)

/-- GRANULE_ARRIVED: the data of granule `k` arrive from upstream, or from table SRAM for a transfer to the host; they are
written in order. An error completion is a BUS fault, a double-bit error of table SRAM a TSRAM fault (R596, R599, Table
15.3). -/
def execGranuleArrived (n : Fin 16) (k : Fin 16384) (bytes : List Byte) (ok : Bool) (s : State) : Res :=
  let c := s.fch n
  let live := (c.st == 1 || c.st == 2) && decide (k.val < c.issued) && decide (c.written ≤ k.val)
    && !c.arrived.any (fun e => e.1 == k.val)
  .next (if s.inReset 3 || !live then s
    else if !ok then (s.chFault n k (if c.toHost then 7 else 6) (c.iova + 64 * k) none false).flSettle
    else (s.setFch n { c with arrived := c.arrived ++ [(k.val, arrivedBytes bytes 64)] }).flSettle)

/-- WALK_READ_DONE: an entry read completes for a user: a channel, a ring (16 + r) or the fault log (1040) (R605, R606). -/
def execWalkReadDone (u : Fin 1041) (e : DWord) (ok : Bool) (s : State) : Res :=
  .next (if s.inReset 3 then s
    else (if u.val < 16 then s.chWalk u e.toNat ok else s.feWalk u e.toNat ok).flSettle)

/-- UPSTREAM_READ_TIMEOUT: a user's read, on its walk or of granule `k`, has no completion in 100 us: a BUS fault (R599). -/
def execUpstreamReadTimeout (u : Fin 1041) (k : Fin 16384) (s : State) : Res :=
  let c := s.fch u
  .next (if !s.polRuns then s
    else if u.val < 16 then
      (if c.walk.isSome then s.chWalk u 0 false
        else if !c.toHost && (c.st == 1 || c.st == 2) && decide (k.val < c.issued) && decide (c.written ≤ k.val)
            && !c.arrived.any (fun e => e.1 == k.val) then
          s.chFault u k 6 (c.iova + 64 * k) none false
        else s).flSettle
    else match s.fl.fe.find? (fun a => a.ring + 16 == u.val && (a.walk.isSome || a.issued)) with
      | none => s
      | some a => (if a.walk.isSome then s.feWalk u 0 false else (s.feSwap a none).feFault a 6 a.iova none false).flSettle)

/-- HOLD_EXPIRY: a halted table channel is aborted with cause 1 (R615). -/
def execHoldExpiry (n : Fin 6) (s : State) : Res :=
  .next (if s.polRuns && (s.fch n).st == 2 then ((s.wr Reg.FL_FELL_EXPIRED 1).loadAbort n 1).flSettle else s)

/-- FL_INV_GO: the entries of a context, or all, are removed (R607). -/
def execFlInvGo (v : Word) (s : State) : Res :=
  .next (s.hostWrite Reg.FL_INV v.toNat (fun x =>
    if bitOf v.toNat 31 then
      { x.tlbDrop (bitOf v.toNat 29) (min 64 (bitsOf v.toNat 6 0)) with fl.invBusy := true }
    else x))

/-- INV_COMPLETE: BUSY clears (R607). -/
def execInvComplete (s : State) : Res := .next (if s.polRuns then { s with fl.invBusy := false } else s)

/-- CTX_WRITE: ROOT changes only with ENABLE 0; ENABLE written 0 removes the context's entries (R602). A write of FL_CTX0 with another
ENABLE and the same ROOT bits is no write of ROOT; every write of FL_CTX1, which holds nothing else, is (DESIGN CHOICE, log entry 137). -/
def execCtxWrite (c : Fin 65) (hi : Bool) (v : Word) (s : State) : Res :=
  let a := if hi then Reg.FL_CTX1 c else Reg.FL_CTX0 c
  .next (s.hostWrite a v.toNat (fun x =>
    if s.rb (Reg.FL_CTX0_ENABLE c) then
      let r0 := s.rf (Reg.FL_CTX0_ROOT c)
      let moved := hi || x.rf (Reg.FL_CTX0_ROOT c) != r0
      let x1 := (x.wr (Reg.FL_CTX0_ROOT c) r0).wr (Reg.FL_CTX1_ROOT c) (s.rf (Reg.FL_CTX1_ROOT c))
      let x2 := if moved then x1.wr Reg.FL_FELL_REJECT 1 else x1
      if x2.rb (Reg.FL_CTX0_ENABLE c) then x2 else x2.tlbDrop false c
    else x))

/-- FL_SAVE: FL_CFG.SAVE writes Flume's Config fields to flash (R623, R872). -/
def execFlSave (v : Word) (s : State) : Res :=
  .next (s.hostWrite Reg.FL_CFG v.toNat (fun x => if bitOf v.toNat 1 then x.saveBlock 8 else x))

end Sys2Proof.Machine
end

