-- ==== Sys2Proof/Machine/FrontEnd.lean ====
section
/-! DEFINITION. The Command Front End's commands (Command Front End). -/

namespace Sys2Proof.Machine
open Sys2Proof

/-- RING_DOORBELL: a write of CF_RING_TAIL submits descriptors (R561). -/
def execRingDoorbell (r : Fin 1024) (v : Word) (s : State) : Res :=
  .next (s.hostWrite (Reg.CF_RING_TAIL r) v.toNat (fun x => x.cfPrefetch.flSettle))

/-- RING_TURN: the next ring due takes a turn of 2 us and parses until a command can start (R583 to R585). -/
def execRingTurn (s : State) : Res :=
  .next (if !s.owner || !s.polRuns || s.isl.hostDown || s.cf.turn.isSome then s
    else match s.turnOrder.find? s.turnDue with
      | none => s.cfPrefetch.flSettle
      | some r => ((((parseOn 4097 { s with cf.turn := some (r, 2 * usec), cf.last := r }).turnTidy r).bufFetch r).cfPrefetch).flSettle)

/-- DESCRIPTOR_FETCHED: a descriptor arrives and is checked, and HEAD advances past a ring slot (R561, R564, R585). -/
def execDescriptorFetched (r : Fin 1024) (bytes : List Byte) (ok : Bool) (s : State) : Res :=
  .next (match s.fl.fe.find? (fun a => a.ring == r.val && a.kind == 0 && a.issued), (s.ring r).desc with
    | some a, some d =>
      let s1 := s.feSwap a none
      if !ok then (s1.feFault a 6 a.iova none false).flSettle
      else
        let l := arrivedBytes bytes 64
        let s2 := if d.chained = 0 then
            s1.wr (Reg.CF_RING_HEAD_HEAD r) ((s.rf (Reg.CF_RING_HEAD_HEAD r) + 1) % 2 ^ s.rf (Reg.CF_RING_CFG_SIZE_LOG2 r))
          else s1
        let d1 := { d with bytes := some l, fetching := false }
        match descBad l with
        | none => (((s2.setDesc r (some d1)).bufFetch r).cfPrefetch).flSettle
        | some b =>
          let s3 := ((s2.setDesc r (some { d1 with err := some ((d.err).getD (1, none)) })).wr Reg.CF_FELL_DESC 1).emit 3 0xA003 r b
          ((s3.descCheck r).cfPrefetch).flSettle
    | _, _ => s)

/-- BUFFER_FETCHED: command bytes arrive for parsing (R585). -/
def execBufferFetched (r : Fin 1024) (bytes : List Byte) (ok : Bool) (s : State) : Res :=
  .next (match s.fl.fe.find? (fun a => a.ring == r.val && a.kind == 1 && a.issued), (s.ring r).desc with
    | some a, some d =>
      let s1 := s.feSwap a none
      if !ok then (s1.feFault a 6 a.iova none false).flSettle
      else
        ((s1.setDesc r (some { d with buf := d.buf ++ arrivedBytes bytes a.len, fetching := false })).bufFetch r).flSettle
    | _, _ => s)

/-- SETCAP: CEILING, and WEIGHT and ENABLE with their flags, as one change judged under R427 (R570). -/
def execSetcap (s : State) : Res := .next (s.cfStart 1 State.capSend).flSettle

/-- SETFLOOR: FLOOR, judged under R427 (R570). -/
def execSetfloor (s : State) : Res := .next (s.cfStart 2 State.capSend).flSettle

/-- LOADTBL: takes a table channel, or waits for one (R571 to R574, R592). -/
def execLoadtbl (s : State) : Res :=
  .next ((s.cfStart 3 (fun x r i c =>
    let e := x.hCheck r (c.le 8 2) 1 (c.le 16 4)
    let st := if e ≠ 0 then e else x.hCheck r (c.le 10 2) 2 (c.le 12 4 + c.le 16 4)
    if st ≠ 0 then x.cmdDone r i st else { x with cf.loads := x.cf.loads ++ [(r, i, none)] })).flSettle)

/-- TABLE_PUBLISH: the transfer of table channel `n` is whole: the bank is zero-filled to SIZE, the directory word is written
and ACTIVE is inverted (R573, R598). -/
def execTablePublish (n : Fin 6) (s : State) : Res :=
  let c := s.fch n
  .next (match c.load with
    | none => s
    | some (r, i, h) =>
      if !s.polRuns || !c.complete then s
      else
        let gen := (s.rf (Reg.CF_HANDLE3_GEN h) + 1) % 2 ^ 32
        let t1 := writeBytes s.ik.table (c.tsram + c.len) (s.hSize h - c.len) 0
        let t2 := writeBytes t1 (8 * s.rf (Reg.CF_HANDLE2_DIR h)) 8 (c.tsram + gen * 2 ^ 32)
        let s1 := { s with
          ik.table := t2
          cf.pubAt := mins s.cf.pubAt h s.now
          cf.loads := s.cf.loads.filter (fun (e : Nat × Nat × Option Nat) => !(e.1 == r && e.2.1 == i)) }
        let s2 := (s1.wr (Reg.CF_HANDLE3_GEN h) gen).wr (Reg.CF_HANDLE0_ACTIVE h) (1 - s.rf (Reg.CF_HANDLE0_ACTIVE h))
        ((s2.setFch n { c with st := 3, load := none }).cmdDone r i 0).flSettle)

/-- A launch of `r`'s command `i` to a core: DENIED, CORE_STOPPED, or sent (R576, R577). -/
def State.launchCmd (s : State) (r i core func a0 a1 : Nat) (consts : List Nat) (nowait : Bool) : State :=
  if s.ringOwner r ≠ 0 ∧ bitOf (s.rf (Reg.CF_RING_CFG_CORES r)) core = false then s.cmdDone r i 3
  else if (s.core core).floor then s.cmdDone r i 6
  else
    let user := match (s.ring r).desc with
      | none => 0
      | some d => d.le 40 8
    s.launchNew { ring := r, cmd := i, core := core, nowait := nowait, func := func, arg0 := a0, arg1 := a1, user := user, consts := consts }

/-- RUNPOL: a launch to a core's launch queue (R576). -/
def execRunpol (s : State) : Res :=
  .next ((s.cfStart 4 (fun x r i c =>
    x.launchCmd r i (c.le 8 1) (c.le 10 2) (c.le 16 8) (c.le 24 8) ((c.bytes.drop 32).take (c.le 12 2)) (bitOf (c.le 6 1) 0))).flSettle)

/-- PROFILE: a launch of FUNC 0xFFFF to the core that holds PROFILE, with the profile header and entries (R580). -/
def execProfile (s : State) : Res :=
  .next ((s.cfStart 5 (fun x r i c =>
    let h := c.le 18 2
    let hs := if h = 0xFFFF then 0 else x.hCheck r h 1 (16 * c.le 20 4)
    if x.ringOwner r ≠ 0 ∧ c.le 16 1 + 1 ≠ x.ringOwner r then x.cmdDone r i 3
    else if hs ≠ 0 then x.cmdDone r i hs
    else match (List.range 8).find? (fun k => x.holdsDuty k 12) with
      | none => x.cmdDone r i 6
      | some k => x.launchCmd r i k 0xFFFF 0 0 (c.bytes.drop 16) (bitOf (c.le 6 1) 0))).flSettle)

/-- SIGNAL: a write, a datagram or an interrupt (R581). -/
def execSignal (s : State) : Res :=
  .next ((s.cfStart 6 (fun x r i c =>
    let ref := c.le 10 2
    match c.le 8 1 with
    | 1 =>
      let st := x.hCheck r ref 2 (c.le 12 4 + 8)
      if st ≠ 0 then x.cmdDone r i st
      else x.fePut { ring := r, kind := 4, cmd := i, ctx := x.hOwner ref, iova := x.hIova ref + c.le 12 4, len := 8, bytes := leBytes 8 (c.le 16 8) }
    | 2 =>
      if x.ringOwner r ≠ 0 then x.cmdDone r i 3
      else
        let q := x.sendRemote ref (c.le 12 2) 0 (BitVec.ofNat 64 (c.le 16 8)) 0
        q.2.cmdDone r i (if q.1 = 0 then 0 else 13)
    | _ => (x.raiseVec (c.le 9 1)).cmdDone r i 0)).flSettle)

/-- FENCE: completes when every command before it has (R568). -/
def execFence (s : State) : Res :=
  .next ((s.cfStart 7 (fun x r _ _ => match (x.ring r).desc with
    | none => x
    | some d => (x.setDesc r (some { d with cmds := fences true d.cmds })).descCheck r)).flSettle)

/-- CHAIN: sets the chained address; it completes as it starts (R569, R582). -/
def execChain (s : State) : Res :=
  .next ((s.cfStart 8 (fun x r i c => (match (x.ring r).desc with
    | none => x
    | some d => x.setDesc r (some { d with next := some (c.le 8 8) })).cmdDone r i 0)).flSettle)

/-- LAUNCH_RETRY: each launch without room is tried again (R579). -/
def execLaunchRetry (s : State) : Res :=
  .next (if s.polRuns then (s.cf.waiting.foldl (fun (x : State) e => (x.launchTry e.1 e.2).getD x) s).flSettle else s)

/-- LAUNCH_TIMEOUT: a launch that still waits is given up, with 0xA004 (R579). -/
def execLaunchTimeout (r : Fin 1024) (i : Fin 4096) (s : State) : Res :=
  .next (match s.cf.waiting.find? (fun e => e.2.ring == r.val && e.2.cmd == i.val) with
    | none => s
    | some (n, l) =>
      if !s.polRuns then s
      else (((({ s with cf.waiting := mdel s.cf.waiting n }).wr Reg.CF_FELL_LAUNCH 1).emit 3 0xA004 r l.core i).cmdDone r i 7).flSettle)

/-- ABORT of a ring: its descriptor ends with ABORTED (R588). -/
def State.ringAbort (s : State) (r : Nat) : State :=
  match (s.ring r).desc with
  | none => s
  | some d =>
    let s1 := { s with fl.fe := s.fl.fe.filter (fun a => !(a.ring == r && decide (a.kind < 2))) }
    if d.bytes.isNone then (s1.ringErr r 11 none).ringStop r 11 none
    else if d.ended then s
    else (s1.setDesc r (some { d with fetching := false, err := some ((d.err).getD (11, none)) })).descCheck r

/-- A keyed write of CF_RING_CTL. -/
def State.ringCtl (s : State) (r v : Nat) : State :=
  s.keyedWrite (Reg.CF_RING_CTL r) v (fun x =>
    let a := if bitOf v 1 then x.ringAbort r else x
    let b := if bitOf v 0 then (a.setRing r { a.ring r with stopped := false }).cfPrefetch else a
    b.flSettle)

/-- RING_ABORT (R588). -/
def execRingAbort (r : Fin 1024) (v : Word) (s : State) : Res := .next (s.ringCtl r v.toNat)

/-- RING_RESUME: the ring leaves STOPPED (R588). -/
def execRingResume (r : Fin 1024) (v : Word) (s : State) : Res := .next (s.ringCtl r v.toNat)

/-- RING_CFG_WRITE: a write that sets ENABLE on the die that does not own is discarded; ENABLE written 0 acts as ABORT, then
disables (R563, Table 14.9). -/
def execRingCfgWrite (r : Fin 1024) (v : Word) (s : State) : Res :=
  let on := bitOf v.toNat 31
  .next (match s.serve (Reg.CF_RING_CFG r) true with
    | (false, s1) => s1
    | (true, s1) =>
      if on && !s1.owner then (s1.rsvdCheck (Reg.CF_RING_CFG r) v.toNat).refuse
      else
        let was := s1.rb (Reg.CF_RING_CFG_ENABLE r)
        let s2 := if was && !on then s1.ringAbort r else s1
        let s3 := s2.writeFields (Reg.CF_RING_CFG r) v.toNat
        let s4 := if was then s3 else s3.setRing r { s3.ring r with stopped := false }
        s4.cfPrefetch.flSettle)

/-- VEC_MASK_WRITE: clearing MASK with PENDING set sends one interrupt (R559). -/
def execVecMaskWrite (n : Fin 256) (v : Word) (s : State) : Res :=
  .next (s.hostWrite (Reg.CF_VEC n) v.toNat (fun x =>
    if !x.rb (Reg.CF_VEC_MASK n) && x.rb (Reg.CF_VEC_PENDING n) then (x.wr (Reg.CF_VEC_PENDING n) 0).out (.irq n) else x))

/-- CF_SAVE: CF_CTL.SAVE writes the front end's Config fields to flash (R590, R872). -/
def execCfSave (v : Word) (s : State) : Res :=
  .next (s.hostWrite Reg.CF_CTL v.toNat (fun x => if bitOf v.toNat 1 then x.saveBlock 7 else x))

/-- RETIRE_WAIT_END: RETIRE has passed since the last publication of a handle, and its waiting LOADTBL goes on (R574). -/
def execRetireWaitEnd (h : Fin 4096) (s : State) : Res :=
  .next (({ s with cf.retire := s.cf.retire.filter (fun n => match (s.fch n).load with
    | some e => e.2.2 != h.val
    | none => true) }).flSettle)

end Sys2Proof.Machine
end

