-- ==== Sys2Proof/Machine/OwnOps.lean ====
section
/-! DEFINITION. Eligibility and roles of a die (The Twin). -/

namespace Sys2Proof.Machine
open Sys2Proof

/-- Every supply of the die is within its window and no excursion is in force (R703, R708). -/
def State.suppliesOk (s : State) : Bool := s.edge.supplyGood == 15 && !s.edge.supplyHold && !s.edge.outputsOff

/-- The die is eligible to own (R703); without a usable flash it stays Standby-only (Table 2.8). -/
def State.eligible (s : State) : Bool :=
  s.suppliesOk && s.edge.refclkOk && s.edge.flashOk && s.ph.loadOk && !bitOf s.isl.inReset 0 && !bitOf s.isl.inReset 1 && !s.th.trip
  && !s.rb Reg.TW_CFG_NO_CLAIM && s.tw.role != 4

/-- The die's own identity (R26). -/
def State.ident (s : State) : Nat := s.fuse.ident.toNat

/-- The die is preferred: by its strap, or with equal straps by the lower identity (R704). -/
def State.preferred (s : State) : Bool :=
  if s.tw.sameStrap then (match s.tw.peer with
    | some p => decide (s.ident < p)
    | none => false)
  else s.edge.roleSel

/-- The die takes a role, with 0xC001 on a change (Table 18.1). -/
def State.setRole (s : State) (into : Nat) : State :=
  if s.tw.role = into then s else ({ s with tw.role := into }).emit 7 0xC001 s.tw.role into (b01 s.edge.roleSel)

/-- The role of a die that neither owns nor is barred follows its eligibility; INIT lasts until it is first eligible (Table
18.1). -/
def State.roleSettle (s : State) : State :=
  match s.tw.role with
  | 0 => if s.eligible then s.setRole 2 else s
  | 1 => if s.eligible then s.setRole 2 else s
  | 2 => if s.eligible then s else s.setRole 1
  | _ => s

end Sys2Proof.Machine
end

