-- ==== Sys2Proof/Machine/ThermalOps.lean ====
section
/-! DEFINITION. Sensors, plausibility, zones, bands, the orderly stop and the trip latch (Thermal Sensing and Action).
Temperatures are TEMP codes. Sensors go by class * 0x10000 + index, zones by the codes of Table 9.8. -/

namespace Sys2Proof.Machine
open Sys2Proof

/-- TEMP code of a whole temperature in degrees. -/
def tempCode (c : Int) : Nat := (4 * (c + 40)).toNat

/-- The trip threshold in force. -/
def State.threshCode (s : State) : Nat := tempCode (s.rf Reg.TH_TRIP_THRESH)

/-- The latest reading of a sensor. -/
def State.sensor (s : State) (k : Nat) : Reading := mget {} s.th.readings k

/-- Change a sensor's reading. -/
def State.setSensor (s : State) (k : Nat) (r : Reading) : State := { s with th.readings := mput {} s.th.readings k r }

/-- TARGET of a remote-diode pair; 17 to 30 act as 31, unused (Table 9.14). -/
def State.tdTarget (s : State) (i : Nat) : Nat :=
  let t := s.rf (Reg.TH_TD_CFG_TARGET i)
  if t ≤ 16 then t else 31

/-- A tile's sensors are present: it is open and its die's traffic link is not lost (R394). -/
def State.tileSensed (s : State) (t : Nat) : Bool := (s.tile t).isOpen && !(s.link (s.tile t).link).lost

/-- The sensor is present (R385, R394). -/
def State.present (s : State) (k : Nat) : Bool :=
  let i := k % 0x10000
  match k / 0x10000 with
  | 0 => s.tileSensed (i / 4) && decide (i % 4 < (s.tile (i / 4)).sensors)
  | 1 => decide (i < 64) && decide (s.tdTarget i ≤ 16)
  | 2 => decide (i < 16)
  | 3 => decide (i < 32) && s.rb (Reg.TH_I3C_CFG_ENABLE i)
  | _ => false

/-- The sensor's latest reading is valid. -/
def State.sensorOk (s : State) (k : Nat) : Bool := s.present k && (s.sensor k).seen && !(s.sensor k).broken

/-- Sensors of a tile. -/
def State.tileSensors (s : State) (t : Nat) : List Nat :=
  if s.tileSensed t then (List.range (s.tile t).sensors).map (fun j => 4 * t + j) else []

/-- Members of a zone (R385). -/
def State.zoneMembers (s : State) (z : Nat) : List Nat :=
  if z < 8 then (s.domTiles z).flatMap s.tileSensors
  else if z < 0x20 then
    (s.linkTiles (z - 0x10)).flatMap s.tileSensors ++ ((List.range 64).filter (fun i => s.tdTarget i == z - 0x10)).map (· + 0x10000)
  else if z = 0x20 then (List.range 16).map (· + 0x20000)
  else ((List.range 32).map (· + 0x30000)).filter s.present ++ ((List.range 64).filter (fun i => s.tdTarget i == 16)).map (· + 0x10000)

/-- Neighbours of a sensor (R390). -/
def State.neighbours (s : State) (k : Nat) : List Nat :=
  let i := k % 0x10000
  match k / 0x10000 with
  | 0 =>
    let t := i / 4
    let n := (s.tile t).link
    let w := s.rf (Reg.TH_DIE_CFG_ROW_W n)
    let near := ([t + 1, t + w] ++ (if 1 ≤ t then [t - 1] else []) ++ (if w ≤ t then [t - w] else [])).filter (fun u =>
      u != t && (s.tile u).isOpen && (s.tile u).link == n)
    (s.tileSensors t).filter (fun x => x != k) ++ near.eraseDups.flatMap s.tileSensors
  | 1 => ((List.range 64).filter (fun j => j != i && s.tdTarget j == s.tdTarget i)).map (· + 0x10000)
  | 2 => ((List.range 16).filter (fun j => j != i)).map (· + 0x20000)
  | _ => []

/-- Codes of the valid sensors of a list. -/
def State.okCodes (s : State) (l : List Nat) : List Nat := (l.filter s.sensorOk).map (fun k => (s.sensor k).code)

/-- Twice the median of a list of codes; the mean of the middle two for an even count. -/
def median2 (l : List Nat) : Option Nat :=
  let a := l.foldl (fun m x => orderIns x m) []
  let n := a.length
  if n = 0 then none else some (a.getD (n / 2) 0 + a.getD ((n - 1) / 2) 0)
where
  /-- Insert into an ascending list. -/
  orderIns (x : Nat) : List Nat → List Nat
    | [] => [x]
    | y :: t => if x ≤ y then x :: y :: t else y :: orderIns x t

/-- The median that the stuck test looks at: a board sensor's is that of the other board readings (R390). -/
def State.stuckMedian (s : State) (k : Nat) : Option Nat :=
  if k / 0x10000 = 3 then median2 (s.okCodes ((s.zoneMembers 0x30).filter (fun x => x != k))) else median2 (s.okCodes (s.neighbours k))

/-- A new reading fails the median test: at least three valid neighbours, and more than 15 degrees from their median (R389). -/
def State.medianBad (s : State) (k code : Nat) : Bool :=
  let l := s.okCodes (s.neighbours k)
  match median2 l with
  | none => false
  | some m => decide (3 ≤ l.length) && decide (120 < ((2 * code : Int) - m).natAbs)

/-- The substitute of a broken member (R392). -/
def State.substitute (s : State) (z k : Nat) : Option Nat :=
  match (s.okCodes (s.neighbours k)).max? with
  | some x => some (x + 20)
  | none => ((s.okCodes (s.zoneMembers z)).max?).map (· + 20)

/-- A zone's temperature: none when no member has been read, 0x3FF when nothing valid and no substitute is left (R386, R392). -/
def State.zoneTemp (s : State) (z : Nat) : Option Nat :=
  let l := (s.zoneMembers z).filter (fun k => (s.sensor k).seen)
  if l.isEmpty then none
  else
    let v := s.okCodes l
    let b := (l.filter (fun k => (s.sensor k).broken)).filterMap (fun k => s.substitute z k)
    match (v ++ b).max? with
    | some x => some (min x 0x3FF)
    | none => some 0x3FF

/-- Edges in force, as codes: Woad, Ochre, Madder, Vermilion (R395). -/
def State.edgesNow (s : State) : List Nat :=
  let c := fun f => tempCode (s.rf f)
  let v := min (c Reg.TH_BAND_CFG_VERM) (s.threshCode - 12)
  let m := min (c Reg.TH_BAND_CFG_MADDER) (v - 12)
  let o := min (c Reg.TH_BAND_CFG_OCHRE) (m - 12)
  [min (c Reg.TH_BAND_CFG_WOAD) (o - 12), o, m, v]

/-- The hottest band whose lower edge lies at or below a temperature. -/
def bandOf (edges : List Nat) (t : Nat) : Nat := (edges.filter (fun e => decide (e ≤ t))).length

/-- The next band of a zone: up at once, down by one below the lower edge less 3 degrees (R396). -/
def nextBand (edges : List Nat) (band t : Nat) : Nat :=
  let up := bandOf edges t
  if band ≤ up then up
  else if t + 12 < edges.getD (band - 1) 0 then band - 1 else band

/-- Zones that have bands, in the order of their codes. -/
def zoneCodes : List Nat := List.range 8 ++ (List.range 16).map (· + 0x10) ++ [0x20, 0x30]

/-- Broken and present members of die `n`. -/
def State.dieShare (s : State) (n : Nat) : Nat × Nat :=
  let l := s.zoneMembers (0x10 + n)
  ((l.filter (fun k => (s.sensor k).broken)).length, l.length)

/-- A die with more than 25 % of its members broken is pinned (R393). -/
def State.pinCheck (s : State) (n : Nat) : State :=
  let z := s.zone (0x10 + n)
  let c := s.dieShare n
  if !s.owner || z.pinned || decide (4 * c.1 ≤ c.2) then s
  else
    let s1 := { s with th.zones := mput {} s.th.zones (0x10 + n) { z with
      pinned := true, duty := max z.duty (s.rf Reg.TH_STEP_CFG_PIN_DUTY) } }
    ((s1.wr Reg.TH_FELL_PIN 1).emit 0 0x6012 n c.1 c.2).clampAll

/-- The die a sensor counts toward, if any. -/
def State.sensorDie (s : State) (k : Nat) : Option Nat :=
  match k / 0x10000 with
  | 0 => some (s.tile (k % 0x10000 / 4)).link
  | 1 => if s.tdTarget (k % 0x10000) < 16 then some (s.tdTarget (k % 0x10000)) else none
  | _ => none

/-- A reading is broken for a cause: it is ignored, mapped and recorded (R391). -/
def State.breakSensor (s : State) (k cause : Nat) : State :=
  let r := s.sensor k
  let s1 := s.setSensor k { r with seen := true, broken := true, cause := cause }
  let s2 := if r.broken || !s.owner then s1 else (s1.wr Reg.TH_FELL_BROKEN 1).emit 0 0x6010 k cause r.code
  match s2.sensorDie k with
  | some n => s2.pinCheck n
  | none => s2

/-- The zone that a trip by a sensor names. -/
def State.tripZone (s : State) (k : Nat) : Nat :=
  match k / 0x10000 with
  | 0 => (s.tile (k % 0x10000 / 4)).dom
  | 1 => 0x10 + s.tdTarget (k % 0x10000)
  | _ => 0x20

/-- The trip latch is set with a cause, a zone and a temperature: any stop and any transition end, and the package is in Keep
(tripped) (R43, R405, R410, Table 3.6). -/
def State.tripLatch (s : State) (cause zone temp : Nat) : State :=
  if s.th.trip then s
  else
    let from_ := s.isl.pkg
    let s1 := { s with
      th.trip := true, th.stop := if cause = 2 then 5 else 0, isl.tripped := true, isl.inTrans := false, isl.frozen := true
      isl.pkg := 3, isl.target := 3, isl.goal := 3 }
    let s2 := ((s1.wr Reg.TH_TRIP_STAT_ZONE zone).wr Reg.TH_TRIP_STAT_TEMP temp).wr Reg.TH_TRIP_STAT_CAUSE cause
    let s3 := s2.emit 7 0x6002 cause zone temp
    (if from_ = 3 then s3 else s3.emit 7 0x1010 from_ 3 6).roleSettle

/-- A board sensor at or above WARN is recorded once per crossing (R387). -/
def State.warnCheck (s : State) (i old new : Nat) (seen : Bool) : State :=
  let w : Int := signedOf 8 (s.rf (Reg.TH_I3C_CFG_WARN i))
  let c := tempCode w
  if c ≤ new ∧ !(seen && decide (c ≤ old)) then (s.wr Reg.TH_FELL_BOARD 1).emitHw none 0 0x6020 (0x30000 + i) new (pI w) else s

/-- A reading completes: it is judged, and a valid one is compared with THRESH (R389, R391, R410, R412). -/
def State.sensorRead (s : State) (k : Nat) (ok : Bool) (code : Nat) : State :=
  if !s.present k then s
  else
    let r := s.sensor k
    let moved := !r.seen || r.code != code
    let r1 := { r with
      code := code, seen := true, readAt := s.now, changeAt := if moved then s.now else r.changeAt
      medAt := if moved then s.stuckMedian k else r.medAt }
    let s1 := s.setSensor k r1
    let cls := k / 0x10000
    if !ok || code == 0x3FF then s1.breakSensor k 0
    else if s1.medianBad k code then s1.breakSensor k 2
    else
      let s2 := if cls = 3 && s1.owner && !r.broken then s1.warnCheck (k % 0x10000) r.code code r.seen else s1
      if !r.broken && cls != 3 && !(cls == 1 && s.tdTarget (k % 0x10000) == 16) && decide (s.threshCode ≤ code) then
        s2.tripLatch 1 (s2.tripZone k) code
      else s2

/-- A zone's temperature 1 ms ago, where a reading of then is held (R404). -/
def Zone.before (z : Zone) (now : Nat) : Option Nat :=
  ((z.hist.filter (fun e => decide (e.1 + msec ≤ now))).head?).map (·.2)

/-- What a projection answers: headroom to THRESH and rate per ms in codes; the temperature of 1 ms ago is free where none is
held (R404). -/
def State.headRate (s : State) (z : Nat) : (Int × Int) × State :=
  let x := s.zone z
  match x.before s.now with
  | some t => (((s.threshCode : Int) - x.temp, (x.temp : Int) - t), s)
  | none =>
    let d := s.draw 60
    (((s.threshCode : Int) - x.temp, (x.temp : Int) - (d.1 % 1024 : Nat)), d.2)

/-- A projection in units of 1 ms / `u`; none when unbounded. -/
def projIn (u : Nat) (p : Int × Int) : Option Nat := if p.2 ≤ 0 then none else some ((p.1 * u).toNat / p.2.toNat)

/-- A projection is above PROJ (R403). -/
def State.projSafe (s : State) (p : Int × Int) : Bool := decide (p.2 ≤ 0) || decide ((s.rf Reg.TH_STOP_CFG_PROJ : Int) * p.2 < p.1)

/-- Phase 1 of an orderly stop, which ends at once (R406, R41, R441). -/
def State.stopBegin (s : State) (z : Nat) (p : Int × Int) : State :=
  let x := s.zone z
  let s1 := { s with th.stop := 2, th.stopAt := s.now, th.stopZone := z, th.drainCut := false, th.proj := projIn 100 p }
  let s2 := (s1.wr Reg.TH_FELL_STOP 1).emitHw (some 7) 0 0x6003 z x.temp ((projIn 10 p).getD (2 ^ 32))
  let s3 := s2.refuseListed s2.openTiles
  let s4 := s3.upto 8 (fun d y => (y.each ((y.dom d).boosts.map (·.grp)) (fun g w => w.boostFall d g)).retarget d 0)
  s4.budgetMoved

/-- A zone has entered Vermilion: the first entry is judged by its projection (R403, R407). -/
def State.vermilion (s : State) (z : Nat) : State :=
  if s.th.stop ≠ 0 ∨ s.th.trip = true then s
  else
    let h := s.headRate z
    if h.2.projSafe h.1 then h.2.stopBegin z h.1 else h.2.tripLatch 3 z (s.zone z).temp

/-- Refresh code of a band (Table 9.2). -/
def bandRefresh (b : Nat) : Nat := if b ≤ 1 then 0 else if b ≤ 3 then 1 else 2

/-- Refresh code of a zone. -/
def State.zoneRefresh (s : State) (z : Nat) : Nat := if (s.zone z).judged then bandRefresh (s.zone z).band else 0

/-- Refresh codes of link `n`'s domains, two bits each (R398). -/
def State.linkRefresh (s : State) (n : Nat) : Nat :=
  ((List.range 8).map (fun d => max (s.zoneRefresh d) (s.zoneRefresh (0x10 + n)) * 4 ^ d)).sum

/-- Send the codes of a link: one REFRESH for each code in use, with its DOMAIN_MASK (R398). -/
def State.sendRefresh (s : State) (n packed : Nat) : State :=
  s.upto 3 (fun c x =>
    let mask := ((List.range 8).filter (fun d => packed / 4 ^ d % 4 == c)).foldl (fun m d => m + 2 ^ d) 0
    if mask = 0 then x else x.sendLink n (mkMsg 0x89 3 0 [(4, 1, mask), (5, 1, c)]))

/-- Send what has changed of the refresh codes (R398). -/
def State.refreshAll (s : State) : State :=
  let s1 := s.upto 16 (fun n x =>
    let p := x.linkRefresh n
    let z := x.zone (0x10 + n)
    if z.refresh = p then x else (x.setZone (0x10 + n) { z with refresh := p }).sendRefresh n p)
  s1.upto 8 (fun d x =>
    let c := ((List.range 16).filter (fun n => (x.link n).st == 2)).foldl (fun m n => max m ((x.zone (0x10 + n)).refresh / 4 ^ d % 4)) 0
    x.setZone d { x.zone d with refresh := c })

/-- One zone's temperature and band at a tick (R386, R393, R396). -/
def State.zoneJudge (s : State) (edges : List Nat) (z : Nat) : State :=
  match s.zoneTemp z with
  | none => s.setZone z { s.zone z with temp := 0x3FF, judged := false, band := 0, hist := [] }
  | some t =>
    let x := s.zone z
    let raw := if t = 0x3FF then 3 else if x.judged then nextBand edges x.band t else bandOf edges t
    let b := if x.pinned then max raw 3 else raw
    let old := x.hist.filter (fun e => decide (e.1 + msec ≤ s.now))
    let s1 := s.setZone z { x with
      temp := t, band := b, judged := true
      hist := (s.now, t) :: x.hist.filter (fun e => decide (s.now < e.1 + msec)) ++ old.take 1 }
    let s2 := if x.judged ∧ b ≠ x.band then s1.emitHw (some 6) 0 0x6001 z x.band b else s1
    let s3 := if 3 ≤ b ∧ !(x.judged && decide (3 ≤ x.band)) then s2.wr Reg.TH_FELL_HOT 1 else s2
    if z ≠ 0x30 ∧ b = 4 ∧ !(x.judged && x.band == 4) then s3.vermilion z else s3

/-- The package band (R387). -/
def State.pkgBandNow (s : State) : Nat :=
  (zoneCodes.filter (fun z => z != 0x30 && (s.zone z).judged)).foldl (fun m z => max m (s.zone z).band) s.th.peerBand

/-- In Woad a higher target is lowered to WOAD_GRADE (R399). -/
def State.woadCap (s : State) (d : Nat) : State :=
  let z := s.zone d
  let g := s.rf Reg.TH_STEP_CFG_WOAD_GRADE
  if z.judged ∧ z.band = 0 ∧ g < (s.dom d).target ∧ s.th.stop = 0 then s.retarget d g else s

/-- The tick of 10 us on the owner: the shares of broken members, zones and bands, and what follows from them (R386 to R399, R401). -/
def State.zoneTick (s : State) : State :=
  let e := s.edgesNow
  let s1 := if s.th.edges = e then s
    else
      let y := { s with th.edges := e }
      if s.th.edges.isEmpty then y else y.emit 0 0x6022 (e.getD 3 0) (e.getD 2 0) (e.getD 1 0)
  let s2 := (s1.upto 16 (fun n x => x.pinCheck n)).each zoneCodes (fun z x => x.zoneJudge e z)
  let b := s2.pkgBandNow
  let s3 := { s2 with th.pkgBand := b, ph.dtTable := if 2 ≤ b then 1 else 0 }
  (s3.upto 8 (fun d x => x.woadCap d)).refreshAll

/-- Step one zone at the 10 ms tick; with no temperature of 10 ms ago the comparison is free, and a zone that has no band steps down
(R400). -/
def State.zoneStep (s : State) (z : Nat) : State :=
  let x := s.zone z
  let hot := x.judged && decide (3 ≤ x.band)
  let d := s.draw 61
  let up := match x.tick with
    | some t => (decide ((t : Int) - 2 < x.temp), s)
    | none => (d.1 % 2 == 1, d.2)
  let k := if hot then (if up.1 then min (x.step + 1) (s.rf Reg.TH_STEP_CFG_K_MAX) else x.step) else x.step - 1
  let duty := min (s.rf Reg.TH_STEP_CFG_PAUSE_MAX) ((k + 1) / 2)
  (if hot then up.2 else s).setZone z { x with
    step := k, tick := if x.judged then some x.temp else none
    duty := if x.pinned then max duty (s.rf Reg.TH_STEP_CFG_PIN_DUTY) else duty }

/-- The 10 ms tick: steps, duties, the current limits and the thermal allowance follow (R400 to R402). -/
def State.stepTick (s : State) : State :=
  (((s.each (List.range 8 ++ (List.range 16).map (· + 0x10)) (fun z x => x.zoneStep z)).pauseAll).clampAll).budgetMoved

/-- The package projection: the least over the zones in Vermilion, with its zone (R404). -/
def State.pkgProj (s : State) : Option (Nat × (Int × Int)) × State :=
  (zoneCodes.filter (fun z => z != 0x30 && (s.zone z).judged && (s.zone z).band == 4)).foldl
    (fun (b : Option (Nat × (Int × Int)) × State) z =>
      let h := b.2.headRate z
      (match b.1 with
        | none => some (z, h.1)
        | some m =>
          if h.1.2 ≤ 0 then some m
          else if m.2.2 ≤ 0 ∨ h.1.1 * m.2.2 < m.2.1 * h.1.2 then some (z, h.1) else some m, h.2)) (none, s)

/-- Every reservation that remains is returned at DRAIN_MAX, and CLAMP code 15 is driven on every die (Table 9.4). -/
def State.drainAll (s : State) : State :=
  let l := s.openTiles.filter (fun t => decide (0 < (s.tile t).resv))
  if l.isEmpty then s
  else ({ s.each l (fun t x => x.putTile t { x.tile t with resv := 0, resvSeq := none, returning := false }) with
    th.drainCut := true }).clampAll

end Sys2Proof.Machine
end

