-- ==== Sys2Proof/Machine/LinkOps.lean ====
section
/-! DEFINITION. Link state, enumeration, the opening and closing of tiles, and link loss (The Sluice Endpoint). -/

namespace Sys2Proof.Machine
open Sys2Proof

/-- A link is enabled in SL_LINK_CTL. -/
def State.linkOn (s : State) (n : Nat) : Bool := bitOf (s.rf Reg.SL_LINK_CTL_ENABLE) n

/-- Close a tile: its queued INTENTs and its arrival are discarded; its reservation stays until it is returned (R248, R254). -/
def State.closeTile (s : State) (t : Nat) : State :=
  let s1 := ((s.tile t).intents.map (·.seq)).foldl (fun x q => x.dropIntent t q) s
  let x := s1.tile t
  s1.putTile t { x with isOpen := false, held := none, probe := none, backoff := 0, slots := [], returning := decide (0 < x.resv) }

/-- Return a tile's reservation (R228, R248, R254). -/
def State.giveBack (s : State) (t : Nat) : State :=
  let x := s.tile t
  if x.resv = 0 then s else s.putTile t { x with resv := 0, resvSeq := none, lease := 0, returning := false }

/-- Return a list of tiles' reservations. -/
def State.giveBackAll (s : State) (l : List Nat) : State := s.each l (fun t x => x.giveBack t)

/-- A link is enumerated once every tile expected on it is open or refused: 0x3002, and the CLAMP code follows (R293, Table
5.11). -/
def State.enumCheck (s : State) (n : Nat) : State :=
  let l := s.link n
  if l.st ≠ 2 ∨ l.enumerated = true then s
  else if (s.expectedTiles n).all (fun t => ((s.tile t).isOpen && (s.tile t).link == n) || l.failed.contains t) then
    ((s.setLink n { l with enumerated := true }).emit 2 0x3002 n l.opened l.refused).clampAll
  else s

/-- Forget the readings of a tile's sensors: they are judged afresh after its OPEN. -/
def State.dropReadings (s : State) (t : Nat) : State :=
  { s with th.readings := s.th.readings.filter (fun e => decide (e.1 < 4 * t) || decide (4 * t + 3 < e.1)) }

/-- What is sent again to a tile after its CONFIG: its refresh code and its pause duty in force (R294, R398). -/
def State.afterConfig (s : State) (t : Nat) : State :=
  let x := s.tile t
  let r := max (s.zoneRefresh x.dom) (s.zoneRefresh (0x10 + x.link))
  let d := s.pauseOf x.part x.dom
  let s1 := s.sendTile t 0x89 [(4, 1, 2 ^ x.dom), (5, 1, r)]
  s1.sendTile t 0x88 [(4, 1, 2 ^ x.dom), (5, 1, d)]

/-- A tile has passed checks 1 to 5: CONFIG (R253). -/
def State.openTile (s : State) (n t : Nat) : State :=
  let x := s.tile t
  let d := s.rf (Reg.SL_TILE_CFG_DOMAIN t)
  let g := (s.dom d).grade
  let s1 := (s.dropReadings t).putTile t { x with
    isOpen := true, link := n, floor := s.rf (Reg.SL_TILE_CFG_FLOOR t), part := s.rf (Reg.SL_TILE_CFG_PARTITION t), dom := d
    maxcls := s.rf (Reg.SL_TILE_CFG_MAXCLASS t), slots := [], held := none, intents := [], probe := none, arrivedSeq := none
    backoff := b01 (s.rb Reg.SL_CTL_BACKOFF_TEST), refused := false }
  let s2 := s1.sendTile t 0x85 [(4, 1, s1.rf (Reg.SL_TILE_CFG_FLOOR t)), (5, 1, s1.rf (Reg.SL_TILE_CFG_PARTITION t)), (6, 1, d),
    (7, 1, s1.rf (Reg.SL_TILE_CFG_MAXCLASS t)), (8, 1, s1.rf Reg.SL_CTL_RAMP), (9, 1, g), (10, 2, s1.gradeF d g)]
  let l := s2.link n
  (((s2.setLink n { l with opened := l.opened + 1 }).afterConfig t).pauseUpdate (s1.rf (Reg.SL_TILE_CFG_PARTITION t))).enumCheck n

/-- A tile fails a conformance check: CLOSE with REASON 1, recorded once per session (R252). SL_TILE_STAT.CHECK takes the check; the
STATE of a tile that is open on another link stays that of its open channel. DESIGN CHOICE, log entry 124. -/
def State.nonconform (s : State) (n t check : Nat) : State :=
  let l := s.link n
  let s1 := s.sendClose n t 1
  if l.failed.contains t then s1
  else
    let s2 := s1.setLink n { s1.link n with failed := l.failed ++ [t], refused := l.refused + 1 }
    let s3 := ((s2.satAdd (Reg.SL_LINK_ERR_NONCONF n) 1).emit 2 0x3004 t check n).wr (Reg.SL_TILE_STAT_CHECK t) check
    let x := s3.tile t
    (if x.isOpen then s3 else s3.putTile t { x with refused := true, probe := none, link := n }).enumCheck n

/-- Groups of a list of tiles. -/
def State.barGroups (s : State) (l : List Nat) : List Nat := (l.filterMap (fun t => (s.tile t).barGrp)).eraseDups

/-- The session of a link ends: what its flits and its tiles' checks hold is gone. -/
def Link.ended (l : Link) (st : Nat) : Link :=
  { l with st := st, opened := 0, refused := 0, enumerated := false, failed := [], fl := {}, intake := [], traffic := false }

/-- The session of a link ends on the KG8's side: its tiles are closed, and no tile of it stands refused any more. -/
def State.endSession (s : State) (n st : Nat) : State :=
  let failed := (s.link n).failed
  let s1 := (s.setLink n ((s.link n).ended st)).each failed (fun t x =>
    if (x.tile t).refused then x.putTile t { x.tile t with refused := false, probe := none } else x)
  { s1 with sl.held := s1.sl.held.filter (fun e => e.1 != n) }

/-- A link is lost on the owner: its tiles' INTENTs are discarded, they leave their barrier groups, and their reservations return
2 us later (R248). -/
def State.dropTiles (s : State) (n : Nat) : State :=
  let open_ := s.linkTiles n
  let grps := s.barGroups open_
  let s1 := s.each open_ (fun t x => x.closeTile t)
  let s2 := s1.each open_ (fun t x => match (x.tile t).barGrp with
    | some g => x.emit 0 0x3007 g t (x.expected g)
    | none => x)
  (s2.setLink n { s2.link n with losing := (s2.link n).losing ++ open_ }).each grps (fun g x => x.checkRelease g)

/-- A link is declared lost: 0 UCIe, 1 no flit, 2 replay (R214, R248). On the die that does not own, the tiles keep what they
have. -/
def State.linkLoss (s : State) (n cause : Nat) : State :=
  if (s.link n).st ≠ 2 then s
  else
    let k := (s.linkTiles n).length
    let s1 := (s.satAdd (Reg.SL_LINK_ERR_LOSSES n) 1).emit 2 0x3001 n cause k
    let s2 := s1.endSession n 3
    let s3 := s2.setLink n { s2.link n with lost := true }
    (if s3.owner then s3.dropTiles n else s3).clampAll

/-- A link leaves the active state without a failure: in Nap, in reset or while disabled (R844, Table 5.13). -/
def State.linkDown (s : State) (n : Nat) : State :=
  let open_ := s.linkTiles n
  let s1 := s.each open_ (fun t x => (x.closeTile t).giveBack t)
  let s2 := s1.endSession n (if (s1.link n).barred then 4 else 0)
  (s2.setLink n { s2.link n with lost := false, losing := [] }).clampAll

/-- Training of a link starts (R207), not while REFCLK_100 is absent (Table 2.8), and not on a link that R208 has disabled. -/
def State.linkTrain (s : State) (n : Nat) : State :=
  if (s.link n).barred then s.setLink n { s.link n with st := 4 }
  else if s.edge.refclkOk then s.setLink n { s.link n with st := 1 } else s

/-- Start training every enabled link (R844). -/
def State.linksTrain (s : State) : State :=
  s.upto 16 (fun n x => if x.linkOn n && (x.link n).st != 2 then (x.setLink n { x.link n with fails := 0 }).linkTrain n else x)

/-- Toward Run, once every started rail is power-good, the enabled links train (R844). -/
def State.wakeLinks (s : State) : State :=
  if s.isl.waking && s.usedRails.all (fun r => (s.rail r).powerGood) && (List.range 16).all (fun n => (s.link n).st == 0 || (s.link n).barred) then
    s.linksTrain
  else s

end Sys2Proof.Machine
end

