-- ==== Sys2Proof/Machine/ReservoirOps.lean ====
section
/-! DEFINITION. The reservoir: module, estimates, causes and modes, endurance (The Reservoir). Voltages are in millivolts,
powers in 0.01 W, energies in millijoules, charges in microcoulombs. -/

namespace Sys2Proof.Machine
open Sys2Proof

/-- Module fields of R338: cells, limits in millivolts, converter power limit. -/
def State.rvCells (s : State) : Nat := s.rf Reg.RV_MOD_CFG0_CELLS
def State.rvVmax (s : State) : Nat := 2000 + 10 * s.rf Reg.RV_MOD_CFG2_VMAX
def State.rvVmin (s : State) : Nat := 500 + 10 * s.rf Reg.RV_MOD_CFG2_VMIN
def State.rvPmax (s : State) : Nat := 5000 * s.rf Reg.RV_MOD_CFG2_PMAX

/-- A cell reading of 16 bits over 3.2 V in millivolts (R85). DESIGN CHOICE, log entry 119. -/
def cellMv (c : BitVec 16) : Nat := c.toNat * 3200 / 65536

/-- The stack voltage that is read from 0 to 50 V, in millivolts (R85). -/
def stackOf (mv : Nat) : Nat := min mv 50000

/-- Stack current in 0.1 A from the microvolts across the RVIS shunt, at most 100 mV either way (R85, Table 8.12). -/
def State.rvisDa (s : State) (uv : Int) : Int := clampI (-100000) 100000 uv * 100 / (s.rf Reg.RV_MOD_CFG1_SHUNT : Nat)

/-- V_TOP (R341). -/
def State.rvVtop (s : State) : Nat :=
  if s.rf Reg.RV_STAT_ENDURANCE = 1 then s.rvVmax - 10 * s.rf Reg.RV_MOD_CFG2_FADE_DV else s.rvVmax

/-- The rule of R339 that the module configuration breaks, with a value; none when it is valid. -/
def State.rvModBad (s : State) : Option (Nat × Nat) :=
  let n := s.rvCells
  let x := s.rf Reg.RV_MOD_CFG0_IMAX * s.rf Reg.RV_MOD_CFG1_SHUNT
  if n ≠ 0 ∧ (n < 8 ∨ 16 < n) then some (1, n)
  else if s.rvVmax < s.rvVmin + 500 then some (2, s.rvVmax - s.rvVmin)
  else if 800000 < x then some (3, x / 10000)
  else none

/-- Tap `k` is open. -/
def State.tapOpen (s : State) (k : Nat) : Bool := bitOf s.rv.openTaps k

/-- Open taps, ascending. -/
def State.tapsOpen (s : State) : List Nat := (List.range 17).filter s.tapOpen

/-- Cell `i` (from 1) of a reading. -/
def CellRead.cell (r : CellRead) (i : Nat) : Int := (r.cells.getD (i - 1) 0 : Nat)

/-- Sum of a reading's cells. -/
def CellRead.total (r : CellRead) : Int := (r.cells.sum : Nat)

/-- Cell `i` at its worst case while a tap that adjoins it is open (R363). -/
def State.worstCell (s : State) (i : Nat) : Int :=
  let a := s.rv.a
  let n := s.rvCells
  let pair := fun (k : Nat) => (a.cell k + a.cell (k + 1)) / 2 - (max 150 (mget 0 s.rv.preDiff k) : Nat)
  if i = 1 ∧ s.tapOpen 0 then (a.stack : Int) - (a.total - a.cell 1) - 20
  else if i = n ∧ s.tapOpen n then (a.stack : Int) - (a.total - a.cell n) - 20
  else if s.tapOpen i ∧ i < n then pair i
  else if 1 < i ∧ s.tapOpen (i - 1) then pair (i - 1)
  else a.cell i

/-- Change of the stack since reading A, per cell (R354). -/
def State.rvDrift (s : State) : Int := ((s.rv.stackMv : Int) - s.rv.a.stack) / (s.rvCells : Int)

/-- Cell estimates at reading A. -/
def State.rvEsts (s : State) : List Int := (List.range s.rvCells).map (fun i => s.worstCell (i + 1))

/-- V_low of R354. -/
def State.rvLow (s : State) : Int :=
  match s.rvEsts with
  | [] => 0
  | e :: t => t.foldl min e + s.rvDrift - 20

/-- V_high of R354. -/
def State.rvHigh (s : State) : Int :=
  match s.rvEsts with
  | [] => 0
  | e :: t => t.foldl max e + s.rvDrift + 20

/-- The lowest measured capacitance in 0.1 % of C_NAME, nameplate until a cell has been measured (R341). -/
def State.rvCap (s : State) : Nat :=
  match ((List.range s.rvCells).map (fun i => s.rf (Reg.RV_CELL_END_CAP i))).filter (fun c => c != 0) with
  | [] => 1000
  | c :: t => t.foldl min c

/-- Energy of the stack from the floor VMIN up to a cell voltage, in millijoules (R341). -/
def State.rvEnergy (s : State) (v : Int) : Nat :=
  let m : Int := s.rvVmin
  if v < m then 0 else s.rvCells * s.rf Reg.RV_MOD_CFG0_C_NAME * s.rvCap * (v * v - m * m).toNat / 2000000

def State.rvUsable (s : State) : Nat := s.rvEnergy s.rvVtop
def State.rvAvail (s : State) : Nat := s.rvEnergy s.rvLow
def State.rvReserve (s : State) : Nat := s.rvUsable * s.rf Reg.RV_OP_CFG0_RESERVE / 100

/-- Energy that may be spent: E_reserve is taken as 0 while the shed flag is set (R348, R376). -/
def State.rvSpend (s : State) : Nat := s.rvAvail - (if s.rv.shed then 0 else s.rvReserve)

/-- Charging is permitted: window open, no open tap, no leak (R353, R363, R367). -/
def State.chgOk (s : State) : Bool := s.rv.chgOpen && !bitOf s.rv.causes 10 && !bitOf s.rv.causes 11

/-- The modes in which the converter is off (R348). -/
def convOff (mode : Nat) : Bool := mode == 0 || mode == 1 || mode == 5

/-- Powers available before the tapers (R343). -/
def State.rvPower (s : State) : Nat := min s.rvPmax (s.rv.stackMv * s.rf Reg.RV_MOD_CFG0_IMAX / 10)

/-- p_dis_avail (R343, R354). -/
def State.disAvail (s : State) : Nat :=
  if convOff s.rv.mode || !s.rv.disOpen then 0
  else s.rvPower * (clampI 0 50 (s.rvLow - s.rvVmin)).toNat / 50

/-- p_chg_avail (R343, R354). -/
def State.chgAvail (s : State) : Nat :=
  if convOff s.rv.mode || !s.chgOk then 0
  else s.rvPower * (clampI 0 50 ((s.rvVtop : Int) - s.rvHigh)).toNat / 50

/-- p_rech: the recharge power (R350), or the draw of PRECHARGE (R379). -/
def State.rech (s : State) : Nat :=
  if convOff s.rv.mode then 0
  else if s.rv.mode = 2 then s.rf Reg.RV_OP_CFG1_PRE_I * s.rv.stackMv / 10
  else if s.chgOk && decide (s.rvHigh < (s.rvVtop : Int) - 50) then s.rf Reg.RV_OP_CFG0_RECH_W * 100 else 0

/-- A whole number's square root, rounded down, by bisection over its bits. -/
def isqrt (n : Nat) : Nat :=
  (List.range 33).foldl (fun r k =>
    let c := r + 2 ^ (32 - k)
    if c * c ≤ n then c else r) 0

/-- The smoothing promise in watts (R351). -/
def State.promise (s : State) : Nat :=
  if convOff s.rv.mode || s.rv.mode == 2 then 0
  else min (s.rvPmax / 100) (min (s.rvCells * s.rvVmin * s.rf Reg.RV_MOD_CFG0_IMAX / 1000)
    (isqrt (2 * s.rf Reg.RV_OP_CFG0_RAMP * (s.rvUsable - s.rvReserve))))

/-- Converter power in watts, as records carry it. -/
def State.convW (s : State) : Nat := pI (s.rv.pConv / 100)

/-- Half-bridge `n` of the reservoir takes a level; only the owner drives it (R53, R82). -/
def State.rvPin (s : State) (n : Nat) (v : Pin) : State :=
  if mget .hiZ s.rv.pins n == v then s else ({ s with rv.pins := mput .hiZ s.rv.pins n v }).out (.rvp n v)

/-- Dead time of half-bridge `n` in 0.5 ns (R186). -/
def State.rvDead (s : State) (n : Nat) : Nat := let d := mget (2, 0) s.ph.resDt n; s.dtRes d.2 d.1

/-- Active legs: enough for 1,000 W each, at least one while the converter switches, on the owner (R342). -/
def State.rvLegs (s : State) : Nat :=
  if !s.owner || s.inReset 1 || convOff s.rv.mode then 0 else max 1 (min 4 ((s.rv.cmd.natAbs + 99999) / 100000))

/-- An active leg switches from its place in the cycle, with its dead times (R186, R342). -/
def State.legOut (s : State) (k : Nat) : State := s.out (.rvLeg k s.rv.legs (s.rvDead k) (s.rvDead (k + 4)))

/-- The legs follow the converter command: legs that the power does not call for have both switches off; with the stack current at IMAX
every leg's pulse is ended (R342). DESIGN CHOICE, log entry 120. -/
def State.legsDrive (s : State) : State :=
  let n := s.rvLegs
  let v : Pin := if 10 * s.rf Reg.RV_MOD_CFG0_IMAX ≤ s.rv.stackDa.natAbs then .low else .cycle
  let s1 := s.upto 4 (fun k x => let w : Pin := if k < n then v else .hiZ; (x.rvPin k w).rvPin (k + 4) w)
  if s.rv.legs = n then s1 else (List.range n).foldl (fun (x : State) k => x.legOut k) { s1 with rv.legs := n }

/-- The bleed is applied to the cells of a mask; only the owner applies it (R55, R356). -/
def State.rvBleed (s : State) (m : Nat) : State :=
  if s.rv.bleeding = m then s else ({ s with rv.bleeding := m }).out (.tapBleed m)

/-- The owner-only outputs of the reservoir and of its sensing go to high impedance (R54, R199, R381). -/
def State.rvPinsOff (s : State) : State :=
  let s1 := s.upto 8 (fun n x => x.rvPin n .hiZ)
  let s2 := (if s1.rv.probing = 0 then s1 else s1.out (.tapProbe 0)).rvBleed 0
  { s2 with rv.legs := 0, rv.probing := 0 }

/-- Enter a control mode, with 0x5001 on a change (R347). -/
def State.rvMode (s : State) (m : Nat) : State :=
  if s.rv.mode = m then s
  else
    let s1 := s.emit 1 0x5001 s.rv.mode m s.convW
    let x := s1.rv
    let s2 := { s1 with rv := { x with
      mode := m
      cmd := if convOff m then 0 else x.cmd
      balancing := if convOff m then 0 else x.balancing
      checkAt := if m = 1 then s.now else x.checkAt
      checkClean := if m = 1 then 0 else x.checkClean
      preAt := if m = 2 then s.now else x.preAt
      preStack := if m = 2 then x.stackMv else x.preStack } }
    if convOff m then (s2.rvBleed 0).legsDrive else s2

/-- A BYPASS cause holds (Table 8.2). -/
def State.bypassed (s : State) : Bool := (List.range 9).any (fun c => bitOf s.rv.causes c)

/-- A SUPPLY cause holds. -/
def State.supplied (s : State) : Bool := bitOf s.rv.causes 9 || bitOf s.rv.causes 10 || bitOf s.rv.causes 11

/-- The running mode that the stack and the causes put in force (R345). -/
def State.rvRun (s : State) : State :=
  if s.rvLow < s.rvVmin then
    if s.chgOk then s.rvMode 2 else ({ s with rv.causes := s.rv.causes ||| 2 ^ 8 }).rvMode 5
  else if s.supplied then s.rvMode 4 else s.rvMode 3

/-- Settle the mode after a change of causes (R345, Table 8.1). -/
def State.rvSettle (s : State) : State :=
  match s.rv.mode with
  | 0 => s
  | 5 => if s.bypassed then s else s.rvMode 1
  | 1 => if s.bypassed then s.rvMode 5 else s
  | 2 => if s.bypassed then s.rvMode 5 else if s.chgOk then s else s.rvRun
  | _ => if s.bypassed then s.rvMode 5 else s.rvRun

/-- A cause arises. -/
def State.rvCause (s : State) (c : Nat) : State := ({ s with rv.causes := s.rv.causes ||| 2 ^ c }).rvSettle

/-- A cause clears. -/
def State.rvClear (s : State) (c : Nat) : State := ({ s with rv.causes := setBitsOf s.rv.causes c c 0 }).rvSettle

/-- REG runs: with cells, CHECK is entered from OFF, or BYPASS with CONFIG; without, the reservoir is OFF (R339, R344). -/
def State.rvStart (s : State) : State :=
  if s.rvCells = 0 then (({ s with rv.causes := 0 }).rvMode 0)
  else match s.rvModBad with
    | some (rule, v) =>
      if bitOf s.rv.causes 1 then s
      else (({ s with rv.causes := s.rv.causes ||| 2 }).rvMode 5).emit 1 0x5004 rule v
    | none =>
      let s1 := { s with rv.causes := setBitsOf s.rv.causes 1 1 0 }
      let s2 := if s.rb Reg.RV_OP_CFG1_FORCE_BYPASS then { s1 with rv.causes := s1.rv.causes ||| 2 ^ 6 } else s1
      if s2.rv.mode = 0 then (s2.rvMode 1).rvSettle else s2.rvSettle

/-- Ten minutes in nanoseconds. -/
def tenMin : Nat := 600000000000

/-- A converter stop: cause FAULT with 0x5030; after the third within 10 min it no longer clears by itself (R365, R368). -/
def State.rvFault (s : State) (kind v : Nat) : State :=
  let recent := (s.rv.faults.filter (fun t => decide (s.now < t + tenMin))) ++ [s.now]
  let s1 := { s with rv.faults := recent, rv.latched := s.rv.latched || decide (3 ≤ recent.length), rv.cmd := 0 }
  ((s1.wr Reg.RV_FELL_FAULT 1).emit 1 0x5030 kind v recent.length).rvCause 5

/-- The checkpoint of the endurance state to flash (R375). -/
def State.rvCheckpoint (s : State) : State :=
  let pick := fun (e : Nat × Nat) => blkHolds 3 (e.1 / 32) && keyClass e.1 == 3
  { s with flash := mergeKeys (s.regs.filter pick) (s.flash.filter (fun e => !pick e)) }

/-- Insert into an ascending list. -/
def insAsc (x : Nat) : List Nat → List Nat
  | [] => [x]
  | y :: t => if x ≤ y then x :: y :: t else y :: insAsc x t

/-- Median: the middle value, or the mean of the middle two. DESIGN CHOICE, log entry 33. -/
def median (l : List Nat) : Nat :=
  let a := l.foldl (fun m x => insAsc x m) []
  let n := a.length
  if n = 0 then 0 else if n % 2 = 1 then a.getD (n / 2) 0 else (a.getD (n / 2 - 1) 0 + a.getD (n / 2) 0) / 2

/-- Valid thermistors' temperatures. -/
def State.thermTemps (s : State) : List Int :=
  ((List.range 4).filter (fun j => !(mget {} s.rv.therms j).broken)).map (fun j => (mget {} s.rv.therms j).temp)

/-- The cold and the hot reading; none with fewer than two valid thermistors (R352). -/
def State.coldHot (s : State) : Option (Int × Int) :=
  match s.thermTemps with
  | a :: b :: t => some ((b :: t).foldl min a, (b :: t).foldl max a)
  | _ => none

/-- Endurance may be measured: both readings from 15 to 45 degrees, no open tap, not in BYPASS (R369). -/
def State.wearOk (s : State) : Bool :=
  (match s.coldHot with
    | some (c, h) => decide (15 ≤ c ∧ h ≤ 45)
    | none => false) && s.rv.openTaps == 0 && s.rv.mode != 5

/-- A transition of the endurance state, with 0x5040 and a checkpoint (R373). -/
def State.endurance (s : State) (into cell kind : Nat) : State :=
  let was := s.rf Reg.RV_STAT_ENDURANCE
  if was < into then
    let s1 := ((s.wr Reg.RV_STAT_ENDURANCE into).wr Reg.RV_FELL_ENDURANCE 1).emit 1 0x5040 was into (cell * 256 + kind)
    let s2 := s1.rvCheckpoint
    if into = 2 then s2.rvCause 4 else s2
  else s

/-- Judge cell `n` (from 0) on new medians: a threshold is crossed when three updates in a row lie beyond it (R373). -/
def State.judgeWear (s : State) (n : Nat) (cap : Bool) : State :=
  let w := mget ({} : CellWear) s.rv.wear n
  if cap then
    if 3 ≤ w.capRet then s.endurance 2 (n + 1) 0 else if 3 ≤ w.capFade then s.endurance 1 (n + 1) 0 else s
  else if 3 ≤ w.esrRet then s.endurance 2 (n + 1) 1 else if 3 ≤ w.esrFade then s.endurance 1 (n + 1) 1 else s

/-- A run of consecutive updates beyond a threshold. -/
def runLen (n : Nat) (beyond : Bool) : Nat := if beyond then satU 8 (n + 1) else 0

/-- A new capacitance segment of a cell, in 0.1 % of C_NAME (R371). -/
def State.newCap (s : State) (n v : Nat) : State :=
  let w := mget ({} : CellWear) s.rv.wear n
  let l := (v :: w.segs).take 9
  let m := median l
  let w1 := { w with segs := l, capFade := runLen w.capFade (decide (m < 850)), capRet := runLen w.capRet (decide (m < 700)) }
  (({ s with rv.wear := mput {} s.rv.wear n w1 }).wr (Reg.RV_CELL_END_CAP n) (satU 16 m)).judgeWear n true

/-- A new ESR sample of a cell, in 0.01 of ESR_NAME (R372). -/
def State.newEsr (s : State) (n v : Nat) : State :=
  let w := mget ({} : CellWear) s.rv.wear n
  let l := (v :: w.esrs).take 9
  let m := median l
  let w1 := { w with esrs := l, esrFade := runLen w.esrFade (decide (180 < m)), esrRet := runLen w.esrRet (decide (250 < m)) }
  (({ s with rv.wear := mput {} s.rv.wear n w1 }).wr (Reg.RV_CELL_END_ESR n) (satU 16 m)).judgeWear n false

end Sys2Proof.Machine
end

