-- ==== Sys2Proof/Machine/PkgOps.lean ====
section
/-! DEFINITION. Package state commands and the start of transitions (Islands, Resets and Power States; Bring-Up). Package states:
0 Run, 1 Doze, 2 Nap, 3 Keep. -/

namespace Sys2Proof.Machine
open Sys2Proof

/-- The next state on the listed path from a state to a goal (R131, Table 3.6). -/
def nextPkg (pkg goal : Nat) : Nat :=
  match pkg, goal with
  | 0, 1 => 1
  | 0, _ => 2
  | 1, 0 => 0
  | 1, _ => 2
  | 2, 3 => 3
  | 2, _ => 0
  | _, _ => 2

/-- The first condition of R842 that fails: 0 profile, 1 trip, 2 auxiliary configuration, 3 sequence. -/
def State.runMissing (s : State) : Option Nat :=
  if !s.ph.loadOk then some 0
  else if s.th.trip then some 1
  else if s.ax.cfgBad then some 2
  else if !s.ax.seqDone || !s.mainDepOk then some 3
  else none

/-- FSTEP with each domain's grade and frequency in force to every tile, which ungates its clocks (Table 3.6). -/
def State.ungate (s : State) : State :=
  s.upto 8 (fun d x => x.sendFstep (2 ^ d) (x.dom d).grade (x.gradeF d (x.dom d).grade))

/-- No open tile holds a reservation: the leases are drained. -/
def State.drained (s : State) : Bool := s.sl.tiles.all (fun e => e.2.resv == 0)

/-- The soft-stops of every running rail, in descending ORDER: a rail's ramp begins when those of every higher ORDER have reached 0.30 V
(R171). DEDUCED, log entry 61. -/
def State.stopAll (s : State) : State :=
  ((List.range 8).reverse.foldl (fun (e : State × Nat) o =>
    let l := e.1.runningRails.filter (fun r => e.1.rf (Reg.PC_RAIL_CFG_ORDER r) == o)
    (e.1.each l (fun r x => x.railStop r e.2), e.2 + (l.map (fun r => e.1.stopTime r)).foldl max 0)) (s, s.now)).1

/-- Toward Nap, once the leases are drained: every domain to grade 0, and the soft-stops begin (Table 3.6, R171). -/
def State.napAdvance (s : State) : State :=
  if s.isl.inTrans && s.isl.target == 2 && s.drained && decide (s.isl.pkg < 2) && !(s.runningRails.any (fun r => (s.rail r).mode == 6)) then
    (s.upto 8 (fun d x => if (x.dom d).target = 0 then x else x.retarget d 0)).stopAll
  else s

/-- The entry to Keep begins: flush, checkpoints, auxiliary rails off, reservoir off (Table 3.6, R135, R380). -/
def State.keepBegin (s : State) : State :=
  ((((s.tailFlush).checkpoint).rvCheckpoint).auxAllOff).rvMode 0

/-- Milliseconds since the start of the bring-up sequence, saturating as a register of 16 bits does (Table 23.8). -/
def State.bootMs (s : State) : Nat := satU 16 ((s.now - s.isl.bootAt) / msec)

/-- Run is reached: every rail in use is power-good, and every enabled link has enumerated its tiles or is disabled (R844). -/
def State.runReady (s : State) : Bool :=
  s.isl.inTrans && s.isl.waking && s.owner && s.usedRails.all (fun r => (s.rail r).powerGood)
  && (List.range 16).all (fun n => !s.linkOn n || (s.link n).enumerated || (s.link n).st == 4)

/-- Out of Run or Doze: admission is frozen while the leases drain, toward Doze or Nap (Table 3.6). -/
def State.leaveRun (s : State) (t : Nat) : State :=
  ({ s with isl.inTrans := true, isl.target := t, isl.frozen := true }).napAdvance

/-- Toward Run: once it is reached, the package is in Run, and goes on where a later command leads (R131, R844, Table 3.6). -/
def State.runCheck (s : State) : State :=
  if s.runReady then
    let ms := s.bootMs
    let s1 := if s.isl.runReached then s else s.wr Reg.IS_BOOT_TIME_RUN_MS ms
    let s2 := { s1 with isl.pkg := 0, isl.inTrans := false, isl.waking := false, isl.frozen := false, isl.runReached := true }
    let s3 := (s2.emit 7 0x1010 2 0 s.isl.trig).emit 7 0x1019 (s.rf Reg.IS_BOOT_TIME_NAP_MS) ms (b01 s.isl.fromKeep)
    if s3.isl.goal = 0 then s3 else s3.leaveRun (nextPkg 0 s3.isl.goal)
  else s

/-- A transition starts toward the next state on the way to the goal. -/
def State.pkgBegin (s : State) (trig : Nat) : State :=
  let t := nextPkg s.isl.pkg s.isl.goal
  let s1 := { s with isl.inTrans := true, isl.target := t, isl.trig := trig }
  match s.isl.pkg, t with
  | 1, 0 => (s1.upto 8 (fun d x => x.burstExitCmd d)).ungate
  | 2, 0 => ((({ s1 with isl.waking := true }).startReady).wakeLinks).runCheck
  | 2, 3 => s1.keepBegin
  | _, _ => s1.leaveRun t

/-- A Run command that R842 stops. -/
def State.runRefused (s : State) (c : Nat) : State := s.refuse.emit 7 0x1018 c

/-- A state command with a target and a trigger (R131, R136, R842). -/
def State.pkgCommand (s : State) (target trig : Nat) : State :=
  if !s.owner || !s.isl.napReached || s.isl.pkg == 3 then s.refuse
  else
    let s0 := if target = 3 then { s with isl.autoArmed := false } else s
    if s0.isl.inTrans then
      if target = s0.isl.target ∨ target = s0.isl.pkg then s0 else { s0 with isl.goal := target }
    else if target = s0.isl.pkg then s0
    else
      let s1 := { s0 with isl.goal := target, isl.retried := false }
      if s0.isl.pkg = 2 ∧ target < 2 then
        match s0.runMissing with
        | some c => ({ s0 with isl.goal := 2 }).runRefused c
        | none => ({ s1 with isl.autoArmed := false }).pkgBegin trig
      else s1.pkgBegin trig

/-- The package has reached a state, which is recorded (Table 3.6). -/
def State.pkgArrive (s : State) (t : Nat) : State :=
  ({ s with isl.pkg := t, isl.target := t, isl.inTrans := false, isl.retried := false }).emit 7 0x1010 s.isl.pkg t s.isl.trig

/-- The way to the goal goes on from the state reached (R131, R842). -/
def State.pkgContinue (s : State) : State :=
  if s.isl.inTrans ∨ s.isl.goal = s.isl.pkg then s
  else if s.isl.pkg = 2 ∧ s.isl.goal < 2 then
    match s.runMissing with
    | some c => ({ s with isl.goal := 2 }).runRefused c
    | none => s.pkgBegin s.isl.trig
  else s.pkgBegin s.isl.trig

/-- In Doze the first INTENT starts the transition to Run; an INTENT is a burst-exit command for its domain (R175, Table 3.6). -/
def State.intentWake (s : State) (d : Nat) : State :=
  let s1 := s.burstExitCmd d
  if s1.owner && s1.isl.pkg == 1 && !s1.isl.inTrans then ({ s1 with isl.goal := 0 }).pkgBegin 2 else s1

end Sys2Proof.Machine
end

