-- ==== Sys2Proof/Machine/ImageOps.lean ====
section
/-! DEFINITION. Fused keys, the checks of an image in a slot, and loading it (Security and Images; Ikiva Policy Cores). -/

namespace Sys2Proof.Machine
open Sys2Proof

/-- A fused key slot. -/
def State.keySlot (s : State) (i : Nat) : KeySlot := mget {} s.se.keys i

/-- Why key `pub`, presented for slot `i`, is not usable for a permission bit: 1 not found, 2 revoked, 3 not permitted (R772,
R787). -/
def State.keyBad (s : State) (i : Nat) (pub : List Nat) (perm : Nat) : Option Nat :=
  let k := s.keySlot i
  if 8 ≤ i ∨ k.blown = false ∨ Config.sha384 pub ≠ k.digest then some 1
  else if k.revoked then some 2
  else if bitOf k.perms perm then none else some 3

/-- Byte of an image slot (0 A, 1 B); flash that holds nothing reads erased. -/
def State.imgByte (s : State) (slot off : Nat) : Nat := (mget (0xFF : Byte) s.se.image (slot * 2 ^ 24 + off)).toNat

/-- Bytes of an image slot. -/
def State.imgBytes (s : State) (slot off n : Nat) : List Nat := (List.range n).map (fun i => s.imgByte slot (off + i))

/-- A little-endian field of an image slot (R520). -/
def State.imgLe (s : State) (slot off n : Nat) : Nat := ofLe (s.imgBytes slot off n)

/-- A failed check of Table 12.14: its number, the item of R777, and the value found. -/
structure BadImage where
  check : Nat
  item : Nat := 0
  value : Nat := 0
deriving DecidableEq, Repr

/-- The first field of a list whose value is not the one it must have. -/
def firstOff (l : List (Nat × Nat)) : Option Nat := (l.find? (fun e => e.1 != e.2)).map (·.1)

/-- Checks 1 and 2: header and length (Table 12.14). -/
def State.imgHead (s : State) (slot : Nat) : Option BadImage :=
  let v := s.imgLe slot
  match firstOff [(v 0 4, 0x49564B49), (v 4 2, 1), (v 6 2, 0x100), (v 0x18 2, 1200), (v 0x11 3, 0), (v 0x1A 6, 0)] with
  | some x => some { check := 1, value := x }
  | none =>
    let n := v 0xC 4
    if n < 0x100 ∨ 2 ^ 24 < n + 200 then some { check := 2, value := n } else none

/-- Check 3, judged in the order of R777. -/
def State.imgSig (s : State) (slot : Nat) : Option BadImage :=
  let n := s.imgLe slot 0xC 4
  let epoch := s.imgLe slot 11 1
  let key := s.imgByte slot (n + 4)
  let pub := s.imgBytes slot (n + 8) 96
  if s.imgLe slot n 4 ≠ 0x53564B49 ∨ s.imgByte slot (n + 5) ≠ 0 ∨ s.imgLe slot (n + 6) 2 ≠ 0 then some { check := 3, item := 1 }
  else if (s.keyBad key pub 0).isSome then some { check := 3, item := 2, value := key }
  else if Config.ecdsaOk pub (s.imgBytes slot (n + 104) 96) (Config.sha384 (s.imgBytes slot 0 (n + 104))) = false then
    some { check := 3, item := 3 }
  else if epoch < s.se.counter ∨ 64 < epoch then some { check := 3, item := 4, value := epoch }
  else none

/-- Checks 1 to 3 on a slot, in order. -/
def State.imgBad (s : State) (slot : Nat) : Option BadImage :=
  match s.imgHead slot with
  | some b => some b
  | none => s.imgSig slot

/-- Handler table of a core's directory entry: address, flags and WCET (Table 12.13). -/
def State.imgHandlers (s : State) (slot d : Nat) : List (Nat × Nat × Nat) :=
  let off := s.imgLe slot (d + 16) 4
  (List.range (s.imgLe slot (d + 22) 2)).map (fun i =>
    (s.imgLe slot (off + 8 * i) 2, s.imgByte slot (off + 8 * i + 2), s.imgLe slot (off + 8 * i + 4) 4))

/-- Checks 4 to 6 of a core: the check and the value found (Table 12.14). -/
def State.coreBad (s : State) (slot c : Nat) : Option (Nat × Nat) :=
  let d := 0x20 + 28 * c
  let v := fun (o n : Nat) => s.imgLe slot (d + o) n
  let total := s.imgLe slot 0xC 4
  let text := v 4 4
  let data := v 12 4
  let nh := v 22 2
  let entry := v 20 2
  let bn := s.rf Reg.IK_BUDGET_BUDGET_N
  let bu := s.rf Reg.IK_BUDGET_BUDGET_U
  if text % 4 ≠ 0 ∨ 65536 < text then some (4, text)
  else if 131072 < data then some (4, data)
  else if 256 < nh then some (4, nh)
  else if total < v 0 4 + text then some (4, v 0 4)
  else if total < v 8 4 + data then some (4, v 8 4)
  else if total < v 16 4 + 8 * nh then some (4, v 16 4)
  else if entry % 4 ≠ 0 ∨ text ≤ entry then some (4, entry)
  else
    let hs := (s.imgHandlers slot d).filter (fun h => bitOf h.2.1 0)
    match hs.find? (fun h => h.1 % 4 != 0 || decide (text ≤ h.1) || bitsOf h.2.1 2 1 == 0) with
    | some h => some (5, h.1)
    | none =>
      if bn < v 24 4 then some (6, v 24 4)
      else match hs.find? (fun h => (bitOf h.2.1 1 && decide (bn < h.2.2)) || (bitOf h.2.1 2 && decide (bu < h.2.2))) with
        | some h => some (6, h.2.2)
        | none => none

/-- Load a core from a slot, stopped at ENTRY (R520, R521, R525); a refused core stays stopped with cause 4. -/
def State.loadCore (s : State) (slot c : Nat) : State :=
  let k0 : IkCore := { faultAt := (s.core c).faultAt }
  if !bitOf (s.imgByte slot 0x10) c then s.setCore c k0
  else match s.coreBad slot c with
    | some (check, v) => (((s.setCore c { k0 with refused := true }).emit 3 0x9003 c check v).enterFloor c 4)
    | none =>
      let d := 0x20 + 28 * c
      let v := fun (o n : Nat) => s.imgLe slot (d + o) n
      s.setCore c { k0 with
        loaded := true, entry := v 20 2, pc := v 20 2, textLen := v 4 4, threadWcet := v 24 4, handlers := s.imgHandlers slot d
        imem := ((List.range (v 4 4 / 4)).map (fun i => (i, BitVec.ofNat 32 (s.imgLe slot (v 0 4 + 4 * i) 4)))).filter (fun e => e.2 != 0)
        data := ((List.range (v 12 4)).map (fun i => (0x100000 + i, BitVec.ofNat 8 (s.imgByte slot (v 8 4 + i))))).filter
          (fun e => e.2 != 0) }

/-- Load the image of a slot that passed checks 1 to 3, with 0xE001. -/
def State.loadSlot (s : State) (slot : Nat) (fell : Bool) : State :=
  let n := s.imgLe slot 0xC 4
  let epoch := s.imgByte slot 11
  let key := s.imgByte slot (n + 4)
  let s1 := { s with se.loaded := some (slot, epoch, key), se.fellBack := fell, ik.version := s.imgLe slot 8 4, ik.check := 0 }
  (s1.emit 7 0xE001 slot epoch key).upto 8 (fun c x => x.loadCore slot c)

/-- A slot is refused: 0x9003 for the image, and 0xE002 (R521, R777). -/
def State.slotRefused (s : State) (slot : Nat) (b : BadImage) : State :=
  (({ s with ik.check := b.check }).emit 3 0x9003 0xFF b.check b.value).emit 7 0xE002 slot b.check b.item

/-- The image loader: the active slot, else the other one, else no core at all (R778). -/
def State.imageLoad (s : State) : State :=
  let a := s.rf Reg.SE_SLOT_ACTIVE
  match s.imgBad a with
  | none => s.loadSlot a false
  | some b =>
    let s1 := s.slotRefused a b
    match s1.imgBad (1 - a) with
    | none => (s1.loadSlot (1 - a) true).emit 7 0xE003 a (1 - a)
    | some b2 =>
      let s2 := s1.slotRefused (1 - a) b2
      { s2 with se.loaded := none, se.fellBack := false, ik.version := 0, ik.cores := [], ik.check := b2.check }

/-- Start every loaded core on the owner; elsewhere they stay stopped at ENTRY (R522, R525). -/
def State.startLoaded (s : State) (reason : Nat) : State :=
  if s.owner then s.upto 8 (fun c x => if (x.core c).loaded && !(x.core c).running then x.startCore c reason else x) else s

end Sys2Proof.Machine
end

