-- ==== Sys2Proof/Machine/SecurityOps.lean ====
section
/-! DEFINITION. Challenges, unlock and relock, the provisioning window, commits and slot writes (Security and Images). -/

namespace Sys2Proof.Machine
open Sys2Proof

/-- PENDING and RESULT of SE_CHAL_STAT. -/
def State.chalStat (s : State) (pend result : Nat) : State :=
  (s.wr Reg.SE_CHAL_STAT_PENDING pend).wr Reg.SE_CHAL_STAT_RESULT result

/-- What a refusal of a purpose records: 0xD007 for a clear, else 0xE007 (R765, R787). -/
def State.chalRecord (s : State) (purpose reason key : Nat) : State :=
  if purpose = 2 then
    s.emit 7 0xD007 (match reason with
      | 0 => 0
      | 5 => 2
      | 7 => 3
      | _ => 1)
  else s.emit 7 0xE007 purpose reason key

/-- A refusal ends the challenge (R787). -/
def State.chalRefuse (s : State) (reason key : Nat) : State :=
  match s.se.chal with
  | none => s
  | some c =>
    let s1 := ({ s with se.chal := none }).chalStat 0 (2 + reason)
    let s2 := if c.purpose = 2 then { s1 with lg.clear := 0 } else s1
    s2.chalRecord c.purpose reason key

/-- The 32 bytes of a nonce, fresh from the random source (R785, R788). -/
def State.nonce (s : State) : List Nat × State :=
  let d := s.draw 50
  (leBytes 32 (d.1 % 2 ^ 256), d.2)

/-- Issue a challenge, or refuse the request with reason 5 while one is pending (R784, R785, R787). -/
def State.chalIssue (s : State) (purpose target perms : Nat) : State :=
  if s.se.chal.isSome then s.chalRecord purpose 5 0
  else
    let t := if purpose = 4 ∨ purpose = 5 then target else 0
    let p := if purpose = 4 then perms else 0
    let n := s.nonce
    let pay := if purpose = 4 then (List.range 12).flatMap (fun i => leBytes 4 (s.rf (Reg.SE_PAYLOAD_WORD i))) else List.replicate 48 0
    let l := leBytes 4 0x43564B49 ++ [purpose, t, p, 0] ++ leBytes 8 s.fuse.ident.toNat ++ n.1 ++ pay
    let s1 := { n.2 with se.chal := some { purpose := purpose, target := t, perms := p, bytes := l, since := s.now } }
    let s2 := (s1.upto 24 (fun i x => x.wr (Reg.SE_CHAL_WORD i) (ofLe ((l.drop (4 * i)).take 4)))).chalStat purpose 0
    s2.emit 7 0xE005 purpose t

/-- Debug is relocked with a cause: 0 RELOCK, 1 reset; HALT of the trigger clears with it (R789, R808). -/
def State.debugRelock (s : State) (cause : Nat) : State :=
  if s.debugOpen then ((s.wr Reg.SE_STAT_DEBUG_UNLOCKED 0).wr Reg.OB_TRIG_CFG2_HALT 0).emit 7 0xE008 cause else s

/-- The provisioning window closes (R790). -/
def State.provClose (s : State) : State :=
  if s.rb Reg.SE_STAT_PROV_OPEN then
    (({ s with se.provKeys := [], se.provSaved := 0 }).wr Reg.SE_STAT_PROV_OPEN 0).emit 7 0xE009 s.se.provSaved
  else s

/-- A usable key other than slot `t` has a permission. -/
def State.keyLeft (s : State) (t perm : Nat) : Bool :=
  (List.range 8).any (fun i => i != t && (s.keySlot i).blown && !(s.keySlot i).revoked && bitOf (s.keySlot i).perms perm)

/-- Permission bit of a purpose (Table 20.4). -/
def purposePerm (p : Nat) : Nat := match p with
  | 1 => 1
  | 2 => 2
  | _ => 3

/-- Why a response is refused: a reason of R787, and its KEY_INDEX (R786). -/
def State.respBad (s : State) (c : Challenge) (l : List Nat) : Option Nat × Nat :=
  let key := l.getD 4 0
  let pub := (l.drop 8).take 96
  let sig := (l.drop 104).take 96
  let layout := ofLe (l.take 4) == 0x53564B49 && l.getD 5 0 == c.purpose && l.getD 6 0 == 0 && l.getD 7 0 == 0
  let r := if !layout then some 6
    else match s.keyBad key pub (purposePerm c.purpose) with
      | some e => some e
      | none =>
        if Config.ecdsaOk pub sig (Config.sha384 c.bytes) = false then some 4
        else if c.purpose = 4 ∧ (c.target = 0 ∨ (s.keySlot c.target).blown = true) then some 6
        else if c.purpose = 5 ∧ (s.keyLeft c.target 0 = false ∨ s.keyLeft c.target 3 = false) then some 6
        else none
  (r, key)

/-- What a grant does (Table 20.4); a fuse that is not confirmed leaves the slot as it reads, with 0xE00A (Table 20.9). -/
def State.grantEffect (s : State) (c : Challenge) (key : Nat) (fuseOk : Bool) : State :=
  let k := s.keySlot c.target
  let fuse := fun (x : KeySlot) =>
    if fuseOk then { s with se.keys := mput {} s.se.keys c.target x } else s.emit 7 0xE00A 1 c.target
  match c.purpose with
  | 1 => s.wr Reg.SE_STAT_DEBUG_UNLOCKED 1
  | 2 => s.clearGrant key
  | 3 => ({ s with se.provKeys := [], se.provSaved := 0 }).wr Reg.SE_STAT_PROV_OPEN 1
  | 4 => fuse { blown := true, digest := ofLe ((c.bytes.drop 48).reverse), perms := c.perms, revoked := false }
  | _ => fuse { k with revoked := true }

/-- The check of the submitted response ends (R786). -/
def State.respDone (s : State) (fuseOk : Bool) : State :=
  match s.se.chal with
  | none => s
  | some c =>
    match c.resp with
    | none => s
    | some l =>
      match s.respBad c l with
      | (some e, key) => s.chalRefuse e key
      | (none, key) =>
        let s1 := (({ s with se.chal := none }).chalStat 0 1).emit 7 0xE006 c.purpose key c.target
        s1.grantEffect c key fuseOk

/-- A keyed write of SE_CHAL_CTL; purposes that a request here cannot have are refused by rule (R785, R787).
DEDUCED, log entry 49. -/
def State.seChal (s : State) (v : Nat) : State :=
  s.keyedWrite Reg.SE_CHAL_CTL v (fun x =>
    let p := bitsOf v 14 12
    let a := if bitOf v 0 then
        (if p = 1 ∨ p = 3 ∨ p = 4 ∨ p = 5 then x.chalIssue p (bitsOf v 18 16) (bitsOf v 23 20)
          else if x.se.chal.isSome then x.chalRecord p 5 0 else (x.chalStat 0 8).chalRecord p 6 0)
      else x
    let b := match a.se.chal with
      | some c => if bitOf v 1 ∧ c.resp = none then
          { a with se.chal := some { c with resp := some ((List.range 50).flatMap (fun i => leBytes 4 (a.rf (Reg.SE_RESP_WORD i)))) } }
        else a
      | none => a
    if bitOf v 2 then b.chalRefuse 0 0 else b)

/-- The slot that updates write: the one ACTIVE does not name (R781). -/
def State.idleSlot (s : State) : Nat := 1 - s.rf Reg.SE_SLOT_ACTIVE

/-- A keyed write of SE_CTL: RELOCK, COMMIT and VERIFY (R779, R783, R789, R790, R794). -/
def State.seCtl (s : State) (v : Nat) : State :=
  s.keyedWrite Reg.SE_CTL v (fun x =>
    let a := if bitOf v 3 then (x.debugRelock 0).provClose else x
    let b := if bitOf v 2 then match a.se.loaded with
        | some (_, e, _) => if a.se.counter < e ∧ a.se.commit = none then { a with se.commit := some e } else a
        | none => a
      else a
    if bitOf v 1 then
      let slot := bitsOf v 8 8
      if b.se.update.isSome ∧ slot = b.se.updSlot then b.glErr Reg.GL_STATUS_LOCK_REJECT Reg.SE_CTL
      else if b.se.verify.isSome then b else { b with se.verify := some slot }
    else b)

/-- Set a slot's result: 0 unknown, 1 passed, 2 failed. -/
def State.slotResult (s : State) (slot v : Nat) : State := s.wr (if slot = 0 then Reg.SE_SLOT_RESULT_A else Reg.SE_SLOT_RESULT_B) v

/-- Measurements of Table 20.6, in order. -/
def State.measurements (s : State) : List Nat :=
  let img := match s.se.loaded with
    | none => 0
    | some (slot, _, _) => Config.sha384 (s.imgBytes slot 0 (s.imgLe slot 0xC 4 + 104))
  let ld := match s.se.loaded with
    | none => [0, 0]
    | some (slot, e, _) => [e, slot]
  (leBytes 48 img).reverse ++ (leBytes 48 (Config.sha384 ((profWords s).flatMap (fun e => leBytes 4 e.2)))).reverse ++ [s.se.counter] ++ ld
    ++ (List.range 8).flatMap (fun i => let k := s.keySlot i; (leBytes 48 k.digest).reverse ++ [k.perms, b01 k.revoked])
    ++ [b01 s.debugOpen + 2 * b01 (s.rb Reg.SE_STAT_PROV_OPEN)]

/-- What each reset takes from the security engine (Table 20.7); the three flags say which of debug unlock, provisioning window and
pending challenge go, the fourth the SPDM request. A cold start takes the challenge without a record (R787). -/
def State.seReset (s : State) (unlock window chal mbox cold : Bool) : State :=
  let s1 := if unlock then (if cold then s.wr Reg.SE_STAT_DEBUG_UNLOCKED 0 else s.debugRelock 1) else s
  let s2 := if window then (if cold then ({ s1 with se.provKeys := [], se.provSaved := 0 }).wr Reg.SE_STAT_PROV_OPEN 0 else s1.provClose) else s1
  let s3 := match s2.se.chal with
    | some c => if chal then
        let y := ({ s2 with se.chal := none }).chalStat 0 0
        let z := if c.purpose = 2 then { y with lg.clear := 0 } else y
        if cold then z else { z with se.lost := some c.purpose }
      else s2
    | none => s2
  if mbox then { s3 with se.mbox := false } else s3

/-- The reset that took a challenge away ends: its refusal is recorded with reason 7 (R787). -/
def State.seResetEnd (s : State) : State :=
  match s.se.lost with
  | none => s
  | some p => (({ s with se.lost := none }).chalStat 0 9).chalRecord p 7 0

end Sys2Proof.Machine
end

