-- ==== Sys2Proof/Machine/LedgerRun.lean ====
section
/-! DEFINITION. Arrival of records, page verification, sector erasure, and the cold-start scan (The Ledger). -/

namespace Sys2Proof.Machine
open Sys2Proof

/-- The oldest record on its way arrives at AO: the trigger is judged, then the rate limit and the admission bound (R734, R737,
R741, R805). -/
def State.arrive1 (s : State) : State :=
  match s.raised with
  | [] => s
  | r :: rest =>
    let s1 := { s with raised := rest }
    let s2 := if s1.trigMatch r.code then s1.trigFire 1 r.code else s1
    (s2.lgJudge (s2.stampRec r)).streamPump

/-- The read-back of a page does not match: 0xD001, the sector is retired, and its records are programmed again from the next
sector on (R746, R757, R758; log entry 11). Erase times are no part of this sign of wear, and are free. -/
def State.verifyFail (s : State) : State :=
  match s.lg.cur with
  | none => s
  | some l =>
    let first := match s.lg.prog with
      | r :: _ => r.seq
      | [] => 0
    let s1 := s.emit 7 0xD001 (s.lg.phys l) (s.lg.progAt / 8) (loWord first)
    let a := s1.draw 53
    let b := a.2.draw 54
    let s2 := b.2.retire l 2 (a.1 % 2 ^ 32) (b.1 % 2 ^ 32)
    let s3 := { s2 with
      lg.pass := 0, lg.prog := [], lg.slot := 2048
      lg.tailQ := if s.lg.tail then s.lg.prog ++ s2.lg.tailQ else s2.lg.tailQ }
    if s3.lg.tail then s3.tailGo else s3.flushGo

/-- The mark pass of the page has completed (R743, R766). -/
def State.markDone (s : State) : State :=
  let cleared := decide (s.lg.clear = 2) && s.lg.prog.any (fun r => r.seq == s.lg.clearSeq)
  let s1 := s.writeMarks
  let s2 := if cleared then s1.clearEffect else s1
  if s2.lg.tail then s2.tailGo else s2.flushGo

/-- LG_OLDEST after records of flash are gone: the lowest that remains (R754). DEDUCED, log entry 44. -/
def State.oldestMoves (s : State) : State :=
  match (s.lg.slots.filter (fun e => e.2.marked && decide (s.lg.oldest ≤ e.2.r.seq))).map (fun e => e.2.r.seq) with
  | [] => s
  | x :: t => { s with lg.oldest := t.foldl min x }

/-- Physical sectors that hold records of a logical one: the one in use and those retired from it. -/
def Ledger.physAll (lg : Ledger) (l : Nat) : List Nat := (List.range 1056).filter (fun p => lg.follow 40 p == lg.phys l)

/-- With no sector in use yet, the first erased one is opened at once (R755). -/
def State.firstOpen (s : State) : State :=
  if s.lg.cur.isSome || s.lg.pass != 0 || s.lg.tail then s
  else match s.openSector with
    | some x => { x with lg.pass := 1, lg.progAt := 0 }
    | none => s

/-- A sector erase ends after `ms`, with the typical and the longest time of the SFDP tables (R754, R757, R767). -/
def State.eraseDone (s : State) (ms typ top : Nat) (failed : Bool) : State :=
  match s.lg.erasing with
  | none => s
  | some l =>
    if s.lg.suspended then s
    else
      let gone := s.lg.physAll l
      let had := s.lg.slots.any (fun e => gone.contains (e.1 / 2048))
      let s1 := { s with
        lg.erasing := none
        lg.slots := s.lg.slots.filter (fun e => !gone.contains (e.1 / 2048))
        lg.clearErase := s.lg.clearErase.filter (fun x => x != l) }
      let s2 := if had then s1.oldestMoves else s1
      let s3 := if failed || decide (top < ms) then s2.retire l 1 ms typ
        else if 2 * typ < ms then s2.retire l 0 ms typ
        else { s2 with lg.erased := s2.lg.erased ++ [l] }
      let s4 := s3.firstOpen
      let s5 := s4.eraseNext
      if s5.lg.pass ≠ 0 then s5 else if s5.lg.tail then s5.tailGo else if 2048 ≤ s5.lg.slot then s5.flushGo else s5

/-- The sector in use as the scan finds it: its opening record and its last slot (R755). -/
def State.scanCur (s : State) : Option (Nat × LRec × Nat) :=
  let ops := s.lg.slots.filter (fun e => e.1 % 2048 == 0 && e.2.marked && e.2.r.code == 0xF002
    && !s.lg.retired.any (fun r => r.1 == e.1 / 2048))
  match ops.foldl (fun (b : Option (Nat × FSlot)) e => match b with
    | none => some e
    | some x => if x.2.r.seq < e.2.r.seq then some e else some x) none with
  | none => none
  | some e => some (e.1 / 2048, e.2.r, ((s.lg.sector (e.1 / 2048)).map (·.1)).foldl max e.1)

/-- The scan sets the next sequence number, one of the five cases of R751, and the records held are numbered. Programming goes on in the
last page where every slot of it is marked, else in the next; sectors that hold only cleared records are still to be erased (R743, R745,
R767). -/
def State.scanDone (s : State) (abandoned : Bool) : State :=
  let marked := (s.lg.slots.filter (fun e => e.2.marked)).map (·.2.r)
  let h := (marked.map (·.seq)).foldl max 0
  let ck := s.ao.ckNext.getD 0
  let closed : Bool := match s.scanCur with
    | none => false
    | some (p, _, _) => match ((s.lg.sector p).filter (fun e => e.2.marked)).getLast? with
      | some e => e.2.r.code == 0xF005
      | none => false
  let plan : Nat × Option (Nat × Nat × Nat) :=
    if abandoned then (ck + 65536, some (65280, 0, ck))
    else if marked.isEmpty then
      match s.ao.ckNext with
      | some n => (n + 256, some (n, 256, 0))
      | none => (0, none)
    else if closed then (h + 257, none)
    else (max (h + 1) ck + 256, some (ck - h - 1, 256, h + 1))
  let cur := match s.scanCur with
    | none => (none, 2048)
    | some (p, r, last) =>
      let whole := ((s.lg.sector p).filter (fun (e : Nat × FSlot) => e.1 / 8 == last / 8)).all (fun (e : Nat × FSlot) => e.2.marked)
      (some r.p2, if whole then last % 2048 + 1 else (last % 2048 + 8) / 8 * 8)
  let stale := (List.range 1024).filter (fun l => !s.lg.removed.contains l && some l != cur.1 &&
    (let t := (s.lg.sector (s.lg.phys l)).filter (·.2.marked)
     !t.isEmpty && t.all (fun e => decide (e.2.r.seq < s.lg.oldest))))
  let s1 := { s with
    lg.scanning := false, lg.next := plan.1, lg.held := [], lg.cur := cur.1, lg.slot := cur.2, lg.erased := []
    lg.erasing := none, lg.clearErase := stale, lg.suspended := false, lg.pass := 0, lg.prog := [], lg.tail := false, lg.tailQ := [] }
  let s2 := match plan.2 with
    | none => s1
    | some (p0, p1, n) => (s1.lgAccept (s1.metaRec 0xF003 p0 p1 (loWord n) (hiWord n))).wr Reg.LG_FELL_TAIL_LOST 1
  let s3 := s.lg.held.foldl (fun (x : State) r => x.lgAccept r) s2
  if abandoned then
    let blank := (s3.lg.ahead.filter (fun l => (s3.lg.sector (s3.lg.phys l)).isEmpty)).take 4
    (({ s3 with lg.erased := blank, lg.slot := 2048 }).checkpoint).tailFlush
  else s3.checkpoint.eraseNext

/-- Request of a clear: refused as busy while another is pending, else a challenge is issued (R765, R768). -/
def State.clearAsk (s : State) : State :=
  if s.lg.clear ≠ 0 || s.se.chal.isSome then s.chalRecord 2 5 0
  else ({ s with lg.clear := 1 }).chalIssue 2 0 0

/-- A keyed write of LG_CTL (R745, R765, R770). -/
def State.lgCtl (s : State) (v : Nat) : State :=
  s.keyedWrite Reg.LG_CTL v (fun x =>
    let a := if bitOf v 1 then x.flushGo else x
    let b := if bitOf v 2 then a.clearAsk else a
    if bitOf v 3 then b.saveBlock 10 else b)

/-- Codes whose buckets a write of an LG_RL entry affects: those named before or after it (R737, R866). -/
def State.rlRefill (s : State) (codes : List Nat) : State :=
  { s with lg.used := s.lg.used.filter (fun e => !codes.contains e.1) }

end Sys2Proof.Machine
end

