-- ==== Sys2Proof/Machine/RailRun.lean ====
section
/-! DEFINITION. What the phase controller does with readings and faults: phases failing, hot and located, totals, adding and
shedding, burst and Floodgate from the regulator side (Phase Controller). -/

namespace Sys2Proof.Machine
open Sys2Proof

/-- The phase current in 0.1 A of an ISN input at `v` 0.1 mV: 5 mV/A about 0.600 V, from -80 A to 100 A (R70). DESIGN CHOICE, log entry
108. -/
def isnAmps (v : Nat) : Int := clampI (-800) 1000 (((v : Int) - 6000) / 5)

/-- Millivolts of the bus at a BUSV input of `v` 0.1 mV, through the divider of 40:1 (R75). -/
def busvMv (v : Nat) : Nat := 4 * v

/-- Lanes of a rail whose pin is at a level. -/
def State.pinned (s : State) (r : Nat) (v : Pin) : List Nat := (s.mapped r).filter (fun n => (s.lane n).pin == v)

/-- A rail's total current in 0.1 A: the sum of the readings of its mapped phases (R875). -/
def State.totalNow (s : State) (r : Nat) : Int := ((s.mapped r).map (fun n => (s.lane n).amps)).sum

/-- A total current of a rail is formed: below the limit in force it ends the limiting (R166, R875). -/
def State.noteTotal (s : State) (r : Nat) : State :=
  let x := s.rail r
  let t := s.totalNow r
  s.setRail r { x with total := t, limiting := x.limiting && decide ((10 * (s.limit32 r).1 : Nat) ≤ 32 * t) }

/-- A set of ISN samples of a rail's mapped phases, in lane order: a burst pulse ends at BURST_IPK, and a low-side pulse of a discharge
at -80 A (R70, R173, R192, R875). -/
def State.sample (s : State) (r : Nat) (isn : List (BitVec 16)) : State :=
  let s1 := ((s.mapped r).zip isn).foldl (fun (x : State) e => x.setLane e.1 { x.lane e.1 with amps := isnAmps e.2.toNat }) s
  let s2 := s1.noteTotal r
  let x := s2.rail r
  if x.mode = 3 then
    s2.each ((s2.pinned r .high).filter (fun n => decide ((10 * s2.rf (Reg.PC_RAIL_SHED_BURST_IPK r) : Nat) ≤ (s2.lane n).amps)))
      (fun n y => y.drive n .hiZ)
  else if x.discharge then s2.each ((s2.pinned r .low).filter (fun n => decide ((s2.lane n).amps ≤ -800))) (fun n y => y.drive n .hiZ)
  else s2

/-- A phase is marked failed: its lane at high impedance, its stage off, and the record (R194, R197). -/
def State.markFailed (s : State) (n cause v : Nat) : State :=
  let s1 := (s.setLane n { s.lane n with mark := 1, wasHot := false, opOn := false, startRead := false }).turnOff [n]
  ((s1.wr (Reg.PC_PHASE_STAT_CAUSE n) cause).emit 1 0x2020 n cause v).pmbus n 0x01 0x00

/-- A phase fails: 0 IMBALANCE, 1 OVERCURRENT, 2 SENSE, 3 NORESP, 4 STATUS (R197, R198), with the measured value: a current in amperes for
causes 0 and 1, the millivolts at ISN for cause 2, the STATUS_WORD for cause 4. DESIGN CHOICE, log entry 110. -/
def State.phaseFail (s : State) (n cause v : Nat) : State :=
  if (s.lane n).mark = 1 ∨ s.laneRail n = none then s else (s.markFailed n cause v).healthSince s

/-- A phase fails for want of an answer, which measures nothing: a free value stands in the record (log entry 3). -/
def State.phaseSilent (s : State) (n : Nat) : State :=
  let p := s.draw 65
  p.2.phaseFail n 3 p.1

/-- A stage's phase turns hot at OT_WARN, and healthy again 10 degrees below (R196). -/
def State.hotJudge (s : State) (n : Nat) (t : Int) : State :=
  let x := s.lane n
  let warn : Int := s.rf Reg.PC_PMB_CFG_OT_WARN
  if x.mark = 0 ∧ warn ≤ t then
    (((s.setLane n { x with mark := 3 }).turnOff [n]).emit 1 0x2025 n (pI t)).healthSince s
  else if x.mark = 3 ∧ t ≤ warn - 10 then (s.setLane n { x with mark := 0 }).healthSince s
  else s

/-- A stage does not answer. At the third failed try its telemetry is lost (0x79 stands for the command that failed: DESIGN CHOICE, log
entry 111), and a stage that has not answered since its start fails with NORESP (R196, R202). -/
def State.stageSilent (s : State) (n : Nat) : State :=
  let x := s.lane n
  let s1 := s.setLane n { x with tries := min 3 (x.tries + 1), temp := if 2 ≤ x.tries then none else x.temp }
  if x.tries = 2 then
    let s2 := s1.emit 1 0x2024 (n / 64) (s.rf (Reg.PC_PHASE_CFG_ADDR n)) 0x79
    if x.startRead then s2.phaseSilent n else s2
  else s1

/-- The AVSBus voltage of a stage is compared with its rail's VSN reading: beyond 30 mV on two successive rounds it is recorded
(R189). -/
def State.avsJudge (s : State) (n avs : Nat) : State :=
  match s.laneRail n with
  | none => s
  | some r =>
    let v := (s.rail r).sensed
    let off := decide (v + 300 < 10 * avs) || decide (10 * avs + 300 < v)
    let s1 := s.setLane n { s.lane n with avsOff := off }
    if off && (s.lane n).avsOff then s1.emit 1 0x2021 n avs (v / 10) else s1

/-- The reads that follow a STATUS_WORD: STATUS_TEMPERATURE after bit 2, STATUS_IOUT after bit 14 (R873, Table 4.3). -/
def State.causeReads (s : State) (n word : Nat) : State :=
  s.pmbusReads n ((if bitOf word 2 then [0x7D] else []) ++ (if bitOf word 14 then [0x7B] else []))

/-- A stage answers the poll: its temperature, its voltage and its status are judged, and a dead-time write that was not
acknowledged is sent again; MFR_MODEL is that of the reads at start (Table 4.3, R188, R189, R195, R196, R202). -/
def State.stageAnswers (s : State) (n : Nat) (x : StageRead) : State :=
  let t := signedOf 9 x.temp.toNat
  let y := s.lane n
  let s1 := s.setLane n { y with
    tries := 0, temp := some t, model := if y.startRead then x.model.toNat else y.model, startRead := false, deadRetry := false }
  let s2 := (if y.deadRetry then s1.pmbus n (s.rf Reg.PC_DT_CMD_CODE) (s.deadOf n) else s1).causeReads n x.word.toNat
  let s3 := (s2.hotJudge n t).avsJudge n x.avs.toNat
  if (s3.lane n).mark ≠ 2 ∧ stageFault x.word.toNat x.stTemp.toNat x.stIout.toNat (s3.lane n).opOn = true then
    s3.phaseFail n 4 x.word.toNat
  else s3

/-- One poll of a segment: an alert answered first, then the status, temperature and telemetry reads and the AVSBus voltage of every stage
of its mapped lanes, with what each answers (R77, R187 to R189). The alert response address is 0x0C: PRESUMED, log entry 106. -/
def State.pollRound (s : State) (seg : Nat) (l : List StageRead) (alert : Bool) : State :=
  let s0 := if alert && s.segUsed seg then s.out (.pmbusRead seg 0x0C 0 (s.pecOn seg)) else s
  s0.upto 64 (fun i x =>
    let n := 64 * seg + i
    if x.laneRail n = none then x
    else
      let rd := l.getD i {}
      let y := x.pmbusReads n [0x79, 0x88, 0x8C, 0x8D]
      let z := if y.owner then y.out (.avsRead seg n) else y
      if rd.answered then z.stageAnswers n rd else z.stageSilent n)

/-- Lanes of a power-stage group (R149). -/
def grpLanes (g : Nat) : List Nat := (List.range 16).map (· + 16 * g)

/-- PSFLT_Gn asserts: every phase of the group that is not failed becomes suspect (R194), and its stage's STATUS_WORD is read. -/
def State.groupSuspect (s : State) (g : Nat) : State :=
  let l := (grpLanes g).filter (fun n => s.laneRail n != none && (s.lane n).mark != 1)
  let s1 := s.each l (fun n x => x.setLane n { x.lane n with
    wasHot := (x.lane n).mark == 3 || ((x.lane n).mark == 2 && (x.lane n).wasHot), mark := 2 })
  let s2 := s1.turnOff l
  let s3 := { (s2.setBit Reg.PC_GROUP_FELL_FELL g) with ph.locating := s.ph.locating ||| 2 ^ g, edge.psflt := s.edge.psflt ||| 2 ^ g }
  (s3.each l (fun n x => x.pmbusReads n [0x79])).healthSince s

/-- A stage read in a location reports a fault (R873). -/
def State.reports (s : State) (n : Nat) (x : StageRead) : Bool :=
  x.answered && stageFault x.word.toNat x.stTemp.toNat x.stIout.toNat (s.lane n).opOn

/-- A phase leaves suspect: hot where its last temperature still holds it hot, else healthy (R194). A phase that was hot and whose
temperature is unknown returns to hot: DESIGN CHOICE, log entry 112. -/
def State.leaveSuspect (s : State) (n : Nat) : State :=
  let x := s.lane n
  let warn : Int := s.rf Reg.PC_PMB_CFG_OT_WARN
  let still := match x.temp with
    | some t => decide (warn - 10 < t)
    | none => true
  s.setLane n { x with mark := if x.wasHot && still then 3 else 0, wasHot := false }

/-- Location of group `g` completes with what its stages answered and PSFLT_Gn's level after the failed ones are off (R194,
R195). With PSFLT_Gn released and no stage reporting a fault, every phase leaves suspect: DESIGN CHOICE, log entry 113. -/
def State.groupLocated (s : State) (g : Nat) (l : List StageRead) (still : Bool) : State :=
  let sus := (grpLanes g).filter (fun n => s.laneRail n != none && (s.lane n).mark == 2)
  let rd := fun (n : Nat) => l.getD (n % 16) {}
  let s0 := s.each sus (fun n x => if (rd n).answered then x.causeReads n (rd n).word.toNat else x)
  let whole := still && !sus.any (fun n => s.reports n (rd n))
  let bad := sus.filter (fun n => whole || s.reports n (rd n) || !(rd n).answered)
  let s1 := s0.each bad (fun n x => x.markFailed n (if (rd n).answered then 4 else 3) (rd n).word.toNat)
  let s2 := s1.each sus (fun n x => (if (x.lane n).mark = 2 then x.leaveSuspect n else x).pmbus n 0x03 0)
  let blind := still && !whole
  let s3 := { s2 with
    ph.locating := setBitsOf s2.ph.locating g g 0, ph.blind := setBitsOf s2.ph.blind g g (b01 blind)
    edge.psflt := setBitsOf s2.edge.psflt g g (b01 still) }
  (s3.emit 1 0x2022 g ((bad.map (fun n => 2 ^ (n % 16))).sum) (b01 blind)).healthSince s

/-- The rail's total current reaches its limit in force (R166); in a Floodgate hold the highest lane still high-side is taken low-side
for each total formed at or above the limit (R179). DESIGN CHOICE, log entry 109. -/
def State.limitReached (s : State) (r : Nat) : State :=
  let lim := s.limit32 r
  let x := s.rail r
  if (x.mode = 1 ∨ x.mode = 2 ∨ x.mode = 3 ∨ x.mode = 6) ∧ (10 * lim.1 : Nat) ≤ 32 * x.total then
    let s1 := if x.limiting then s else (s.setRail r { x with limiting := true }).emit 1 0x2011 r (lim.1 / 32) lim.2
    if x.hold then
      match (s1.pinned r .high).getLast? with
      | some n => (s1.setLane n { s1.lane n with limLow := true }).drive n .low
      | none => s1
    else s1
  else s

/-- A sensed voltage of a rail, in codes of 0.5 mV; a burst pulse ends as the rail crosses the setpoint plus 6 mV (R73, R173). -/
def State.noteVolts (s : State) (r raw : Nat) : State :=
  let s1 := s.setRail r { s.rail r with sensed := 5 * raw }
  if (s.rail r).mode = 3 ∧ s1.setpoint r + 60 ≤ 5 * raw then s1.each (s1.pinned r .high) (fun n x => x.drive n .hiZ) else s1

/-- The rail adds the healthy phase with the lowest lane not yet active, at its interleave angle; one still ramping down is not active
any more (R159, R162). -/
def State.addPhase (s : State) (r : Nat) : State :=
  match (s.healthy r).find? (fun n => !(s.staying r).contains n) with
  | none => s
  | some n => s.turnOn r [n]

/-- The rail sheds its active phase with the highest lane (R159, R162). -/
def State.shedPhase (s : State) (r : Nat) : State :=
  match (s.staying r).getLast? with
  | none => s
  | some n => s.setLane n { s.lane n with rampDown := 4, rampUp := 0 }

/-- Limit of the loop integrator: 200 mV in mV/8192 (R152's loop). -/
def uMax : Int := 1638400

/-- A free value for the integrator's preset (R176, R180, log entry 3). -/
def State.presetU (s : State) (r : Nat) : State :=
  let p := s.draw 66
  p.2.setRail r { p.2.rail r with u := (p.1 : Int) % (2 * uMax + 1) - uMax }

/-- Burst mode is entered: every phase sleeps, and the burst phases move on by one (R172, R173). -/
def State.burstEnter (s : State) (r : Nat) : State :=
  let x := s.rail r
  let n := (s.healthy r).length
  (s.setRail r { x with mode := 3, burstCur := x.burstIdx, burstIdx := if n = 0 then 0 else (x.burstIdx + 1) % n }).releaseLanes r

/-- The burst phases fire their high-side pulses (R173). -/
def State.burstFire (s : State) (r : Nat) : State := s.each (s.burstLanes r) (fun n x => x.drive n .high)

/-- Burst mode is left: every healthy phase active, the integrator preset, and the report to FRI (R161, R176). -/
def State.burstLeave (s : State) (r : Nat) : State :=
  let s0 := s.each (s.pinned r .high) (fun n x => x.drive n .hiZ)
  let s1 := s0.setRail r { s0.rail r with mode := 2, allUntil := s.now + 100 * usec }
  ((s1.setDom r { s1.dom r with burstWait := false }).activateAll r).presetU r

/-- One step of an angle toward its goal, by no more than T/16; both are fractions of T (R152). -/
def angleStep (a goal : Nat × Nat) : Nat × Nat :=
  let x := a.1 * goal.2
  let y := goal.1 * a.2
  if 16 * (max x y - min x y) ≤ a.2 * goal.2 then goal
  else if x ≤ y then (16 * a.1 + a.2, 16 * a.2) else (16 * a.1 - a.2, 16 * a.2)

/-- A signed coefficient Q4.12 (R153's loop). -/
def State.coef (s : State) (f : Fld) : Int := signedOf 16 (s.rf f)

/-- The rail's integrator takes an error sample in 0.5 mV. -/
def State.integrate (s : State) (r : Nat) (e : Int) : State :=
  let x := s.rail r
  let u := x.u + s.coef (Reg.PC_RAIL_COMP0_B0 r) * e + s.coef (Reg.PC_RAIL_COMP0_B1 r) * x.e1 + s.coef (Reg.PC_RAIL_COMP1_B2 r) * x.e2
  s.setRail r { x with u := clampI (-uMax) uMax u, e1 := e, e2 := x.e1 }

/-- The on-time in picoseconds, as a quotient, before its limits: T (vset + u) / vbus + bal + tdc (R153, R155). A phase whose current is
exactly zero takes no correction: DESIGN CHOICE, log entry 114. -/
def State.onTime (s : State) (r n vbus : Nat) : Int × Nat :=
  let fsw := s.rf (Reg.PC_RAIL_CFG_FSW r)
  let den := fsw * vbus * 40960
  let tdc : Int := 500 * s.deadOf n * den
  let amps := (s.lane n).amps
  let base := 1000000000 * ((s.setpoint r : Int) * 4096 + 5 * (s.rail r).u) + (s.lane n).bal * 1000000000 * 80 * vbus
  (base + (if 0 < amps then tdc else if amps < 0 then -tdc else 0), den)

/-- The limits of an on-time: none shorter than 20 ns, and 40 ns of low-side time in each cycle (R153). -/
def State.onLimits (s : State) (r : Nat) (q : Int × Nat) : Int × Nat :=
  let fsw := s.rf (Reg.PC_RAIL_CFG_FSW r)
  let top : Int := 1000000000 - 40000 * fsw
  if q.1 < 20000 * q.2 then (0, 1) else if top * q.2 < q.1 * fsw then (top, fsw) else q

/-- The factor of a ramping phase's on-time, as a quotient (R162): 0/8 to 7/8 up and 3/4 to 0 down. DESIGN CHOICE, log entry 115. -/
def Phase.share (p : Phase) : Nat × Nat :=
  if 0 < p.rampUp then (8 - p.rampUp, 8) else if 0 < p.rampDown then (p.rampDown - 1, 4) else (1, 1)

/-- The on-time of a phase's cycle with every limit; a bus reading of zero and the cap of a limited rail are free values (log entry
3). -/
def State.cycleOn (s : State) (r n vbus : Nat) : (Int × Nat) × State :=
  let p0 := s.draw 67
  let q0 : (Int × Nat) × State := if vbus = 0 then (((p0.1 : Nat), 1), p0.2) else (s.onTime r n vbus, s)
  let p1 := q0.2.draw 68
  let q1 : (Int × Nat) × State :=
    if (s.rail r).limiting then (if q0.1.1 ≤ p1.1 * q0.1.2 then (q0.1, p1.2) else (((p1.1 : Nat), 1), p1.2)) else q0
  let f := (s.lane n).share
  (s.onLimits r (q1.1.1 * f.1, q1.1.2 * f.2), q1.2)

/-- A phase's ISN sample beyond 1.5 times its rating ends its pulse, low-side for the rest of the cycle; 64 such cycles in a row fail it
(R167). -/
def State.peakJudge (s : State) (n : Nat) : State :=
  let x := s.lane n
  if (15 * s.rf (Reg.PC_PHASE_CFG_RATING n) : Nat) < x.amps then
    let s1 := (s.setLane n { x with cut := true, peaks := x.peaks + 1 }).drive n .low
    if 64 ≤ x.peaks + 1 then s1.phaseFail n 1 (x.amps / 10).toNat else s1
  else s.setLane n { x with cut := false, peaks := 0 }

/-- The share error of a phase in 0.1 A: its current less the rail's total times its share of the active ratings (R156). -/
def State.shareErr (s : State) (r n : Nat) : Int :=
  let all := ((s.actives r).map (fun m => s.rf (Reg.PC_PHASE_CFG_RATING m))).sum
  (s.lane n).amps - (s.rail r).total * s.rf (Reg.PC_PHASE_CFG_RATING n) / all

/-- The balance trim integrates the share error toward zero, within 12.5 % of T (R156, R158). -/
def State.balance (s : State) (r n : Nat) : State :=
  let e := s.shareErr r n
  let d : Int := Config.balStep e.natAbs
  let x := s.lane n
  s.setLane n { x with bal := if e = 0 then x.bal else clampI (-64) 64 (x.bal + if 0 < e then -d else d) }

/-- The ramps and the angle of a phase move on by one cycle; a phase that has ramped to zero holds its lane at high impedance, and the
rail keeps the phases it needs (R152, R160, R162). -/
def State.cycleEnd (s : State) (r n : Nat) : State :=
  let x := s.lane n
  let act := s.actives r
  let a := angleStep (x.angNum, x.angDen) (act.idxOf n, act.length)
  let s1 := s.setLane n { x with rampUp := x.rampUp - 1, rampDown := x.rampDown - 1, angNum := a.1, angDen := a.2 }
  if x.rampDown = 1 then (s1.turnOff [n]).fillMin r else s1

/-- A lane starts its cycle: a high-side pulse and then low, or low-side alone for a skipped pulse (R68, R153). -/
def State.pulse (s : State) (n : Nat) (q : Int × Nat) : State :=
  let s1 := s.setLane n { s.lane n with onNum := q.1, onDen := q.2, cycAt := s.now }
  if q.1 ≤ 0 then s1.drive n .low else (s1.drive n .cycle).out (.pulse n q.1 q.2)

/-- One switching cycle of phase `n` of rail `r`, with the error in 0.5 mV, the bus in millivolts and the phase's reading (R152 to
R158, R162, R167). -/
def State.switchCycle (s : State) (r n : Nat) (e : Int) (vbus : Nat) (isn : BitVec 16) : State :=
  let s1 := (s.setLane n { s.lane n with amps := isnAmps isn.toNat }).noteTotal r
  let s2 := (s1.balance r n).integrate r e
  let q := s2.cycleOn r n vbus
  ((q.2.pulse n q.1).cycleEnd r n).peakJudge n

/-- The start of a phase's cycle in a Floodgate hold, which overrides the loop: the phase stays high-side unless the peak limit or the
rail's limit holds it low (R42, R167, R179). -/
def State.holdCycle (s : State) (r n : Nat) (isn : BitVec 16) : State :=
  let s1 := (s.setLane n { s.lane n with amps := isnAmps isn.toNat, cycAt := s.now }).noteTotal r
  let s2 := s1.peakJudge n
  let x := s2.lane n
  if !x.cut && !x.limLow && x.mark == 0 && x.active then s2.drive n .high else s2

/-- The start of a phase's cycle in an overvoltage discharge: low-side unless its current is at -80 A (R192). -/
def State.dischargeCycle (s : State) (r n : Nat) (isn : BitVec 16) : State :=
  let s1 := (s.setLane n { s.lane n with amps := isnAmps isn.toNat, cycAt := s.now }).noteTotal r
  if (s1.lane n).mark ≠ 0 then s1 else s1.drive n (if (s1.lane n).amps ≤ -800 then .hiZ else .low)

/-- The high-side portion of a phase's cycle is in progress (R180). -/
def State.inHigh (s : State) (r n : Nat) : Bool :=
  let x := s.lane n
  let fsw := s.rf (Reg.PC_RAIL_CFG_FSW r)
  let ps := (s.now - x.cycAt) * 1000 % (1000000000 / max 1 fsw)
  decide (((ps * x.onDen : Nat) : Int) < x.onNum)

/-- A Floodgate hold ends: the integrator is preset to the measured total, and each phase resumes from its interleave angle, high-side
where its cycle is in its high-side portion and else low-side (R161, R180). -/
def State.holdEnd (s : State) (r : Nat) : State :=
  let s1 := s.setRail r { s.rail r with hold := false, handback := true, allUntil := s.now + 100 * usec }
  let s2 := s1.each (s1.actives r) (fun n x =>
    (x.setLane n { x.lane n with limLow := false }).drive n (if x.inHigh r n then .high else .low))
  s2.presetU r

/-- A dead-time change of a main stage: the correction uses the new value; the stage is written over PMBus (R183, R185, R202). -/
def State.deadMain (s : State) (n : Nat) (ack : Bool) : State :=
  let x := s.lane n
  let row := s.dtRow x.row x.temp
  if row = x.row ∧ s.ph.dtTable = x.dtTab then s
  else
    let code := s.rf Reg.PC_DT_CMD_CODE
    let s1 := s.setLane n { x with row := row, dtTab := s.ph.dtTable, deadRetry := code != 0 && !ack }
    let s2 := if code = 0 then s1 else s1.pmbus n code (s1.deadOf n)
    let s3 := if code = 0 ∨ ack = true then s2 else s2.emit 1 0x2024 (n / 64) (s.rf (Reg.PC_PHASE_CFG_ADDR n)) code
    s3.emit 1 0x2040 s.ph.dtTable row n

/-- Temperature in degrees of the reservoir's bridges, from the remote-diode pair RES_TD (R186). -/
def State.resTemp (s : State) : Option Int :=
  let r := mget {} s.th.readings (0x10000 + s.rf Reg.PC_DT_CMD_RES_TD)
  if r.seen && !r.broken then some (((r.code : Int) - 160) / 4) else none

/-- A dead-time change of a reservoir pair (R182, R186). -/
def State.deadRes (s : State) (k : Nat) : State :=
  let old := mget (2, 0) s.ph.resDt k
  let row := s.dtRow old.1 s.resTemp
  if row = old.1 ∧ s.ph.dtTable = old.2 then s
  else
    let s1 := ({ s with ph.resDt := mput (2, 0) s.ph.resDt k (row, s.ph.dtTable) }).emit 1 0x2040 s.ph.dtTable row (0x100 + k)
    if k % 4 < s1.rv.legs then s1.legOut (k % 4) else s1

/-- A PMBus segment stuck low for 35 ms, which is recorded: recovered by nine clocks, or lost with every stage on row PS-C; the retries
of a lost segment record nothing more (R202). -/
def State.segStuck (s : State) (seg : Nat) (recovered : Bool) : State :=
  let s1 := if bitOf s.ph.segLost seg then s else s.emit 1 0x2024 seg 0xFF 0
  if recovered then { s1 with ph.segLost := setBitsOf s1.ph.segLost seg seg 0 }
  else
    ({ s1 with ph.segLost := s1.ph.segLost ||| 2 ^ seg }).upto 64 (fun i x =>
      x.setLane (64 * seg + i) { x.lane (64 * seg + i) with temp := none })

/-- A rail is power-good: soft-start ends; the next rails start, a step to the domain's target begins, links train (R161, R168,
R170, R844). -/
def State.powerGood (s : State) (r : Nat) : State :=
  let s1 := s.setRail r { s.rail r with mode := 2, powerGood := true, allUntil := s.now + 100 * usec }
  (((s1.startReady).startStep r).wakeLinks).runCheck

/-- CLEAR_FAULT: the rail soft-starts, or is off where it has no phase or the package has no rail on; the CLAMP codes follow, and BUDGET
CLEARS THERMAL goes to the partitions of its open tiles (R148, R193, R235). DEDUCED, log entry 107. -/
def State.clearFault (s : State) (r : Nat) : State :=
  if (s.rail r).mode = 5 then
    let up := (decide (s.isl.pkg < 2) || s.isl.waking) && s.usedRails.contains r
    let s0 := s.setRail r { s.rail r with mode := 0 }
    let s1 := (if up then s0.railStart r else s0).clampAll
    let parts := ((s1.domTiles r).map (fun t => (s1.tile t).part)).eraseDups
    s1.each parts (fun p x => x.sendBudget p 4 (x.headroom p))
  else s

end Sys2Proof.Machine
end

