-- ==== Sys2Proof/Machine/SluiceRun.lean ====
section
/-! DEFINITION. What the KG8 does with each upstream message and each flit (The Sluice Endpoint; Budgets, Partitions and
Contention). -/

namespace Sys2Proof.Machine
open Sys2Proof

/-- The INTENT that a message carries. -/
def mPend (m : Msg) : Pend := {
  seq := mByte m 3, cls := mByte m 4, lease := mPair m 5 % 4096, barrier := bitOf (mByte m 7) 0, renew := bitOf (mByte m 7) 1
  op := mPair m 8, layer := mPair m 10 % 4096, grp := mPair m 12 % 4096 }

/-- Keep an INTENT in its tile's intent queue at a stage, with its tags. -/
def State.keepIntent (s : State) (t : Nat) (p : Pend) (stage : Nat) : State :=
  let x := s.tile t
  ({ s with sl.order := s.sl.order + 1 }).putTile t { x with intents := x.intents ++ [{ p with stage := stage, order := s.sl.order }] }

/-- A RENEW: held by a freeze, refused over allocation, or answered at once (R268, R438). -/
def State.renewIn (s : State) (t : Nat) (p : Pend) : State :=
  let x := s.tile t
  if s.frozen x.dom then s.keepIntent t p 3
  else if s.alloc x.part < s.committed x.part then s.refuseBudget t p (if s.shedOn then nakShed else nakCap)
  else (s.keepIntent t p 2).answerRenew t p

/-- An ordinary INTENT: judged at acceptance, and admissible at the next wave start (R261, R435, R436). -/
def State.ordinaryIn (s : State) (t : Nat) (p : Pend) : State :=
  let d := (s.tile t).dom
  match s.judge t p.cls with
  | some code => s.refuseBudget t p code
  | none =>
    let s1 := s.keepIntent t p 2
    (s1.setDom d { s1.dom d with incoming := (s1.dom d).incoming ++ [{ kind := 0, members := [(t, p.seq)], grp := p.grp }] }).intentWake d

/-- A barrier arrival parks its INTENT; a resent one that has arrived already is an ordinary INTENT (R47, R238, R272, R274). -/
def State.barrierIn (s : State) (t : Nat) (p : Pend) : State :=
  let x := s.tile t
  let again := x.arrivedSeq == some p.seq
  let s1 := s.setTile t { x with barGrp := some p.grp, arrivedSeq := some p.seq }
  if again || s1.rf (Reg.AD_BAR_CFG_EXPECT p.grp) == 0 then s1.ordinaryIn t p
  else ((s1.keepIntent t p 1).arrive p.grp t p.seq).intentWake x.dom

/-- An INTENT that has passed the checks of R237 and comes from an open tile. -/
def State.intentAccepted (s : State) (t : Nat) (p : Pend) : State :=
  let x := s.tile t
  if x.intents.any (fun q => q.seq == p.seq) then s
  else
    let s1 := s.setTile t { x with
      held := none, op := p.op, layer := p.layer, arrivedSeq := if x.arrivedSeq == some p.seq then x.arrivedSeq else none }
    if p.barrier then s1.barrierIn t p else if p.renew then s1.renewIn t p else s1.ordinaryIn t p

/-- Close a tile that fails check 6, with its reservation to return (R252). -/
def State.failBackoff (s : State) (n t : Nat) : State :=
  let g := s.barGroups [t]
  ((s.closeTile t).nonconform n t 6).each g (fun k x => x.checkRelease k)

/-- An INTENT (R44, R221, R251, R252). -/
def State.intentIn (s : State) (n : Nat) (m : Msg) : State :=
  let t := mTile m
  let x := s.tile t
  if !x.isOpen || x.link != n then s.nakMsg n m nakClosed 0
  else if x.backoff = 1 then (s.setTile t { x with backoff := 2, backAt := s.now }).nakMsg n m nakQfull 0
  else if x.backoff = 2 then
    if s.now < x.backAt + 1800 then s.failBackoff n t
    else (s.setTile t { x with backoff := 0 }).intentAccepted t (mPend m)
  else s.intentAccepted t (mPend m)

/-- Lower a tile's reservation. -/
def State.lowerResv (s : State) (t c : Nat) : State :=
  let x := s.tile t
  (if c = 0 then s.giveBack t else s.putTile t { x with resv := c }).napAdvance

/-- A RELEASE (R232). -/
def State.releaseIn (s : State) (n : Nat) (m : Msg) : State :=
  let t := mTile m
  let x := s.tile t
  let q := mByte m 3
  if !x.isOpen || x.link != n then s
  else if bitOf (mByte m 5) 0 then
    if x.intents.any (fun p => p.seq == q) then s.dropIntent t q
    else if x.resvSeq = some q then s.lowerResv t (mByte m 4) else s
  else if x.resvSeq = some q ∧ 0 < x.resv then s.lowerResv t (mByte m 4) else s

/-- Issue a PROBE with random DATA (check 5 of Table 5.8). -/
def State.probeTile (s : State) (n t : Nat) : State :=
  let d := s.draw 63
  let v := d.1 % 2 ^ 64
  let s1 := d.2.putTile t { d.2.tile t with probe := some (v, s.now), link := n }
  s1.sendTileOn n t 0x8A [(4, 1, 1), (5, 8, v)]

/-- An OPEN of a tile that is open on its link is a restart: its INTENTs are discarded, its reservation is to return, and the tile is
closed until it has been enumerated again (R254). -/
def State.restartTile (s : State) (n t : Nat) : State :=
  let x := s.tile t
  if x.isOpen && x.link == n then
    (((s.closeTile t).setLink n { s.link n with opened := (s.link n).opened - 1 }).emit 2 0x3006 t x.resv).each (s.barGroups [t])
      (fun g y => y.checkRelease g)
  else s

/-- An OPEN that fails check 1 by its format, besides the NAK of R237 (R252, R254). -/
def State.openBad (s : State) (n : Nat) (m : Msg) : State := (s.restartTile n (mTile m)).nonconform n (mTile m) 1

/-- An OPEN that passed check 1 (R252 to R254). A tile that is open on another link fails check 3, whichever link SL_TILE_CFG gives it
(Table 5.10). DEDUCED, log entry 124. -/
def State.openIn (s0 : State) (n : Nat) (m : Msg) : State :=
  let t := mTile m
  if (s0.link n).failed.contains t then s0.sendClose n t 1
  else
    let s := s0.restartTile n t
    let x := s.tile t
    if !s.rb (Reg.SL_TILE_CFG_ENABLE t) then s.nonconform n t 2
    else if x.isOpen then s.nonconform n t 3
    else if s.rf (Reg.SL_TILE_CFG_LINK t) ≠ n then s.nonconform n t 2
    else if s.rf (Reg.SL_TILE_CFG_MAXCLASS t) < mByte m 4 then s.nonconform n t 4
    else
      let s2 := s.putTile t { x with askMax := mByte m 4, memCtl := bitOf (mByte m 5) 0, sensors := clampN 1 4 (mByte m 6 % 8) }
      if s2.rb Reg.SL_CTL_PROBE_TEST then s2.probeTile n t else s2.openTile n t

/-- A PROBEREPLY (check 5 of Table 5.8). -/
def State.probeReplyIn (s : State) (n : Nat) (m : Msg) : State :=
  let t := mTile m
  let x := s.tile t
  let data := ofLe ((List.range 8).map (fun i => mByte m (5 + i)))
  match x.probe with
  | none => s
  | some (v, at_) =>
    if x.link ≠ n then s
    else if mByte m 4 = 1 ∧ data = 2 ^ 64 - 1 - v ∧ s.now ≤ at_ + 2 * usec then s.openTile n t
    else s.nonconform n t 5

/-- A STATE that an unmirrored takeover awaits makes its tile known as open, as SL_TILE_CFG has it (Table 18.7, R251). -/
def State.settleTile (s : State) (n t : Nat) : State :=
  if s.ad.settle.contains t then
    let s1 := { s with ad.settle := s.ad.settle.filter (fun u => u != t) }
    let x := s1.tile t
    if x.isOpen || s1.rf (Reg.SL_TILE_CFG_LINK t) != n then s1
    else s1.putTile t { x with
      isOpen := true, link := n, dom := s1.rf (Reg.SL_TILE_CFG_DOMAIN t), part := s1.rf (Reg.SL_TILE_CFG_PARTITION t)
      floor := s1.rf (Reg.SL_TILE_CFG_FLOOR t), maxcls := s1.rf (Reg.SL_TILE_CFG_MAXCLASS t) }
  else s

/-- A STATE: the allowance and the lease as the tile reports them; with no INTENT outstanding at the tile, none is held here
(R251). -/
def State.stateIn (s0 : State) (n : Nat) (m : Msg) : State :=
  let t := mTile m
  let s := s0.settleTile n t
  let x := s.tile t
  let code := mByte m 4 % 8
  if !x.isOpen || x.link != n then s.nakMsg n m nakClosed 0
  else
    let s1 := if code = 2 ∨ code = 5 then s else (x.intents.map (·.seq)).foldl (fun y q => y.dropIntent t q) s
    let y := s1.tile t
    s1.putTile t { y with
      resv := mByte m 5, lease := mPair m 6 % 4096, grantAt := s.now, returning := false
      resvSeq := if mByte m 5 = 0 then none else if code = 2 ∨ code = 5 then y.resvSeq else some (mByte m 3) }

/-- The highest valid code that a tile's sensors last reported. -/
def State.tileTop (s : State) (t : Nat) : Nat :=
  let l := ((List.range 4).map (fun j => s.sensor (4 * t + j))).filter (fun r => r.seen && r.code != 0x3FF)
  match (l.map (·.code)).max? with
  | some x => x
  | none => 0x3FF

/-- A TEMP overwrites the tile's entry, and the reading is judged at once (R236, R410). -/
def State.tempIn (s : State) (m : Msg) : State :=
  let t := mTile m
  let k := 4 * t + mByte m 6 % 4
  let code := mPair m 4 % 1024
  let s1 := if s.present k && !s.inReset 0 then s.sensorRead k true code
    else s.setSensor k { s.sensor k with code := code, seen := true, readAt := s.now }
  s1.wr (Reg.SL_TILE_STAT_TEMP t) (s1.tileTop t)

/-- A DROOP overwrites the tile's entry of the report table (R236). -/
def State.droopIn (s : State) (m : Msg) : State :=
  let t := mTile m
  s.setTile t { s.tile t with droop := some (mByte m 4, mPair m 5) }

/-- An upstream message is handled as its TYPE says (R217, R236, R237). DEDUCED, log entry 125. -/
def State.upHandle (s : State) (n : Nat) (m : Msg) : State :=
  match mByte m 0 with
  | 1 => s.upReceive n m true (fun x => x.intentIn n m)
  | 2 => s.upReceive n m true (fun x => x.releaseIn n m)
  | 3 => (s.upJudge n m true (fun x => x.openBad n m) (fun x => x.openIn n m)).runCheck
  | 4 => s.upReceive n m true (fun x => x.stateIn n m)
  | 5 => s.upReceive n m false (fun x => x.tempIn m)
  | 6 => s.upReceive n m false (fun x => x.droopIn m)
  | 7 => (s.upReceive n m true (fun x => x.probeReplyIn n m)).runCheck
  | _ => s.upReceive n m true id

/-- A message that a flit brings: TEMP and DROOP go to the report table, the others to the intake (R236, R827). -/
def State.flitSlot (s : State) (n : Nat) (m : Msg) : State :=
  let l := s.link n
  if m = 0 ∨ l.st ≠ 2 then s
  else if mByte m 0 = 5 then s.upReceive n m false (fun x => x.tempIn m)
  else if mByte m 0 = 6 then s.upReceive n m false (fun x => x.droopIn m)
  else if 256 ≤ l.intake.length then s.intakeFull n m
  else (s.setLink n { l with intake := l.intake ++ [m] }).intakeMark n

/-- A flit arrives at this die's end of link `n` (R210 to R214). -/
def State.flitIn (s : State) (n : Nat) (f : BitVec 512) : State :=
  if s.inReset 2 || (s.link n).st != 2 then s
  else
    let r := (s.link n).fl.recv f
    let s1 := s.putFlits n (r.link, r.flits)
    let s2 := if r.asked then s1.satAdd (Reg.SL_LINK_ERR_REPLAYS n) 1 else s1
    if r.lost then s2.linkLoss n 2 else r.msgs.foldl (fun x m => x.flitSlot n m) s2

end Sys2Proof.Machine
end

