-- ==== Sys2Proof/Machine/TwinMirror.lean ====
section
/-! DEFINITION. The mirror body: how the Active forms each class of it from its state, and what the other die holds of it (The Twin,
Tables 18.3 to 18.4). A body is a number, byte 0 lowest. -/

namespace Sys2Proof.Machine
open Sys2Proof

/-- A field of `n` bytes at offset `o`. -/
def fput (o n v : Nat) : Nat := v % 256 ^ n * 256 ^ o

/-- Read a field of `n` bytes at offset `o`. -/
def fget (b o n : Nat) : Nat := b / 256 ^ o % 256 ^ n

/-- The sum of what a function gives for the indices below `n`. -/
def sumTo (n : Nat) (f : Nat → Nat) : Nat := ((List.range n).map f).sum

/-- Bit mask of the positions of a list that meet a condition. -/
def posMask (l : List Nat) (p : Nat → Bool) : Nat := ((l.zipIdx.filter (fun e => p e.1)).map (fun e => 2 ^ e.2)).sum

/-- Pre-boost state of a domain, as AD_DOM_STAT.PB: 0 off, 1 ramping, 2 full, 3 withdrawing. -/
def State.pbState (s : State) (d : Nat) : Nat :=
  let l := (s.dom d).boosts
  let up := l.filter (fun b => !b.withdrawing)
  if l.isEmpty then 0 else if up.isEmpty then 3 else if up.any (fun b => b.ramp.at s.now == b.ramp.goal) then 2 else 1

/-- PC_RAIL_STAT.MODE (Table 4.15). -/
def State.modeCode (s : State) (r : Nat) : Nat := if (s.rail r).hold then 4 else (s.rail r).mode

/-- The time a storm freeze still lasts (R301). -/
def State.freezeLeft (s : State) (d : Nat) : Nat :=
  if (s.dom d).storm then ((s.dom d).fires.foldl max 0 + 100 * usec - s.now + usec - 1) / usec else 0

/-- Class A of rail `r` (Table 18.3a). -/
def State.classA (s : State) (r : Nat) : Nat :=
  let x := s.rail r
  let d := s.dom r
  let l := s.mapped r
  let fires := (d.fires.filter (fun t => decide (s.now < t + 100 * usec))).length
  let ssUs := if x.mode = 1 then satU 16 ((s.now - x.ssAt) / usec) else 0
  fput 0 2 (s.setpoint r) + fput 2 1 (s.boostNow r / 5)
  + fput 3 1 (s.modeCode r + 8 * s.pbState r + 32 * b01 x.limiting + 64 * b01 d.storm)
  + fput 4 8 (codeOf 64 (x.u * 524288 / 1000)) + fput 12 2 (codeOf 16 x.e1) + fput 14 2 (codeOf 16 x.e2)
  + fput 16 8 (posMask l (fun n => (s.lane n).active)) + fput 24 8 (posMask l (fun n => (s.lane n).mark == 0 && !(s.lane n).active))
  + fput 32 1 (b01 (x.mode == 3) + 2 * (x.burstIdx % 64)) + fput 33 1 (d.grade % 32) + fput 34 1 (d.target % 32)
  + fput 35 1 d.backoff + fput 36 2 d.ctr + fput 38 2 (satU 16 (s.now - d.waveAt)) + fput 40 2 (satU 16 (s.railLimit r).1)
  + fput 42 2 (satU 16 (s.derated r)) + fput 44 1 ((s.zone r).step % 32) + fput 45 1 (satU 8 fires) + fput 46 2 (s.freezeLeft r)
  + fput 48 2 ssUs

/-- Class B of lane `n` (Table 18.3b). -/
def State.classB (s : State) (n : Nat) : Nat :=
  if s.laneRail n = none then 0
  else
    let x := s.lane n
    codeOf 7 (clampI (-64) 63 x.bal) + 128 * (x.mark % 4) + 512 * (x.row % 4) + 2048 * (32 * x.angNum / max 1 x.angDen % 32)

/-- An auxiliary channel of class C (Table 18.3c); the level of AUXG is the loop's own, a free value (log entry 3). -/
def State.classCh (s : State) (n : Nat) : Nat :=
  let x := s.aux n
  let run := x.timer + (if x.st = 2 then s.now - x.since else 0)
  let level := if 2 ≤ x.st ∧ x.st ≤ 4 then Config.freeValue 70 (24 * s.free + n) else 0
  fput 0 1 (x.st % 8 + 8 * s.rf (Reg.AX_CH_STAT_CAUSE n)) + fput 1 2 (x.ramp.at s.now) + fput 3 1 (satU 8 (run / (100 * usec)))
  + fput 4 2 level + fput 6 2 (satU 16 (x.paused / (10 * usec)))

/-- A supply group of class C: the samples counted toward a sag are none, since a command tells of a whole sag (log entry 6). -/
def State.classGrp (s : State) (g : Nat) : Nat :=
  let x := s.auxGrp g
  fput 0 2 (if x.sag then x.corr else x.faultId) + fput 2 1 (if x.stopped then 2 else b01 x.sag)
  + fput 4 2 (if x.sag then satU 16 ((s.now - x.sagAt) / (10 * usec)) else 0)

/-- Broken thermistors, bit j. -/
def State.thermMask (s : State) : Nat := sumTo 4 (fun j => if (mget {} s.rv.therms j).broken then 2 ^ j else 0)

/-- The reservoir of class C (Table 18.3c). -/
def State.classRv (s : State) : Nat :=
  let x := s.rv
  let recent := x.faults.filter (fun t => decide (s.now < t + tenMin))
  let oldest := match recent.head? with
    | some t => satU 32 ((s.now - t) / msec)
    | none => 0
  let pend := match (List.range 17).find? (fun k => bitOf x.pendTaps k) with
    | some k => k
    | none => 0xFF
  fput 0 1 x.mode + fput 1 2 x.causes + fput 3 1 (x.parity % 2) + fput 4 2 (satU 16 ((s.now - x.periodAt) / (100 * usec)))
  + fput 6 4 (x.g / 100) + fput 10 3 x.openTaps + fput 13 1 s.thermMask + fput 14 1 pend + fput 15 1 (satU 8 x.cleanRun)
  + fput 16 1 (min 1 x.senseRun) + fput 17 1 (satU 8 recent.length)
  + fput 18 1 (b01 x.chgOpen + 2 * b01 x.disOpen + 4 * b01 x.latched) + fput 20 4 oldest

/-- Value of a partition's HELD asks of R431, in watts. -/
def State.heldAsks (s : State) (p : Nat) : Nat :=
  ((s.partTiles p).map (fun t => match (s.tile t).held with
    | some h => if h.counts then s.value h.cls (s.tile t).dom else 0
    | none => 0)).sum / watt

/-- Class D for the frame of a SEQ (Table 18.3d). -/
def State.classD (s : State) (seq : Nat) : Nat :=
  sumTo 8 (fun j =>
    let p := 8 * (seq % 8) + j
    fput (8 * j) 2 (satU 16 (s.alloc p / watt)) + fput (8 * j + 2) 2 (satU 16 (s.floorShare p / watt))
    + fput (8 * j + 4) 1 (mget 0 s.bg.duty p % 16) + fput (8 * j + 6) 2 (satU 16 (s.heldAsks p)))

/-- Zone of an index of class E: domains, die zones, governor. -/
def zoneAt (z : Nat) : Nat := if z < 8 then z else if z < 24 then 0x10 + (z - 8) else 0x20

/-- A zone of class E (Table 18.3e). -/
def State.classZone (s : State) (z : Nat) : Nat :=
  let x := s.zone (zoneAt z)
  fput 0 1 (x.band % 8) + fput 1 1 (x.step % 32) + fput 2 1 (x.duty % 16 + 16 * b01 x.pinned)

/-- The broken map now: cause + 1 by sensor. -/
def State.brokenMap (s : State) : List (Nat × Nat) :=
  (s.th.readings.filter (fun e => e.2.broken)).map (fun e => (e.1, e.2.cause + 1))

/-- Changes of the broken map against what was sent, the first four: sensor, and cause + 1 or 0 when restored. -/
def State.brokenNews (s : State) : List (Nat × Nat) :=
  let now := s.brokenMap
  let came := now.filter (fun e => mget 0 s.tw.brk e.1 != e.2)
  let went := (s.tw.brk.filter (fun e => mget 0 now e.1 == 0)).map (fun e => (e.1, 0))
  (came ++ went).take 4

/-- Class E (Table 18.3e), with the broken-map changes given. -/
def State.classE (s : State) (news : List (Nat × Nat)) : Nat :=
  sumTo 25 (fun z => s.classZone z * 256 ^ (4 * z))
  + fput 100 1 s.th.stop + fput 102 2 (if s.th.stop = 0 then 0 else satU 16 ((s.now - s.th.stopAt) / (10 * usec)))
  + (news.zipIdx.map (fun e =>
      fput (104 + 4 * e.2) 4 (e.1.1 + 2 ^ 18 * b01 (e.1.2 != 0) + 2 ^ 19 * ((e.1.2 - 1) % 4) + 2 ^ 31))).sum

/-- Highest valid measured tile reading of a zone of class G. -/
def State.classG (s : State) : Nat :=
  sumTo 24 (fun z =>
    match (s.okCodes ((s.zoneMembers (zoneAt z)).filter (fun k => decide (k < 0x10000)))).max? with
    | some c => fput (2 * z) 2 (c % 1024 + 0x8000)
    | none => 0)

/-- A register whose writes the mirror carries: held in FRI, REG or SLU, with a volatile field that is written and survives a
takeover (Table 18.3, R713). -/
def RDesc.mirrored (d : RDesc) : Bool :=
  decide (d.isl < 3) && d.fields.any (fun f => f.acc == .rw && f.cls == 0 && bitOf f.kept 3)

/-- Addresses of every mirrored register. -/
def mirroredAddrs : List Nat := (regTable.filter RDesc.mirrored).flatMap (fun d => d.addrs.map (·.1))

/-- The mirror carries writes of the register at an address. -/
def isMirrored (a : Nat) : Bool := match findReg a with
  | some (d, _, _) => d.mirrored
  | none => false

/-- The word that a register holds. -/
def State.regWord (s : State) (a : Nat) : Nat :=
  match findReg a with
  | some (d, i, j) => storedBits s (canonAddr a) i j d.fields
  | none => 0

/-- The mirrored registers that differ from reset, by TARGET of KIND 0. -/
def State.sRegs (s : State) : List (Nat × Nat) :=
  let addrs := ((s.regs.map (fun e => e.1 / 32)).eraseDups).filter isMirrored
  addrs.map (fun a => (a, s.regWord a))

/-- IS_PKG_STATE, which the mirror carries as a register (log entry 70). -/
def State.pkgWord (s : State) : Nat := s.isl.pkg % 4 + 16 * (s.isl.target % 4) + 256 * b01 s.isl.tripped

/-- The S records that hold now: TARGET and VALUE (Table 18.3g). -/
def State.sNow (s : State) : List (Nat × Nat) :=
  s.sRegs ++ [(Reg.IS_PKG_STATE, s.pkgWord)]
  ++ s.sl.tiles.flatMap (fun e =>
      e.2.slots.map (fun k => (2 ^ 30 + e.1 + 2 ^ 14 * (k.1 % 4), k.2 % 4096 + 0x8000))
      ++ [(2 ^ 31 + e.1, s.regWord (Reg.SL_TILE_CFG e.1) % 2 ^ 30 + 2 ^ 30 * b01 e.2.isOpen + s.regWord (Reg.SL_TILE_CFG e.1) / 2 ^ 31 * 2 ^ 31)])

/-- The value of an S record now; one that is gone reads as reset or empty. -/
def State.sVal (s : State) (t : Nat) : Nat :=
  match s.sNow.find? (fun e => e.1 == t) with
  | some e => e.2
  | none => if t < 2 ^ 30 then s.regWord t else 0

/-- Mark the S records that have changed since they were last marked (R715). -/
def State.sMark (s : State) : State :=
  let now := s.sNow
  let came := now.filter (fun e => !(s.tw.svals.contains e))
  let went := (s.tw.svals.filter (fun e => !(now.any (fun x => x.1 == e.1)))).map (·.1)
  let ts := came.map (·.1) ++ went
  { s with tw.svals := now, tw.srecs := s.tw.srecs.filter (fun e => !ts.contains e.1) ++ ts.map (fun t => (t, none)) }

/-- Class S: up to 16 records, the rest of KIND 3 (Table 18.3g). -/
def State.classS (s : State) (l : List Nat) : Nat :=
  sumTo 16 (fun i => match l[i]? with
    | some t => fput (8 * i) 4 t + fput (8 * i + 4) 4 (s.sVal t)
    | none => fput (8 * i) 4 (3 * 2 ^ 30))

/-- A tile record (Table 18.4). -/
def State.tileRec (s : State) (t : Nat) : Nat :=
  let x := s.tile t
  let left := if x.resv = 0 then 0 else x.lease - (s.now - x.grantAt) / usec
  let parked := x.intents.find? (fun p => p.stage == 1)
  let grp := match parked with
    | some p => p.grp
    | none => 0xFFF
  t + 2 ^ 14 * s.rf (Reg.SL_TILE_STAT_STATE t) + 2 ^ 17 * (x.resv % 256) + 2 ^ 25 * (left % 4096) + 2 ^ 37 * (grp % 4096)
  + 2 ^ 49 * b01 parked.isSome + 2 ^ 50 * b01 x.isOpen

/-- The body of a mirror frame (Table 18.3, R714). -/
def State.mirrorBody (s : State) (seq : Nat) (recs tiles : List Nat) (news : List (Nat × Nat)) : Nat :=
  sumTo 8 (fun r => s.classA r * 256 ^ (64 * r)) + sumTo 256 (fun n => s.classB n * 256 ^ (512 + 2 * n))
  + sumTo 24 (fun n => s.classCh n * 256 ^ (1024 + 8 * n)) + sumTo 4 (fun g => s.classGrp g * 256 ^ (1216 + 6 * g))
  + s.classRv * 256 ^ 1240 + s.classD seq * 256 ^ 1280 + s.classE news * 256 ^ 1344 + s.classG * 256 ^ 1472
  + s.classS recs * 256 ^ 1536 + (tiles.zipIdx.map (fun e => s.tileRec e.1 * 256 ^ (1664 + 8 * e.2))).sum

/-! What the other die holds of a body. -/

/-- Take class A of rail `r`. The times of the fires are not carried: in a storm all lie where the freeze left ends, else now. DEDUCED,
log entry 146. -/
def State.takeA (s : State) (b r : Nat) : State :=
  let g := fun (o n : Nat) => fget b (64 * r + o) n
  let ofs := 5 * g 2 1
  let m := g 3 1 % 8
  let pb := g 3 1 / 8 % 4
  let act := g 16 8
  let fired := if bitOf (g 3 1) 6 then s.now + g 46 2 * usec - 100 * usec else s.now
  let x := { s.rail r with
    mode := if m = 4 then 2 else m, hold := false, handback := false, strobeWaits := false, discharge := false
    base := .still (g 0 2 - ofs), u := (signedOf 64 (g 4 8) * 1000 + 524287) / 524288, e1 := signedOf 16 (g 12 2), e2 := signedOf 16 (g 14 2)
    burstIdx := g 32 1 / 2 % 64, limiting := bitOf (g 3 1) 5, powerGood := m == 2 || m == 3 || m == 4
    ssAt := s.now - g 48 2 * usec }
  let d := { s.dom r with
    grade := g 33 1 % 32, target := g 34 1 % 32, freq := s.gradeF r (g 33 1 % 32), backoff := g 35 1, ctr := g 36 2
    waveAt := s.now - g 38 2, storm := bitOf (g 3 1) 6, fires := List.replicate (g 45 1) fired, step := 0, burstWait := false
    strobe := false
    boosts := if pb = 0 then [] else [{ grp := 0xFFF, ramp := .still ofs, released := true, withdrawing := pb == 3 }] }
  ((s.setRail r x).setDom r d).upto 64 (fun j y => match (s.mapped r)[j]? with
    | some n => y.setLane n { y.lane n with active := bitOf act j, rampUp := 0, rampDown := 0 }
    | none => y)

/-- Take class B of lane `n`. -/
def State.takeB (s : State) (b n : Nat) : State :=
  let v := fget b (512 + 2 * n) 2
  if s.laneRail n = none then s
  else s.setLane n { s.lane n with
    bal := signedOf 7 (v % 128), mark := v / 128 % 4, row := v / 512 % 4, angNum := v / 2048 % 32, angDen := 32 }

/-- Take an auxiliary channel of class C. -/
def State.takeCh (s : State) (b n : Nat) : State :=
  let g := fun (o k : Nat) => fget b (1024 + 8 * n + o) k
  (s.setAux n { s.aux n with
    st := g 0 1 % 8, ramp := .still (g 1 2), timer := g 3 1 * 100 * usec, since := s.now, paused := g 6 2 * 10 * usec }).wr
    (Reg.AX_CH_STAT_CAUSE n) (g 0 1 / 8)

/-- Take a supply group of class C. -/
def State.takeGrp (s : State) (b k : Nat) : State :=
  let g := fun (o n : Nat) => fget b (1216 + 6 * k + o) n
  s.setAuxGrp k { s.auxGrp k with
    corr := g 0 2, faultId := g 0 2, sag := g 2 1 % 4 == 1, stopped := g 2 1 % 4 == 2, sagAt := s.now - g 4 2 * 10 * usec }

/-- Take the reservoir of class C (R381). -/
def State.takeRv (s : State) (b : Nat) : State :=
  let g := fun (o n : Nat) => fget b (1240 + o) n
  let x := s.rv
  { s with rv := { x with
    mode := g 0 1 % 8, causes := g 1 2, parity := g 3 1 % 2, periodAt := s.now - g 4 2 * 100 * usec, g := g 6 4 * 100
    openTaps := g 10 3 % 2 ^ 17, pendTaps := if g 14 1 < 17 then 2 ^ g 14 1 else 0, cleanRun := g 15 1, senseRun := g 16 1 % 2
    therms := (List.range 4).foldl (fun m j => mput {} m j { mget {} m j with broken := bitOf (g 13 1) j }) x.therms
    faults := List.replicate (g 17 1) (s.now - g 20 4 * msec), chgOpen := bitOf (g 18 1) 0, disOpen := bitOf (g 18 1) 1
    latched := bitOf (g 18 1) 2 } }

/-- Take class D of the frame of a SEQ. -/
def State.takeD (s : State) (b seq : Nat) : State :=
  s.upto 8 (fun j x =>
    let g := fun (o n : Nat) => fget b (1280 + 8 * j + o) n
    let p := 8 * (seq % 8) + j
    { x with
      bg.alloc := mput 0 x.bg.alloc p (g 0 2 * watt), bg.af := mput 0 x.bg.af p (g 2 2 * watt), bg.duty := mput 0 x.bg.duty p (g 4 1 % 16) })

/-- Take a zone of class E. -/
def State.takeZone (s : State) (b z : Nat) : State :=
  let g := fun (o : Nat) => fget b (1344 + 4 * z + o) 1
  s.setZone (zoneAt z) { s.zone (zoneAt z) with
    band := g 0 % 8, judged := true, step := g 1 % 32, duty := g 2 % 16, pinned := bitOf (g 2) 4 }

/-- Take a broken-map change of class E. -/
def State.takeBroken (s : State) (w : Nat) : State :=
  if bitOf w 31 then
    let k := w % 2 ^ 18
    let on := bitOf w 18
    s.setSensor k { s.sensor k with seen := true, broken := on, cause := if on then w / 2 ^ 19 % 4 else 0 }
  else s

/-- Take class E. -/
def State.takeE (s : State) (b : Nat) : State :=
  let s1 := s.upto 25 (fun z x => x.takeZone b z)
  let s2 := { s1 with
    th.stop := fget b 1444 1, th.stopAt := s.now - fget b 1446 2 * 10 * usec, th.peerBand := fget b 1440 1 % 8 }
  s2.upto 4 (fun i x => x.takeBroken (fget b (1448 + 4 * i) 4))

/-- Take class G. -/
def State.takeG (s : State) (b : Nat) : State :=
  { s with tw.hottest := (List.range 24).foldl (fun m z =>
      let v := fget b (1472 + 2 * z) 2
      if bitOf v 15 then mput 0x3FF m (zoneAt z) (v % 1024) else mdel m (zoneAt z)) s.tw.hottest }

/-- Take the package state that a record carries (log entry 70). -/
def State.takePkg (s : State) (v : Nat) : State :=
  { s with isl.pkg := v % 4, isl.target := v / 16 % 4, isl.goal := v / 16 % 4, isl.inTrans := v % 4 != v / 16 % 4
           isl.waking := v % 4 == 2 && v / 16 % 4 == 0
           isl.frozen := v % 4 == 1 || (v % 4 == 0 && v / 16 % 4 != 0) }

/-- Every field of a register takes its part of a mirrored word. -/
def State.putWord (s : State) (a v : Nat) : State :=
  match findReg a with
  | some (d, i, j) => d.fields.foldl (fun x f => if f.acc == .rw then x.wr (f.fld (canonAddr a) i j) (bitsOf v f.hi f.lo) else x) s
  | none => s

/-- Take an S record (Table 18.3g). -/
def State.takeS (s : State) (target v : Nat) : State :=
  let t := target % 2 ^ 14
  match target / 2 ^ 30 with
  | 0 =>
    let a := target % 2 ^ 26
    if a = Reg.IS_PKG_STATE then s.takePkg v else if isMirrored a then s.putWord a v else s
  | 1 =>
    let k := target / 2 ^ 14 % 4
    let x := s.tile t
    let sl := x.slots.filter (fun e => e.1 != k)
    s.setTile t { x with slots := if bitOf v 15 then sl ++ [(k, v % 4096)] else sl }
  | 2 =>
    let x := s.tile t
    let s1 := s.putWord (Reg.SL_TILE_CFG t) v
    s1.setTile t { x with
      isOpen := bitOf v 30, link := s1.rf (Reg.SL_TILE_CFG_LINK t), dom := s1.rf (Reg.SL_TILE_CFG_DOMAIN t)
      part := s1.rf (Reg.SL_TILE_CFG_PARTITION t), floor := s1.rf (Reg.SL_TILE_CFG_FLOOR t)
      maxcls := s1.rf (Reg.SL_TILE_CFG_MAXCLASS t) }
  | _ => s

/-- Take a tile record (Table 18.4). -/
def State.takeTile (s : State) (v : Nat) : State :=
  let t := v % 2 ^ 14
  let x := s.tile t
  let grp := v / 2 ^ 37 % 4096
  let s1 := s.setTile t { x with
    isOpen := bitOf v 50, resv := v / 2 ^ 17 % 256, lease := v / 2 ^ 25 % 4096, grantAt := s.now
    barGrp := if bitOf v 49 then some grp else x.barGrp }
  let s2 := (s1.wr (Reg.SL_TILE_STAT_STATE t) (v / 2 ^ 14 % 8)).wr (Reg.SL_TILE_STAT_ALLOWANCE t) (v / 2 ^ 17 % 256)
  { s2 with tw.parked := (s2.tw.parked.filter (fun e => e.1 != t)) ++ (if bitOf v 49 then [(t, grp)] else []) }

/-- Take the body of a mirror frame (R714). -/
def State.takeBody (s : State) (b seq tiles : Nat) : State :=
  let s1 := s.upto 8 (fun r x => x.takeA b r)
  let s2 := s1.upto 256 (fun n x => x.takeB b n)
  let s3 := ((s2.upto 24 (fun n x => x.takeCh b n)).upto 4 (fun g x => x.takeGrp b g)).takeRv b
  let s4 := ((s3.takeD b seq).takeE b).takeG b
  let s5 := s4.upto 16 (fun i x => x.takeS (fget b (1536 + 8 * i) 4) (fget b (1540 + 8 * i) 4))
  s5.upto (min tiles 160) (fun i x => x.takeTile (fget b (1664 + 8 * i) 8))

end Sys2Proof.Machine
end

