-- ==== Sys2Proof/Machine/TwinOps.lean ====
section
/-! DEFINITION. Ownership: gaining and releasing it, takeover, handover, in step, and the twin frames (The Twin). -/

namespace Sys2Proof.Machine
open Sys2Proof

/-- The engine of the twin link runs: TWN out of reset, no Halt Sweep, the link trained (Table 21.2). -/
def State.twnRuns (s : State) : Bool := !s.inReset 6 && !s.ob.halted && s.tw.linkUp

/-- The sweep of a resynchronisation: every tile, every S register and the whole broken map are to be sent (R716). -/
def State.sweepStart (s : State) : State :=
  { s with
    tw.marked := (List.range 16384).map (fun t => (t, none)), tw.svals := s.sNow
    tw.srecs := (mirroredAddrs ++ (s.sNow.map (·.1)).filter (fun t => !mirroredAddrs.contains t)).map (fun t => (t, none)), tw.brk := [] }

/-- Out of step, with 0xC004: 0 link, 1 unacknowledged, 2 reset (R716). -/
def State.outOfStep (s : State) (cause : Nat) : State :=
  (({ s with tw.inStep := false, tw.good := 0 }).wr Reg.TW_FELL_LINK_LOST 1).emit 6 0xC004 cause s.tw.rxSeq

/-- A refused handover, with 0xC012 (R724). -/
def State.handRefuse (s : State) (reason src : Nat) : State :=
  (({ s with tw.handover := 0 }).wr Reg.TW_FELL_HANDOVER_REFUSED 1).emit 6 0xC012 reason src

/-- The first case of R724 that holds, but for the time of READY. -/
def State.handBad (s : State) : Option Nat :=
  if !s.tw.linkUp || !bitOf s.tw.peerFlags 5 || !bitOf s.tw.peerFlags 2 then some 0
  else if s.th.trip || bitOf s.tw.peerFlags 4 then some 2
  else if s.th.stop ≠ 0 then some 3
  else if s.isl.inTrans then some 4 else none

/-- A voluntary handover is requested of the Active: 0 host, 1 deferred warm reset, 2 policy (R722 to R724). -/
def State.handRequest (s : State) (src : Nat) : State :=
  if s.tw.role ≠ 3 ∨ s.tw.handover ≠ 0 then s
  else match s.handBad with
    | some r => s.handRefuse r src
    | none => { s with tw.handover := 1, tw.handSrc := src }

/-- What a takeover or handover takes from either die: queues, channels, rings, transfers, translations, authorisations, and every field
that TT does not keep (R8, R493, R587, R620, Tables 3.8 and 20.7). -/
def State.ttClear (s : State) : State :=
  let s1 := { s.meTakeover with
    cf.rings := [], cf.turn := none, cf.loads := [], cf.retire := [], fl.chans := [], fl.tlb := []
    fl.fe := s.fl.fe.filter (fun a => a.kind == 6), cb.injector := 0 }
  ((s1.clearFields 8 (fun _ => true)).seReset true true true false false).seResetEnd

/-- A die that owns no longer: cores stopped at ENTRY, queues, channels, rings and transfers gone, authorisations gone (R493, R525,
R587, R620, Tables 3.8 and 20.7). -/
def State.standDown (s : State) : State :=
  let s1 := s.upto 8 (fun c x =>
    let y := x.stopCore c 7
    if (y.core c).loaded then y.setCore c { y.core c with pc := (y.core c).entry, waiting := false, level := 0, restartDue := false } else y)
  (((s1.cfQuiesce 1).flStop 3).ttClear).wr Reg.CF_FELL_QUIESCED 1

/-- The owner-only outputs go to high impedance: every lane, both pins of each half-bridge and the stimuli; no Floodgate hold goes on (R45,
R54, R199, R717). -/
def State.lanesOff (s : State) : State :=
  let s1 := ((List.range 256).foldl (fun (x : State) n => if (x.lane n).pin = .hiZ then x else x.drive n .hiZ) s).rvPinsOff.out (.cthRef false)
  s1.upto 8 (fun r x =>
    let y := x.rail r
    (if y.hold || y.handback || y.strobeWaits then x.setRail r { y with hold := false, handback := false, strobeWaits := false } else x).setDom r
      { x.dom r with strobe := false })

/-- Ownership is released with a cause of Table 18.5: the outputs at high impedance, then the net (R710). -/
def State.ownRelease (s : State) (cause : Nat) : State :=
  if s.tw.role ≠ 3 then s
  else
    let s0 := s.lanesOff
    let s1 := { s0 with
      edge.ownPinLow := false
      tw.driving := false, tw.cause := cause, tw.handover := 0, tw.claim := 0, tw.inStep := false, tw.good := 0, tw.swept := false
      tw.sawLow := true, isl.waking := false, isl.inTrans := false, isl.target := s.isl.pkg }
    let s2 := (s1.setRole 4).emit 7 0xC011 cause
    let s3 := s2.upto 16 (fun n x => x.setLink n { x.link n with traffic := false })
    (s3.standDown).flSettle

/-- ENTDAA on each I3C bus that an enabled sensor is on (R88). DESIGN CHOICE, log entry 122. -/
def State.i3cStart (s : State) : State :=
  s.upto 2 (fun b x =>
    if (List.range 32).any (fun i => x.rb (Reg.TH_I3C_CFG_ENABLE i) && x.rf (Reg.TH_I3C_CFG_BUS i) == b) then x.out (.i3cDaa b) else x)

/-- Every owner-only output is driven with what the state holds: CLAMP, AUXG, the reservoir's legs, CTH_REF and the I3C buses (R54, R55,
R335, R708, Table 18.6). -/
def State.driveAll (s0 : State) : State :=
  let s := (s0.legsDrive.out (.cthRef true)).i3cStart
  let s1 := { s with tw.driving := true, sl.clampOut := (List.range 16).map (fun n => (n, s.clampCode n)) }
  let s2 := s1.upto 16 (fun n x => x.out (.clampPins n (x.clampCode n)))
  s2.upto 24 (fun n x =>
    let st := (x.aux n).st
    if st = 4 then x.auxDrive n 1800
    else if st = 2 ∨ st = 3 then
      let d := x.draw 70
      d.2.auxDrive n (d.1 % 1801)
    else x)

/-- SYNC on every active link: the die's tile traffic begins there (R250). -/
def State.syncAll (s : State) : State :=
  s.upto 16 (fun n x =>
    if (x.link n).st = 2 then (x.setLink n { x.link n with traffic := true }).sendLink n (mkMsg 0x8C 3 0 []) else x)

/-- A rail goes on from the mirror: a soft-start from the sensed voltage, a stop, or the slew to its target (R200, R201). -/
def State.railResume (s : State) (r : Nat) : State :=
  let x := s.rail r
  let d := s.dom r
  match x.mode with
  | 1 => s.setRail r { x with
      base := { frm := x.sensed, goal := s.gradeV r 0, num := s.rf (Reg.PC_RAIL_SS_SS_SLEW r), den := usec, since := s.now } }
  | 6 => s.setRail r { x with
      base := { frm := x.base.at s.now, goal := 3000, num := s.rf (Reg.PC_RAIL_SS_SS_SLEW r), den := usec, since := s.now } }
  | 2 | 3 =>
    if d.grade < d.target then s.startStep r
    else if x.base.at s.now = s.gradeV r d.grade then s
    else s.slewTo r d.grade (s.rf (Reg.AD_GR_CFG_SLEW_DN r))
  | _ => s

/-- A mirrored pre-boost goes on: it ramps to OFFSET, or falls at DECAY (R200, R280, R282). -/
def State.boostResume (s : State) (d : Nat) : State :=
  let off := s.rf (Reg.AD_PB_CFG_OFFSET d) * 5
  let go := fun (b : Boost) =>
    let v := b.ramp.at s.now
    if b.withdrawing then { b with ramp := { frm := v, goal := 0, num := s.rf (Reg.AD_PB_CFG_DECAY d) * 5, den := usec, since := s.now } }
    else { b with ramp := { frm := v, goal := off, num := off, den := s.rf (Reg.AD_PB_CFG_LEAD d) * 100, since := s.now } }
  s.setDom d { s.dom d with boosts := (s.dom d).boosts.map go }

/-- Barrier rounds as the mirrored tile records give them; the SEQ of an arrival comes with the tile's resent INTENT (R304, Table
18.4). -/
def State.roundsResume (s : State) : State :=
  let base := { s with ad.rounds := [] }
  (s.tw.parked.foldl (fun (x : State) e =>
    let r := x.round e.2
    x.setRound e.2 { r with
      arrived := r.arrived ++ [(e.1, 256)], firstAt := if r.arrived.isEmpty then s.now else r.firstAt, times := r.times ++ [s.now] }) base)

/-- Groups with a suspect phase are located again (R201). -/
def State.locateAgain (s : State) : State :=
  { s with ph.locating := sumTo 16 (fun g => if (grpLanes g).any (fun n => (s.lane n).mark == 2) then 2 ^ g else 0) }

/-- A takeover from the mirror: the dead times follow the mirrored rows and the table of the mirrored bands, and a stage of a rail that runs
is commanded on (R200, R201, R873, R304, R335, R381, R416, R719). -/
def State.resume (s : State) : State :=
  let tab := if 2 ≤ s.pkgBandNow then 1 else 0
  let s0 := { s with ph.dtTable := tab }.upto 256 (fun n x =>
    match x.laneRail n with
    | some r => x.setLane n { x.lane n with dtTab := tab, opOn := (x.lane n).mark != 1 && ((x.rail r).mode != 0 || (x.lane n).opOn) }
    | none => x)
  let s1 := (s0.upto 8 (fun r x => (x.boostResume r).railResume r)).locateAgain
  { s1.roundsResume with ad.settle := [] }

/-- A main rail of an unmirrored takeover (Table 18.7). -/
def State.railHeld (s : State) (r : Nat) : State :=
  let x := s.rail r
  if x.sensed ≤ 3000 ∨ !(s.usedRails.contains r) then s.railOff r
  else
    let v := x.sensed / 25 * 25
    let top := s.rf (Reg.AD_GR_CFG_TOP r)
    let g := ((List.range (top + 1)).filter (fun g => decide (s.gradeV r g ≤ v))).foldl max 0
    let s1 := (s.setRail r { mode := 2, powerGood := true, sensed := x.sensed, base := .still v, ssAt := s.now }).activateAll r
    let s1 := s1.each (s1.healthy r) (fun n y => y.setLane n { y.lane n with opOn := true })
    let s2 := (s1.presetU r).setDom r { s.dom r with
      grade := g, target := g, step := 0, freq := s.gradeF r g, boosts := [], list := [], incoming := [], releases := [] }
    (s2.wr (Reg.AD_GRADE_REQ_TARGET r) g).slewTo r g (s.rf (Reg.AD_GR_CFG_SLEW_DN r))

/-- An auxiliary channel of an unmirrored takeover (Table 18.7). -/
def State.auxHeld (s : State) (n : Nat) : State :=
  let x := s.aux n
  let src := (s.auxGrp (n / 6)).source
  if s.auxOn n && decide (s.rf (Reg.AX_CH_CFG2_PG_PCT n) * src ≤ 100 * x.mv) && decide (0 < src) then
    s.setAux n { x with st := 4, ready := false, ramp := .still 1800 }
  else s.setAux n { x with st := 0, ready := false }

/-- A zone of an unmirrored takeover: Madder or hotter starts at K_MAX, any other at 0 (Table 18.7). -/
def State.zoneFresh (s : State) (z : Nat) : State :=
  s.setZone z { s.zone z with band := 0, judged := false, step := 0, duty := 0, tick := none, hist := [] }

/-- The partition table from its persistent defaults, with no allocation left; invalid defaults leave every FLOOR 0 (R428). -/
def State.partDefaults (s : State) : State :=
  let s1 := ({ s with bg.alloc := [], bg.af := [], bg.duty := [] }).upto 64 (fun p x =>
    (((x.wr (Reg.BG_PART_CFG0_CEILING p) (x.rf (Reg.BG_PART_DEF0_CEILING p))).wr (Reg.BG_PART_CFG0_FLOOR p)
      (x.rf (Reg.BG_PART_DEF0_FLOOR p))).wr (Reg.BG_PART_CFG1_ENABLE p) (x.rf (Reg.BG_PART_DEF1_ENABLE p))).wr
      (Reg.BG_PART_CFG1_WEIGHT p) (x.rf (Reg.BG_PART_DEF1_WEIGHT p)))
  match s1.tableBad 0 with
  | some (q, _, v) => (s1.upto 64 (fun p x => x.wr (Reg.BG_PART_CFG0_FLOOR p) 0)).emit 0 0x7005 q 3 v
  | none => s1

/-- An unmirrored takeover (Table 18.7). -/
def State.unmirrored (s : State) : State :=
  let s0 := { s with
    ph.locating := s.edge.psflt, ph.blind := 0
    ad.rounds := [], ad.settle := ((List.range 16384).filter (fun t => s.rb (Reg.SL_TILE_CFG_ENABLE t))), ad.settleTo := s.now + 100 * usec }
  let s1 := s0.upto 16 (fun g x => if bitOf s.edge.psflt g then x.groupSuspect g else x)
  let s2 := (s1.upto 8 (fun r x => x.railHeld r)).upto 24 (fun n x => x.auxHeld n)
  let s3 := ((s2.auxStart).rvMode 0).rvStart
  let s4 := (s3.each zoneCodes (fun z x => x.zoneFresh z)).partDefaults
  let fresh := match s.tw.shareCopy with
    | some (_, t) => decide (s.now < t + 5 * msec)
    | none => false
  let s5 := if fresh then s4 else { s4 with cb.orphan := true, cb.copy := false }
  s5.upto 16 (fun n x => x.setLink n { x.link n with enumerated := false })

/-- The share that a new Active uses: its copy, until its first ALLOT (R675). -/
def State.shareTake (s : State) : State :=
  match s.tw.shareCopy with
  | some (w, _) => if s.cb.orphan then s else { s with cb.share := w, cb.copy := true }
  | none => s

/-- Ownership is gained; with a quiet window of 40 ns it is a takeover, whose cause and time 0xC010 carries (R706, R718, R719). -/
def State.ownGain (s : State) (takeover : Bool) (cause ns : Nat) : State :=
  let mirrored := s.tw.inStep
  let s1 := ((({ s with tw.claim := 0, tw.attempts := 0, tw.split := false, tw.inStep := false, edge.ownPinLow := true }).setRole 3).wr
    Reg.TW_STAT_CLAIM_NS (satU 16 ns))
  let s2 := if takeover then (if mirrored then s1.ttClear.resume else s1.ttClear.unmirrored).shareTake.wavesRestart else s1
  let s3 := (s2.driveAll).syncAll
  let s4 := if takeover then
      let y := (s3.startLoaded 2).upto 8 (fun c x => if (x.core c).loaded then x.enterFloor c 7 else x)
      (((y.wr Reg.TW_FELL_TAKEOVER 1).satAdd Reg.TW_COUNT_TAKEOVERS 1).emit 6 0xC010 cause ns (b01 (!mirrored)))
    else s3.startLoaded 0
  let s5 := if takeover then s4.budgetMoved else s4
  (if s5.tw.linkUp then s5.sweepStart else s5).flSettle

/-- T_QUIET in nanoseconds (R707). -/
def State.tQuiet (s : State) : Nat := if s.tw.sawLow then 40 else if s.preferred then 1000 else 20000000

/-- The claim begins: the net has read high for T_QUIET and the eligible die sinks it (R706). -/
def State.claimBegin (s : State) : State :=
  if s.tw.role = 2 ∧ s.eligible = true ∧ s.tw.claim = 0 then { s with tw.claim := 1, edge.ownPinLow := true } else s

/-- The check of a claim 40 ns after sinking began (R706, R708). -/
def State.claimCheck (s : State) (ua cause : Nat) : State :=
  if s.tw.claim ≠ 1 then s
  else if ua < 1000 then
    let n := s.tw.attempts + 1
    let s1 := (({ s with tw.claim := if n = 8 then 3 else 2, tw.attempts := n }).wr Reg.TW_FELL_CONTENTION 1).emit 7 0xC013 ua n 0
    if n = 8 then (s1.wr Reg.TW_FELL_INTERLOCK 1).emit 7 0xC016 1 else s1
  else if s.suppliesOk = false ∨ s.eligible = false then
    ({ s with tw.claim := 0, tw.cause := 5, edge.ownPinLow := false }).emit 7 0xC011 5
  else s.ownGain (s.tw.sawLow) cause (s.tQuiet + 40)

/-- FLAGS of a frame (Table 18.2). -/
def State.twFlags (s : State) : Nat :=
  b01 (s.tw.handover == 1) + 2 * b01 (s.tw.readyDue && s.tw.inStep && s.tw.role != 3) + 4 * b01 s.eligible + 8 * b01 s.preferred
  + 16 * b01 s.th.trip + 32 * b01 (s.tw.inStep && s.tw.role != 3)

/-- Start of the next stimulus step, in 4 ns from now: the tap probe's, 90 ms into its period, or a remote diode's, whose place in the
schedule is a free value, whichever is first (R55, R87, Tables 8.4 and 18.2, log entry 3). -/
def State.stimNext (s : State) (diode : Nat) : Nat :=
  let taps := (s.rv.periodAt + 90 * msec - s.now) / 4
  let td := diode % (msec / 4)
  if s.rvCells = 0 ∨ s.now > s.rv.periodAt + 90 * msec then td else min taps td

/-- The header of a frame (Table 18.2). -/
def State.twHeader (s : State) (kind tiles stim : Nat) : Nat :=
  fput 0 4 s.tw.seq + fput 4 4 s.tw.rxSeq + fput 8 1 kind + fput 9 1 s.twFlags + fput 10 2 tiles + fput 12 4 (s.stimNext stim) + fput 16 8 s.ident

/-- A frame with its CRC-32. -/
def twFrame (n v : Nat) : List Nat := let b := leBytes n v; b ++ leBytes 4 (crc32 b)

/-- Carry: the records of a list that a frame takes note the SEQ that first carried them (R715). -/
def carry (k seq : Nat) (l : List (Nat × Option Nat)) : List (Nat × Option Nat) :=
  (l.take k).map (fun e => (e.1, some (e.2.getD seq))) ++ l.drop k

/-- Some record has gone unacknowledged for 16 frames (R716). -/
def stale (seq : Nat) (l : List (Nat × Option Nat)) : Bool := l.any (fun e => match e.2 with
  | some q => decide (q + 16 ≤ seq)
  | none => false)

/-- The Active's frame: marks, body, and the end of a handover, whose final frame it is (R713 to R716, R723). -/
def State.mirrorFrame (s0 : State) : State :=
  let d := (s0.sMark).draw 71
  let s := d.2
  let tiles := (s.tw.marked.take 160).map (·.1)
  let recs := (s.tw.srecs.take 16).map (·.1)
  let news := s.brokenNews
  let v := s.twHeader 1 tiles.length d.1 + s.mirrorBody s.tw.seq recs tiles news * 256 ^ 24
  let s1 := { s.out (.twin 1 (twFrame 2968 v)) with
    tw.marked := carry 160 s.tw.seq s.tw.marked, tw.srecs := carry 16 s.tw.seq s.tw.srecs
    tw.brk := news.foldl (fun m e => mput 0 m e.1 e.2) s.tw.brk }
  let s2 : State := if stale s1.tw.seq s1.tw.marked || stale s1.tw.seq s1.tw.srecs then (s1.outOfStep 1).sweepStart else s1
  if s2.tw.handover = 2 then s2.ownRelease 4 else s2

/-- One frame of this die (R712). -/
def State.frameOut (s : State) : State :=
  if !s.twnRuns then s
  else
    let s1 := { s with tw.seq := (s.tw.seq + 1) % 2 ^ 32 }
    if s1.tw.role = 3 then s1.mirrorFrame
    else
      let d := s1.draw 71
      let s2 := d.2.out (.twin 2 (twFrame 24 (d.2.twHeader 2 0 d.1)))
      { s2 with tw.readyDue := false, tw.marked := [], tw.srecs := [] }

/-- Records that a frame's ACK acknowledges are done with (R715). -/
def acked (ack : Nat) (l : List (Nat × Option Nat)) : List (Nat × Option Nat) := l.filter (fun e => match e.2 with
  | some q => decide (ack < q)
  | none => true)

/-- The peer's identity and strap: equal straps are recorded once (R704). -/
def State.peerSeen (s : State) (v flags : Nat) : State :=
  let id := fget v 16 8
  let s1 := (s.wr Reg.TW_PEER_LO_IDENTITY (loWord id)).wr Reg.TW_PEER_HI_IDENTITY (hiWord id)
  if s.tw.peer.isSome then { s1 with tw.peer := some id }
  else
    let s2 := { s1 with tw.peer := some id, tw.sameStrap := bitOf flags 3 == s.edge.roleSel }
    if s2.tw.sameStrap then s2.emit 6 0xC002 (loWord s.ident) (loWord id) (b01 s2.preferred) else s2

/-- What the handover's flags ask of this die (R723). -/
def State.handFlags (s : State) (flags : Nat) : State :=
  if s.tw.role = 3 then (if bitOf flags 1 && s.tw.handover == 1 then { s with tw.handover := 2 } else s)
  else { s with tw.readyDue := bitOf flags 0 && s.tw.inStep }

/-- The die that does not own judges the trip from the mirrored report table: a valid tile reading at or above THRESH sets the latch
(R410, R412, Table 9.6). -/
def State.mirrorTrip (s : State) : State :=
  if s.inReset 0 then s
  else match s.tw.hottest.find? (fun e => decide (s.threshCode ≤ e.2)) with
    | some e => s.tripLatch 1 e.1 e.2
    | none => s

/-- A good frame of the peer; `swept` says that a sweep of the mirror is complete with it (R712 to R716). -/
def State.frameGood (s : State) (v : Nat) (swept : Bool) : State :=
  let seq := fget v 0 4
  let kind := fget v 8 1
  let flags := fget v 9 1
  let s1 := { s with
    tw.rxSeq := seq, tw.good := s.tw.good + 1, tw.frames := s.tw.frames + 1, tw.peerFlags := flags, tw.swept := s.tw.swept || swept
    tw.marked := acked (fget v 4 4) s.tw.marked, tw.srecs := acked (fget v 4 4) s.tw.srecs }
  let s2 := s1.peerSeen v flags
  let s3 : State := if s2.tw.role = 3 then
      (if s2.tw.inStep && !bitOf flags 5 then { s2.sweepStart with tw.inStep := false } else { s2 with tw.inStep := bitOf flags 5 })
    else if kind = 1 then
      { (s2.takeBody (v / 256 ^ 24) seq (fget v 10 2)).mirrorTrip with
        edge.ownPinLow := true, tw.sawLow := s2.tw.sawLow || s2.eligible, tw.stimAt := some (s2.now + 4 * fget v 12 4) }
    else s2
  let s4 := if s3.tw.role ≠ 3 ∧ s3.tw.inStep = false ∧ s3.tw.swept = true ∧ 8 ≤ s3.tw.good then
      ({ s3 with tw.inStep := true }).emit 6 0xC003 ((s3.now - s3.tw.upAt) / msec) s3.tw.frames
    else s3
  s4.handFlags flags

/-- A frame of the twin link arrives (R712). -/
def State.frameIn (s : State) (l : List Nat) (swept : Bool) : State :=
  let n := l.length
  if !s.twnRuns then s
  else if (n = 28 ∨ n = 2972) ∧ crc32 (l.take (n - 4)) = ofLe (l.drop (n - 4)) then s.frameGood (ofLe (l.take (n - 4))) swept
  else ({ s with tw.good := 0 }).satAdd Reg.TW_COUNT_BAD_FRAMES 1

/-- The twin link is lost, with the net's level as this die reads it (R725, R726). -/
def State.twinLost (s : State) (low : Bool) (cause : Nat) : State :=
  if !s.tw.linkUp then s
  else
    let s1 := { s with tw.linkUp := false, tw.swept := false, tw.frames := 0, tw.peerFlags := 0, tw.readyDue := false, tw.stimAt := none }
    let s2 := if s1.tw.role = 3 ∨ s1.tw.inStep = true then s1.outOfStep cause else { s1 with tw.good := 0 }
    if s2.tw.role = 3 ∨ low = false then s2
    else (({ s2 with tw.split := true, tw.splitAt := s2.now, edge.ownPinLow := true }).wr Reg.TW_FELL_SPLIT 1).emit 6 0xC014

/-- The twin link has trained: a split ends, and the Active starts the sweep (R716, R725). -/
def State.twinUp (s : State) : State :=
  if s.inReset 6 || s.ob.halted || s.tw.linkUp then s
  else
    let s1 := { s with tw.linkUp := true, tw.upAt := s.now, tw.good := 0, tw.frames := 0, tw.swept := false }
    let s2 := if s1.tw.split then ({ s1 with tw.split := false }).emit 6 0xC015 ((s.now - s.tw.splitAt) / msec) else s1
    if s2.tw.role = 3 then s2.sweepStart else s2

/-- A keyed write of TW_CTL (R706, R722, R730). -/
def State.twCtl (s : State) (v : Nat) : State :=
  s.keyedWrite Reg.TW_CTL v (fun x =>
    let a := if bitOf v 1 then { x with tw.attempts := 0, tw.claim := if x.tw.claim = 3 then 0 else x.tw.claim } else x
    if bitOf v 0 then a.handRequest 0 else a)

end Sys2Proof.Machine
end

