-- ==== Sys2Proof/Machine/ResetOps.lean ====
section
/-! DEFINITION. What each reset class takes from each island, the order in which islands leave reset, and hangs, supply excursions and
power (Islands, Resets and Power States; Die Edges; Bring-Up). Islands: 0 FRI, 1 REG, 2 SLU, 3 POL, 4 FAB, 5 HST, 6 TWN. Classes: 0 CS,
1 WR, 2 IR, 3 HR, 4 FR, 5 DR. Causes: 0 power cycle, 1 RST_N, 2 host, 3 supply loss, 4 hang, 5 Keep exit, 6 Host Tunnel. -/

namespace Sys2Proof.Machine
open Sys2Proof

/-- IS_LAST_RESET takes a class, an island code and a cause (Table 3.14). -/
def State.noteReset (s : State) (cls isl cause : Nat) : State :=
  ((s.wr Reg.IS_LAST_RESET_CLASS cls).wr Reg.IS_LAST_RESET_ISLAND isl).wr Reg.IS_LAST_RESET_CAUSE cause

/-- Every tile the KG8 knows is closed, with its reservation returned. -/
def State.tilesGone (s : State) : State := s.each (s.sl.tiles.map (·.1)) (fun t x => (x.closeTile t).giveBack t)

/-- FRI's state is lost: admission, grades, thermal steps, the broken map, allocations; tiles wait for enumeration (Tables 3.5 and
3.8). AO's trip latch stays. -/
def State.dropFri (s : State) : State :=
  let s1 := s.tilesGone.upto 16 (fun n x => x.setLink n { x.link n with opened := 0, enumerated := false, losing := [] })
  { s1 with ad := {}, bg := { meterAt := s1.ao.meterUj }, th := { trip := s1.th.trip, nextThresh := s1.th.nextThresh } }

/-- REG's state is lost: phases, rails, auxiliary rails and reservoir converter (Table 3.8). -/
def State.dropReg (s : State) : State :=
  let s1 := (s.each ((s.ax.chans.filter (fun e => e.2.st != 0)).map (·.1)) (fun n x => x.auxDrive n 0)).rvPinsOff
  { s1 with ph := {}, ax := {}, rv := {} }

/-- SLU's state is lost: links, intent queues, leases, tile table, multicast and barrier groups (Table 3.8). -/
def State.dropSlu (s : State) : State :=
  let s1 := s.tilesGone
  let s2 := s1.upto 8 (fun d x => x.each ((x.dom d).boosts.map (·.grp)) (fun g y => y.boostFall d g))
  { s2 with ad.rounds := [], sl.links := [], sl.tiles := [], sl.held := [], sl.order := 0, sl.rateAt := 0, sl.rateNow := 0, sl.ratePrev := 0 }

/-- POL's state is lost: cores to the autonomous floor, tables, queues, channels, rings, transfers, translations, what it
held for other islands (R34, Table 3.8). -/
def State.dropPol (s : State) : State :=
  let s1 := s.upto 8 (fun c x => if (x.core c).running then x.enterFloor c 6 else x)
  { s1 with ik := { cyc := s1.ik.cyc }, me := {}, cf := {}, fl := {}, isl.retries := [] }

/-- FAB's state is lost: links, neighbours, routes, Weir time, the ceiling held. On an island reset FRI holds the last share, shed and slot
that it was sent (Tables 3.3 and 3.8, R668, R683). -/
def State.dropFab (s : State) (cls : Nat) : State :=
  let c := s.cb
  { s with
    fb := {}
    cb := if cls = 2 then
        { share := c.share, allotAt := c.allotAt, copy := c.copy, orphan := c.orphan, orphanAt := c.orphanAt, orphanTold := c.orphanTold
          shedUntil := c.shedUntil, shed := c.shed, shedAt := c.shedAt, shedLevel := c.shedLevel, slot := c.slot }
      else {} }

/-- What a loss of the host takes in POL and from the register fields: rings quiesced, Flume channels stopped, and every field that HR does
not keep (R121, R586, R619, Table 1.8). -/
def State.hostLoss (s : State) : State :=
  let s1 := if s.inReset 3 then s else (s.cfQuiesce 0).flStop 2
  let s2 := s1.clearFields 4 (fun _ => true)
  if s.inReset 3 then s2 else s2.wr Reg.CF_FELL_QUIESCED 1

/-- HST's state is lost: the register window's latches, authorisations and export, and with the debug unlock a Halt Sweep in force (Tables
3.8, 20.7 and 21.6). -/
def State.dropHst (s : State) : State :=
  let s1 := (s.haltEnd 3).seReset true true true true false
  { s1 with
    isl.hostDown := true
    ob.pairLatch := [], ob.rseq := 0, ob.skips := 0, ob.inFlight := false, ob.lastVec := none, ob.notes := [] }

/-- TWN's state is lost: the link and the mirror. The role, the claim and the interlock are AO's (Table 3.8). -/
def State.dropTwn (s : State) : State :=
  let t := s.tw
  { s with tw := {
      role := t.role, sawLow := t.sawLow, claim := t.claim, attempts := t.attempts, driving := t.driving, cause := t.cause
      split := t.split, splitAt := t.splitAt } }

/-- The state that an island loses. -/
def State.dropState (s : State) (n cls : Nat) : State :=
  match n with
  | 0 => s.dropFri
  | 1 => s.dropReg
  | 2 => s.dropSlu
  | 3 => s.dropPol
  | 4 => s.dropFab cls
  | 5 => s.dropHst
  | _ => s.dropTwn

/-- Island that holds the counters of an observation source (Table 21.1). -/
def srcIsland (src : Nat) : Nat := match src with
  | 0 | 3 => 2
  | 4 | 5 => 3
  | _ => 0

/-- The counters of an island's sources are lost (Table 3.8). -/
def State.cntDrop (s : State) (n : Nat) : State :=
  { s with ob.cnt := s.ob.cnt.filter (fun e => srcIsland (s.rf (Reg.OB_GRP0_SOURCE (e.1 / 8))) != n) }

/-- Reservoir endurance fields return to their last checkpoint (R375, Table 3.8). -/
def State.rvRestore (s : State) : State :=
  let pick := fun (e : Nat × Nat) => blkHolds 3 (e.1 / 32) && keyClass e.1 == 3
  { s with regs := mergeKeys (s.flash.filter pick) (s.regs.filter (fun e => !pick e)) }

/-- An island's state and fields take the values that a class of reset (as a Kept-across bit: 1 WR, 2 IR, 64 Keep) leaves them (R9,
R138, R871). -/
def State.clearIsland (s : State) (n cls : Nat) : State :=
  let told := s.tw.inStep || (s.tw.role == 3 && s.tw.linkUp)
  let s1 := (((s.cntDrop n).dropState n cls).clearFields cls (fun i => i == n)).reloadConfig n
  match n with
  | 0 => s1.clampAll
  | 1 => s1.rvRestore
  | 2 => s1.clampAll
  | 6 => if told then s1.outOfStep 2 else s1
  | _ => s1

/-- Rank of an island in the order of R122. -/
def relRank (n : Nat) : Nat := match n with
  | 6 => 0
  | 5 => 1
  | 0 => 2
  | 1 => 3
  | 2 => 4
  | 4 => 5
  | _ => 6

/-- Insert an island into the order of release. -/
def relInsert (n : Nat) (l : List Nat) : List Nat :=
  l.filter (fun m => decide (relRank m < relRank n)) ++ [n] ++ l.filter (fun m => decide (relRank n < relRank m))

/-- An island is put in reset, to be released in its turn. -/
def State.holdReset (s : State) (n : Nat) : State :=
  { s with isl.inReset := s.isl.inReset ||| 2 ^ n, isl.releaseQ := relInsert n s.isl.releaseQ }

/-- An island reset (R128, Table 3.5); one of HST does as a host link reset too. -/
def State.islandReset (s : State) (n cause : Nat) : State :=
  if s.inReset n then s
  else
    let s0 := s.emit 7 0x1004 n cause
    let s1 := (((if n = 5 then s0.hostLoss else s0).clearIsland n 2).holdReset n).noteReset 2 n cause
    ({ s1 with isl.lastReset := mput 0 s1.isl.lastReset n (s.now + 1) }).roleSettle

/-- An island hung again is held in reset until a warm reset or a cold start (Table 3.9). -/
def State.islandHold (s : State) (n : Nat) : State :=
  let s1 := (((if n = 5 then s.hostLoss else s).clearIsland n 2).noteReset 2 n 4).emit 7 0x1014 n
  ({ s1 with isl.inReset := s1.isl.inReset ||| 2 ^ n, isl.held := s1.isl.held ||| 2 ^ n }).roleSettle

/-- The main rails are off and the links down: the package is in Nap without a soft-stop. -/
def State.napForced (s : State) (trig : Nat) : State :=
  let from_ := s.isl.pkg
  let order := (List.range 16).reverse
  let s1 := s.each order (fun o x => x.upto 8 (fun r y => if y.rf (Reg.PC_RAIL_CFG_ORDER r) = o then y.railOff r else y))
  let s2 := s1.upto 16 (fun n x => if (x.link n).st = 4 then x else x.linkDown n)
  let s3 := { s2 with
    isl.pkg := 2, isl.target := 2, isl.goal := 2, isl.inTrans := false, isl.waking := false, isl.frozen := false, isl.retried := false }
  if from_ = 2 then s3 else s3.emit 7 0x1010 from_ 2 trig

/-- No other die can take ownership. -/
def State.alone (s : State) : Bool := !s.tw.linkUp || !bitOf s.tw.peerFlags 2

/-- An island is declared hung, by its heartbeats (`row` 0) or by the crossing of a row of Table 3.2 (R141). Its own reset is the last
island reset of it, not a warm reset: DESIGN CHOICE, log entry 117. A package in Keep stays there (R132). -/
def State.hang (s : State) (n row : Nat) : State :=
  if s.inReset n then s
  else
    let s1 := (s.setBit Reg.IS_ISLAND_HUNG n).emit 7 0x1013 n row
    let at_ := mget 0 s.isl.lastReset n
    let again := at_ != 0 && decide (s.now + 1 < at_ + second)
    let s2 := if s.owner && decide (n ≤ 1) then s1.ownRelease 3 else s1
    let s3 := if again then s2.islandHold n else s2.islandReset n 4
    if s.owner && decide (n ≤ 1) && s.alone && s.isl.pkg != 3 then s3.napForced 9 else s3

/-- Assert a warm reset with a cause, after a wait in microseconds; a held island is released by it, REG included; `reg` resets REG
too (R121 to R123, R127, Table 3.9). A package transition in progress goes on, since REG and AO run on: DESIGN CHOICE, log entry 79. -/
def State.wrAssert (s : State) (cause wait : Nat) (reg : Bool) : State :=
  let s1 := (s.emit 7 0x1002 cause wait s.unflCount).haltEnd 3
  let regToo := reg || bitOf s1.isl.held 1
  let s2 := (([6, 5, 0, 2, 4, 3].foldl (fun (x : State) n => (x.clearIsland n 1).holdReset n) s1).obGate)
  let s3 := if regToo then (s2.clearIsland 1 2).holdReset 1 else s2
  let s4 := { s3 with
    isl.held := 0, isl.wrPending := false, isl.wrWait := false, isl.coldRel := false
    tw.sawLow := false }
  (if s4.tw.role = 3 then s4 else s4.setRole 0).noteReset 1 0 cause

/-- A cold start or a warm reset that a request for a warm reset merges with. -/
def State.wrMerges (s : State) : Bool :=
  s.isl.wrPending || s.isl.wrWait || s.isl.coldRel || !s.ao.bootDone || (s.isl.inReset &&& 0x7D) == 0x7D

/-- A warm reset is requested: deferred on the owner in Run or Doze, else it begins its wait (R124 to R127, R133). -/
def State.wrRequest (s : State) (cause : Nat) : State :=
  if s.wrMerges then s
  else if s.owner && decide (s.isl.pkg ≤ 1) then
    (({ s with isl.wrPending := true, isl.wrCause := cause }).emit 7 0x1003 cause s.isl.pkg).handRequest 1
  else ({ s with isl.wrWait := true, isl.wrSince := s.now, isl.wrCause := cause }).tailFlush

/-- A reset request is refused (R129). -/
def State.resetRefused (s : State) (cls isl : Nat) : State := s.refuse.emit 7 0x1011 cls isl

/-- An island reset asked for by the host (R128, R129, Table 3.5). -/
def State.islandAsk (s : State) (n : Nat) : State :=
  if n = 7 then s.resetRefused 2 7
  else if s.inReset n then s
  else if (n = 0 ∧ s.owner = true ∧ s.anyRailOn = true) ∨ (n = 1 ∧ s.anyRailOn = true) then s.resetRefused 2 n
  else s.islandReset n 2

/-- A host link reset (R121, R586, R619, Table 20.7). -/
def State.hostReset (s : State) (cause : Nat) : State :=
  if s.isl.hostDown || s.inReset 5 then s
  else
    let s1 := ((s.emit 7 0x1005 cause).seReset false true true true false).hostLoss
    ({ s1 with isl.hostDown := true, ob.pairLatch := [] }).noteReset 3 0 cause

/-- A fabric reset (R667). -/
def State.frReset (s : State) (cause : Nat) : State :=
  if s.inReset 4 then s
  else ((s.emit 7 0x1006 cause).fabricReset.clearFields 16 (fun _ => true)).noteReset 4 0 cause

/-- A debug reset: the TAP, the IEEE 1687 network and the counters; the unlock is lost, and a Halt Sweep ends (R117, R815, Tables 3.8
and 20.7). -/
def State.debugReset (s : State) (cause : Nat) : State :=
  let s1 := (s.haltEnd 3).seReset true false false false false
  (({ s1 with ob.cnt := [], ob.tap := .idcode, ob.sibs := 0 }).clearFields 32 (fun _ => true)).noteReset 5 0 cause

/-- One of the six requests of IS_RESET_REQ, or none (R143). -/
def State.resetAct (s : State) (v : Nat) : State :=
  if bitOf v 0 then s.islandAsk (bitsOf v 10 8)
  else if bitOf v 1 then s.wrRequest 2
  else if bitOf v 2 then s.hostReset 2
  else if bitOf v 3 then s.frReset 2
  else if bitOf v 4 then (if s.debugOpen then s.debugReset 2 else s.resetRefused 5 0)
  else if bitOf v 5 then { s with isl.wrPending := false }
  else s

/-- A write of IS_RESET_REQ (R143). -/
def State.resetReq (s : State) (v : Nat) : State :=
  match s.serve Reg.IS_RESET_REQ true with
  | (true, s1) =>
    if keyOk v && decide (((List.range 6).filter (fun i => bitOf v i)).length ≤ 1) then (s1.writeFields Reg.IS_RESET_REQ v).resetAct v
    else s1.refuse
  | (false, s1) => s1

/-- What an island does as it leaves reset (R122, R625, R787, R844, Table 3.5). -/
def State.islandUp (s : State) (n : Nat) : State :=
  match n with
  | 0 =>
    let s1 := (s.partDefaults).clampAll
    (if s1.edge.shedIn then s1.shedBegin s1.myId false else s1).roleSettle
  | 1 => s.roleSettle
  | 2 => if decide (s.isl.pkg ≤ 1) then s.linksTrain else s.wakeLinks
  | 4 => s.upto 6 (fun p x =>
    (if x.rb (Reg.VX_PORT_CFG_ENABLE p) && x.edge.vxrefOk then x.setVp p { x.vp p with link := 1 } else x).txDisOut p)
  | 5 => s.seResetEnd
  | _ => s

/-- The next island of the order of R122 leaves reset; the supplies are then within their windows. -/
def State.releaseNext (s : State) : State :=
  match s.isl.releaseQ with
  | [] => s
  | n :: t =>
    if !s.ao.bootDone || s.edge.supplyHold then s
    else
      ({ s with
        isl.releaseQ := t, isl.inReset := setBitsOf s.isl.inReset n n 0, isl.coldRel := s.isl.coldRel && !t.isEmpty
        edge.supplyGood := 15 }).islandUp n

/-- Every island but AO goes into reset and loses its state, REG included, until the supplies have returned (Table 2.8). -/
def State.supplyDrop (s : State) : State :=
  let s1 := if s.edge.supplyHold then s else s.ownRelease 1
  let s2 := (((List.range 7).foldl (fun (x : State) n => x.clearIsland n (if n = 1 then 2 else 1)) (s1.haltEnd 3)).obGate)
  ({ s2 with edge.supplyHold := true, isl.inReset := 0x7F, isl.releaseQ := [], isl.wrPending := false, isl.wrWait := false }).roleSettle

/-- Record of a supply out of its window (Table 25.4): the command carries no reading, so that parameter is free. DESIGN CHOICE, log
entry 149. -/
def State.supplyRecord (s : State) (n : Nat) : State := (s.draw 165).2.emit 7 0x0020 n ((s.draw 165).1 % 2 ^ 16)

/-- Record of an unusable flash (Table 25.4): what is wrong with it and its identification are free (log entry 149). -/
def State.flashRecord (s : State) : State :=
  let c := s.draw 166
  let j := c.2.draw 167
  j.2.emit 7 0x0026 (c.1 % 4) (j.1 % 2 ^ 24)

/-- Supply `n` leaves its window (R107, R134, Table 2.8). -/
def State.supplyFell (s : State) (n : Nat) : State :=
  let s1 := ({ s with edge.supplyGood := setBitsOf s.edge.supplyGood n n 0 }).setBit Reg.GL_SUPPLY_SUPPLY_FELL n
  if s.isl.pkg = 3 ∧ s.isl.tripped = false ∧ n < 3 then s1
  else if s.isl.pkg = 3 ∧ n < 3 then
    let s2 := (List.range 7).foldl (fun (x : State) n => x.clearIsland n 64) s1
    { s2 with isl.inReset := 0x7F, isl.releaseQ := [] }
  else (s1.supplyRecord n).supplyDrop

/-- Every supply has been back in its window for 1 ms: a warm reset with an island reset of REG ends an excursion; a fall of VDD33_AO
ends in a warm reset (Table 2.8). -/
def State.supplyBack (s : State) : State :=
  let low := s.edge.vdd33Low
  let s1 := { s with edge.supplyGood := 15, edge.vdd33Low := false, edge.outputsOff := false }
  if s.edge.supplyHold then
    (({ s1 with edge.supplyHold := false }).emit 7 0x1004 1 3).wrAssert 3 0 true
  else if low then s1.wrRequest 3
  else s1

/-- PFAIL_N accepted low, or VDD33_AO below 3.0 V: the tail flush and the checkpoints (R97, R139, R375, R747, R849). -/
def State.powerFail (s : State) : State :=
  let s1 := if s.lg.scanning then s.scanDone true else s.tailFlush
  s1.checkpoint.rvCheckpoint

/-- What is left while the package is Off: flash, fuses, and what lies outside the die (R10, Table 3.8). A Config or Rail profile value
that was not saved is lost (R871), and the die sinks no current (R57). -/
def State.powerOff (s : State) : State :=
  let s1 : State := {
    pending := s.pending, now := s.now, free := s.free, flash := s.flash, outbox := s.outbox, fuse := s.fuse, regs := s.regs
    ao := { ckMeter := s.ao.ckMeter, ckOpSec := s.ao.ckOpSec, ckCycles := s.ao.ckCycles, ckNext := s.ao.ckNext
            profCrc := s.ao.profCrc, aoUp := false, bootDone := false, powered := false }
    edge := { supplyGood := 0, ownPinLow := s.edge.ownPinLow && s.tw.role != 3 && s.tw.claim != 1, psflt := s.edge.psflt
              tripPinLow := s.edge.tripPinLow, rstPinLow := s.edge.rstPinLow, pfailPinLow := s.edge.pfailPinLow, vxAbs := s.edge.vxAbs, vxLos := s.edge.vxLos }
    isl := { inReset := 0x7F, pkg := 4, target := 4, goal := 4, hostDown := true }
    lg := { slots := s.lg.slots, retired := s.lg.retired, removed := s.lg.removed, opens := s.lg.opens, oldest := s.lg.oldest
            next := s.ao.ckNext.getD 0 }
    se := { keys := s.se.keys, counter := s.se.counter, image := s.se.image }
    sl := { ends := s.sl.ends, ports := s.sl.ports }
    th := { nextThresh := s.th.nextThresh } }
  ({ s1 with regs := s1.regs.filter (fun e => let c := keyClass e.1; c != 1 && c != 2) }.clearFields 128 (fun _ => true)).rvRestore

/-- VDD33_AO rises through 3.0 V after a power cycle: the straps are sampled, and every island is in reset (R112, R121). -/
def State.coldStart (s : State) (roleSel testen : Bool) : State :=
  let s1 := s.powerOff
  ({ s1 with
    ao.powered := true, edge.supplyGood := 8, edge.roleSel := roleSel, edge.testen := testen, edge.flashOk := true
    isl.releaseQ := [6, 5, 0, 1, 2, 4, 3], isl.coldRel := true, isl.pkg := 2, isl.target := 2, isl.goal := 2
    isl.bootAt := s.now }).noteReset 0 0 0

/-- AO leaves reset: the power-cycle count increases, before the first record (R140, R838). -/
def State.aoRelease (s : State) : State :=
  if s.ao.powered && !s.ao.aoUp then
    { s with ao.aoUp := true, ao.powerCycles := s.ao.ckCycles + 1, ao.ckCycles := s.ao.ckCycles + 1 }
  else s

/-- Every Config and Rail profile field takes its saved value (R839, R871). -/
def State.reloadAll (s : State) : State := (List.range 8).foldl (fun (x : State) n => x.reloadConfig n) s

/-- The boot steps of R839 are complete: THRESH and its lock, meter and operating seconds, configuration; the cold start and what the
meter resumed from are recorded (R139, R408, R409, R413). Without a usable flash nothing is loaded (Table 2.8). DEDUCED, log entry 80. -/
def State.bootDone (s : State) (flashOk : Bool) : State :=
  if !s.ao.aoUp || s.ao.bootDone then s
  else
    let s1 : State := { s with
      ao.bootDone := true, edge.flashOk := flashOk, th.nextThresh := none
      ao.meterUj := if flashOk then s.ao.ckMeter else 0, ao.opNs := if flashOk then s.ao.ckOpSec * second else 0 }
    let s2 := if flashOk then s1.reloadAll else s1
    let s3 := match s.th.nextThresh with
      | some v => s2.wr Reg.TH_TRIP_THRESH v
      | none => s2
    let s4 := if s3.rb Reg.TH_TRIP_AUTOLOCK then s3.wr Reg.TH_TRIP_LOCK 1 else s3
    let s5 := s4.emit 7 0x1001 s4.ao.powerCycles (s4.rf Reg.IS_LAST_RESET_CAUSE)
    if flashOk then s5.emit 7 0x1012 (loWord s.ao.ckOpSec) (hiWord s.ao.ckOpSec) else s5.flashRecord

/-- A wake source in Keep: after the wait of R127 a warm reset in which REG is reset too, toward Nap (R127, R132, R848, Table 3.6). -/
def State.wake (s : State) (trig : Nat) : State :=
  if s.isl.pkg ≠ 3 ∨ s.isl.tripped = true ∨ s.isl.inTrans = true then s
  else ({ s with
    isl.inTrans := true, isl.target := 2, isl.goal := 2, isl.trig := trig, isl.bootAt := s.now, isl.fromKeep := true
    isl.runReached := false, isl.waitOver := false, isl.autoArmed := false, isl.retried := false
    isl.wrWait := true, isl.wrSince := s.now, isl.wrCause := 5 }).tailFlush

/-- REG has read back its rail profile and the CRC behind it, with the bits of `err` in that CRC not as written: it is accepted or refused, and the package is in Nap after a cold start
or on exit from Keep (R144, R840, R841, R848). DEDUCED, log entry 79. -/
def State.profileDone (s : State) (err : Nat) : State :=
  if s.inReset 1 || s.ph.judged then s
  else
    let s1 := s.reloadConfig 1
    let crc := s1.profileCrc
    let stored := s1.ao.profCrc.getD crc ^^^ err
    let bad := if stored ≠ crc then some (0, 0) else s1.profileRule
    let s2 := match bad with
      | some (rule, rail) => ({ s1 with ph.loadOk := false, ph.judged := true }).emit 1 0x2002 stored crc rule rail
      | none => (({ s1 with ph.loadOk := true, ph.judged := true }).auxProfile).rvStart
    let s3 : State :=
      if s2.isl.tripped then s2
      else if !s2.isl.napReached then
        ({ s2 with
          isl.napReached := true, isl.pkg := 2, isl.target := 2, isl.goal := 2
          isl.autoArmed := s2.rb Reg.IS_BOOT_CFG_AUTO_RUN }.wr Reg.IS_BOOT_TIME_NAP_MS s2.bootMs).emit 7 0x1010 4 2 7
      else if s2.isl.inTrans && s2.isl.pkg == 3 && s2.ph.loadOk then
        ({ s2 with
          isl.pkg := 2, isl.inTrans := false, isl.frozen := false
          isl.autoArmed := s2.rb Reg.IS_BOOT_CFG_WAKE_RUN }.wr Reg.IS_BOOT_TIME_NAP_MS s2.bootMs).emit 7 0x1010 3 2 s2.isl.trig
      else s2
    s3.roleSettle

end Sys2Proof.Machine
end

