-- ==== Sys2Proof/Machine/Resets.lean ====
section
/-! DEFINITION. The commands of resets, supplies, clocks and pins, of package states and of bring-up (Islands, Resets and Power States;
Die Edges; Bring-Up). -/

namespace Sys2Proof.Machine
open Sys2Proof

/-- COLD_START, with the straps ROLE_SEL and TESTEN as sampled (R112, R121). -/
def execColdStart (roleSel testen : Bool) (s : State) : Res := .next (s.coldStart roleSel testen)

/-- AO_RESET_RELEASE (R140, R838). -/
def execAoResetRelease (s : State) : Res := .next s.aoRelease

/-- AO_BOOT_STEPS_DONE; `flashOk` says that the flash answers and meets R101 (R839, Table 2.8). -/
def execAoBootStepsDone (flashOk : Bool) (s : State) : Res := .next ((s.bootDone flashOk).roleSettle)

/-- RESET_RELEASE: the next island of the order of R122 leaves reset. -/
def execResetRelease (s : State) : Res := .next s.releaseNext

/-- POWER_OFF (R10). -/
def execPowerOff (s : State) : Res := .next s.powerOff

/-- RST_N_LOW: the level of RST_N, accepted low as a warm reset request, or as a wake source in Keep (R100, R131, R132). -/
def execRstNLow (s : State) (low : Bool := true) : Res :=
  let s1 := { s with edge.rstPinLow := low }
  .next (if !low then s1 else if s.isl.pkg = 3 then s1.wake 4 else s1.wrRequest 1)

/-- SUPPLY_OUT_OF_WINDOW of VDD_CORE (0), VDDIO (1) or VDDA (2). -/
def execSupplyOutOfWindow (n : Fin 3) (s : State) : Res := .next (s.supplyFell n)

/-- SUPPLY_RESTORED. -/
def execSupplyRestored (s : State) : Res := .next (s.supplyBack.roleSettle)

/-- VDD33_AO_LOW: without PFAIL_N having fallen it is treated as PFAIL_N falling (Table 2.8). -/
def execVdd33AoLow (s : State) : Res :=
  let s1 := ({ s with edge.supplyGood := setBitsOf s.edge.supplyGood 3 3 0 }).setBit Reg.GL_SUPPLY_SUPPLY_FELL 3
  .next (if s.edge.pfailPinLow then s1.roleSettle else (({ s1 with edge.vdd33Low := true }).supplyRecord 3).powerFail.roleSettle)

/-- VDD33_AO_BELOW_2V9: ownership is released, and every output but TRIP_N is at high impedance (Table 2.8). -/
def execVdd33AoBelow2v9 (s : State) : Res :=
  let s1 := ({ s with edge.supplyGood := setBitsOf s.edge.supplyGood 3 3 0, edge.vdd33Low := true }).setBit Reg.GL_SUPPLY_SUPPLY_FELL 3
  .next (({ s1.ownRelease 2 with edge.outputsOff := true }).roleSettle)

/-- VDD33_AO_HIGH: handled as a supply out of its window (Table 2.8). -/
def execVdd33AoHigh (s : State) : Res := .next (s.supplyFell 3)

/-- REFCLK_LOSS: the islands of R110 run on the AO-derived reference; whether it is absent or off its frequency is free (Tables 2.8 and
25.4, log entry 149). -/
def execRefclkLoss (s : State) : Res :=
  let d := (({ s with edge.refclkOk := false, edge.aoDerived := true }).setBit Reg.GL_CLOCK_CLK_FELL 0).draw 168
  .next ((d.2.emit 7 0x0021 (d.1 % 2)).roleSettle)

/-- REFCLK_RETURN (Table 2.8). -/
def execRefclkReturn (s : State) : Res := .next (({ s with edge.refclkOk := true, edge.aoDerived := false }).roleSettle)

/-- VXREF_LOSS: every Vexurn port goes down; the cause that 0xB002 gives is free (Table 2.8, log entry 3). -/
def execVxrefLoss (s : State) : Res :=
  let s1 := (({ s with edge.vxrefOk := false }).setBit Reg.GL_CLOCK_CLK_FELL 1).emit 7 0x0022
  let d := s1.draw 73
  .next (if s.inReset 4 then s1 else d.2.portsDown (d.1 % 5) 3)

/-- VXREF_RETURN: the enabled ports train again (Table 2.8). -/
def execVxrefReturn (s : State) : Res :=
  let s1 := { s with edge.vxrefOk := true }
  .next (if s.inReset 4 then s1
    else s1.upto 6 (fun p x =>
      if x.rb (Reg.VX_PORT_CFG_ENABLE p) && (x.vp p).link == 3 then x.setVp p { x.vp p with link := 1 } else x))

/-- XT32_LOSS: the AO oscillator runs undisciplined; what is counted from the crystal goes on counting (R111, Table 2.8). -/
def execXt32Loss (s : State) : Res :=
  .next ((({ s with edge.xt32Ok := false }).setBit Reg.GL_CLOCK_CLK_FELL 2).emit 7 0x0023)

/-- XT32_RETURN (R111). -/
def execXt32Return (s : State) : Res := .next { s with edge.xt32Ok := true }

/-- EXTERNAL_TRIP: the level that TRIP_N is pulled to from outside the package; low while neither die's latch is set it is recorded, and
nothing else follows (R100, Table 2.8). -/
def execExternalTrip (s : State) (low : Bool := true) : Res :=
  let s1 := { s with edge.tripPinLow := low }
  .next (if !low || s.th.trip || bitOf s.tw.peerFlags 4 then s1 else (s1.wr Reg.GL_EDGE_EXT_TRIP 1).emit 7 0x0024)

/-- PFAIL_N_LOW (R97). -/
def execPfailNLow (s : State) : Res := .next (({ s with edge.pfailPinLow := true }).powerFail)

/-- SHED_IN_CHANGE: FRI takes the level from AO when it is out of reset (R96, R694, R696). -/
def execShedInChange (high : Bool) (s : State) : Res :=
  .next (if s.inReset 0 then { s with edge.shedIn := high } else s.shedInput high)

/-- DROOP_N_PULSE of a compute die (R67, R302). -/
def execDroopNPulse (n : Fin 16) (s : State) : Res :=
  let s1 := { s with edge.droopAt := mput 0 s.edge.droopAt n.val s.now }
  .next (if s.inReset 0 then s
    else s1.upto 8 (fun d x =>
      if (x.linkTiles n).any (fun t => (x.tile t).dom == d) then x.setDom d { x.dom d with backoff := max (x.dom d).backoff 1 } else x))

/-- ISLAND_HUNG by its heartbeats (R118, R141). -/
def execIslandHung (n : Fin 7) (s : State) : Res := .next (s.hang n 0)

/-- The islands that may receive on each crossing, in the order of Table 3.2; AO is never hung (R116). -/
def crossingTo (row : Nat) : List Nat :=
  match row with
  | 1 | 2 => [1]
  | 3 | 4 | 14 => [0]
  | 5 | 13 => [2]
  | 6 | 7 | 9 | 10 => []
  | 8 | 18 => [0, 1, 2, 3, 4, 5, 6]
  | 11 => [0, 1]
  | 12 => [3]
  | 15 => [3, 4]
  | 16 => [0, 1, 2]
  | 17 => [6]
  | _ => [5]

/-- CROSSING_UNANSWERED: the receiving island `n` of a crossing, `row` + 1 of Table 3.2, is treated as hung (R141). -/
def execCrossingUnanswered (n : Fin 7) (row : Fin 20) (s : State) : Res :=
  .next (if (crossingTo (row + 1)).contains n.val then s.hang n (row + 1) else s)

/-- RESET_REQ_WR (R124, R143). -/
def execResetReqWr (v : Word) (s : State) : Res := .next (s.resetReq v.toNat)

/-- RESET_REQ_IR (R128, R129, R143). -/
def execResetReqIr (v : Word) (s : State) : Res := .next (s.resetReq v.toNat)

/-- RESET_REQ_HR (R121, R143). -/
def execResetReqHr (v : Word) (s : State) : Res := .next (s.resetReq v.toNat)

/-- RESET_REQ_FR (R143, R667). -/
def execResetReqFr (v : Word) (s : State) : Res := .next (s.resetReq v.toNat)

/-- RESET_REQ_DR (R117, R143). -/
def execResetReqDr (v : Word) (s : State) : Res := .next (s.resetReq v.toNat)

/-- CANCEL_WR (R126, R143). -/
def execCancelWr (v : Word) (s : State) : Res := .next (s.resetReq v.toNat)

/-- HOST_TUNNEL_DOWN: a host link reset with cause 6 (R121). -/
def execHostTunnelDown (s : State) : Res := .next (s.hostReset 6)

/-- HOST_TUNNEL_UP: the reset ends, and degraded training is recorded; the Host Tunnel does not train without REFCLK_100 (R60, R121,
Table 2.8). -/
def execHostTunnelUp (rate : Fin 3) (x8 : Bool) (s : State) : Res :=
  .next (if !s.isl.hostDown || s.inReset 5 || !s.edge.refclkOk then s
    else
      let s1 := ({ s with isl.hostDown := false }).seResetEnd
      if rate.val = 0 ∧ x8 = false then s1 else s1.emit 5 0x0030 16 (16 / 2 ^ rate.val) (if x8 then 8 else 16))

/-- TRST_N_LOW: a debug reset; none of the listed causes names it, so IS_LAST_RESET.CAUSE is free (R117, log entry 3). DESIGN CHOICE, log
entry 100. -/
def execTrstNLow (s : State) : Res := let d := s.draw 72; .next (d.2.debugReset d.1)

/-- DEFERRED_WR_PROCEED: the other die is Active, or the package has reached Nap (R124). -/
def execDeferredWrProceed (s : State) : Res :=
  .next (if s.isl.wrPending && (!s.owner || s.isl.pkg == 2) then
      ({ s with isl.wrPending := false, isl.wrWait := true, isl.wrSince := s.now }).tailFlush
    else s)

/-- WR_WAIT_END: no fault record is unflushed, or 20 ms have passed: reset is asserted, on exit from Keep with REG (R127, Table 3.6). -/
def execWrWaitEnd (s : State) : Res :=
  .next (if s.isl.wrWait then s.wrAssert s.isl.wrCause ((s.now - s.isl.wrSince) / usec) (s.isl.wrCause == 5) else s)

/-- PKG_CMD_GO (R131, R136, R143). -/
def execPkgCmdGo (v : Word) (s : State) : Res :=
  .next (s.keyedWrite Reg.IS_PKG_CMD v.toNat (fun x => if bitOf v.toNat 2 then x.pkgCommand (bitsOf v.toNat 1 0) 0 else x))

/-- Keep is entered: every island but AO is power-gated (R135, R137, Table 3.6). -/
def State.keepEnter (s : State) : State :=
  let s1 := ((List.range 7).foldl (fun (x : State) n => x.clearIsland n 64) (s.haltEnd 3)).obGate
  ({ s1 with isl.inReset := 0x7F, isl.releaseQ := [] }).pkgArrive 3

/-- The sequence of the transition in progress is complete; it is not while leases are outstanding, while the tail is not flushed or
while Run is not reached (R131, Table 3.6). -/
def State.pkgDone (s : State) : State :=
  if !s.isl.inTrans || !s.owner then s
  else match s.isl.pkg, s.isl.target with
    | 0, 1 =>
      if !s.drained then s
      else
        let s1 := (s.sendFstep 255 0 0).pkgArrive 1
        if s1.isl.goal = 1 ∧ s1.openTiles.any (fun t => !(s1.tile t).intents.isEmpty) then ({ s1 with isl.goal := 0 }).pkgBegin 2
        else s1.pkgContinue
    | 1, 0 => ((({ s with isl.frozen := false }).pkgArrive 0).pkgContinue)
    | 2, 0 => s.runCheck
    | 2, 3 => if s.lg.tail then s else s.keepEnter
    | _, 2 =>
      if !s.drained || s.isl.pkg == 3 then s
      else
        let s1 := ((List.range 8).reverse.foldl (fun (x : State) o =>
          x.upto 8 (fun r y => if y.rf (Reg.PC_RAIL_CFG_ORDER r) = o then y.railOff r else y)) s).upto 16 (fun n x => if (x.link n).st = 4 then x else x.linkDown n)
        ((({ s1 with isl.frozen := false }).pkgArrive 2).pkgContinue)
    | _, _ => s

/-- PKG_TRANSITION_DONE. -/
def execPkgTransitionDone (s : State) : Res := .next s.pkgDone

/-- The transition in progress has not completed within its bound (R141, Table 3.9). -/
def State.pkgTimeout (s : State) : State :=
  if !s.isl.inTrans || !s.owner then s
  else
    let p := s.isl.pkg
    let t := s.isl.target
    let s1 := s.emit 7 0x1015 p t
    if p < 2 ∧ t = 2 then
      if s.isl.retried then ({ s1.napForced 8 with isl.goal := max 2 s.isl.goal }).pkgContinue
      else ({ s1 with isl.retried := true }).napAdvance
    else if p = 3 ∧ t = 2 then
      if s.isl.retried then s1.napForced 8
      else
        let y := ({ s1 with isl.inTrans := false }).wake s.isl.trig
        { y with isl.retried := true }
    else if p = 2 ∧ t = 0 then s1.napForced 8
    else { s1 with isl.inTrans := false, isl.target := p, isl.goal := p, isl.frozen := s.isl.frozen && p != 0 }

/-- PKG_TRANSITION_TIMEOUT. -/
def execPkgTransitionTimeout (s : State) : Res := .next s.pkgTimeout

/-- WAKE_TIMER_EXPIRY: a wake source while SECONDS is not 0 (R131, Table 3.17). -/
def execWakeTimerExpiry (s : State) : Res := .next (if s.rf Reg.IS_WAKE_TIMER_SECONDS = 0 then s else s.wake 5)

/-- SAVE_COMPLETE of a block (R872). -/
def execSaveComplete (b : Fin 11) (s : State) : Res := .next (s.saveDone b)

/-- PROFILE_LOAD_DONE, with the bits of the CRC behind the image that flash does not give back as SAVE wrote them (R144, R840, R874). -/
def execProfileLoadDone (err : Word) (s : State) : Res := .next (s.profileDone err.toNat)

/-- Every core of the loaded image that was not refused has reached its first wait point (R843). -/
def State.coresUp (s : State) : Bool :=
  s.se.loaded.isSome && (List.range 8).all (fun c => !(s.core c).loaded || (s.core c).waited)

/-- The reservoir is in SMOOTH, SUPPLY or BYPASS, or CELLS is 0 (R843). -/
def State.resUp (s : State) : Bool := s.rvCells == 0 || (decide (3 ≤ s.rv.mode) && decide (s.rv.mode ≤ 5))

/-- Selected waits that do not hold, as IS_BOOT_STAT.UNMET (R843, Table 23.7). -/
def State.unmet (s : State) : Nat :=
  b01 (s.rb Reg.IS_BOOT_CFG_WAIT_POL && !s.coresUp) + 2 * b01 (s.rb Reg.IS_BOOT_CFG_WAIT_RES && !s.resUp)
  + 4 * b01 (s.rb Reg.IS_BOOT_CFG_WAIT_SHARE && s.cb.allotAt.isNone) + 8 * b01 (s.rb Reg.IS_BOOT_CFG_WAIT_TWIN && !s.tw.inStep)

/-- The automatic start: the owner issues the Run command once the required conditions hold and the waits do, or WAIT_MAX has passed
(R843). -/
def State.autoStart (s : State) : State :=
  if s.isl.autoArmed && s.owner && s.isl.pkg == 2 && !s.isl.inTrans && s.runMissing.isNone && (s.isl.waitOver || s.unmet == 0) then
    let m := s.unmet
    let s1 := if m = 0 then s else (s.wr Reg.IS_BOOT_STAT_UNMET m).emit 7 0x1017 m ((s.now - s.isl.bootAt) / msec)
    ({ s1 with isl.autoArmed := false, isl.goal := 0, isl.retried := false }).pkgBegin 3
  else s

/-- AUTO_RUN_START (R843). -/
def execAutoRunStart (s : State) : Res := .next s.autoStart

/-- WAIT_MAX_EXPIRY (R843). -/
def execWaitMaxExpiry (s : State) : Res := .next (({ s with isl.waitOver := true }).autoStart)

/-- SUPPLIES_LATE: a supply is not in its window 50 ms after VDD33_AO (R851). -/
def execSuppliesLate (n : Fin 3) (s : State) : Res :=
  .next (if s.isl.coldRel && !bitOf s.edge.supplyGood n then s.emit 7 0x1016 n ((s.now - s.isl.bootAt) / msec) else s)

/-- PPS_OUT_SECOND: the owner raises PPS_OUT (R54, R92). -/
def execPpsOutSecond (s : State) : Res := .next (if s.owner && s.fabRuns then s.out .ppsOut else s)

end Sys2Proof.Machine
end

