-- ==== Sys2Proof/Machine/RegRead.lean ====
section
/-! DEFINITION. What a register reads: its stored fields, and its live fields as the state gives them at the read (R21, R51, and
the register tables of every chapter). -/

namespace Sys2Proof.Machine
open Sys2Proof

/-- A live field and its value. -/
abbrev Live := Fld × Nat

/-- Live fields of one block: the address of a register's first instance, and what its instance `i` reads. -/
abbrev LiveTable := List (Nat × (Nat → List Live))

/-- SAVE_BUSY of block `b` (R872). -/
def State.saveBusy (s : State) (b : Nat) : Nat := b01 (bitOf s.isl.saving b)

/-- Bit mask of the indices below `n` that meet a condition. -/
def maskOf (n : Nat) (p : Nat → Bool) : Nat := sumTo n (fun i => if p i then 2 ^ i else 0)

/-- A signed quantity in `w` bits, saturating. -/
def sgn (w : Nat) (x : Int) : Nat := codeOf w (clampI (-(2 ^ (w - 1) : Nat)) ((2 ^ (w - 1) : Nat) - 1) x)

/-- Watts of a power in microwatts, in 16 bits. DESIGN CHOICE, log entry 15. -/
def w16 (p : Nat) : Nat := satU 16 (p / watt)

/-- Identity, autonomy, guards and edge (Tables 0.9, 0.10, 1.9, 1.10, 2.9 to 2.11). -/
def State.liveGl (s : State) : LiveTable := [
  (Reg.GL_STEP, fun _ => [(Reg.GL_STEP_LETTER, s.fuse.stepLetter), (Reg.GL_STEP_DIGIT, s.fuse.stepDigit)]),
  (Reg.GL_IDENT_LO, fun _ => [(Reg.GL_IDENT_LO_IDENT, loWord s.ident)]),
  (Reg.GL_IDENT_HI, fun _ => [(Reg.GL_IDENT_HI_IDENT, hiWord s.ident)]),
  (Reg.GL_AUTONOMY, fun _ => [(Reg.GL_AUTONOMY_HALTED, b01 s.ob.halted), (Reg.GL_AUTONOMY_POL_RESET, b01 (s.inReset 3)),
    (Reg.GL_AUTONOMY_CORE_DEFAULT, maskOf 8 (fun c => (s.core c).floor))]),
  (Reg.GL_GUARD, fun _ => [(Reg.GL_GUARD_TRIP_LATCHED, b01 s.th.trip), (Reg.GL_GUARD_TRIP_LOCKED, s.rf Reg.TH_TRIP_LOCK),
    (Reg.GL_GUARD_OWNER, b01 s.owner), (Reg.GL_GUARD_ROLE_PREF, b01 s.edge.roleSel), (Reg.GL_GUARD_SHED, b01 s.cb.shed),
    (Reg.GL_GUARD_ORPHAN, b01 s.cb.orphan), (Reg.GL_GUARD_ORDERLY_STOP, b01 (s.th.stop != 0)),
    (Reg.GL_GUARD_RES_BYPASS, b01 (s.rv.mode == 5)),
    (Reg.GL_GUARD_FLOODGATE, b01 ((List.range 8).any (fun r => (s.rail r).hold)))]),
  (Reg.GL_SUPPLY, fun _ => [(Reg.GL_SUPPLY_SUPPLY_GOOD, s.edge.supplyGood)]),
  (Reg.GL_CLOCK, fun _ => [(Reg.GL_CLOCK_XT32_OK, b01 s.edge.xt32Ok), (Reg.GL_CLOCK_VXREF_OK, b01 s.edge.vxrefOk),
    (Reg.GL_CLOCK_REFCLK_OK, b01 s.edge.refclkOk)]),
  (Reg.GL_EDGE, fun _ => [(Reg.GL_EDGE_TESTEN, b01 s.edge.testen), (Reg.GL_EDGE_ROLE_SEL, b01 s.edge.roleSel),
    (Reg.GL_EDGE_TRIP_PIN, b01 (s.edge.tripPinLow || s.th.trip || bitOf s.tw.peerFlags 4)),
    (Reg.GL_EDGE_RST_PIN, b01 s.edge.rstPinLow), (Reg.GL_EDGE_PFAIL_PIN, b01 s.edge.pfailPinLow),
    (Reg.GL_EDGE_SHED_PIN, b01 s.edge.shedIn), (Reg.GL_EDGE_OWN_PIN, b01 s.edge.ownPinLow)])]

/-- Islands, resets, package state and boot status (Tables 3.11 to 3.17, 23.7); no register reads package state 4. -/
def State.liveIs (s : State) : LiveTable := [
  (Reg.IS_ISLAND, fun _ => [(Reg.IS_ISLAND_IN_RESET, s.isl.inReset)]),
  (Reg.IS_RESET_STATUS, fun _ => [(Reg.IS_RESET_STATUS_WR_WAIT, b01 s.isl.wrWait), (Reg.IS_RESET_STATUS_WR_PENDING, b01 s.isl.wrPending)]),
  (Reg.IS_PKG_STATE, fun _ =>
    let cur := if s.isl.pkg = 4 then 2 else s.isl.pkg
    [(Reg.IS_PKG_STATE_TRIPPED, b01 s.isl.tripped), (Reg.IS_PKG_STATE_CURRENT, cur),
     (Reg.IS_PKG_STATE_TARGET, if s.isl.inTrans then s.isl.target else cur)]),
  (Reg.IS_COUNTS0, fun _ => [(Reg.IS_COUNTS0_POWER_CYCLES, s.ao.powerCycles)]),
  (Reg.IS_COUNTS1, fun _ => [(Reg.IS_COUNTS1_OP_SECONDS, s.ao.opNs / second)]),
  (Reg.IS_BOOT_STAT, fun _ => [(Reg.IS_BOOT_STAT_AUTO_PENDING, b01 s.isl.autoArmed), (Reg.IS_BOOT_STAT_RUN, b01 s.isl.runReached),
    (Reg.IS_BOOT_STAT_SHARE, b01 s.cb.allotAt.isSome), (Reg.IS_BOOT_STAT_RES_CHECKED, b01 s.resUp),
    (Reg.IS_BOOT_STAT_CORES, b01 s.coresUp), (Reg.IS_BOOT_STAT_LEDGER_SCAN, b01 !s.lg.scanning),
    (Reg.IS_BOOT_STAT_AUX_DONE, b01 s.ax.seqDone), (Reg.IS_BOOT_STAT_IN_STEP, b01 s.tw.inStep),
    (Reg.IS_BOOT_STAT_OWNED, b01 s.edge.ownPinLow), (Reg.IS_BOOT_STAT_PROFILE, b01 s.ph.loadOk),
    (Reg.IS_BOOT_STAT_ISLANDS, b01 s.isl.releaseQ.isEmpty), (Reg.IS_BOOT_STAT_AO_READY, b01 s.ao.bootDone)])]

/-- Phases and rails (Tables 4.9 to 4.15). -/
def State.livePc (s : State) : LiveTable := [
  (Reg.PC_PROFILE_CTL, fun _ => [(Reg.PC_PROFILE_CTL_SAVE_BUSY, s.saveBusy 0), (Reg.PC_PROFILE_CTL_LOAD_OK, b01 s.ph.loadOk)]),
  (Reg.PC_GROUP_STAT, fun _ => [(Reg.PC_GROUP_STAT_BLIND, s.ph.blind), (Reg.PC_GROUP_STAT_SUSPECT, s.ph.locating)]),
  (Reg.PC_PHASE_STAT 0, fun n =>
    let x := s.lane n
    [(Reg.PC_PHASE_STAT_TEMP n, match x.temp with
        | some t => (clampI 0 254 (t + 40)).toNat
        | none => 0xFF),
     (Reg.PC_PHASE_STAT_MODEL n, x.model), (Reg.PC_PHASE_STAT_DT_ROW n, x.row), (Reg.PC_PHASE_STAT_CURRENT n, sgn 8 (x.amps.tdiv 10))]),
  (Reg.PC_PHASE_STATE 0, fun m => [(Reg.PC_PHASE_STATE_STATE m, sumTo 16 (fun j => (s.lane (16 * m + j)).mark % 4 * 4 ^ j))]),
  (Reg.PC_RAIL_STAT 0, fun r => [(Reg.PC_RAIL_STAT_DERATED r, satU 16 (s.derated r)), (Reg.PC_RAIL_STAT_ACTIVE r, (s.actives r).length),
    (Reg.PC_RAIL_STAT_LIMITING r, b01 (s.rail r).limiting), (Reg.PC_RAIL_STAT_MODE r, s.modeCode r),
    (Reg.PC_RAIL_STAT_STEPS r, (s.zone r).step)])]

/-- Sluice (Tables 5.12 to 5.16, 22.5, 22.6). -/
def State.liveSl (s : State) : LiveTable := [
  (Reg.SL_CTL, fun _ => [(Reg.SL_CTL_SAVE_BUSY, s.saveBusy 1)]),
  (Reg.SL_LINK_STAT 0, fun n =>
    let x := s.link n
    [(Reg.SL_LINK_STAT_OPEN n, (s.linkTiles n).length), (Reg.SL_LINK_STAT_TRAFFIC n, b01 x.traffic), (Reg.SL_LINK_STAT_X8 n, b01 x.x8),
     (Reg.SL_LINK_STAT_RATE n, x.rate), (Reg.SL_LINK_STAT_STATE n, x.st)]),
  (Reg.SL_INTAKE_TOTAL, fun _ => [(Reg.SL_INTAKE_TOTAL_BUSY, s.busyLinks), (Reg.SL_INTAKE_TOTAL_RATE, satU 12 s.intakeRate)]),
  (Reg.SL_INTAKE_STAT 0, fun n => [(Reg.SL_INTAKE_STAT_OCCUPANCY n, (s.link n).intake.length)])]

/-- Admission (Tables 6.9 to 6.13). -/
def State.liveAd (s : State) : LiveTable := [
  (Reg.AD_CTL, fun _ => [(Reg.AD_CTL_SAVE_BUSY, s.saveBusy 2)]),
  (Reg.AD_DOM_STAT 0, fun d =>
    let x := s.dom d
    [(Reg.AD_DOM_STAT_WAVE_CTR d, x.ctr), (Reg.AD_DOM_STAT_GRADE d, x.grade), (Reg.AD_DOM_STAT_TARGET d, x.target),
     (Reg.AD_DOM_STAT_PB d, s.pbState d), (Reg.AD_DOM_STAT_FROZEN d, b01 (s.frozen d))]),
  (Reg.AD_DOM_STAT2 0, fun d =>
    [(Reg.AD_DOM_STAT2_RESERVED_A d, satU 16 (((s.domTiles d).map (fun t => (s.tile t).resv)).sum * 4 / 1000)),
     (Reg.AD_DOM_STAT2_ENTRIES d, satU 16 ((s.dom d).list.length + (s.dom d).incoming.length))]),
  (Reg.AD_BAR_STAT 0, fun g =>
    let x := s.round g
    [(Reg.AD_BAR_STAT_PREDICTED g, b01 !x.preds.isEmpty), (Reg.AD_BAR_STAT_EXPECT_NOW g, s.expected g),
     (Reg.AD_BAR_STAT_ARRIVED g, x.arrived.length)])]

/-- Auxiliary rails (Tables 7.5 to 7.9). -/
def State.liveAx (s : State) : LiveTable := [
  (Reg.AX_STAT, fun _ => [(Reg.AX_STAT_CFG_BAD, b01 s.ax.cfgBad), (Reg.AX_STAT_SEQ_DONE, b01 s.ax.seqDone),
    (Reg.AX_STAT_GOOD, s.auxMask (fun x => x.st == 4))]),
  (Reg.AX_GRP_STAT 0, fun g =>
    let x := s.auxGrp g
    [(Reg.AX_GRP_STAT_SOURCE g, satU 16 x.source), (Reg.AX_GRP_STAT_CURRENT g, satU 8 (((grpChans g).map (fun n => (s.aux n).ma)).sum / 1000)),
     (Reg.AX_GRP_STAT_STATE g, if x.stopped then 2 else b01 x.sag)]),
  (Reg.AX_CH_STAT 0, fun n => [(Reg.AX_CH_STAT_CURRENT n, satU 16 (s.aux n).ma), (Reg.AX_CH_STAT_STATE n, (s.aux n).st)])]

/-- The cause of lowest code of the causes in force; 0 for none (R345). -/
def lowestCause (m : Nat) : Nat := ((List.range 16).find? (bitOf m)).getD 0

/-- Reservoir (Tables 8.11, 8.14, 8.16). -/
def State.liveRv (s : State) : LiveTable := [
  (Reg.RV_STAT, fun _ => [(Reg.RV_STAT_MODE, s.rv.mode), (Reg.RV_STAT_CAUSE, lowestCause s.rv.causes), (Reg.RV_STAT_SHED, b01 s.rv.shed),
    (Reg.RV_STAT_CHG_OK, b01 s.chgOk), (Reg.RV_STAT_DIS_OK, b01 s.rv.disOpen), (Reg.RV_STAT_SAVE_BUSY, s.saveBusy 3),
    (Reg.RV_STAT_OPEN_TAPS, s.rv.openTaps)]),
  (Reg.RV_STACK, fun _ => [(Reg.RV_STACK_STACK_V, satU 16 s.rv.stackMv), (Reg.RV_STACK_STACK_I, sgn 16 s.rv.stackDa)]),
  (Reg.RV_POWER, fun _ => [(Reg.RV_POWER_CONV_W, sgn 16 (s.rv.pConv.tdiv 100)), (Reg.RV_POWER_GRID_TARGET, satU 16 (s.rv.g / 100))]),
  (Reg.RV_E_AVAIL, fun _ => [(Reg.RV_E_AVAIL_E_AVAIL, satU 32 (s.rvAvail / 1000))]),
  (Reg.RV_E_USABLE, fun _ => [(Reg.RV_E_USABLE_E_USABLE, satU 32 (s.rvUsable / 1000))]),
  (Reg.RV_ALLOW, fun _ => [(Reg.RV_ALLOW_ALLOWANCE, satU 16 (s.rv.rga / 100)), (Reg.RV_ALLOW_PROMISE, satU 16 s.promise)]),
  (Reg.RV_CTH, fun _ => [(Reg.RV_CTH_CTH, sumTo 4 (fun j =>
    let t := mget ({} : Therm) s.rv.therms j
    (if t.broken then 0x80 else sgn 8 t.temp) * 256 ^ j))]),
  (Reg.RV_CELL 0, fun n => [(Reg.RV_CELL_VOLT n, satU 16 (s.rv.a.cells.getD n 0)), (Reg.RV_CELL_DELTA n, sgn 16 (s.rv.delta.getD n 0))])]

/-- The hottest of the zones that the package band looks at, with its temperature; with none judged, R386's reading. -/
def State.hotZone (s : State) : Nat × Nat :=
  (zoneCodes.filter (fun z => z != 0x30 && (s.zone z).judged)).foldl
    (fun (m : Option (Nat × Nat)) z => match m with
      | none => some ((s.zone z).temp, z)
      | some b => if b.1 < (s.zone z).temp then some ((s.zone z).temp, z) else some b) none |>.getD (0x3FF, 0)

/-- Thermal (Tables 9.10 to 9.16). -/
def State.liveTh (s : State) : LiveTable := [
  (Reg.TH_CTL, fun _ => [(Reg.TH_CTL_SAVE_BUSY, s.saveBusy 4)]),
  (Reg.TH_PKG_STAT, fun _ => [(Reg.TH_PKG_STAT_HOT_TEMP, s.hotZone.1), (Reg.TH_PKG_STAT_BAND, s.th.pkgBand),
    (Reg.TH_PKG_STAT_STOP, s.th.stop), (Reg.TH_PKG_STAT_HOT_ZONE, s.hotZone.2)]),
  (Reg.TH_PKG_STAT2, fun _ => [(Reg.TH_PKG_STAT2_ALLOW_W, satU 16 s.thermW), (Reg.TH_PKG_STAT2_PROJ_NOW, match s.th.proj with
    | some p => satU 16 (p / 10)
    | none => 0xFFFF)]),
  (Reg.TH_DOM_STAT 0, fun d =>
    let z := s.zone d
    [(Reg.TH_DOM_STAT_TEMP d, z.temp), (Reg.TH_DOM_STAT_BAND d, z.band), (Reg.TH_DOM_STAT_REFRESH d, z.refresh),
     (Reg.TH_DOM_STAT_K d, z.step), (Reg.TH_DOM_STAT_DUTY d, z.duty)]),
  (Reg.TH_DIE_STAT 0, fun n =>
    let z := s.zone (0x10 + n)
    [(Reg.TH_DIE_STAT_TEMP n, z.temp), (Reg.TH_DIE_STAT_BAND n, z.band), (Reg.TH_DIE_STAT_PINNED n, b01 z.pinned),
     (Reg.TH_DIE_STAT_C n, z.step), (Reg.TH_DIE_STAT_DUTY n, z.duty)]),
  (Reg.TH_DIE_BROKEN 0, fun n => [(Reg.TH_DIE_BROKEN_BROKEN n, satU 16 (s.dieShare n).1), (Reg.TH_DIE_BROKEN_PRESENT n, satU 16 (s.dieShare n).2)]),
  (Reg.TH_GOV_STAT, fun _ => [(Reg.TH_GOV_STAT_TEMP, (s.zone 0x20).temp), (Reg.TH_GOV_STAT_BAND, (s.zone 0x20).band),
    (Reg.TH_GOV_STAT_BROKEN, maskOf 16 (fun j => (s.sensor (0x20000 + j)).broken))]),
  (Reg.TH_TD_STAT 0, fun i =>
    let x := s.sensor (0x10000 + i)
    [(Reg.TH_TD_STAT_TEMP i, x.code), (Reg.TH_TD_STAT_STATE i, if s.tdTarget i = 31 then 2 else b01 x.broken),
     (Reg.TH_TD_STAT_CAUSE i, if x.broken then x.cause else 0)]),
  (Reg.TH_I3C_STAT 0, fun i =>
    let x := s.sensor (0x30000 + i)
    [(Reg.TH_I3C_STAT_TEMP i, x.code), (Reg.TH_I3C_STAT_BROKEN i, b01 x.broken),
     (Reg.TH_I3C_STAT_AT_WARN i, b01 (s.sensorOk (0x30000 + i) && decide (tempCode (signedOf 8 (s.rf (Reg.TH_I3C_CFG_WARN i))) ≤ x.code)))]),
  (Reg.TH_BROKEN_TILE 0, fun n => [(Reg.TH_BROKEN_TILE_BROKEN n, maskOf 32 (fun j => (s.sensor (32 * n + j)).broken))])]

/-- Budgets (Tables 10.8 to 10.13). -/
def State.liveBg (s : State) : LiveTable := [
  (Reg.BG_CTL, fun _ => [(Reg.BG_CTL_SAVE_BUSY, s.saveBusy 5)]),
  (Reg.BG_BUDGET, fun _ => [(Reg.BG_BUDGET_B, w16 s.bPkg), (Reg.BG_BUDGET_B_RAIL, w16 s.bRail)]),
  (Reg.BG_TERMS0, fun _ => [(Reg.BG_TERMS0_SHARE, satU 16 s.sW), (Reg.BG_TERMS0_IN_W, w16 s.iLim)]),
  (Reg.BG_TERMS1, fun _ => [(Reg.BG_TERMS1_THERM, satU 16 s.thermW), (Reg.BG_TERMS1_RGA, w16 s.rgaNow)]),
  (Reg.BG_STAT, fun _ => [(Reg.BG_STAT_DUTY_ACTIVE, b01 (s.bg.duty.any (fun e => decide (0 < e.2)))), (Reg.BG_STAT_SCALED, b01 s.bg.scaled),
    (Reg.BG_STAT_SHED, b01 s.cb.shed), (Reg.BG_STAT_SOURCE, s.budgetSource)]),
  (Reg.BG_METER_LO, fun _ => [(Reg.BG_METER_LO_METER, loWord s.ao.meterUj)]),
  (Reg.BG_METER_HI, fun _ => [(Reg.BG_METER_HI_METER, hiWord s.ao.meterUj)]),
  (Reg.BG_PART_STAT0 0, fun p => [(Reg.BG_PART_STAT0_ALLOC p, w16 (s.alloc p)), (Reg.BG_PART_STAT0_COMMITTED p, w16 (s.committed p))]),
  (Reg.BG_PART_STAT1 0, fun p => [(Reg.BG_PART_STAT1_DEMAND p, w16 (s.demandOf p)), (Reg.BG_PART_STAT1_HELD p, (s.partHeld p).length)]),
  (Reg.BG_PART_STAT2 0, fun p => [(Reg.BG_PART_STAT2_BDUTY p, mget 0 s.bg.duty p)])]

/-- Message engine (Tables 11.10 to 11.17). -/
def State.liveMe (s : State) : LiveTable := [
  (Reg.ME_STAT, fun _ => [(Reg.ME_STAT_POOL_FREE, 16384 - (s.me.alloc.map (fun e => e.2.2)).sum),
    (Reg.ME_STAT_CH_OPEN, (s.me.chans.filter (fun e => e.2.isOpen)).length)]),
  (Reg.ME_CH_STAT 0, fun c =>
    let x := mget ({} : Chan) s.me.chans c
    [(Reg.ME_CH_STAT_OPEN c, b01 x.isOpen), (Reg.ME_CH_STAT_RETRY c, b01 x.retry), (Reg.ME_CH_STAT_DRAINING c, b01 x.draining),
     (Reg.ME_CH_STAT_OWNER c, x.owner), (Reg.ME_CH_STAT_CSEQ c, x.cseq), (Reg.ME_CH_STAT_DEST c, x.dest)]),
  (Reg.ME_QSTAT 0, fun q => [(Reg.ME_QSTAT_OCCUPANCY q, s.qLen q),
    (Reg.ME_QSTAT_BASE q, ((s.me.alloc.find? (fun e => e.1 == q)).map (fun e => e.2.1)).getD 0)]),
  (Reg.ME_IQ_STAT 0, fun t => [(Reg.ME_IQ_STAT_OCCUPANCY t, s.queueLen t),
    (Reg.ME_IQ_STAT_PARKED t, b01 ((s.tile t).intents.any (fun p => p.stage == 1)))])]

/-- Faults of a core in the last second (Table 12.15). -/
def State.recentFaults (s : State) (c : Nat) : Nat := ((s.core c).faultAt.filter (fun t => decide (s.now < t + second))).length

/-- Policy cores (Tables 12.10 to 12.17). -/
def State.liveIk (s : State) : LiveTable := [
  (Reg.IK_CTL, fun _ => [(Reg.IK_CTL_SAVE_BUSY, s.saveBusy 6)]),
  (Reg.IK_STAT, fun _ => [(Reg.IK_STAT_HELD, maskOf 8 (fun c => (s.core c).held)), (Reg.IK_STAT_LOADED, maskOf 8 (fun c => (s.core c).loaded)),
    (Reg.IK_STAT_RUNNING, maskOf 8 (fun c => (s.core c).running))]),
  (Reg.IK_IMAGE, fun _ => [(Reg.IK_IMAGE_VERSION, s.ik.version)]),
  (Reg.IK_IMAGE_STAT, fun _ => [(Reg.IK_IMAGE_STAT_CHECK, s.ik.check), (Reg.IK_IMAGE_STAT_REFUSED, maskOf 8 (fun c => (s.core c).refused))]),
  (Reg.IK_CORE_STAT 0, fun c =>
    let k := s.core c
    [(Reg.IK_CORE_STAT_FAULTS c, satU 4 (s.recentFaults c)), (Reg.IK_CORE_STAT_HELD c, b01 k.held), (Reg.IK_CORE_STAT_STOPPED c, b01 !k.running),
     (Reg.IK_CORE_STAT_WAITING c, b01 (k.running && k.waiting)), (Reg.IK_CORE_STAT_LEVEL c, k.level)])]

/-- Ring state code of ring `r`. -/
def State.ringState (s : State) (r : Nat) : Nat :=
  if !s.rb (Reg.CF_RING_CFG_ENABLE r) then 0
  else if (s.ring r).stopped then 3 else if (s.ring r).desc.isSome then 2 else 1

/-- Front end and Flume (Tables 14.8 to 14.12, 15.8 to 15.12). -/
def State.liveCf (s : State) : LiveTable := [
  (Reg.CF_CTL, fun _ => [(Reg.CF_CTL_SAVE_BUSY, s.saveBusy 7)]),
  (Reg.CF_STAT, fun _ => [(Reg.CF_STAT_IN_PROGRESS, s.inProgress),
    (Reg.CF_STAT_RINGS_ON, ((List.range 1024).filter (fun r => s.rb (Reg.CF_RING_CFG_ENABLE r))).length)]),
  (Reg.CF_RING_HEAD 0, fun r => [(Reg.CF_RING_HEAD_STATE r, s.ringState r)]),
  (Reg.CF_SLOTS, fun _ => [(Reg.CF_SLOTS_FREE, sumTo 8 (fun c =>
    min 15 (((List.range 32).filter (fun k => !s.cf.sent.any (fun e => e.2.core == c && e.2.slot == some k))).length / 2) * 16 ^ c))]),
  (Reg.FL_CFG, fun _ => [(Reg.FL_CFG_SAVE_BUSY, s.saveBusy 8)]),
  (Reg.FL_STAT, fun _ => [(Reg.FL_STAT_HALTED, maskOf 16 (fun n => (s.fch n).st == 2))]),
  (Reg.FL_INV, fun _ => [(Reg.FL_INV_BUSY, b01 s.fl.invBusy)]),
  (Reg.FL_CH_CFG 0, fun n => [(Reg.FL_CH_CFG_CLASS n, chClass n)]),
  (Reg.FL_CH_STAT 0, fun n => [(Reg.FL_CH_STAT_STATE n, (s.fch n).st)]),
  (Reg.FL_TLB_STAT, fun _ => [(Reg.FL_TLB_STAT_VALID, s.fl.tlb.length)])]

/-- Fabric (Tables 16.10 to 16.13). -/
def State.liveVx (s : State) : LiveTable := [
  (Reg.VX_CTL, fun _ => [(Reg.VX_CTL_SAVE_BUSY, s.saveBusy 9)]),
  (Reg.VX_STAT, fun _ => [(Reg.VX_STAT_THOPS, s.fb.thops), (Reg.VX_STAT_CHOPS, s.fb.chops), (Reg.VX_STAT_BORDER, b01 s.border),
    (Reg.VX_STAT_PPS_VALID, b01 s.fb.ppsValid), (Reg.VX_STAT_HOLDOVER, b01 s.fb.holdover), (Reg.VX_STAT_LOCKED, b01 s.vxLocked),
    (Reg.VX_STAT_CROOT, b01 s.isCroot), (Reg.VX_STAT_GROOT, b01 s.isGroot), (Reg.VX_STAT_ADDR_KIND, s.fb.addrKind)]),
  (Reg.VX_TIME_NOW_LO, fun _ => [(Reg.VX_TIME_NOW_LO_NOW, loWord s.weirNs)]),
  (Reg.VX_TIME_NOW_HI, fun _ => [(Reg.VX_TIME_NOW_HI_NOW, hiWord s.weirNs)]),
  (Reg.VX_TIME_OFS, fun _ => [(Reg.VX_TIME_OFS_THETA, sgn 32 s.fb.theta)]),
  (Reg.VX_TROOT_LO, fun _ => [(Reg.VX_TROOT_LO_ROOT, loWord s.fb.groot)]),
  (Reg.VX_TROOT_HI, fun _ => [(Reg.VX_TROOT_HI_ROOT, hiWord s.fb.groot)]),
  (Reg.VX_DB, fun _ => [(Reg.VX_DB_SUMMARIES, (s.fb.sums.map (fun m => m.entries.length)).sum), (Reg.VX_DB_LSAS, satU 16 s.fb.lsas.length)]),
  (Reg.VX_PORT_STAT 0, fun p =>
    let x := s.vp p
    [(Reg.VX_PORT_STAT_LINK p, x.link), (Reg.VX_PORT_STAT_NBR p, x.nbr), (Reg.VX_PORT_STAT_FEC_ON p, b01 x.fecOn),
     (Reg.VX_PORT_STAT_TPARENT p, b01 (s.fb.parent == some p))]),
  (Reg.VX_PORT_NBR 0, fun p => [(Reg.VX_PORT_NBR_ADDRESS p, (s.vp p).nbAddr)]),
  (Reg.VX_PORT_NBRID_LO 0, fun p => [(Reg.VX_PORT_NBRID_LO_IDENTITY p, loWord (s.vp p).nbId)]),
  (Reg.VX_PORT_NBRID_HI 0, fun p => [(Reg.VX_PORT_NBRID_HI_IDENTITY p, hiWord (s.vp p).nbId)])]

/-- Catchment (Tables 17.5 to 17.9); the ages in whole milliseconds. -/
def State.liveCb (s : State) : LiveTable := [
  (Reg.VX_SHARE, fun _ => [(Reg.VX_SHARE_SHARE, satU 16 s.shareW), (Reg.VX_SHARE_DEMAND, satU 16 s.cb.ownD)]),
  (Reg.VX_CB_STAT, fun _ => [(Reg.VX_CB_STAT_ALLOT_AGE, match s.cb.allotAt with
      | some t => satU 16 ((s.now - t) / msec)
      | none => 0xFFFF),
    (Reg.VX_CB_STAT_ORPHAN, b01 s.cb.orphan), (Reg.VX_CB_STAT_SHED, b01 s.cb.shed), (Reg.VX_CB_STAT_SHED_LOCAL, b01 s.edge.shedIn),
    (Reg.VX_CB_STAT_ROOT, b01 (s.fb.chops == 0)), (Reg.VX_CB_STAT_MAJORITY, b01 s.cb.majority), (Reg.VX_CB_STAT_COPY, b01 s.cb.copy)]),
  (Reg.VX_SUB_DEMAND, fun _ => [(Reg.VX_SUB_DEMAND_DEMAND, s.cb.subDemand)]),
  (Reg.VX_SUB_FLOOR, fun _ => [(Reg.VX_SUB_FLOOR_FLOOR, s.cb.subFloor)]),
  (Reg.VX_SUB_PKGS, fun _ => [(Reg.VX_SUB_PKGS_PKGS, s.cb.subPkgs)]),
  (Reg.VX_SUB_ALLOT, fun _ => [(Reg.VX_SUB_ALLOT_ALLOT, s.cb.subAllot)]),
  (Reg.VX_SHED_STAT, fun _ => [(Reg.VX_SHED_STAT_LEVEL, satU 16 s.cb.shedLevel), (Reg.VX_SHED_STAT_REMAIN, satU 16 ((s.cb.shedUntil - s.now) / msec))]),
  (Reg.VX_CHILD0 0, fun p => [(Reg.VX_CHILD0_DEMAND p, (s.child p).demand)]),
  (Reg.VX_CHILD1 0, fun p => [(Reg.VX_CHILD1_FLOOR p, (s.child p).floor)]),
  (Reg.VX_CHILD2 0, fun p => [(Reg.VX_CHILD2_CHILD p, b01 (s.child p).reports), (Reg.VX_CHILD2_HELD_DOWN p, b01 (s.child p).heldDown),
    (Reg.VX_CHILD2_PKGS p, (s.child p).pkgs)]),
  (Reg.VX_CHILD3 0, fun p => [(Reg.VX_CHILD3_ALLOT p, (s.child p).allot)])]

/-- Twin (Tables 18.11 to 18.14). -/
def State.liveTw (s : State) : LiveTable := [
  (Reg.TW_STAT, fun _ => [(Reg.TW_STAT_NET_LOW, b01 s.edge.ownPinLow), (Reg.TW_STAT_ELIGIBLE, b01 s.eligible),
    (Reg.TW_STAT_PREFERRED, b01 s.preferred), (Reg.TW_STAT_SPLIT, b01 s.tw.split), (Reg.TW_STAT_LINK_UP, b01 s.tw.linkUp),
    (Reg.TW_STAT_IN_STEP, b01 s.tw.inStep), (Reg.TW_STAT_ROLE, s.tw.role)]),
  (Reg.TW_LAG, fun _ => [(Reg.TW_LAG_TILES_PENDING, satU 8 (s.tw.marked.length / 64))])]

/-- The lowest unflushed sequence number; the next one when none is. -/
def State.lowestUnflushed (s : State) : Nat := ((s.unflushed.map (·.seq)).min?).getD s.lg.next

/-- Ledger (Tables 19.6, 19.7). -/
def State.liveLg (s : State) : LiveTable := [
  (Reg.LG_STAT, fun _ => [(Reg.LG_STAT_SPARES, s.lg.spares),
    (Reg.LG_STAT_STORE, if s.lg.scanning then 3 else if s.lg.failed then 2 else b01 !s.lg.removed.isEmpty),
    (Reg.LG_STAT_CLEAR_PENDING, b01 (s.lg.clear != 0)), (Reg.LG_STAT_ERASING, b01 !s.lg.clearErase.isEmpty),
    (Reg.LG_STAT_SAVE_BUSY, s.saveBusy 10), (Reg.LG_STAT_UNFLUSHED, s.unflCount)]),
  (Reg.LG_NEXT_LO, fun _ => [(Reg.LG_NEXT_LO_SEQ, loWord s.lg.next)]),
  (Reg.LG_NEXT_HI, fun _ => [(Reg.LG_NEXT_HI_SEQ, hiWord s.lg.next)]),
  (Reg.LG_OLDEST_LO, fun _ => [(Reg.LG_OLDEST_LO_SEQ, loWord s.lg.oldest)]),
  (Reg.LG_OLDEST_HI, fun _ => [(Reg.LG_OLDEST_HI_SEQ, hiWord s.lg.oldest)]),
  (Reg.LG_FLUSHED_LO, fun _ => [(Reg.LG_FLUSHED_LO_SEQ, loWord s.lowestUnflushed)]),
  (Reg.LG_FLUSHED_HI, fun _ => [(Reg.LG_FLUSHED_HI_SEQ, hiWord s.lowestUnflushed)]),
  (Reg.LG_CAP, fun _ => [(Reg.LG_CAP_SECTORS, s.lg.inRotation)]),
  (Reg.LG_SUPPR, fun _ => [(Reg.LG_SUPPR_CODES, satU 16 s.lg.lastCodes), (Reg.LG_SUPPR_COUNT, satU 16 s.lg.lastCount)]),
  (Reg.LG_WIN 0, fun k => [(Reg.LG_WIN_WORD k, match s.lg.win.find? (fun e => e.1 == k / 8) with
    | some e => ofLe ((e.2.bytes.drop (4 * (k % 8))).take 4)
    | none => 0)])]

/-- Security and observation (Tables 20.7 to 20.12, 21.5 to 21.11). A second begun counts in SECONDS_LEFT: DESIGN CHOICE, log entry 147. -/
def State.liveSe (s : State) : LiveTable := [
  (Reg.SE_STAT, fun _ => [(Reg.SE_STAT_COUNTER, s.se.counter), (Reg.SE_STAT_EPOCH, (s.se.loaded.map (fun x => x.2.1)).getD 0),
    (Reg.SE_STAT_KEYS, maskOf 8 (fun i => (s.keySlot i).blown && !(s.keySlot i).revoked)),
    (Reg.SE_STAT_BUSY, b01 (s.se.commit.isSome || s.se.verify.isSome)), (Reg.SE_STAT_FELL_BACK, b01 s.se.fellBack),
    (Reg.SE_STAT_LOADED, (s.se.loaded.map (fun x => x.1)).getD 0)]),
  (Reg.SE_UPD_CTL, fun _ => [(Reg.SE_UPD_CTL_BUSY, b01 s.se.update.isSome)]),
  (Reg.SE_CHAL_STAT, fun _ => [(Reg.SE_CHAL_STAT_SECONDS_LEFT, match s.se.chal with
    | some c => 60 - (s.now - c.since) / second
    | none => 0)]),
  (Reg.SE_MBOX_CTL, fun _ => [(Reg.SE_MBOX_CTL_BUSY, b01 s.se.mbox)]),
  (Reg.OB_HALT_STAT, fun _ => [(Reg.OB_HALT_STAT_DURATION, if s.ob.halted then satU 16 ((s.now - s.ob.haltAt) / msec) else 0)]),
  (Reg.OB_STAT, fun _ => [(Reg.OB_STAT_HALTED, b01 s.ob.halted)]),
  (Reg.OB_CNT_LO 0, fun n => [(Reg.OB_CNT_LO_COUNT n, loWord (mget 0 s.ob.cnt n))]),
  (Reg.OB_CNT_HI 0, fun n => [(Reg.OB_CNT_HI_COUNT n, hiWord (mget 0 s.ob.cnt n))])]

/-- Every live field of the window. -/
def State.liveAll (s : State) : LiveTable :=
  s.liveGl ++ s.liveIs ++ s.livePc ++ s.liveSl ++ s.liveAd ++ s.liveAx ++ s.liveRv ++ s.liveTh ++ s.liveBg ++ s.liveMe ++ s.liveIk
    ++ s.liveCf ++ s.liveVx ++ s.liveCb ++ s.liveTw ++ s.liveLg ++ s.liveSe

/-- A field's value in its place. -/
def Fld.place (f : Fld) (v : Nat) : Nat := v % 2 ^ (f.hi + 1 - f.lo) * 2 ^ f.lo

/-- The live bits of instance `i` of the register whose first instance lies at `base`. -/
def State.liveBits (s : State) (base i : Nat) : Nat :=
  match s.liveAll.find? (fun e => e.1 == base) with
  | none => 0
  | some e => ((e.2 i).map (fun x => x.1.place x.2)).sum

/-- An island as a read finds it: one that a Halt Sweep stops, as it was at the stop (R812). -/
def State.asStopped (s : State) (isl : Nat) : State :=
  if s.ob.halted && stopsInHalt isl then
    { s with now := s.ob.haltAt, cb := s.ob.stopCb, tw := s.ob.stopTw, edge := s.ob.stopEdge, ob.orphanTaken := false }
  else s

/-- The register fields as a read of an island finds them: of a stopped one, as its segment captured them (R812, R817). -/
def State.heldFields (s : State) (isl : Nat) : State :=
  if s.ob.halted && stopsInHalt isl then { s with regs := (mget {} s.ob.scan (if isl = 3 then 21 else if isl = 4 then 22 else 23)).fields } else s

/-- What a 32-bit read of the register window returns: 0 where no register is (R21); a queue's window words are 0 here, since a read
of them is a command of its own (R482, R483). DEDUCED, log entry 83. DEDUCED, log entry 96. -/
def State.readWord (s : State) (ga : Nat) : Nat :=
  match findReg ga with
  | none => 0
  | some (d, i, j) => storedBits (s.heldFields d.isl) (canonAddr ga) i j d.fields + (s.asStopped d.isl).liveBits d.base i

/-- The addresses of the low words of the 64-bit pairs (R13): first instance, count and stride. FL_CTX ROOT and AD_PLAN, which span two
registers, are none: DESIGN CHOICE, log entry 130. -/
def pairLows : List (Nat × Nat × Nat) := [
  (Reg.GL_IDENT_LO, 1, 0), (Reg.BG_METER_LO, 1, 0), (Reg.BG_UNATTR_LO, 1, 0), (Reg.BG_PART_EST_LO 0, 64, 8),
  (Reg.CF_RING_BASE_LO 0, 1024, 32), (Reg.FL_FLOG_BASE_LO, 1, 0), (Reg.FL_CH_IOVA_LO 0, 16, 64), (Reg.VX_TIME_NOW_LO, 1, 0),
  (Reg.VX_TIME_SET_LO, 1, 0), (Reg.VX_TROOT_LO, 1, 0), (Reg.VX_PORT_NBRID_LO 0, 6, 32), (Reg.TW_PEER_LO, 1, 0),
  (Reg.LG_NEXT_LO, 1, 0), (Reg.LG_OLDEST_LO, 1, 0), (Reg.LG_FLUSHED_LO, 1, 0), (Reg.LG_CURSOR_LO, 1, 0), (Reg.LG_ST_BASE_LO, 1, 0),
  (Reg.OB_EXP_BASE_LO, 1, 0), (Reg.OB_CNT_LO 0, 4096, 8)]

/-- The address is that of the low word of a pair. -/
def pairLow (a : Nat) : Bool :=
  pairLows.any (fun e => decide (e.1 ≤ a) && (if e.2.2 = 0 then a == e.1 else (a - e.1) % e.2.2 == 0 && decide ((a - e.1) / e.2.2 < e.2.1)))

end Sys2Proof.Machine
end

