-- ==== Sys2Proof/Machine/IkivaCtl.lean ====
section
/-! DEFINITION. Control of the policy cores: dispatch, overruns, exceptions, restart, stop, image load, and the instructions that act
beyond a core's own registers and memories (Ikiva Policy Cores; Ikiva Instruction Reference, Tables 13.9 to 13.11). -/

namespace Sys2Proof.Machine
open Sys2Proof

/-- The constant buffer that a launch's handler sees (R578): its constant bytes from offset 0, and USER at 0xF8 when they leave room
for it. -/
def Launch.cells (l : Launch) : List Host.Cell :=
  let b := writeBytes [] 0x120000 (min 256 l.consts.length) (ofLe l.consts)
  if l.consts.length ≤ 248 then writeBytes b 0x1200F8 8 l.user else b

/-- The core runs, POL is out of reset and no Halt Sweep is in force. -/
def State.coreLive (s : State) (c : Nat) : Bool := (s.core c).running && s.polRuns

/-- A message popped for dispatch whose handler is not a VALID entry for its level is discarded with 0x9005 (R524). -/
def State.dispatchRefused (s : State) (c q h : Nat) : State := (s.emit 3 0x9005 c q h).lostSweep

/-- Urgent dispatch of the first queue of R489 that can, whatever runs (R510); none pending: as it was. -/
def State.urgentGo (s : State) (c : Nat) : State :=
  match s.bestPrio (s.dispatchable c true) with
  | none => s
  | some q =>
    let h := s.rf (Reg.ME_QCFG_HANDLER q)
    match s.qPop q with
    | (none, _) => s
    | (some m, s1) => if (s.core c).handlerOk h true then s1.dispatchUrgent c q h m else s1.dispatchRefused c q h

/-- Normal dispatch of the first queue of R489 that can (R507), with the launch that its message carries (R577, R578). -/
def State.normalGo (s : State) (c : Nat) : State :=
  match s.bestPrio (s.dispatchable c false) with
  | none => s
  | some q =>
    let h := s.rf (Reg.ME_QCFG_HANDLER q)
    match s.qPop q with
    | (none, _) => s
    | (some m, s1) =>
      if (s.core c).handlerOk h false then
        let n := if q = c then s.launchOf c m else none
        let s2 := s1.dispatchNormal c q h m
        let k := s2.core c
        s2.setCore c { k with launchId := n, launch := match n with
          | some i => (mget ({} : Launch) s.cf.sent i).cells
          | none => [] }
      else s1.dispatchRefused c q h

/-- NORMAL_DISPATCH: at a wait point, after any Urgent dispatch (R506, R507). -/
def execNormalDispatch (c : Fin 8) (s : State) : Res :=
  .next (if s.coreLive c && (s.core c).atWait && (s.dispatchable c true).isEmpty then s.normalGo c else s)

/-- URGENT_DISPATCH: at an instruction boundary of the thread or a Normal handler (R510, R511). -/
def execUrgentDispatch (c : Fin 8) (s : State) : Res :=
  .next (if s.coreLive c && decide ((s.core c).level < 2) then s.urgentGo c else s)

/-- The count of the level that runs exceeds its budget; at a wait point the Normal count stands still (R512, R513). -/
def State.overrun (s : State) (c : Nat) : Bool :=
  let k := s.core c
  if k.level = 2 then decide (s.rf Reg.IK_BUDGET_BUDGET_U < k.cntU) else !k.atWait && decide (s.rf Reg.IK_BUDGET_BUDGET_N < k.cntN)

/-- BUDGET_OVERRUN (R513, R516). -/
def execBudgetOverrun (c : Fin 8) (s : State) : Res :=
  .next (if s.coreLive c && s.overrun c then ((s.noteMax c).coreFault c 0).lostSweep else s)

/-- CORE_EXCEPTION with code `e` + 1 of Table 12.7 (R505, R516, R517, R536). -/
def execCoreException (c : Fin 8) (e : Fin 8) (s : State) : Res :=
  .next (if s.coreLive c then (s.coreFault c (e + 1)).lostSweep else s)

/-- CORE_RESTART: 1 ms after a fault (R516). DESIGN CHOICE, log entry 6. -/
def execCoreRestart (c : Fin 8) (s : State) : Res :=
  .next (if (s.core c).restartDue && s.owner && s.polRuns then (s.startCore c 1).lostSweep else s)

/-- A write of IK_CTL: STOP and RESTART need the key, else the write is discarded; SAVE does not. A stopped core waits for RESTART
(R517, R529, Table 12.15); RESTART acts on a loaded core that is stopped, on the die that owns (R525). -/
def State.ikCtl (s : State) (v : Nat) : State :=
  match s.serve Reg.IK_CTL true with
  | (false, s1) => s1
  | (true, s1) =>
    if bitsOf v 15 0 ≠ 0 ∧ keyOk v = false then s1.refuse
    else
      let s2 := (s1.writeFields Reg.IK_CTL v).upto 8 (fun c x =>
        if bitOf v c then let y := x.stopCore c 5; y.setCore c { y.core c with restartDue := false } else x)
      let s3 := s2.upto 8 (fun c x => if bitOf v (8 + c) && x.owner && !(x.core c).running then x.startCore c 3 else x)
      let s4 := if bitOf v 17 then s3.saveBlock 6 else s3
      if bitsOf v 15 0 = 0 then s4 else s4.lostSweep

/-- IK_STOP. -/
def execIkStop (v : Word) (s : State) : Res := .next (s.ikCtl v.toNat)

/-- IK_RESTART. -/
def execIkRestart (v : Word) (s : State) : Res := .next (s.ikCtl v.toNat)

/-- IK_SAVE. -/
def execIkSave (v : Word) (s : State) : Res := .next (s.ikCtl v.toNat)

/-- The largest WCET of the loaded cores that check 6 compared with a level's budget (R521, R523, Table 12.14). -/
def State.largestWcet (s : State) (urgent : Bool) : Nat :=
  ((List.range 8).flatMap (fun c =>
    let k := s.core c
    if k.loaded then
      (if urgent then [] else [k.threadWcet])
      ++ (k.handlers.filter (fun h => bitOf h.2.1 0 && bitOf h.2.1 (if urgent then 2 else 1))).map (fun h => h.2.2)
    else [])).foldl max 0

/-- BUDGET_WRITE (R523, R529). DEDUCED, log entry 85. -/
def execBudgetWrite (v : Word) (s : State) : Res :=
  let n := bitsOf v.toNat 31 16
  let u := bitsOf v.toNat 15 0
  .next (match s.serve Reg.IK_BUDGET true with
    | (false, s1) => s1
    | (true, s1) =>
      let bn := s1.largestWcet false
      let bu := s1.largestWcet true
      let badN := decide (clampN 1000 65535 n < bn)
      let badU := decide (clampN 1000 65535 u < bu)
      if badN || badU then
        let s2 := s1.wr Reg.IK_FELL_REFUSED 1
        let s3 := if badN then s2.emit 3 0x9008 1 n bn else s2
        if badU then s3.emit 3 0x9008 2 u bu else s3
      else s1.writeFields Reg.IK_BUDGET v.toNat)

/-- IMAGE_LOAD: once after each release of POL, from a usable flash (R521, R522, R525, R778). -/
def execImageLoad (s : State) : Res :=
  .next (if s.inReset 3 || !s.edge.flashOk || s.ik.check != 0 || s.ik.cores.any (fun e => e.2.loaded || e.2.refused) then s
    else (s.imageLoad.startLoaded 0).lostSweep)

/-- The return of a handler to where it began: from Normal level to the WAITQ with the thread's flags, from Urgent level to what it
preempted (R507, R510). -/
def IkCore.rte (k : IkCore) : IkCore :=
  if k.level = 2 then { k with level := k.levelBack, pc := k.upc, waiting := false, cntU := 0 }
  else { k with level := 0, pc := k.npc, waiting := false, cntN := 0, bankN := { k.bankN with flags := k.flagsBack }, launchId := none, launch := [] }

/-- RTE: at thread level exception RTE_THREAD; an Urgent dispatch pending at an Urgent RTE begins in its place; a launch completes at
its handler's RTE (R507, R510, R546, R577, Table 12.4). -/
def execIkRte (c : Fin 8) (s : State) : Res :=
  let k := s.core c
  if !s.canIssue c then .next s
  else if k.textLen ≤ k.pc then s.ran c (s.coreFault c 2)
  else if k.level = 0 then s.ran c (s.coreFault c 7)
  else
    let s1 := (s.spend c 1).noteMax c
    let s2 := s1.setCore c (s1.core c).rte
    .next (if k.level = 2 then s2.urgentGo c
      else match k.launchId with
        | some n => (s2.launchDone n 0).lostSweep
        | none => s2)

/-- An instruction that takes 4 cycles on the core's engine port and leaves a result in rd (R468, R547). -/
def State.queueOp (s : State) (c rd : Nat) (exc : Option Nat) (f : State → Nat × State) : State :=
  s.issue c 4 4 exc (fun x =>
    let r := f x
    r.2.setCore c ((r.2.core c).setG rd (BitVec.ofNat 64 r.1)))

/-- The Sluice message of a class 1 send: bytes 0 to 14 from P0 and P1, with ADDR for one tile (R467, R548). -/
def tileMsg (t : Nat) (p0 p1 : DWord) : Msg :=
  BitVec.ofNat 120 (setBitsOf (p0.toNat + 2 ^ 64 * (p1.toNat % 2 ^ 56)) 23 8 t)

/-- A class 1 send: GROUP, or CLOSE with REASON 0 or 2, from a core that holds PLAN, to an open tile whose link takes messages; GROUP
sets the tile's slot, and CLOSE closes its channel (R462 to R467, R514). -/
def State.sendTileMsg (s : State) (c t : Nat) (p0 p1 : DWord) : Nat × State :=
  let m := tileMsg t p0 p1
  let x := s.tile t
  let close := mByte m 0 == 0x8B && (mByte m 4 == 0 || mByte m 4 == 2)
  if !s.holdsDuty c 8 || !(mByte m 0 == 0x86 || close) then (resBadtag, s)
  else if !x.isOpen then (resClosed, s)
  else if s.inReset 2 || decide (64 ≤ (s.link x.link).fl.txWait.length) then (resQfull, s)
  else
    let s1 := s.sendLink x.link m
    if close then (resOk, match x.barGrp with
        | some g => (s1.closeTile t).checkRelease g
        | none => s1.closeTile t)
    else
      let slot := mByte m 4 % 4
      let rest := x.slots.filter (fun e => e.1 != slot)
      (resOk, s1.setTile t { s1.tile t with slots := if bitOf (mPair m 5) 15 then rest ++ [(slot, mPair m 5 % 4096)] else rest })

/-- A datagram of a core to a DEST (R462, Table 11.3). -/
def State.sendDest (s : State) (c dest : Nat) (m : QMsg) : Nat × State :=
  let hi := dest / 2 ^ 14 % 4
  if hi = 1 then s.sendTileMsg c (dest % 2 ^ 14) m.p0 m.p1
  else if bitsOf dest 13 12 ≠ 0 then (resBadtag, s)
  else if hi = 0 then s.sendQueue (dest % 4096) m
  else if hi = 2 then s.sendGroup (dest % 4096) m
  else s.sendRemote (dest % 4096) m.tag m.p0 m.p1 m.p2

/-- SEND: a datagram (MODE 0), or a message on a channel (1), with RESEND (2); MODE 3 and rs2 above 29 are ILLEGAL (R548). -/
def execIkSend (c : Fin 8) (rd rs1 rs2 : Fin 32) (mode : Fin 4) (s : State) : Res :=
  let k := s.core c
  let a := (k.g rs1).toNat
  let m : QMsg := { tag := bitsOf a 31 16, source := c, p0 := k.g rs2, p1 := k.g (rs2 + 1), p2 := k.g (rs2 + 2) }
  s.ran c (s.queueOp c rd (if mode = 3 ∨ 29 < rs2.val then some 1 else none) (fun x =>
    if a / 2 ^ 32 ≠ 0 ∨ (mode ≠ 0 ∧ 8191 < a % 2 ^ 16) then (resBadtag, x)
    else if mode = 0 then x.sendDest c (a % 2 ^ 16) m
    else x.sendChan (a % 2 ^ 16) c (mode == 2) m))

/-- A pop by RECV, which leaves the latch alone; refused as R485 says (R486, R549). -/
def State.recvPop (s : State) (c q : Nat) : Option QMsg × State :=
  if s.rb (Reg.ME_QCFG_DISPATCH q) then (none, (s.wr Reg.ME_FELL_ACCESS 1).emit 3 0x8007 q c 1)
  else if s.qReader q != c then (none, (s.wr Reg.ME_FELL_ACCESS 1).emit 3 0x8007 q c 0)
  else s.qPop q

/-- The four registers that RECV loads, from rd. -/
def IkCore.loadMsg (k : IkCore) (rd : Nat) (o : Option QMsg) : IkCore :=
  let r : List (Nat × DWord) := match o with
    | some m => msgRegs m
    | none => []
  (List.range 4).foldl (fun k i => k.setG (rd + i) (mget 0 r i)) k

/-- RECV: rd is one of 4, 8, 12, 16, 20, 24 and 28, else ILLEGAL (R549). -/
def execIkRecv (c : Fin 8) (rd rs1 : Fin 32) (s : State) : Res :=
  let q := ((s.core c).g rs1).toNat % 4096
  let t := s.issue c 4 4 (if rd.val = 0 ∨ rd.val % 4 ≠ 0 then some 1 else none) (fun x =>
    let r := x.recvPop c q
    (r.2.setCore c ((r.2.core c).loadMsg rd r.1)).lostSweep)
  s.ran c t

/-- WAITQ begins to wait: at thread level the count ends, and the duties are the core's own again (R506, R509, R512, R515, R550);
WAIT_URGENT in an Urgent handler. Its pc stays at the WAITQ. -/
def execIkWaitq (c : Fin 8) (rd : Fin 32) (s : State) : Res :=
  let k := s.core c
  if !s.canIssue c then .next s
  else if k.textLen ≤ k.pc then s.ran c (s.coreFault c 2)
  else if k.level = 2 then s.ran c (s.coreFault c 6)
  else
    let w := { k with waiting := true, waitRd := rd.val }
    .next (if k.level = 0 then (s.noteMax c).setCore c { w with cntN := 0, floor := false, waited := true } else s.setCore c w)

/-- WAITQ_COMPLETE, `n` cycles after the WAITQ began, at least 4: after any dispatch that comes first, the queue chosen goes to rd (R488,
R489, R506, R509, R550); past the last word it is IADDR (R545). -/
def execWaitqComplete (c : Fin 8) (n : BitVec 16) (s : State) : Res :=
  let k := s.core c
  let cyc := max 4 n.toNat
  if !(s.coreLive c && k.waiting) || !(s.dispatchable c true).isEmpty || (k.level == 0 && !(s.dispatchable c false).isEmpty) then .next s
  else match s.selChoose c k.qsel with
    | none => .next s
    | some (p, q) =>
      if k.textLen ≤ k.pc + 4 then s.ran c (s.coreFault c 2)
      else
        let w := { k with waiting := false, pc := k.pc + 4, cntN := if k.level = 0 then 0 else k.cntN + cyc }
        let s1 := { s with ik.cyc := s.ik.cyc + cyc }
        let s2 := if s.rb (Reg.ME_SEL_CTL_ROTATE (4 * c + k.qsel)) then { s1 with me.rotPos := mput 15 s1.me.rotPos (4 * c + k.qsel) p } else s1
        .next (s2.setCore c (w.setG k.waitRd (BitVec.ofNat 64 q)))

/-- CHOPEN: rd has the channel, 0xFFFF when it fails, and the result (R470, R551). -/
def execIkChopen (c : Fin 8) (rd rs1 : Fin 32) (s : State) : Res :=
  let a := ((s.core c).g rs1).toNat
  s.ran c (s.queueOp c rd none (fun x =>
    if a / 2 ^ 12 ≠ 0 then (0xFFFF + 2 ^ 16 * resBadtag, x)
    else
      let r := x.chanOpen c c a
      ((if r.1 = resOk then r.2.1 else 0xFFFF) + 2 ^ 16 * r.1, r.2.2)))

/-- CHCLOSE (R472, R551). -/
def execIkChclose (c : Fin 8) (rd rs1 : Fin 32) (s : State) : Res :=
  let a := ((s.core c).g rs1).toNat
  s.ran c (s.queueOp c rd none (fun x => if a / 2 ^ 13 ≠ 0 then (resBadtag, x) else x.chanClose c a))

/-- A policy write as the receiving island takes it (Table 13.11): GRADE, ADMIT, BARX, PAUSE, PGRADE, RLIM; 6 is a
SETCAP or SETFLOOR of the command front end (R570). -/
def State.policyTake (s : State) (kind : Nat) (ops : List Nat) : State :=
  let t := ops.getD 0 0
  let v := ops.getD 1 0
  match kind with
  | 0 => (s.wr (Reg.AD_GRADE_REQ_TARGET t) v).gradeRequest t v
  | 1 => ((((s.wr (Reg.AD_PLAN0W_MGROUP t) (bitsOf v 11 0)).wr (Reg.AD_PLAN0W_BARRIER_GRP t) (bitsOf v 23 12)).wr
      (Reg.AD_PLAN1W_DOMAIN t) (bitsOf v 26 24)).wr (Reg.AD_PLAN1W_WAVE t) (bitsOf v 34 27)).wr (Reg.AD_PLAN1W_VALID t) (bitsOf v 35 35)
  | 2 => (s.wr (Reg.AD_BAR_CFG_EXPECT t) v).checkRelease t
  | 3 => (s.wr ⟨Reg.AD_PAUSE_PART (t / 8), 4 * (t % 8) + 3, 4 * (t % 8), 0⟩ v).pauseUpdate t
  | 4 => (s.wr (Reg.AD_PART_GGRADE_VALID t) (bitsOf v 7 7)).wr (Reg.AD_PART_GGRADE_GRADE t) (bitsOf v 4 0)
  | 5 => s.wr (Reg.PC_RAIL_LIMIT_POLICY_LIMIT t) v
  | _ => s.capTake t v { bytes := ops.drop 2 }

/-- A policy write crosses to its island: REG for RLIM, FRI for the others; to an island in reset it is held (R552, Table 3.3). -/
def State.policyWrite (s : State) (kind : Nat) (ops : List Nat) : State :=
  let n := if kind = 5 then 1 else 0
  if s.inReset n then
    { s with isl.retries := s.isl.retries.filter (fun e => !(e.2.1 == kind && e.2.2.head? == ops.head?)) ++ [(n, kind, ops)] }
  else s.policyTake kind ops

/-- CROSSING_RETRY: what waits for an island that is out of reset crosses, in the order held (R120, Table 3.3). -/
def execCrossingRetry (s : State) : Res :=
  let go := s.isl.retries.filter (fun e => !s.inReset e.1)
  let s1 := { s with isl.retries := s.isl.retries.filter (fun e => s.inReset e.1) }
  let s2 := go.foldl (fun (x : State) e => x.policyTake e.2.1 e.2.2) s1
  .next (if go.any (fun e => e.2.1 == 6) then s2.flSettle else s2)

/-- A device write under a duty: DUTY when the core does not hold it; rd = 7 and nothing written when an operand is out of range; else
rd = 0 and the write (R514, R552). -/
def State.deviceOp (s : State) (c rd duty : Nat) (ok : Bool) (act : State → State) : State :=
  s.issue c 1 4 (if s.holdsDuty c duty then none else some 5) (fun x =>
    let y := x.setCore c ((x.core c).setG rd (if ok then 0 else 7))
    if ok then act y else y)

/-- GRADE (R552). -/
def execIkGrade (c : Fin 8) (rd rs1 : Fin 32) (d : Fin 8) (s : State) : Res :=
  let g := ((s.core c).g rs1).toNat
  s.ran c (s.deviceOp c rd d (decide (g ≤ 31)) (fun x => x.policyWrite 0 [d, g]))

/-- ADMIT (R552). -/
def execIkAdmit (c : Fin 8) (rd rs1 rs2 : Fin 32) (s : State) : Res :=
  let n := ((s.core c).g rs1).toNat
  let v := ((s.core c).g rs2).toNat
  s.ran c (s.deviceOp c rd 8 (decide (n ≤ 1023) && decide (bitsOf v 23 12 ≤ 4094) && decide (v < 2 ^ 36)) (fun x => x.policyWrite 1 [n, v]))

/-- BARX (R552). -/
def execIkBarx (c : Fin 8) (rd rs1 rs2 : Fin 32) (s : State) : Res :=
  let g := ((s.core c).g rs1).toNat
  let v := ((s.core c).g rs2).toNat
  s.ran c (s.deviceOp c rd 8 (decide (g ≤ 4094) && decide (v ≤ 16384)) (fun x => x.policyWrite 2 [g, v]))

/-- PAUSE (R552). -/
def execIkPause (c : Fin 8) (rd rs1 rs2 : Fin 32) (s : State) : Res :=
  let p := ((s.core c).g rs1).toNat
  let v := ((s.core c).g rs2).toNat
  s.ran c (s.deviceOp c rd 9 (decide (p ≤ 63) && decide (v ≤ 15)) (fun x => x.policyWrite 3 [p, v]))

/-- PGRADE (R552). -/
def execIkPgrade (c : Fin 8) (rd rs1 rs2 : Fin 32) (s : State) : Res :=
  let p := ((s.core c).g rs1).toNat
  let v := ((s.core c).g rs2).toNat
  s.ran c (s.deviceOp c rd 10 (decide (p ≤ 63) && decide (v < 256) && decide (bitsOf v 6 5 = 0)) (fun x => x.policyWrite 4 [p, v]))

/-- RLIM (R552). -/
def execIkRlim (c : Fin 8) (rd rs1 : Fin 32) (r : Fin 8) (s : State) : Res :=
  let v := ((s.core c).g rs1).toNat
  s.ran c (s.deviceOp c rd 11 (decide (v ≤ 65535)) (fun x => x.policyWrite 5 [r, v]))

/-- LOGEV: a record with the code, severity and parameters of the instruction; a code outside 0x9800 to 0x9FFF is replaced by 0x9006; 0x9FFF
also requests a handover; a full buffer of 8 gives rd = 1 (R519, R553, R722, R868). -/
def execIkLogev (c : Fin 8) (rd rs1 rs2 : Fin 32) (s : State) : Res :=
  let k := s.core c
  let a := (k.g rs1).toNat
  let code := a % 2 ^ 16
  let x0 := (k.g rs2).toNat
  let x1 := (k.g (rs2 + 1)).toNat
  s.ran c (s.issue c 1 4 (if 30 < rs2.val then some 1 else none) (fun x =>
    let full := decide (8 ≤ (x.raised.filter (fun r => r.core == c.val)).length)
    let res : Nat := if a / 2 ^ 24 ≠ 0 then 7 else if full then 1 else 0
    let y := x.setCore c ((x.core c).setG rd (BitVec.ofNat 64 res))
    if res ≠ 0 then y
    else if 0x9800 ≤ code ∧ code ≤ 0x9FFF then
      let z := { y with raised := y.raised ++ [⟨3, code, some (bitsOf a 18 16), loWord x0, hiWord x0, loWord x1, hiWord x1, c⟩] }
      if code = 0x9FFF then z.handRequest 2 else z
    else { y with raised := y.raised ++ [⟨3, 0x9006, none, c, 4, code, 0, c⟩] }))

/-- What DRD reads of one register: 0 where none is, and where its island is in reset (R554). -/
def State.drdWord (s : State) (a : Nat) : Nat :=
  match findReg a with
  | none => 0
  | some (d, _, _) => if s.inReset d.isl then 0 else s.readWord a

/-- What DRD reads: a register, or a pair at its low word (R554). -/
def State.drd (s : State) (pair : Bool) (a : Nat) : Nat :=
  if !pair then s.drdWord a
  else if pairLow (canonAddr a) then s.drdWord a + 2 ^ 32 * s.drdWord (a + 4) else 0

/-- DRD (R554). -/
def execIkDrd (c : Fin 8) (rd rs1 : Fin 32) (mode : Fin 4) (s : State) : Res :=
  let a := ((s.core c).g rs1).toNat
  let exc := if 2 ≤ mode.val then some 1 else if 0x4000000 ≤ a ∨ a % (if mode = 1 then 8 else 4) ≠ 0 then some 3 else none
  s.ran c (s.issue c 96 4 exc (fun x => x.setCore c ((x.core c).setG rd (BitVec.ofNat 64 (s.drd (mode == 1) a)))))

/-- What a PSTATE request asks of AO: nothing for the state in force or the target of a transition; between Run and Doze a state command;
any other is refused (R131, R552). DEDUCED, log entry 61. -/
def State.pstateAsk (s : State) (t : Nat) : State :=
  if t = s.isl.pkg ∨ (s.isl.inTrans = true ∧ t = s.isl.target) then s
  else if !s.isl.napReached || decide (1 < s.isl.pkg) then s.refuse
  else s.pkgCommand t 1

/-- PSTATE (R552). -/
def execIkPstate (c : Fin 8) (rd rs1 : Fin 32) (s : State) : Res :=
  let t := ((s.core c).g rs1).toNat
  s.ran c (s.deviceOp c rd 13 (decide (t ≤ 1)) (fun x => x.pstateAsk t))

end Sys2Proof.Machine
end

