-- ==== Sys2Proof/Machine/Ledger.lean ====
section
/-! DEFINITION. The Ledger's commands (The Ledger). -/

namespace Sys2Proof.Machine
open Sys2Proof

/-- RECORD_ARRIVAL: the oldest record on its way to AO arrives (R734 to R742). -/
def execRecordArrival (s : State) : Res := .next s.arrive1.flSettle

/-- TOKEN_REFILL: a code's bucket gains a token, up to BURST (R737). -/
def execTokenRefill (code : BitVec 16) (s : State) : Res :=
  .next { s with lg.used := mput 0 s.lg.used code.toNat (mget 0 s.lg.used code.toNat - 1) }

/-- SUMMARY_SECOND: 0xF001 for the records suppressed in the second that ends, then 0xF007 for those overflowed (R739, R742). -/
def execSummarySecond (s : State) : Res :=
  let n := (s.lg.supp.map (·.2)).sum
  let top := s.lg.supp.foldl (fun (b : Nat × Nat) e => if b.2 < e.2 then e else b) (0, 0)
  let s1 := { s with
    lg.supp := [], lg.lastCodes := s.lg.supp.length, lg.lastCount := satU 16 n, lg.overs := 0, lg.overFault := 0, lg.overFirst := 0 }
  let s2 := if n = 0 then s1 else s1.emit 7 0xF001 s.lg.supp.length (satU 32 n) top.1 top.2
  .next (if s.lg.overs = 0 then s2 else s2.emit 7 0xF007 s.lg.overs s.lg.overFault s.lg.overFirst)

/-- LEDGER_FLUSH_START: 8 records, 50 ms or a fault record start a flush (R745). -/
def execLedgerFlushStart (s : State) : Res := .next s.flushGo

/-- DATA_PASS_DONE: bytes 0 to 30 of the page's records are programmed; the read-back follows (R743). -/
def execDataPassDone (s : State) : Res := .next (if s.lg.pass = 1 then { s.writeData with lg.pass := 2 } else s)

/-- READBACK_DONE: a match starts the mark pass; a mismatch moves the records on (R743, R746). DEDUCED, log entry 11. -/
def execReadbackDone (ok : Bool) (s : State) : Res :=
  .next (if s.lg.pass = 2 then (if ok then { s with lg.pass := 3 } else s.verifyFail) else s)

/-- MARK_PASS_DONE: the page's records are flushed; an authorised clear in it takes effect (R743, R766). -/
def execMarkPassDone (s : State) : Res := .next (if s.lg.pass = 3 then s.markDone else s)

/-- ERASE_DONE: a sector erase ends (R754, R757). -/
def execEraseDone (ms typ top : BitVec 16) (failed : Bool) (s : State) : Res := .next (s.eraseDone ms.toNat typ.toNat top.toNat failed)

/-- LEDGER_SCAN_DONE: the cold-start scan ends, or is abandoned (R751, R755, R849). -/
def execLedgerScanDone (abandoned : Bool) (s : State) : Res := .next (if s.lg.scanning then s.scanDone abandoned else s)

/-- LG_CURSOR_WRITE: kind 0 the low word, 1 the high word, 2 both as a 64-bit write; the high word starts a fill, and any write
starts a fill in progress again (R760, R761). -/
def execLgCursorWrite (kind : Fin 3) (v : DWord) (s : State) : Res :=
  let a := if kind.val = 1 then Reg.LG_CURSOR_HI else Reg.LG_CURSOR_LO
  .next (s.hostWrite a (loWord v.toNat) (fun x =>
    let y := if kind.val = 2 then x.writeFields Reg.LG_CURSOR_HI (hiWord v.toNat) else x
    if kind.val = 0 && !y.lg.filling then y
    else ({ y with lg.filling := true }).wr Reg.LG_WIN_STAT_READY 0))

/-- WINDOW_FILL_DONE: slot i holds the record CURSOR + i, as stored, or zeros; READY reads 1 (R760). -/
def execWindowFillDone (s : State) : Res :=
  let c := s.rf Reg.LG_CURSOR_LO_SEQ + s.rf Reg.LG_CURSOR_HI_SEQ * 2 ^ 32
  let w := (List.range 128).filterMap (fun i => (s.recordAt (c + i)).map (fun r => (i, r)))
  .next (if !s.lg.filling || s.inReset 5 then s
    else (({ s with lg.filling := false, lg.win := w }).wr Reg.LG_WIN_STAT_READY 1).wr Reg.LG_WIN_STAT_COUNT w.length)

/-- LG_CLEAR: LG_CTL.CLEAR requests an authorised clear (R765). -/
def execLgClear (v : Word) (s : State) : Res := .next (s.lgCtl v.toNat)

/-- LG_FLUSH: LG_CTL.FLUSH starts a flush (R745, R746). -/
def execLgFlush (v : Word) (s : State) : Res := .next (s.lgCtl v.toNat)

/-- LG_SAVE: LG_CTL.SAVE writes the Ledger's Config fields to flash (R770, R872). -/
def execLgSave (v : Word) (s : State) : Res := .next (s.lgCtl v.toNat)

/-- STREAM_VEC_TIMER: once a record has been streamed since the host last wrote HEAD, VEC is raised, at most once per 1 ms
(R763). -/
def execStreamVecTimer (s : State) : Res := .next (if s.lg.stSince then s.raiseVec (s.rf Reg.LG_ST_CFG_VEC) else s)

/-- LG_RL_WRITE: a word of an LG_RL entry, or LG_RL_DEF as entry 1024; every bucket it affects is refilled (R866). -/
def execLgRlWrite (i : Fin 1025) (hi : Bool) (v : Word) (s : State) : Res :=
  .next (if i.val = 1024 then
      s.hostWrite Reg.LG_RL_DEF v.toNat (fun x => x.rlRefill ((x.lg.used.map (·.1)).filter (fun c => (x.rlEntry c).isNone)))
    else
      s.hostWrite (if hi then Reg.LG_RL1 i else Reg.LG_RL0 i) v.toNat (fun x =>
        x.rlRefill [s.rf (Reg.LG_RL0_CODE i), x.rf (Reg.LG_RL0_CODE i)]))

/-- ENERGY_CHECKPOINT: every second AO checkpoints its counters to flash (R139, R750). -/
def execEnergyCheckpoint (s : State) : Res := .next s.checkpoint

/-- PFAIL_N_HIGH: PFAIL_N is high again; an erase suspended for a tail flush that has ended resumes (R747). -/
def execPfailNHigh (s : State) : Res :=
  .next { s with edge.pfailPinLow := false, lg.suspended := s.lg.suspended && s.lg.tail }

end Sys2Proof.Machine
end

