-- ==== Sys2Proof/Machine/Observation.lean ====
section
/-! DEFINITION. The commands of observation and debug (Observation and Debug), and SLU's report of full intakes (Saturation
Map). -/

namespace Sys2Proof.Machine
open Sys2Proof

/-- OB_ENABLE (R799). -/
def execObEnable (v : Word) (s : State) : Res := .next (s.obCtl v.toNat)

/-- OB_DISABLE (R799). -/
def execObDisable (v : Word) (s : State) : Res := .next (s.obCtl v.toNat)

/-- OB_CLEAR (R804). -/
def execObClear (v : Word) (s : State) : Res := .next (s.obCtl v.toNat)

/-- OB_UNFREEZE (R807). -/
def execObUnfreeze (v : Word) (s : State) : Res := .next (s.obCtl v.toNat)

/-- OB_ARM (R805). -/
def execObArm (v : Word) (s : State) : Res := .next (s.obCtl v.toNat)

/-- OB_FIRE (R805). -/
def execObFire (v : Word) (s : State) : Res := .next (s.obCtl v.toNat)

/-- TRIG_IN_EDGE: fires the armed trigger when TRIGIN_EN is 1 (R805). -/
def execTrigInEdge (s : State) : Res := .next (if s.rb Reg.OB_TRIG_CFG2_TRIGIN_EN then s.trigFire 0 0 else s)

/-- OB_GRP_WRITE: word `j` of a group's configuration; its eight counters are zeroed (R804). -/
def execObGrpWrite (g : Fin 512) (j : Fin 4) (v : Word) (s : State) : Res :=
  .next (s.hostWrite (Reg.OB_GRP0 g.val + 4 * j.val) v.toNat (fun x => x.cntClear g.val 1))

/-- A keyed write of OB_HALT, after which what was stopped goes on where it released (R809, R815). -/
def State.obHaltWrite (s : State) (v : Nat) : State :=
  let t := s.obHalt v
  if s.ob.halted && !t.ob.halted then t.flSettle else t

/-- OB_HALT (R809). -/
def execObHalt (v : Word) (s : State) : Res := .next (s.obHaltWrite v.toNat)

/-- An instruction in the TAP, where it takes it (R103). -/
def State.tapIn (s : State) (i : TapInstr) : State := if s.tapTakes i then { s with ob.tap := i } else s

/-- JTAG_HALT (R103, R809). -/
def execJtagHalt (s : State) : Res := .next ((s.tapIn .halt).haltRequest 0)

/-- OB_RELEASE (R815). -/
def execObRelease (v : Word) (s : State) : Res := .next (s.obHaltWrite v.toNat)

/-- JTAG_RELEASE (R815). DESIGN CHOICE, log entry 54. -/
def execJtagRelease (s : State) : Res := .next ((s.tapIn .release).haltEnd 0)

/-- HALT_MAX_EXPIRY: HALT_MAX has passed, and is not 0 (R815). -/
def execHaltMaxExpiry (s : State) : Res := .next (if s.rf Reg.OB_HALT_CFG_HALT_MAX = 0 then s else s.haltEnd 2)

/-- HALT_ORPHAN: 5 ms into a Halt Sweep FRI takes the orphan share as S (R814). -/
def execHaltOrphan (s : State) : Res :=
  .next (if s.ob.halted then ({ s with ob.orphanTaken := true }).budgetMoved else s)

/-- EXPORT_TICK (R819 to R821). -/
def execExportTick (s : State) : Res := .next s.expTick.flSettle

/-- INTAKE_FULL_REPORT: the end of a 1 ms period in which a link's intake was full at least once (R835). -/
def execIntakeFullReport (n : Fin 16) (s : State) : Res :=
  let l := s.link n.val
  .next (if s.inReset 2 || !l.msFull then s
    else ((s.setLink n.val { l with msFulls := 0, msFull := false, msBusy := 0 }).intakeMark n.val).emit 2 0x3008 n.val l.msFulls l.msBusy)

end Sys2Proof.Machine
end

