-- ==== Sys2Proof/Machine/Rails.lean ====
section
/-! DEFINITION. The commands of the phase controller (Phase Controller). A command that says that a condition has held for its time
carries the readings, and does nothing where they do not meet it. ISN inputs come in
0.1 mV at the pin, one for each mapped phase of the rail in lane order, BUSV in 0.1 mV at the pin, and VSN in codes of 0.5 mV. Readings
are taken on both dies; what follows from them is the owner's (R54). -/

namespace Sys2Proof.Machine
open Sys2Proof

/-- What follows from readings: on the owner, with REG out of reset. -/
def State.acted (s : State) (act : State → State) : State := if s.owner then act s else s

/-- A set of ISN samples of a rail, and what follows from it; nothing is read while REG is in reset. -/
def State.onSample (s : State) (r : Nat) (isn : List (BitVec 16)) (act : State → State) : State :=
  if s.inReset 1 then s else (s.sample r isn).acted act

/-- A VSN sample of a rail, and what follows from it. -/
def State.onVolts (s : State) (r raw : Nat) (act : State → State) : State :=
  if s.inReset 1 then s else (s.noteVolts r raw).acted act

/-- PSFLT_ASSERT: every phase of the group not failed becomes suspect, and location begins (R194). -/
def execPsfltAssert (g : Fin 16) (s : State) : Res := .next (if s.inReset 1 then s else s.groupSuspect g)

/-- PROFILE_SAVE: PC_PROFILE_CTL.SAVE writes the whole profile to flash (R145, R872). -/
def execProfileSave (v : Word) (s : State) : Res :=
  .next (s.hostWrite Reg.PC_PROFILE_CTL v.toNat (fun x => if bitOf v.toNat 2 then x.saveBlock 0 else x))

/-- PHASE_CLR: a failed phase returns to healthy, and its stage's faults are cleared (R197, Table 4.14). -/
def execPhaseClr (v : Word) (s : State) : Res :=
  let n := bitsOf v.toNat 7 0
  .next (s.keyedWrite Reg.PC_PHASE_CLR v.toNat (fun x =>
    if (x.lane n).mark = 1 then
      ((x.setLane n { x.lane n with mark := 0, peaks := 0, tries := 0 }).pmbus n 0x03 0).healthSince x
    else x))

/-- CLEAR_FAULT: the rail leaves the regulation fault state into soft-start (R193). -/
def execClearFault (r : Fin 8) (v : Word) (s : State) : Res :=
  .next (s.keyedWrite (Reg.PC_RAIL_CTL r) v.toNat (fun x => if bitOf v.toNat 0 then x.clearFault r else x))

/-- SWITCHING_CYCLE: the start of a phase's cycle, with the error in 0.5 mV, BUSV and the phase's ISN (R42, R151 to R158, R162, R167, R179,
R192). A rail whose soft-stop is complete is off. -/
def execSwitchingCycle (n : Fin 256) (e : BitVec 12) (busv isn : BitVec 16) (s : State) : Res :=
  .next (match s.laneRail n with
    | none => s
    | some r =>
      let s0 := if s.inReset 1 then s else s.setLane n { s.lane n with amps := isnAmps isn.toNat }
      let t := s0.stopSettle r
      let x := t.rail r
      if !s.regOn then s0
      else if x.discharge then t.dischargeCycle r n isn
      else if !(t.lane n).active || x.handback || !(x.mode == 1 || x.mode == 2 || x.mode == 6) then t
      else if x.hold then t.holdCycle r n isn
      else t.switchCycle r n (signedOf 12 e.toNat) (busvMv busv.toNat) isn)

/-- PHASE_ADD: a total above N times I_ADD for 2 us adds a phase (R159, R160). -/
def execPhaseAdd (r : Fin 8) (isn : List (BitVec 16)) (s : State) : Res :=
  .next (s.onSample r isn (fun x =>
    if ((x.rail r).mode = 2 ∨ (x.rail r).mode = 6) ∧ (10 * ((x.staying r).length * x.rf (Reg.PC_RAIL_SHED_I_ADD r)) : Nat) < (x.rail r).total then
      x.addPhase r
    else x))

/-- PHASE_SHED: a total below (N - 1) times I_SHED for 50 us sheds a phase, unless every healthy phase is to stay (R159 to R161). -/
def execPhaseShed (r : Fin 8) (isn : List (BitVec 16)) (s : State) : Res :=
  .next (s.onSample r isn (fun x =>
    let n := (x.staying r).length
    if ((x.rail r).mode = 2 ∨ (x.rail r).mode = 6) ∧ x.allActive r = false ∧ x.rf (Reg.PC_RAIL_CFG_MIN_ACTIVE r) < n
        ∧ (x.rail r).total < (10 * ((n - 1) * x.rf (Reg.PC_RAIL_SHED_I_SHED r)) : Nat) then x.shedPhase r
    else x))

/-- PHASE_IMBALANCE: a trim at its limit for 100 us with a share error above a quarter of the rating, judged on the rail's samples
(R158). -/
def execPhaseImbalance (n : Fin 256) (isn : List (BitVec 16)) (s : State) : Res :=
  .next (match s.laneRail n with
    | none => s
    | some r => s.onSample r isn (fun x =>
      let p := x.lane n
      let e := (x.shareErr r n).natAbs
      if p.active && (p.bal == 64 || p.bal == -64) && decide (10 * x.rf (Reg.PC_PHASE_CFG_RATING n) < 4 * e) then x.phaseFail n 0 (e / 10)
      else x))

/-- RAIL_CURRENT_LIMIT: the total reaches the limit in force (R166, R179). -/
def execRailCurrentLimit (r : Fin 8) (isn : List (BitVec 16)) (s : State) : Res :=
  .next (s.onSample r isn (fun x => x.limitReached r))

/-- RAIL_POWER_GOOD: within 20 mV of the setpoint for 50 us (R170). -/
def execRailPowerGood (r : Fin 8) (raw : BitVec 12) (s : State) : Res :=
  let v := 5 * raw.toNat
  .next (s.onVolts r raw.toNat (fun x =>
    if (x.rail r).mode = 1 ∧ v ≤ x.setpoint r + 200 ∧ x.setpoint r ≤ v + 200 then x.powerGood r else x))

/-- SS_TIMEOUT: not power-good within SS_TIMEOUT of the start (R170). -/
def execSsTimeout (r : Fin 8) (s : State) : Res :=
  .next (if s.regOn && (s.rail r).mode == 1 then s.regFault r 1 ((s.rail r).sensed / 10) else s)

/-- BURST_ENTRY: a total below 3 % of the derated rating for 200 us, with no condition of R161 (R172). -/
def execBurstEntry (r : Fin 8) (isn : List (BitVec 16)) (s : State) : Res :=
  .next (s.onSample r isn (fun x =>
    if (x.rail r).mode = 2 ∧ 100 * (x.rail r).total < (30 * x.derated r : Nat) ∧ x.allActive r = false then x.burstEnter r else x))

/-- BURST_PULSE: at the setpoint less 6 mV the burst phases fire (R173). -/
def execBurstPulse (r : Fin 8) (raw : BitVec 12) (s : State) : Res :=
  .next (s.onVolts r raw.toNat (fun x => if (x.rail r).mode = 3 ∧ 5 * raw.toNat + 60 ≤ x.setpoint r then x.burstFire r else x))

/-- BURST_EXIT: 0 a command of FRI, 1 an upward step, 2 a total above 6 % of the derated rating for 2 us, 3 a voltage below the
setpoint less 16 mV (R175, R176). -/
def execBurstExit (r : Fin 8) (cause : Fin 4) (isn : List (BitVec 16)) (raw : BitVec 12) (s : State) : Res :=
  .next (s.onSample r isn (fun y => y.onVolts r raw.toNat (fun x =>
    let hit := match cause.val with
      | 2 => decide ((60 * x.derated r : Nat) < 100 * (x.rail r).total)
      | 3 => decide (5 * raw.toNat + 160 < x.setpoint r)
      | _ => (x.dom r).burstWait
    if (x.rail r).mode = 3 ∧ hit = true then x.burstLeave r else x)))

/-- FLOODGATE_STROBE: every enabled phase goes high-side; during a hold or a handback the strobe waits (R178, R181). -/
def execFloodgateStrobe (r : Fin 8) (s : State) : Res :=
  let x := s.rail r
  .next (if s.regOn && (s.dom r).strobe && (x.mode == 2 || x.mode == 3) then
      if x.hold || x.handback then s.setRail r { x with strobeWaits := true } else s.strobeHold r
    else s)

/-- FLOODGATE_HOLD_END: the integrator is preset to the measured total and the phases resume (R180, R161). -/
def execFloodgateHoldEnd (r : Fin 8) (isn : List (BitVec 16)) (s : State) : Res :=
  .next (s.onSample r isn (fun x => if (x.rail r).hold then x.holdEnd r else x))

/-- DEAD_TIME_CHANGE: for the stage of a lane, or for a reservoir pair from 256 on (R182 to R186). -/
def execDeadTimeChange (i : Fin 264) (ack : Bool) (s : State) : Res :=
  .next (if !s.regOn then s
    else if 256 ≤ i.val then s.deadRes (i.val - 256)
    else if s.laneRail i = none then s else s.deadMain i ack)

/-- PMBUS_POLL_ROUND: one round of a segment, with what the stages of its lanes answer in lane order, and ALERT_N's level before it (R77, R188,
R189, R196). DEDUCED, log entry 17. -/
def execPmbusPollRound (seg : Fin 4) (l : List StageRead) (s : State) (alert : Bool := false) : Res :=
  .next (if s.regOn && !bitOf s.ph.segLost seg then s.pollRound seg l alert else s)

/-- AVS_WRITE: a target above the value last written is written at once, a lower one when the setpoint has reached it (R189); a rail whose
soft-stop is complete is off. -/
def execAvsWrite (r : Fin 8) (s : State) : Res :=
  let x := s.rail r
  let goal := s.setpointGoal r
  .next (if s.regOn && x.mode != 0 && x.mode != 5 && (decide (x.avs < goal) || (decide (goal < x.avs) && s.setpoint r == goal)) then
      (s.avsWrite r).stopSettle r
    else s)

/-- VSN_SENSE_FAULT: a running rail reads below 50 mV or above 2.0 V, in codes of 0.5 mV (R73, R74, R191, Table 2.8). -/
def execVsnSenseFault (r : Fin 8) (raw : BitVec 12) (s : State) : Res :=
  let m := (s.rail r).mode
  .next (if s.regOn && m != 0 && m != 5 && (decide (raw.toNat < 100) || decide (4000 < raw.toNat)) then
      (s.emit 0 0x0025 r (raw.toNat / 2) (b01 (decide (4000 < raw.toNat)))).regFault r 0 (raw.toNat / 2)
    else s)

/-- RAIL_UNDERVOLTAGE: more than 100 mV below the setpoint for 20 us outside soft-start and burst mode (R191). -/
def execRailUndervoltage (r : Fin 8) (raw : BitVec 12) (s : State) : Res :=
  .next (s.onVolts r raw.toNat (fun x =>
    let m := (x.rail r).mode
    if (m = 2 ∨ m = 6) ∧ 5 * raw.toNat + 1000 < x.setpoint r then x.regFault r 2 (raw.toNat / 2) else x))

/-- RAIL_OVERVOLTAGE: above the setpoint by OV_MARGIN for 200 ns, every healthy phase is driven low-side (R192). -/
def execRailOvervoltage (r : Fin 8) (raw : BitVec 12) (s : State) : Res :=
  .next (s.onVolts r raw.toNat (fun x =>
    let m := (x.rail r).mode
    if m ≠ 0 ∧ m ≠ 5 ∧ x.setpoint r + 400 + 50 * x.rf (Reg.PC_RAIL_CFG_OV_MARGIN r) < 5 * raw.toNat then
      (x.setRail r { x.rail r with discharge := true }).each (x.healthy r) (fun n y => y.drive n .low)
    else x))

/-- OV_DISCHARGE_DONE: the sensed voltage is at or below the setpoint (R192). -/
def execOvDischargeDone (r : Fin 8) (raw : BitVec 12) (s : State) : Res :=
  .next (s.onVolts r raw.toNat (fun x =>
    if (x.rail r).discharge ∧ 5 * raw.toNat ≤ x.setpoint r then x.regFault r 3 (raw.toNat / 2) else x))

/-- RAIL_GROSS_OVERCURRENT: a total above 1.25 times the limit in force for 2 us (R191). -/
def execRailGrossOvercurrent (r : Fin 8) (isn : List (BitVec 16)) (s : State) : Res :=
  .next (s.onSample r isn (fun x =>
    let m := (x.rail r).mode
    if m ≠ 0 ∧ m ≠ 5 ∧ (50 * (x.limit32 r).1 : Nat) < 128 * (x.rail r).total then x.regFault r 4 ((x.rail r).total / 10).toNat else x))

/-- GROUP_LOCATION_DONE: the group's stages were read, in lane order; `still` is PSFLT_Gn after the failed ones are off (R194,
R195). DEDUCED, log entry 16. -/
def execGroupLocationDone (g : Fin 16) (l : List StageRead) (still : Bool) (s : State) : Res :=
  .next (if s.regOn && bitOf s.ph.locating g then s.groupLocated g l still else s)

/-- PHASE_SENSE_FAULT: an ISN reading at or beyond 0.205 V or 1.095 V for 4 us (R196). -/
def execPhaseSenseFault (n : Fin 256) (isn : BitVec 16) (s : State) : Res :=
  .next (if s.regOn && (decide (isn.toNat ≤ 2050) || decide (10950 ≤ isn.toNat)) then s.phaseFail n 2 (isn.toNat / 10) else s)

/-- PMBUS_SEGMENT_STUCK: bus recovery succeeded or failed (R202). -/
def execPmbusSegmentStuck (seg : Fin 4) (recovered : Bool) (s : State) : Res :=
  .next (if s.regOn then s.segStuck seg recovered else s)

end Sys2Proof.Machine
end

