-- ==== Sys2Proof/Machine/Reservoir.lean ====
section
/-! DEFINITION. The commands of the reservoir (The Reservoir). -/

namespace Sys2Proof.Machine
open Sys2Proof

/-- Bus voltage in millivolts from BUSV, in 0.1 mV behind the 40:1 divider (R75). -/
def busvOf (v : BitVec 16) : Nat := v.toNat * 4

/-- Input current in milliamps from the microvolts across the BUSI shunt, at most 75 mV either way (R75, Table 4.16). -/
def State.busiMa (s : State) (uv : Int) : Int := clampI (-75000) 75000 uv * 100000 / (s.rf Reg.PC_INPUT_CFG_SHUNT : Nat)

/-- AO's meter and the BUSV average take a reading of BUSV (none when it is lost) and BUSI (R420, R446): the meter adds
nothing while BUSI is negative, and uses the last valid BUSV while BUSV is lost. -/
def State.busReading (s : State) (busMv : Option Nat) (busMa : Int) : State :=
  let mv := busMv.getD s.edge.busMv
  let pj := mv * busMa.toNat * 10 + s.ao.meterPj
  let hist := match busMv with
    | some v => (v :: s.bg.busHist).take 100
    | none => s.bg.busHist
  { s with
    edge.busMv := mv
    edge.busMa := busMa.toNat
    ao.meterUj := (s.ao.meterUj + pj / 1000000) % 2 ^ 64
    ao.meterPj := pj % 1000000
    bg.busHist := hist
    bg.busMv := if hist.isEmpty then s.bg.busMv else hist.sum / hist.length
    bg.busLost := busMv.isNone }

/-- The measurements of a tick in REG: powers, stack, charge and the averages that others take of them. -/
def State.rvMeasure (s : State) (busMa : Int) (convW : Int) (stackMv : Nat) (stackDa : Int) : State :=
  let grid := ((s.edge.busMv : Int) * busMa / 10000)
  let conv := convW * 100
  let d := (grid + conv).toNat
  let x := s.rv
  let unit := s.rf Reg.RV_MOD_CFG0_C_NAME * (s.rvVmax - s.rvVmin)
  let dis := x.dischargeUc + stackDa.toNat
  let s1 := { s with rv := { x with
    pGrid := grid.toNat, pConv := conv, stackMv := stackMv, stackDa := stackDa, charge := x.charge + stackDa
    gridHist := (grid.toNat :: x.gridHist).take 100, accRep := x.accRep + d, cntRep := x.cntRep + 1
    accDuty := x.accDuty + d, cntDuty := x.cntDuty + 1, dischargeUc := if unit = 0 then dis else dis % unit
    shedUj := if x.shed then x.shedUj + conv.toNat else x.shedUj } }
  if unit = 0 then s1 else s1.satAdd Reg.RV_CYCLES_CYCLES (dis / unit)

/-- The computation of R348 and R349; while FRI is in reset REG goes on with the G_CEIL it last received. -/
def State.rvCompute (s : State) : State :=
  let x := s.rv
  let d : Int := (x.pGrid : Int) + x.pConv
  let ceil : Int := if s.inReset 0 then (s.rv.gCeil * 100 : Nat) else (s.gCeil / 10000 : Nat)
  let ramp : Int := (s.rf Reg.RV_OP_CFG0_RAMP : Nat)
  let chg : Int := (s.chgAvail : Nat)
  let want := min (d + (s.rech : Nat)) ceil
  let g0 : Int := (x.g : Nat)
  let g := if convOff x.mode then (x.pGrid : Int)
    else if want < g0 ∧ (ceil < g0 ∨ chg < g0 - want) then want
    else clampI (g0 - ramp) (g0 + ramp) want
  let g1 := g.toNat
  let cmd := if convOff x.mode then 0 else clampI (-chg) (s.disAvail : Nat) (d - g)
  let pres := if x.mode = 2 then 0 else min s.disAvail (s.rvSpend * 100 / s.rf Reg.RV_OP_CFG1_HORIZON)
  let a1 := g1 + max pres (s.rf Reg.RV_OP_CFG0_RAMP * 100)
  let a2 := ceil.toNat + pres
  let s1 := { s with rv := { x with
    g := g1, cmd := cmd, pRes := pres, rga := min a1 a2, term := if a1 ≤ a2 then 1 else 2, gCeil := ceil.toNat / 100 } }
  let spent := decide (0 < x.pConv) && decide (s1.rvSpend * 100 < s1.disAvail * s1.rf Reg.RV_OP_CFG1_HORIZON)
  if x.pConv ≤ 0 then { s1 with rv.spentTold := false }
  else if spent && !x.spentTold then
    ({ s1 with rv.spentTold := true }).emitHw (some 5) 1 0x5052 (s1.rvAvail / 1000) (s1.rv.rga / 100) 0
  else s1

/-- REG returns the allowance to FRI (R421). -/
def State.rgaReturn (s : State) : State :=
  ({ s with bg.rga := s.rv.rga * 10000, bg.rgaTerm := s.rv.term, bg.rgaAt := s.now, bg.rgaLost := false }).budgetMoved

/-- RES_TICK: BUSV in 0.1 mV (none when it is lost), BUSI in microvolts, the measured converter power in watts, RVSTK in millivolts and
RVIS in microvolts are read; REG computes g, the converter command, p_res and the allowance (R348), drives the legs (R342), and a cell
estimate above 2.88 V stops the converter (R365). -/
def execResTick (busv : Option (BitVec 16)) (busi convW : Int) (rvstk : Nat) (rvis : Int) (s : State) : Res :=
  let ma := s.busiMa busi
  let s1 := s.busReading (busv.map busvOf) ma
  .next (if s.inReset 1 then s1
    else
      let s2 := s1.rvMeasure ma convW (stackOf rvstk) (s1.rvisDa rvis)
      let s3 := if !convOff s2.rv.mode && decide (2880 < s2.rvHigh) then
        let hot := (List.range s2.rvCells).foldl (fun b i =>
          if s2.worstCell (b + 1) < s2.worstCell (i + 1) then i else b) 0
        ((s2.emit 1 0x5022 (hot + 1) 1 (pI s2.rvHigh)).rvFault 1 (pI s2.rvHigh))
        else s2
      let s4 := s3.rvCompute.legsDrive
      if s4.inReset 0 then s4 else s4.rgaReturn)

/-- Cells that balance once a period of parity `p` begins: those of the parity that read 2.30 V or more, adjoin no open tap and lie more
than BAL_DV above the lowest, or have begun and lie more than half of it above; the other parity's as they were (R356). -/
def State.balanced (s : State) (p : Nat) : List Nat :=
  let lowest : Int := match s.rv.a.cells with
    | [] => 0
    | c :: t => ((t.foldl min c : Nat) : Int)
  (List.range s.rvCells).filter (fun i =>
    let v := s.rv.a.cell (i + 1)
    let up := v - lowest
    let was := bitOf s.rv.balancing i
    if (i + 1) % 2 == p then
      decide (2300 ≤ v) && !s.tapOpen i && !s.tapOpen (i + 1)
        && (decide ((s.rf Reg.RV_OP_CFG1_BAL_DV : Int) < up) || (was && decide ((s.rf Reg.RV_OP_CFG1_BAL_DV : Int) < 2 * up)))
    else was)

/-- BLEED_START: a period begins, and the cells of its parity that balance bleed (R355, R356). -/
def execBleedStart (s : State) : Res :=
  let p := 1 - s.rv.parity
  let l := s.balanced p
  let s1 := { s with
    rv.parity := p
    rv.periodAt := s.now
    rv.balancing := if convOff s.rv.mode then 0 else (l.map (fun i => 2 ^ i)).sum }
  .next (if s.inReset 1 then s
    else s1.rvBleed (if convOff s.rv.mode || !s.owner then 0
      else ((l.filter (fun i => (i + 1) % 2 == p)).map (fun i => 2 ^ i)).sum))

/-- BLEED_OFF: bleeding stops on every cell; the 1 mA of the slot's 85 ms counts against each cell's charge (R355, R371). -/
def execBleedOff (s : State) : Res :=
  let s1 := (List.range 16).foldl (fun (x : State) n =>
    if bitOf s.rv.bleeding n then
      let w := mget ({} : CellWear) x.rv.wear n
      { x with rv.wear := mput {} x.rv.wear n { w with bled := w.bled + 85 } }
    else x) s
  .next (s1.rvBleed 0)

/-- The lowest cell of a reading and its number, and the highest. -/
def lowCell (l : List Nat) : Nat := (List.range l.length).foldl (fun b i => if l.getD i 0 < l.getD b 0 then i else b) 0
def highCell (l : List Nat) : Nat := (List.range l.length).foldl (fun b i => if l.getD b 0 < l.getD i 0 then i else b) 0

/-- Overvoltage and undervoltage of a clean reading (R365, R366). -/
def State.rvCellFaults (s : State) : State :=
  let l := s.rv.a.cells
  if convOff s.rv.mode || l.isEmpty then s
  else
    let h := highCell l
    let hv := l.getD h 0
    let s1 := if 2880 < hv then (s.emit 1 0x5022 (h + 1) 1 hv).rvFault 1 hv else s
    let n := lowCell l
    let v := l.getD n 0
    if (s1.rv.mode = 3 ∨ s1.rv.mode = 4) ∧ v + 200 < s1.rvVmin then
      let s2 := (s1.wr Reg.RV_FELL_FAULT 1).emit 1 0x5022 (n + 1) 2 v
      if s2.chgOk then s2.rvMode 2 else s2.rvCause 8
    else s1

/-- A cell whose change over 10 s lags the stack's (R367). -/
def State.rvLeak (s : State) : State :=
  match s.rv.old.find? (fun r => decide (r.time + 10 * second ≤ s.now)) with
  | none => s
  | some o =>
    let n := s.rvCells
    let capOf := fun (i : Nat) => let c := s.rf (Reg.RV_CELL_END_CAP i); if c = 0 then 1000 else c
    let mean : Int := (((List.range n).map capOf).sum / n : Nat)
    let dst : Int := (s.rv.a.stack : Int) - o.stack
    let bad := (List.range n).find? (fun i =>
      decide ((s.rv.a.cell (i + 1) - o.cell (i + 1)) * n * capOf i < dst * mean - 30 * n * capOf i))
    match bad with
    | some i => if bitOf s.rv.causes 11 then s
      else ((s.wr Reg.RV_FELL_FAULT 1).emit 1 0x5022 (i + 1) 0 (s.rv.a.cells.getD i 0)).rvCause 11
    | none => s

/-- A capacitance segment that ends at this reading, or a new start (R371). -/
def State.rvSegment (s : State) : State :=
  let restart := fun (x : State) => { x with
    rv.segStart := some s.rv.a
    rv.wear := x.rv.wear.map (fun (e : Nat × CellWear) => (e.1, { e.2 with bled := 0 })) }
  if !s.wearOk then { s with rv.segStart := none }
  else match s.rv.segStart with
    | none => restart s
    | some b =>
      let q := s.rv.a.charge - b.charge
      let need := s.rf Reg.RV_MOD_CFG0_C_NAME * (s.rvVmax - s.rvVmin) * 20
      let dv := fun (i : Nat) => s.rv.a.cell (i + 1) - b.cell (i + 1)
      let n := s.rvCells
      if need ≤ q.natAbs ∧ (List.range n).all (fun i => decide (50 ≤ (dv i).natAbs)) then
        restart (s.upto n (fun i x =>
          let w := mget ({} : CellWear) s.rv.wear i
          x.newCap i ((q + w.bled).natAbs / ((dv i).natAbs * s.rf Reg.RV_MOD_CFG0_C_NAME))))
      else if b.time + 10 * second ≤ s.now then restart s
      else s

/-- READING_A: the clean reading of every cell, RVSTK in millivolts and RVIS in microvolts, with the judgements on it (R354, R365 to R367,
R371). -/
def execReadingA (cells : List (BitVec 16)) (rvstk : Nat) (rvis : Int) (s : State) : Res :=
  let r : CellRead := {
    time := s.now, cells := (cells.take s.rvCells).map cellMv, stack := stackOf rvstk, charge := s.rv.charge }
  let s1 := { s with
    rv.a := r
    rv.stackMv := r.stack
    rv.stackDa := s.rvisDa rvis
    rv.old := ((if s.rv.a.cells.isEmpty then [] else [s.rv.a]) ++ s.rv.old).take 101 }
  .next (if s.inReset 1 || s.rvCells == 0 then s else s1.rvCellFaults.rvLeak.rvSegment)

/-- PROBE_ON: the owner sources 1 uA into the taps k with k + p even and sinks it from the others (R357). -/
def execProbeOn (s : State) : Res :=
  let n := s.rvCells
  let src := (((List.range (n + 1)).filter (fun k => (k + s.rv.parity) % 2 == 0)).map (fun k => 2 ^ k)).sum
  .next (if s.owner && !s.inReset 1 && n != 0 then ({ s with rv.probing := src }).out (.tapProbe src) else s)

/-- The sign expected of tap `k` in this period: positive when it sources (R358). -/
def State.tapSign (s : State) (k : Nat) : Int := if (k + s.rv.parity) % 2 = 0 then 1 else -1

/-- The open taps that a probe finds (Table 8.5): `dl` gives the change of cell i, from 1. The end tap CTAP_N moves cell N
by its own movement (R358). -/
def State.probeTaps (s : State) (n : Nat) (dl : Nat → Int) (ds dst : Int) : List Nat :=
  let inner := (List.range (n - 1)).map (· + 1)
  let i := inner.filter (fun k => decide (40 < (dl k).natAbs) && decide (40 < (dl (k + 1)).natAbs)
    && decide (dl k * dl (k + 1) < 0) && decide (0 < dl k * s.tapSign k) && decide ((ds - dst).natAbs ≤ 20))
  let endOpen := fun (c : Nat) (sgn : Int) => decide (40 < (dl c).natAbs) && decide (0 < dl c * sgn)
    && decide (40 < (ds - dst).natAbs) && decide ((ds - dst - dl c).natAbs ≤ 20)
  (if endOpen 1 (-(s.tapSign 0)) then [0] else []) ++ i ++ (if endOpen n (s.tapSign n) then [n] else [])

/-- Declare a tap open (R360, R363, R364). -/
def State.declareTap (s : State) (k : Nat) (d1 d2 : Int) : State :=
  let last := match s.rv.old with
    | o :: _ => o
    | [] => s.rv.a
  let diff := (last.cell k - last.cell (k + 1)).natAbs
  let s1 := { s with
    rv.openTaps := s.rv.openTaps ||| 2 ^ k
    rv.preDiff := mput 0 s.rv.preDiff k diff }
  let s2 := ((s1.wr Reg.RV_FELL_TAP 1).emit 1 0x5020 k (pI d1) (pI d2)).rvCause 10
  if 2 ≤ s2.tapsOpen.length then s2.rvCause 7 else s2

/-- READING_B: the probe currents end, and the probe is judged (R358 to R364). The die that does not own takes it in step with the owner's
probe, which the mirror frames time (R55, R357). -/
def execReadingB (cells : List (BitVec 16)) (rvstk : Nat) (was : State) : Res :=
  let s := if was.rv.probing = 0 then was else ({ was with rv.probing := 0 }).out (.tapProbe 0)
  let stack := stackOf rvstk
  let n := s.rvCells
  let dl := fun (i : Nat) => ((cellMv (cells.getD (i - 1) 0) : Nat) : Int) - s.rv.a.cell i
  let deltas := (List.range n).map (fun i => dl (i + 1))
  let ds := deltas.sum
  let dst : Int := (stack : Int) - s.rv.a.stack
  let taps := s.probeTaps n dl ds dst
  let sense := taps.isEmpty && decide (20 < (ds - dst).natAbs)
  let clean := taps.isEmpty && !sense
  let twice := taps.filter (fun k => bitOf s.rv.pendTaps k && !s.tapOpen k)
  let s1 := { s with
    rv.delta := deltas
    rv.deltaS := ds
    rv.deltaST := dst
    rv.pendTaps := (taps.map (fun k => 2 ^ k)).sum
    rv.cleanRun := if clean then satU 7 (s.rv.cleanRun + 1) else 0
    rv.senseRun := if sense then s.rv.senseRun + 1 else 0
    rv.checkClean := if clean then s.rv.checkClean + 1 else 0 }
  let s2 := twice.foldl (fun (x : State) k =>
    if k = 0 then x.declareTap k (dl 1) 0 else if k = n then x.declareTap k (dl n) 0 else x.declareTap k (dl k) (dl (k + 1))) s1
  let s3 := if s2.rv.senseRun = 2 ∨ (2 < s2.rv.senseRun ∧ bitOf s2.rv.causes 7 = false) then
      ((s2.wr Reg.RV_FELL_TAP 1).emit 1 0x5023 (pI ds) (pI dst)).rvCause 7
    else s2
  let s4 := if 10 ≤ s3.rv.cleanRun ∧ s3.rv.openTaps ≠ 0 then
      (s3.tapsOpen.foldl (fun (x : State) k => x.emit 1 0x5021 k) { s3 with rv.openTaps := 0, rv.preDiff := [] }).rvClear 10
    else s3
  .next (if s.inReset 1 || n == 0 || !(s.owner || s.tw.stimAt.isSome) then s else s4)

/-- STACK_OVERCURRENT: RVIS, in microvolts, has read above 1.25 IMAX for 10 us: the converter stops at once with cause FAULT (R368). -/
def execStackOvercurrent (rvis : Int) (s : State) : Res :=
  let da := (s.rvisDa rvis).natAbs
  .next (if convOff s.rv.mode || decide (2 * da ≤ 25 * s.rf Reg.RV_MOD_CFG0_IMAX) then s else s.rvFault 0 da)

/-- The mean or middle of the other valid thermistors doubled: none with fewer than two (R352). -/
def medianTwice : List Int → Option Int
  | [a, b] => some (a + b)
  | [a, b, c] => some (2 * max (min a b) (min (max a b) c))
  | _ => none

/-- Judge thermistor `j` on a reading: 0 valid, 1 open, 2 short; or too far from the median of the others (R352). -/
def State.thermJudge (s : State) (rs : List (Fin 3 × Int)) (j : Nat) : Option Nat :=
  let rd := fun (k : Nat) => rs.getD k (1, 0)
  if (rd j).1 = 1 then some 0
  else if (rd j).1 = 2 then some 1
  else
    let others := (List.range 4).filter (fun k => k != j && (rd k).1 == 0 && !(mget ({} : Therm) s.rv.therms k).broken)
    match medianTwice (others.map (fun k => (rd k).2)) with
    | some m => if 30 < (2 * (rd j).2 - m).natAbs then some 2 else none
    | none => none

/-- One thermistor takes its reading: broken with 0x5011, and back in use after 1 s of valid readings (R352). -/
def State.thermTake (s : State) (was : State) (rs : List (Fin 3 × Int)) (j : Nat) : State :=
  let t := mget ({} : Therm) s.rv.therms j
  let v := (rs.getD j (1, 0)).2
  let put := fun (x : State) (y : Therm) => { x with rv.therms := mput {} x.rv.therms j y }
  match was.thermJudge rs j with
  | some c =>
    let s1 := put s { temp := v, reads := c == 2, broken := true, badAt := s.now }
    if t.broken then s1 else (s1.wr Reg.RV_FELL_TEMP 1).emit 1 0x5011 j c (pI v)
  | none => put s { t with temp := v, reads := true, broken := t.broken && decide (s.now < t.badAt + second) }

/-- A window's state after a reading: closed outside, open only 2 degrees inside (R353). -/
def windowNow (open_ : Bool) (lo hi : Int) (ch : Option (Int × Int)) : Bool :=
  match ch with
  | none => false
  | some (c, h) =>
    if hi ≤ lo then false
    else if open_ then decide (lo ≤ c ∧ h ≤ hi) else decide (lo + 2 ≤ c ∧ h ≤ hi - 2)

/-- Record a change of a window; the temperature is the reading that lies outside, and not stated otherwise (Table 8.10). -/
def State.windowTold (s : State) (which : Nat) (now_ : Bool) (lo hi : Int) (ch : Option (Int × Int)) : State :=
  let s1 := if now_ then s else s.wr Reg.RV_FELL_TEMP 1
  match ch with
  | some (c, h) =>
    if c < lo then s1.emit 1 0x5010 which (b01 now_) (pI c)
    else if hi < h then s1.emit 1 0x5010 which (b01 now_) (pI h)
    else
      let f := s1.draw 80
      f.2.emit 1 0x5010 which (b01 now_) f.1
  | none =>
    let f := s1.draw 80
    f.2.emit 1 0x5010 which (b01 now_) f.1

/-- Voltages on CTH, in 0.1 mV, at each half degree from -45.5 to 21.5: a 10 kOhm NTC of B25/85 3,435 K under 10 kOhm from 1.800 V (R86).
PRESUMED, log entry 121. -/
def ntc0 : List Nat := [
  17506, 17473, 17439, 17403, 17364, 17324, 17282, 17237, 17190, 17141, 17090, 17036, 16980, 16921, 16860, 16796, 16729, 16659,
   16586, 16511, 16432, 16350, 16265, 16177, 16086, 15992, 15894, 15793, 15689, 15582, 15471, 15357, 15239, 15118, 14994, 14867,
   14737, 14603, 14466, 14327, 14184, 14038, 13890, 13739, 13585, 13428, 13270, 13109, 12945, 12780, 12613, 12444, 12273, 12101,
   11927, 11752, 11576, 11399, 11222, 11044, 10865, 10686, 10507, 10328, 10149, 9971, 9792, 9615]

/-- The same from 22.5 to 89.5 degrees. -/
def ntc1 : List Nat := [
  9438, 9262, 9087, 8913, 8741, 8569, 8399, 8231, 8064, 7899, 7736, 7575, 7416, 7259, 7103, 6950, 6800, 6651, 6505, 6361, 6220,
   6080, 5944, 5809, 5677, 5548, 5421, 5296, 5174, 5055, 4937, 4823, 4710, 4600, 4492, 4387, 4284, 4183, 4084, 3988, 3894, 3802,
   3712, 3624, 3539, 3455, 3373, 3294, 3216, 3140, 3066, 2994, 2923, 2855, 2788, 2722, 2658, 2596, 2536, 2477, 2419, 2363, 2308,
   2255, 2203, 2152, 2103, 2055]

/-- The same from 90.5 to 157.5 degrees. -/
def ntc2 : List Nat := [
  2008, 1962, 1917, 1874, 1832, 1790, 1750, 1711, 1673, 1635, 1599, 1564, 1529, 1495, 1463, 1431, 1400, 1369, 1340, 1311, 1283,
   1255, 1228, 1202, 1177, 1152, 1128, 1104, 1081, 1059, 1037, 1015, 994, 974, 954, 935, 916, 897, 879, 862, 845, 828, 811, 795,
   780, 765, 750, 735, 721, 707, 694, 680, 667, 655, 642, 630, 619, 607, 596, 585, 574, 564, 553, 543, 533, 524, 514, 505]

/-- The voltages of the whole range, falling. -/
def ntcSteps : List Nat := ntc0 ++ ntc1 ++ ntc2

/-- A thermistor's reading: below 0.05 V a short, above 1.75 V open, and the whole degree that the voltage stands for (R86). -/
def cthRead (v : BitVec 16) : Fin 3 × Int :=
  (if v.toNat < 500 then 2 else if 17500 < v.toNat then 1 else 0, ((ntcSteps.filter (fun e => decide (v.toNat ≤ e))).length : Int) - 46)

/-- CTH_SAMPLE: each thermistor's voltage in 0.1 mV is judged, and the windows follow (R86, R352, R353, Table 8.2). -/
def execCthSample (vs : List (BitVec 16)) (s : State) : Res :=
  let rs := vs.map cthRead
  let s1 := s.upto 4 (fun j x => x.thermTake s rs j)
  let ch := s1.coldHot
  let g := fun (f : Fld) => signedOf 8 (s1.rf f)
  let c := windowNow s1.rv.chgOpen (g Reg.RV_OP_CFG2_CHG_LO) (g Reg.RV_OP_CFG2_CHG_HI) ch
  let d := windowNow s1.rv.disOpen (g Reg.RV_OP_CFG2_DIS_LO) (g Reg.RV_OP_CFG2_DIS_HI) ch
  let s2 := { s1 with rv.chgOpen := c, rv.disOpen := d }
  let s3 := if c = s.rv.chgOpen then s2 else s2.windowTold 0 c (g Reg.RV_OP_CFG2_CHG_LO) (g Reg.RV_OP_CFG2_CHG_HI) ch
  let s4 := if d = s.rv.disOpen then s3 else s3.windowTold 1 d (g Reg.RV_OP_CFG2_DIS_LO) (g Reg.RV_OP_CFG2_DIS_HI) ch
  let off := s4.rv.mode == 0
  let s5 := if off then s4 else if c then s4.rvClear 9 else s4.rvCause 9
  let s6 := if !off && c && s5.chgOk && bitOf s5.rv.causes 8 && !s5.rv.preTimeout then s5.rvClear 8 else s5
  .next (if s.inReset 1 then s else if off || d then s6 else s6.rvCause 3)

/-- CAUSE_CLEAR_TIMER: the timer of a BYPASS cause ends: CHECK, TAPS and a precharge timeout after 10 min, TEMP after 10 s
inside the window, FAULT after 1 s unless latched (Table 8.2). -/
def execCauseClearTimer (c : Fin 12) (s : State) : Res :=
  .next (if !bitOf s.rv.causes c then s
    else match c.val with
      | 2 => s.rvClear 2
      | 3 => if s.rv.disOpen then s.rvClear 3 else s
      | 5 => if s.rv.latched then s else s.rvClear 5
      | 7 => s.rvClear 7
      | 8 => if s.rv.preTimeout then ({ s with rv.preTimeout := false }).rvClear 8 else s
      | _ => s)

/-- What NEW_MODULE does: with the transition of Table 8.7 where the state was not Healthy (R373, R374). DEDUCED, log entry 35. -/
def State.newModule (s : State) : State :=
  let s1 := { s with rv.wear := [], rv.segStart := none, rv.latched := false, rv.faults := [], rv.esrAt := s.now, rv.cmd := 0 }
  let was := s.rf Reg.RV_STAT_ENDURANCE
  let s2 := (s1.wr Reg.RV_STAT_ENDURANCE 0).wr Reg.RV_CYCLES_CYCLES 0
  let s3 := s2.upto 16 (fun n x => (x.wr (Reg.RV_CELL_END_CAP n) 1000).wr (Reg.RV_CELL_END_ESR n) 100)
  let told := if was = 0 then s3 else (s3.wr Reg.RV_FELL_ENDURANCE 1).emit 1 0x5040 was 0 0
  let s4 := (told.rvCheckpoint).emit 1 0x5042 (s.rf Reg.RV_MOD_CFG0_C_NAME) s.rvCells
  let s5 := { s4 with rv.causes := setBitsOf (setBitsOf s4.rv.causes 4 4 0) 5 5 0 }
  if s5.rv.mode = 0 then s5 else if s5.bypassed then s5.rvMode 5 else s5.rvMode 1

/-- What RECHECK does: the causes that Table 8.2 lets it clear go, and CHECK follows when one did. DEDUCED, log entry 35. -/
def State.recheck (s : State) : State :=
  let may := (List.range 12).filter (fun c => bitOf s.rv.causes c && (c == 2 || c == 7 || c == 11
    || (c == 5 && s.rv.latched) || (c == 8 && s.rv.preTimeout)))
  if may.isEmpty then s
  else
    let left := may.foldl (fun m c => setBitsOf m c c 0) s.rv.causes
    let s1 := { s with rv.causes := left, rv.latched := s.rv.latched && bitOf left 5, rv.preTimeout := false }
    if s1.bypassed then s1.rvSettle else s1.rvMode 1

/-- A keyed write of RV_CTL: SAVE, NEW_MODULE and RECHECK (Table 8.11). -/
def State.rvCtl (s : State) (v : Nat) : State :=
  s.keyedWrite Reg.RV_CTL v (fun x =>
    let x1 := if bitOf v 2 then x.newModule else x
    let x2 := if bitOf v 1 then x1.recheck else x1
    if bitOf v 3 then x2.saveBlock 3 else x2)

/-- NEW_MODULE (R374). -/
def execNewModule (v : Word) (s : State) : Res := .next (s.rvCtl v.toNat)

/-- RECHECK (R346). -/
def execRecheck (v : Word) (s : State) : Res := .next (s.rvCtl v.toNat)

/-- RV_SAVE (R383, R872). -/
def execRvSave (v : Word) (s : State) : Res := .next (s.rvCtl v.toNat)

/-- The first item of R378 that fails, with its value. -/
def State.checkItem (s : State) : Option (Nat × Nat) :=
  let l := s.rv.a.cells
  let sum := l.sum
  if s.thermTemps.length < 2 then some (0, s.thermTemps.length)
  else match l.find? (fun v => decide (v < 50) || decide (s.rvVmax + 50 < v)) with
    | some v => some (1, v)
    | none =>
      if l.length < s.rvCells then some (1, 0)
      else if s.rv.a.stack + 50 < sum ∨ sum + 50 < s.rv.a.stack then some (2, pI ((sum : Int) - s.rv.a.stack))
      else if s.rv.checkClean < 3 then some (3, s.rv.checkClean)
      else none

/-- CHECK_DONE: CHECK passes into the mode the stack calls for, or fails with 0x5002 (R378). -/
def execCheckDone (s : State) : Res :=
  .next (if s.rv.mode ≠ 1 then s
    else match s.checkItem with
      | some (i, v) => (s.emit 1 0x5002 i v).rvCause 2
      | none => s.rvRun)

/-- PRECHARGE_DONE: V_low has reached VMIN (R379). -/
def execPrechargeDone (s : State) : Res := .next (if s.rv.mode = 2 ∧ (s.rvVmin : Int) ≤ s.rvLow then s.rvRun else s)

/-- PRECHARGE_TIMEOUT: BYPASS with PRECHARGE, and 0x5003 (R379). -/
def execPrechargeTimeout (s : State) : Res :=
  .next (if s.rv.mode = 2 then
    (({ s with rv.preTimeout := true }).emit 1 0x5003 (pI s.rvLow) s.rv.stackMv ((s.now - s.rv.preAt) / second)).rvCause 8
  else s)

/-- ESR_SAMPLE: a step of stack current of at least 20 % of IMAX gives each cell a sample: the change of its reading over the step, that in
microvolts of RVIS (R85, R369, R372). -/
def execEsrSample (step : Int) (dv : List (BitVec 16)) (s : State) : Res :=
  let da := (s.rvisDa step).natAbs
  let name := s.rf Reg.RV_MOD_CFG1_ESR_NAME
  .next (if s.wearOk && decide (2 * s.rf Reg.RV_MOD_CFG0_IMAX ≤ da) && decide (0 < da) then
    let s1 := { s with rv.esrAt := s.now }
    s1.upto s.rvCells (fun n x => x.newEsr n ((dv.getD n 0).toNat * 3200000000 / (65536 * da * name)))
  else s)

/-- ESR_UNMEASURED: no sample for 7 days (R372). -/
def execEsrUnmeasured (s : State) : Res :=
  .next (if s.rvCells = 0 ∨ s.inReset 1 then s else s.emit 1 0x5041 7)

/-- ENDURANCE_CHECKPOINT (R375). -/
def execEnduranceCheckpoint (s : State) : Res := .next (if s.inReset 1 then s else s.rvCheckpoint)

/-- SHED_FLAG: the shed flag reaches REG with G_CEIL; 0x5050 at its start, 0x5051 at its end (R376). -/
def execShedFlag (s : State) : Res :=
  let on := s.shedOn
  let d := ((s.rv.pGrid : Int) + s.rv.pConv) / 100
  let s1 := { s with rv.gCeil := s.gCeil / watt }
  .next (if s.inReset 1 then s
    else if on && !s.rv.shed then
      ({ s1 with rv.shed := true, rv.shedAt := s.now, rv.shedUj := 0 }).emit 1 0x5050 (pI d) s1.rv.gCeil (s.rvAvail / 1000)
    else if !on && s.rv.shed then
      ({ s1 with rv.shed := false }).emit 1 0x5051 ((s.now - s.rv.shedAt) / msec) (s.rv.shedUj / 10000000)
    else s1)

end Sys2Proof.Machine
end

