-- ==== Sys2Proof/Machine/Security.lean ====
section
/-! DEFINITION. The security engine's commands (Security and Images). -/

namespace Sys2Proof.Machine
open Sys2Proof

/-- SE_COMMIT: blows fuses until the counter equals the EPOCH loaded (R779). -/
def execSeCommit (v : Word) (s : State) : Res := .next (s.seCtl v.toNat)

/-- COMMIT_DONE: the blowing ends; the value that reads blown stands, and an unconfirmed fuse is 0xE00A (R779, Table 20.9). -/
def execCommitDone (blown : Fin 65) (ok : Bool) (s : State) : Res :=
  .next (match s.se.commit with
    | none => s
    | some e =>
      let old := s.se.counter
      if ok then (({ s with se.commit := none, se.counter := max old e }).emit 7 0xE004 old e)
      else
        let new := max old (min blown.val e)
        ({ s with se.commit := none, se.counter := new }).emit 7 0xE00A 1 new)

/-- SE_VERIFY: starts the check of a slot (R783, R794). -/
def execSeVerify (v : Word) (s : State) : Res := .next (s.seCtl v.toNat)

/-- VERIFY_DONE: checks 1 to 3 set the slot's result; a failure is 0xE002 (R777, R783). -/
def execVerifyDone (s : State) : Res :=
  .next (match s.se.verify with
    | none => s
    | some slot =>
      let s1 := { s with se.verify := none }
      match s1.imgBad slot with
      | none => s1.slotResult slot 1
      | some b => (s1.slotResult slot 2).emit 7 0xE002 slot b.check b.item)

/-- SE_RELOCK: ends the unlock and closes the provisioning window (R789, R790). -/
def execSeRelock (v : Word) (s : State) : Res := .next (s.seCtl v.toNat)

/-- SLOT_ACTIVE_WRITE: ACTIVE takes a slot whose result is passed, and is saved to flash; another is discarded with LOCK_REJECT
(R783). -/
def execSlotActiveWrite (v : Word) (s : State) : Res :=
  let slot := bitsOf v.toNat 8 8
  .next (match s.serve Reg.SE_SLOT true with
    | (false, s1) => s1
    | (true, s1) =>
      let s2 := s1.rsvdCheck Reg.SE_SLOT v.toNat
      if !keyOk v.toNat then s1.refuse
      else if s1.rf (if slot = 0 then Reg.SE_SLOT_RESULT_A else Reg.SE_SLOT_RESULT_B) ≠ 1 then
        s2.glErr Reg.GL_STATUS_LOCK_REJECT Reg.SE_SLOT
      else { s2.wr Reg.SE_SLOT_ACTIVE slot with flash := mins s2.flash Reg.SE_SLOT_ACTIVE.key slot })

/-- CHAL_REQUEST: issues a challenge (R785, R787). -/
def execChalRequest (v : Word) (s : State) : Res := .next (s.seChal v.toNat)

/-- CHAL_SUBMIT: hands the response of SE_RESP over for its check (R786). -/
def execChalSubmit (v : Word) (s : State) : Res := .next (s.seChal v.toNat)

/-- CHAL_CANCEL: ends a pending challenge as timed out (R787). -/
def execChalCancel (v : Word) (s : State) : Res := .next (s.seChal v.toNat)

/-- CHAL_TIMEOUT: a challenge without a response in 60 s is refused with reason 0 (R786, R787). -/
def execChalTimeout (s : State) : Res :=
  .next (match s.se.chal with
    | none => s
    | some c => if c.resp.isSome then s else s.chalRefuse 0 0)

/-- RESPONSE_CHECK_DONE: the check grants or refuses; `fuseOk` says that the fuses of a grant read as blown (R786, R787, Table
20.9). -/
def execResponseCheckDone (fuseOk : Bool) (s : State) : Res := .next (s.respDone fuseOk)

/-- UPD_GO: the update window is to be programmed into the inactive slot; while BUSY it is discarded with LOCK_REJECT (R781). -/
def execUpdGo (v : Word) (s : State) : Res :=
  .next (s.keyedWrite Reg.SE_UPD_CTL v.toNat (fun x =>
    if bitOf v.toNat 1 then
      if x.se.update.isSome then x.glErr Reg.GL_STATUS_LOCK_REJECT Reg.SE_UPD_CTL
      else { x with se.update := some (bitsOf v.toNat 19 8), se.updSlot := x.idleSlot }
    else x))

/-- UPD_PROGRAM_DONE: the sector has been erased where OFFSET starts one, and the window programmed and read back; a failed
read-back sets FAULT, with 0xE00A, and leaves the 4 KiB undefined; the slot's result is unknown (R781 to R783). The window is taken as it
stands then. DESIGN CHOICE, log entry 148. -/
def execUpdProgramDone (ok : Bool) (s : State) : Res :=
  .next (match s.se.update with
    | none => s
    | some off =>
      if s.lg.tail then s
      else
        let slot := s.se.updSlot
        let base := slot * 2 ^ 24 + off * 4096
        let old := if off % 16 = 0 then s.se.image.filter (fun e => decide (e.1 < base) || decide (base + 65536 ≤ e.1)) else s.se.image
        let byte := fun i => if ok then s.rf (Reg.SE_UPD_WIN_WORD (i / 4)) / 256 ^ (i % 4) % 256
          else Config.freeValue 51 (s.free + i) % 256
        let img := (List.range 4096).foldl (fun m i => mput (0xFF : Byte) m (base + i) (BitVec.ofNat 8 (byte i))) old
        let s1 := { s with se.update := none, se.image := img, free := s.free + 4096 }
        let s2 := s1.slotResult slot 0
        if ok then s2 else (s2.wr Reg.SE_UPD_CTL_FAULT 1).emit 7 0xE00A 0 off)

/-- MBOX_GO: an SPDM request is submitted; while BUSY it is discarded (R791). -/
def execMboxGo (v : Word) (s : State) : Res :=
  .next (match s.serve Reg.SE_MBOX_CTL true with
    | (false, s1) => s1
    | (true, s1) =>
      if bitOf v.toNat 15 && s1.se.mbox then s1.rsvdCheck Reg.SE_MBOX_CTL v.toNat
      else
        let s2 := s1.writeFields Reg.SE_MBOX_CTL v.toNat
        if bitOf v.toNat 15 then { s2 with se.mbox := true } else s2)

/-- MBOX_RESPONSE: the response stands in SE_MBOX_RSP with its length, and VEC is raised (R791, R792). A LEN above 4,096 is taken as
4,096. DESIGN CHOICE, log entry 148. -/
def execMboxResponse (s : State) : Res :=
  .next (if !s.se.mbox || s.inReset 5 then s
    else
      let req := (List.range (min 4096 (s.rf Reg.SE_MBOX_CTL_LEN))).map (fun i => s.rf (Reg.SE_MBOX_REQ_WORD (i / 4)) / 256 ^ (i % 4) % 256)
      let d := s.draw 52
      let r := (Config.spdm req s.measurements d.1).take 4096
      let s1 := ({ d.2 with se.mbox := false }).upto 1024 (fun i x => x.wr (Reg.SE_MBOX_RSP_WORD i) (ofLe ((r.drop (4 * i)).take 4)))
      (s1.wr Reg.SE_MBOX_CTL_LEN r.length).raiseVec (s.rf Reg.SE_MBOX_CTL_VEC))

/-- PROV_WINDOW_CLOSE: 10 s after the grant the locks bind again (R790). -/
def execProvWindowClose (s : State) : Res := .next s.provClose

end Sys2Proof.Machine
end

