-- ==== Sys2Proof/Machine/EndOps.lean ====
section
/-! DEFINITION. The tile endpoint and the die port that the manual specifies for a compute die: states, messages, allowance, lease
and backoff (The Sluice Endpoint). -/

namespace Sys2Proof.Machine
open Sys2Proof

/-- The endpoint of a tile. -/
def State.endp (s : State) (t : Nat) : Endpoint := mget {} s.sl.ends t

/-- Change an endpoint. -/
def State.setEndp (s : State) (t : Nat) (e : Endpoint) : State := { s with sl.ends := mput {} s.sl.ends t e }

/-- The die port of compute die `n`. -/
def State.port (s : State) (n : Nat) : DiePort := mget {} s.sl.ports n

/-- Change a die port. -/
def State.setPort (s : State) (n : Nat) (p : DiePort) : State := { s with sl.ports := mput {} s.sl.ports n p }

/-- The compute die of a tile: the one on which it was first configured, and before that the one whose link SL_TILE_CFG gives. DESIGN
CHOICE, log entry 127. -/
def State.tileDie (s : State) (t : Nat) : Nat := (s.endp t).die.getD (s.rf (Reg.SL_TILE_CFG_LINK t))

/-- The link that carries the traffic of die `n` is up. -/
def State.portUp (s : State) (n : Nat) : Bool :=
  let p := s.port n
  (p.traffic == 1 && p.up) || (p.traffic == 2 && p.otherUp)

/-- The flit layer of the die port on its link to this die, or to the other KG8. -/
def DiePort.flit (p : DiePort) (other : Bool) : FlitLink := if other then p.flOther else p.fl

/-- Change it. -/
def DiePort.setFlit (p : DiePort) (other : Bool) (l : FlitLink) : DiePort :=
  if other then { p with flOther := l } else { p with fl := l }

/-- The next message in round-robin order: the oldest one of the first tile after the tile served last (R206). -/
def rrNext (q : List (Nat × Msg)) (turn : Nat) : Option (Nat × Msg) :=
  let tiles := q.map (·.1)
  match (match (tiles.filter (fun t => decide (turn < t))).min? with
    | some t => some t
    | none => tiles.min?) with
  | some t => q.find? (fun e => e.1 == t)
  | none => none

/-- Up to `n` messages in round-robin order: the messages, what stays, and the tile served last (R206). -/
def rrTake : Nat → List (Nat × Msg) → Nat → List Msg × List (Nat × Msg) × Nat
  | 0, q, turn => ([], q, turn)
  | n + 1, q, turn => match rrNext q turn with
    | none => ([], q, turn)
    | some e =>
      let r := rrTake n (q.erase e) e.1
      (e.2 :: r.1, r.2)

/-- Flits of waiting messages leave on the traffic link, behind those that were already waiting there (R206, R209, R213). -/
def DiePort.serve : Nat → DiePort → DiePort × List (List Nat)
  | 0, p => (p, [])
  | k + 1, p =>
    let other := p.traffic == 2
    let l := p.flit other
    if p.queue.isEmpty || !l.txWait.isEmpty || decide (64 ≤ l.txHeld.length) then (p, [])
    else
      let x := rrTake 4 p.queue p.turn
      let f := ({ l with txWait := x.1 }).pump 1
      let r := DiePort.serve k ({ p with queue := x.2.1, turn := x.2.2 }.setFlit other f.1)
      (r.1, f.2 ++ r.2)

/-- The die port of die `n` takes a new state and puts flits out on one of its links. -/
def State.putDie (s : State) (n : Nat) (other : Bool) (r : DiePort × List (List Nat)) : State :=
  r.2.foldl (fun x f => x.outEnd (.dieFlit n other f)) (s.setPort n r.1)

/-- The die port sends what waits on the traffic link (R206, R249). -/
def State.portServe (s : State) (n : Nat) : State := s.putDie n ((s.port n).traffic == 2) ((s.port n).serve 64)

/-- A tile's message waits at its die port; without a live traffic link it is not sent (R206, R249). DESIGN CHOICE, log entry 127. -/
def State.upQueue (s : State) (t : Nat) (m : Msg) : State :=
  let n := s.tileDie t
  let s1 := s.setEndp t { s.endp t with sent := mput 0 (s.endp t).sent (mByte m 0) m }
  if s.portUp n then s1.setPort n { s.port n with queue := (s.port n).queue ++ [(t, m)] } else s1

/-- A tile sends a message: it goes upstream on its die's traffic link (R206, R249). -/
def State.upSend (s : State) (t : Nat) (m : Msg) : State := (s.upQueue t m).portServe (s.tileDie t)

/-- An upstream message of a tile: MODE 0 with its ID (R216). -/
def upMsg (ty t : Nat) (fs : List (Nat × Nat × Nat)) : Msg := mkMsg ty 0 t fs

/-- The INTENT that asks for `p` (Table 5.4). -/
def intentMsg (t : Nat) (p : Pend) : Msg :=
  upMsg 1 t [(3, 1, p.seq), (4, 1, p.cls), (5, 2, p.lease), (7, 1, b01 p.barrier + 2 * b01 p.renew), (8, 2, p.op), (10, 2, p.layer),
    (12, 2, p.grp)]

/-- RELEASE (Table 5.4). -/
def releaseMsg (t seq cls : Nat) (cancel : Bool) : Msg := upMsg 2 t [(3, 1, seq), (4, 1, cls), (5, 1, b01 cancel)]

/-- OPEN (Table 5.4). -/
def openMsg (t : Nat) (e : Endpoint) : Msg := upMsg 3 t [(3, 1, 1), (4, 1, e.askMax), (5, 1, e.caps), (6, 1, e.sensors)]

/-- LEASE_LEFT in microseconds. -/
def Endpoint.leaseLeft (e : Endpoint) (now : Nat) : Nat := if e.allow = 0 then 0 else e.lease - (now - e.leaseAt) / usec

/-- STATE: SEQ of the outstanding or last granted INTENT (Table 5.4). -/
def stateMsg (t : Nat) (e : Endpoint) (now : Nat) : Msg :=
  let q := match e.out with
    | some p => p.seq
    | none => e.lastSeq
  upMsg 4 t [(3, 1, q), (4, 1, e.st), (5, 1, e.allow), (6, 2, e.leaseLeft now)]

/-- The backoff of messages of a TYPE is forgotten: none of them is sent again. -/
def Endpoint.unback (e : Endpoint) (ty : Nat) : Endpoint := { e with backs := e.backs.filter (fun b => b.1 != ty) }

/-- An answer other than QFULL: every base returns to 2 us (R234). -/
def Endpoint.answered (e : Endpoint) : Endpoint :=
  { e with backs := e.backs.map (fun (b : Nat × Backoff) => (b.1, { b.2 with base := 2, at_ := none })) }

/-- A new INTENT: it takes the next SEQ, and the endpoint is ASKING (R222, R223). -/
def State.ask (s : State) (t : Nat) (p : Pend) : State :=
  let e := s.endp t
  let q := { p with seq := e.seq }
  (s.setEndp t ({ e with st := 2, out := some q, seq := (e.seq + 1) % 256 }.unback 1)).upSend t (intentMsg t q)

/-- IDLE without an allowance, else RUNNING. -/
def restState (a : Nat) : Nat := if a = 0 then 1 else 4

/-- The endpoint falls to CLAMPED: floor class, no allowance, its INTENT abandoned (Table 5.6). -/
def Endpoint.clamped (e : Endpoint) : Endpoint :=
  { e with st := 0, allow := 0, out := none, heldCode := 0, backs := [], withdrawn := [] }

/-- The endpoint accepts a downstream message of a type (R215, R216, Table 5.2). -/
def Endpoint.takes (e : Endpoint) (t ty : Nat) (m : Msg) : Bool :=
  let a := mPair m 1 % 0x4000
  mByte m 0 == ty && match mPair m 1 / 0x4000 with
    | 0 => a == t
    | 1 => e.configured && a == e.part
    | 2 => e.slots.any (fun x => x.2 == a)
    | _ => a == 0

/-- DOMAIN_MASK names the endpoint's domain (R219). -/
def Endpoint.inMask (e : Endpoint) (m : Msg) : Bool := e.configured && bitOf (mByte m 4) e.dom

/-- A valid GRADE is applied; clocks that were gated run again (R241, R242). -/
def Endpoint.withGrade (e : Endpoint) (g f : Nat) : Endpoint :=
  if bitOf g 7 then { e with grade := g % 32, freq := f % 4096, gated := false } else { e with gated := false }

/-- A grant that answers a withdrawn INTENT: RELEASE with CANCEL and the allowance in force (R225, R234). -/
def State.declineGrant (s : State) (t seq : Nat) : State :=
  let e := s.endp t
  (s.setEndp t { e with withdrawn := e.withdrawn.filter (fun w => w.1 != seq) }.answered).upSend t (releaseMsg t seq e.allow true)

/-- The outstanding INTENT is granted a class: the tile ramps, and its lease starts from receipt; a renewal whose lease has
expired is declined, and asked again without RENEW (R223, R226, R227, R231). -/
def State.granted (s : State) (t : Nat) (p : Pend) (cls grade freq : Nat) : State :=
  let e := s.endp t
  let e1 := e.answered.unback 1
  if p.renew && e.allow == 0 then
    ((s.setEndp t { e1 with st := 1, out := none }).declineGrant t p.seq).ask t { p with renew := false }
  else
    s.setEndp t ({ e1 with
      st := 3, out := none, allow := cls, rampFrom := e.allow, lease := p.lease, leaseAt := s.now, lastSeq := p.seq }.withGrade grade freq)

/-- A QFULL starts the backoff of a message: 2 us, doubling to 256 us with each further QFULL for the same message; another message of
the TYPE starts at 2 us, as does any after 256 us without a QFULL (R234, R236). DESIGN CHOICE, log entry 128. -/
def Endpoint.qfull (e : Endpoint) (now : Nat) (m : Msg) : Endpoint :=
  let b := mget ({} : Backoff) e.backs (mByte m 0)
  let again := match b.at_ with
    | some t => b.msg == m && decide (now ≤ t + 256 * usec)
    | none => false
  { e with backs := mput {} e.backs (mByte m 0) {
      msg := m, base := if again then min 256 (2 * b.base) else 2, at_ := some now, waits := true } }

/-- The last message sent of a TYPE, when a NAK with this SEQ refuses it; an INTENT stands in `out` (R222, R234, R236). -/
def Endpoint.sentAs (e : Endpoint) (ty seq : Nat) : Option Msg :=
  if ty = 1 ∨ !e.sent.any (fun x => x.1 == ty) ∨ mSeq (mget 0 e.sent ty) ≠ seq then none else some (mget 0 e.sent ty)

/-- A NAK (Table 5.7). Those of an INTENT must carry its SEQ (R222); a BADTAG is recorded for diagnostics (R233). -/
def State.nakIn (s : State) (t : Nat) (m : Msg) : State :=
  let e0 := s.endp t
  let code := mByte m 4
  let echo := mByte m 5
  let e := if code = nakBadtag then { e0 with diag := some (mByte m 3, echo, mByte m 6) } else e0
  if code = nakClosed then
    if e.st = 0 then s
    else if echo = 1 ∧ !(e.out.any (fun p => p.seq == mByte m 3)) then s
    else s.setEndp t e.clamped
  else if echo = 1 then
    match e.out with
    | none => s.setEndp t e
    | some p =>
      if e.st ≠ 2 ∨ p.seq ≠ mByte m 3 then s.setEndp t e
      else if code = nakQfull then s.setEndp t (e.qfull s.now (intentMsg t p))
      else if code = nakBadtag then s.setEndp t ({ e with st := restState e.allow, out := none }.answered.unback 1)
      else if 2 ≤ code ∧ code ≤ 5 then
        s.setEndp t ({ e with st := 5, heldCode := code, out := none }.answered.unback 1)
      else s.setEndp t e
  else if code = nakQfull then
    match e.sentAs echo (mByte m 3) with
    | some w => s.setEndp t (e.qfull s.now w)
    | none => s
  else s.setEndp t e.answered

/-- CONFIG, on compute die `n`: from CLAMPED the endpoint opens, with SEQ 0 and empty slots; in an open state the fields apply (R222,
R223, R242). -/
def Endpoint.config (e : Endpoint) (n : Nat) (m : Msg) : Endpoint :=
  let e1 := { (e.answered.unback 3) with
    die := some n
    floor := mByte m 4, part := mByte m 5 % 64, dom := mByte m 6 % 8, maxcls := mByte m 7, ramp := mByte m 8, grade := mByte m 9 % 32
    freq := mPair m 10 % 4096, gated := false, configured := true, seq := 0 }
  if e.st = 0 then { e1.clamped with st := 1, slots := [] } else e1

/-- Tiles of compute die `n`: those with an endpoint on it, and those that SL_TILE_CFG expects on it. -/
def State.dieTiles (s : State) (n : Nat) : List Nat :=
  let l := (s.sl.ends.map (·.1)).filter (fun t => s.tileDie t == n)
  l ++ (s.expectedTiles n).filter (fun t => s.tileDie t == n && !l.contains t)

/-- The messages with which a tile answers SYNC: OPEN while CLAMPED, else STATE, and its outstanding INTENT again (R251). -/
def State.syncMsgs (s : State) (t : Nat) : List Msg :=
  let e := s.endp t
  if e.st = 0 then [openMsg t e]
  else stateMsg t e s.now :: match e.st, e.out with
    | 2, some p => [intentMsg t p]
    | _, _ => []

/-- The port's traffic moves to the link of a SYNC: a link that was not up starts its session, and on the other link than before what
the old one had not acknowledged goes first (R249, R250). -/
def DiePort.moved (p : DiePort) (other : Bool) : DiePort :=
  let want := if other then 2 else 1
  let up := if other then p.otherUp else p.up
  let l : FlitLink := if up then p.flit other else {}
  let old := p.flit (!other)
  let p1 := { p with
    traffic := want, up := p.up || !other, otherUp := p.otherUp || other, unacked := [] }
  if p.traffic = 0 ∨ p.traffic = want then p1.setFlit other l
  else (p1.setFlit (!other) { old with txHeld := [], txWait := [] }).setFlit other { l with txWait := l.txWait ++ p.unacked ++ old.open_ }

/-- SYNC on a link of die `n`: traffic moves to it, what the old link had not acknowledged is sent again in its order, and every tile
hears of it (R206, R249 to R251). -/
def State.syncIn (s : State) (n : Nat) (other : Bool) : State :=
  let p := (s.port n).moved other
  let f := (p.flit other).pump 64
  let s1 := s.putDie n other (p.setFlit other f.1, f.2)
  (s1.each (s1.dieTiles n) (fun t x => (x.syncMsgs t).foldl (fun y m => y.upQueue t m) x)).portServe n

/-- The loss of a link at the die port of die `n`: that of the traffic link takes every tile of the die to floor class and clears its
pause duty; that of the other link changes nothing for the tiles (R247, R248). -/
def State.portLoss (s : State) (n : Nat) (other : Bool) : State :=
  let p := s.port n
  let p1 := if other then { p with otherUp := false } else { p with up := false }
  if p.traffic = (if other then 2 else 1) then
    let s1 := s.setPort n ({ p1 with unacked := p.unacked ++ (p.flit other).open_ ++ p.queue.map Prod.snd, queue := [] }.setFlit other {})
    s1.each (s1.dieTiles n) (fun t x => x.setEndp t { (x.endp t).clamped with pause := 0 })
  else s.setPort n (p1.setFlit other {})

/-- The pause duty that a tile applies: the larger of its PAUSE duty and the accepted CLAMP code; in CLAMPED with the link lost, the
CLAMP code alone (R246). -/
def State.pauseDuty (s : State) (t : Nat) : Nat :=
  let n := s.tileDie t
  let c := (s.port n).clamp
  if (s.endp t).st = 0 ∧ s.portUp n = false then c else max (s.endp t).pause c

/-- Tile `t` stalls compute issue now: `d` of the 16 slots of 250 ns of each 4 us, from slot `t` mod 16 on, wrapping (R244). -/
def State.stalled (s : State) (t : Nat) : Bool := decide ((s.now / 250 % 16 + 16 - t % 16) % 16 < s.pauseDuty t)

/-- Class above floor that a grant's ramp has reached: the raise spread evenly over RAMP x 10 ns from receipt (R226). -/
def Endpoint.ramped (e : Endpoint) (now : Nat) : Nat :=
  if e.st = 3 then
    let d := e.ramp * 10
    if e.leaseAt + d ≤ now ∨ e.allow ≤ e.rampFrom then e.allow
    else e.rampFrom + (e.allow - e.rampFrom) * (now - e.leaseAt) / d
  else e.allow

/-- The most that a tile may draw now, in classes of 4 mA (R220, R226, R242, R244): before its first CONFIG its boot floor, which is at
or below the FLOOR provisioned for it; its floor class in CLAMPED, while gated and in a stalled slot; else floor class plus A. -/
def State.drawLimit (s : State) (t : Nat) : Nat :=
  let e := s.endp t
  if !e.configured then min (Config.bootFloor t) (s.rf (Reg.SL_TILE_CFG_FLOOR t))
  else if e.st = 0 ∨ e.gated = true ∨ s.stalled t = true then e.floor
  else e.floor + e.ramped s.now

/-- TEMP code of a reading in thousandths of a degree: the lowest code at or above it (R239). -/
def tempEncode (mdeg : Int) : Nat := (clampI 0 0x3FE ((mdeg + 40000 + 249) / 250)).toNat

/-- The CLEARS bit that ends a HELD wait: CAP and FLOOR 0, SHED 1, THERMAL 2 (Table 5.7). -/
def clearsBit (code : Nat) : Nat := if code = nakShed then 1 else if code = nakThermal then 2 else 0

/-- GRANT, with the SEQ of the outstanding INTENT, or of a withdrawn one (R222, R223, R225). -/
def State.grantIn (s : State) (t : Nat) (m : Msg) : State :=
  let e := s.endp t
  let q := mByte m 3
  let late := if e.withdrawn.any (fun w => w.1 == q) then s.declineGrant t q else s
  match e.out with
  | some p => if e.st = 2 ∧ p.seq = q then s.granted t p (mByte m 4) (mByte m 9) (mPair m 10) else late
  | none => late

/-- MGRANT, for the BARRIER_GRP of the outstanding INTENT, or of a withdrawn one (R224, R225). -/
def State.mgrantIn (s : State) (t : Nat) (m : Msg) : State :=
  let e := s.endp t
  let g := mPair m 12 % 4096
  let cls := mByte m 4
  let late := match e.withdrawn.find? (fun w => w.2 == g) with
    | some w => s.declineGrant t w.1
    | none => s
  match e.out with
  | some p =>
    if e.st = 2 ∧ p.grp = g then s.granted t p (if cls = 0 then p.cls else min p.cls cls) (mByte m 9) (mPair m 10) else late
  | none => late

/-- A downstream message other than SYNC at a tile that accepts it (Table 5.3, Table 5.6, R216, R218, R219). -/
def State.endTake (s : State) (t : Nat) (m : Msg) : State :=
  let e := s.endp t
  match mByte m 0 with
  | 0x81 => s.grantIn t m
  | 0x82 => s.mgrantIn t m
  | 0x83 => s.nakIn t m
  | 0x84 =>
    if e.st == 5 && bitOf (mByte m 4) (clearsBit e.heldCode) then s.setEndp t { e with st := restState e.allow, heldCode := 0 } else s
  | 0x85 => if e.st != 0 || s.portUp (s.tileDie t) then s.setEndp t (e.config (s.tileDie t) m) else s
  | 0x86 =>
    let slot := mByte m 4 % 4
    let rest := e.slots.filter (fun x => x.1 != slot)
    s.setEndp t { e with slots := if bitOf (mPair m 5) 15 then rest ++ [(slot, mPair m 5 % 4096)] else rest }
  | 0x87 =>
    let f := mPair m 6 % 4096
    if e.inMask m then
      s.setEndp t (if f = 0 then { e with gated := true } else { e with grade := mByte m 5 % 32, freq := f, gated := false })
    else s
  | 0x88 => if e.inMask m then s.setEndp t { e with pause := mByte m 5 % 16 } else s
  | 0x89 => if e.inMask m && bitOf e.caps 0 then s.setEndp t { e with refresh := min 2 (mByte m 5 % 4) } else s
  | 0x8A => s.upSend t (upMsg 7 t [(4, 1, mByte m 4), (5, 8, 2 ^ 64 - 1 - ofLe ((List.range 8).map (fun i => mByte m (5 + i))))])
  | 0x8B => if e.st != 0 then s.setEndp t e.clamped else s
  | _ => s

/-- A message of a TYPE reaches a tile, which discards what it does not accept (R216, Table 5.2). -/
def State.endIn (s : State) (t ty : Nat) (m : Msg) : State := if (s.endp t).takes t ty m then s.endTake t m else s

/-- A downstream message at the die port goes to every tile of the die, and SYNC to the port (R205, R249). -/
def State.dieDeliver (s : State) (n : Nat) (other : Bool) (m : Msg) : State :=
  if mByte m 0 = 0x8C then (if mPair m 1 = 0xC000 then s.syncIn n other else s)
  else s.each (s.dieTiles n) (fun t x => x.endIn t (mByte m 0) m)

/-- A flit arrives at the die port of die `n` (R205, R210 to R214); a link that was not up starts its session with it. -/
def State.portFlit (s : State) (n : Nat) (other : Bool) (f : BitVec 512) : State :=
  let p := s.port n
  let up := if other then p.otherUp else p.up
  let r := (if up then p.flit other else {}).recv f
  let p1 := if other then { p with otherUp := true } else { p with up := true }
  let s1 := s.putDie n other (p1.setFlit other r.link, r.flits)
  if r.lost then s1.portLoss n other
  else (r.msgs.foldl (fun x m => x.dieDeliver n other m) s1).portServe n

end Sys2Proof.Machine
end

