-- ==== Sys2Proof/Machine/Sluice.lean ====
section
/-! DEFINITION. The commands of the Sluice on the KG8's side (The Sluice Endpoint). -/

namespace Sys2Proof.Machine
open Sys2Proof

/-- LINK_TRAIN_ATTEMPT_FAIL: the third failure in a row disables the link (R208). -/
def execLinkTrainAttemptFail (n : Fin 16) (s : State) : Res :=
  let l := s.link n
  .next (if s.inReset 2 || l.st != 1 then s
    else (s.setLink n { l with
      fails := l.fails + 1, barred := decide (3 ≤ l.fails + 1), st := if 3 ≤ l.fails + 1 then 4 else 3 }).emit 2 0x3003 n (l.fails + 1) |>.runCheck)

/-- LINK_RETRY: a new attempt on an enabled link that is neither active, training nor disabled by R208. -/
def execLinkRetry (n : Fin 16) (s : State) : Res :=
  let st := (s.link n).st
  .next (if s.inReset 2 || !s.linkOn n || !(st == 0 || st == 3) then s else s.linkTrain n)

/-- LINK_ACTIVE: a training link is active; the owner sends SYNC on it, and degraded training is recorded; links do not train without
REFCLK_100 (R60, R208, R250, Table 2.8). -/
def execLinkActive (n : Fin 16) (rate : Fin 3) (x8 : Bool) (s : State) : Res :=
  let l := s.link n
  .next (if s.inReset 2 || l.st != 1 || !s.edge.refclkOk then s
    else
      let s1 := s.setLink n { l.ended 2 with fails := 0, lost := false, rate := rate, x8 := x8, traffic := s.owner }
      let s2 := if rate.val = 0 ∧ x8 = false then s1 else s1.emit 2 0x0030 n (16 / 2 ^ rate.val) (if x8 then 8 else 16)
      ((((s2.sendLink n (mkMsg 0x8C 3 0 [])).enumCheck n).clampAll).runCheck))

/-- A link's enable bit after a write of SL_LINK_CTL: a link disabled is held in reset, one enabled begins training (R207, Table
5.13). DEDUCED, log entry 59. -/
def State.linkEnable (s : State) (was : Nat) (n : Nat) : State :=
  let on := s.linkOn n
  if bitOf was n = on then s
  else if on then s.linkTrain n
  else
    let y := if (s.link n).st = 2 then s.linkLoss n 0 else s
    y.setLink n ((y.link n).ended 0)

/-- RETRAIN: SL_LINK_CTL takes the write, and RETRAIN starts training the links it names (R208, Table 5.13). -/
def execRetrain (v : Word) (s : State) : Res :=
  .next (s.hostWrite Reg.SL_LINK_CTL_ENABLE.addr v.toNat (fun x =>
    let y := x.upto 16 (fun n z => z.linkEnable (s.rf Reg.SL_LINK_CTL_ENABLE) n)
    y.upto 16 (fun n z => if bitOf v.toNat (16 + n) && z.linkOn n then
        let w := z.linkLoss n 0
        (w.setLink n { w.link n with fails := 0, barred := false }).linkTrain n
      else z)))

/-- FLIT_RECEIVED: at this die's end of link `n` (side 0), or at the die port of compute die `n` on its link to this die (1) or to the
other KG8 (2) (R205, R209 to R214). DESIGN CHOICE, log entry 126. -/
def execFlitReceived (n : Fin 16) (f : BitVec 512) (s : State) (side : Fin 3 := 0) : Res :=
  .next (if side.val = 0 then s.flitIn n f else s.portFlit n (side.val == 2) f)

/-- LINK_LOSS (R214, R248). -/
def execLinkLoss (n : Fin 16) (cause : Fin 3) (s : State) : Res := .next (if s.inReset 2 then s else s.linkLoss n cause)

/-- LINK_LOSS_RETURN: the reservations of the tiles of a lost link return (R248). -/
def execLinkLossReturn (n : Fin 16) (s : State) : Res :=
  let l := (s.link n).losing
  .next (((s.setLink n { s.link n with losing := [] }).giveBackAll (l.filter (fun t => (s.tile t).returning))).napAdvance)

/-- INTENT_RECEIVED (R47, R217, R237, R435 to R438). -/
def execIntentReceived (n : Fin 16) (m : Msg) (s : State) : Res := .next (s.upHandle n m)

/-- RELEASE_RECEIVED (R217, R232). -/
def execReleaseReceived (n : Fin 16) (m : Msg) (s : State) : Res := .next (s.upHandle n m)

/-- OPEN_RECEIVED: a malformed OPEN fails check 1 besides its NAK (R217, R252 to R254). -/
def execOpenReceived (n : Fin 16) (m : Msg) (s : State) : Res := .next (s.upHandle n m)

/-- STATE_RECEIVED (R217, R251). -/
def execStateReceived (n : Fin 16) (m : Msg) (s : State) : Res := .next (s.upHandle n m)

/-- TEMP_RECEIVED (R217, R236, R410). -/
def execTempReceived (n : Fin 16) (m : Msg) (s : State) : Res := .next (s.upHandle n m)

/-- DROOP_RECEIVED (R217, R236). -/
def execDroopReceived (n : Fin 16) (m : Msg) (s : State) : Res := .next (s.upHandle n m)

/-- PROBEREPLY_RECEIVED (R217, R252). -/
def execProbereplyReceived (n : Fin 16) (m : Msg) (s : State) : Res := .next (s.upHandle n m)

/-- PROBE_TIMEOUT: no correct PROBEREPLY within 2 us (R252). -/
def execProbeTimeout (t : Fin 16384) (s : State) : Res :=
  .next (if (s.tile t).probe.isSome then (s.nonconform (s.tile t).link t 5).runCheck else s)

/-- RESERVATION_RETURN (R228, R254). -/
def execReservationReturn (t : Fin 16384) (s : State) : Res := .next (s.giveBack t).napAdvance

/-- The reasons that a BUDGET to a partition clears now: CAP and FLOOR while it is within its allocation, SHED while no shed is in
force, THERMAL while no stop and no regulation fault forbids its domains (R235). -/
def State.clearsNow (s : State) (p : Nat) : Nat :=
  b01 (decide (s.committed p ≤ s.alloc p)) + 2 * b01 (!s.shedOn)
    + 4 * b01 (s.th.stop == 0 && (s.partDoms p).all (fun d => (s.rail d).mode != 5))

/-- BUDGET_REPEAT: BUDGET is sent again while a tile of the partition is HELD (R235). -/
def execBudgetRepeat (p : Fin 64) (s : State) : Res :=
  .next (if (s.partTiles p).any (fun t => (s.tile t).held.isSome) then s.sendBudget p (s.clearsNow p) (s.headroom p) else s)

/-- PROFILE_SAVE_SL: SL_CTL.SAVE writes the Sluice configuration to flash, and the CLAMP codes follow LOSS_DUTY (R248, R256, R872). -/
def execProfileSaveSl (v : Word) (s : State) : Res :=
  .next (s.hostWrite Reg.SL_CTL_SAVE.addr v.toNat (fun x =>
    (if bitOf v.toNat 24 then x.saveBlock 1 else x).clampAll))

end Sys2Proof.Machine
end

