-- ==== Sys2Proof/Machine/Thermal.lean ====
section
/-! DEFINITION. The thermal commands (Thermal Sensing and Action). -/

namespace Sys2Proof.Machine
open Sys2Proof

/-- Thermal logic in FRI acts: FRI is out of reset; a Halt Sweep does not stop it (R415). -/
def State.thOn (s : State) : Bool := !s.inReset 0

/-- Thermal logic acts on the die that owns the power stages (R412). -/
def State.thOwn (s : State) : Bool := s.thOn && s.owner

/-- ZONE_TICK: every zone's temperature and band, and what follows from them (R386, R395 to R399). -/
def execZoneTick (s : State) : Res := .next (if s.thOwn then s.zoneTick else s)

/-- TEMP code of an I3C sensor's 16 bits: value / 2^SHIFT degrees (Table 9.15). -/
def State.i3cCode (s : State) (i v : Nat) : Nat :=
  (clampI 0 0x3FE (signedOf 16 v * 4 / 2 ^ s.rf (Reg.TH_I3C_CFG_SHIFT i) + 160)).toNat

/-- What the microvolts between the two base-emitter voltages of remote-diode pair `i` stand for: the temperature in 0.025 degrees above
-40, by the pair's ideality factor and a current ratio of 10 (R87, Table 9.14). PRESUMED, log entry 121. -/
def State.tdTenths (s : State) (i uv : Nat) : Int :=
  ((40 * uv * 10000000 / (198423 * (9500 + 5 * s.rf (Reg.TH_TD_CFG_IDEALITY i))) : Nat) : Int) - 9326

/-- TEMP code of a remote-diode conversion; none outside -45 to 150 degrees (R389). -/
def State.tdCode (s : State) (i uv : Nat) : Option Nat :=
  let t := s.tdTenths i uv
  if t < -200 ∨ 7600 < t then none else some (clampI 0 0x3FE ((t + 5) / 10)).toNat

/-- What the owner puts out for a reading: the bias of a remote-diode pair, or the read of an I3C sensor (R55, R87, R88). -/
def State.senseOut (s : State) (cls i : Nat) : State :=
  if !s.owner then s
  else if cls = 1 then s.out (.tdBias i)
  else if cls = 3 then s.out (.i3cRead (s.rf (Reg.TH_I3C_CFG_BUS i)) (s.rf (Reg.TH_I3C_CFG_ADDR i)) (s.rf (Reg.TH_I3C_CFG_REG i)))
  else s

/-- SENSOR_READING: a reading completes and is judged. A remote diode gives the microvolts between its two base-emitter voltages, an I3C
sensor, which the owner alone reads, 16 bits, the others a TEMP code (R55, R87, R88, R389, R410, Table 9.1). -/
def execSensorReading (cls : Fin 4) (i : BitVec 16) (ok : Bool) (v : BitVec 17) (s : State) : Res :=
  let n := i.toNat
  let k := cls.val * 0x10000 + n
  .next (if !s.thOn || !s.present k || (cls == 3 && !s.owner) then s
    else
      let s1 := s.senseOut cls n
      match cls.val with
      | 1 => s1.sensorRead k (ok && (s.tdCode n v.toNat).isSome) ((s.tdCode n v.toNat).getD 0x3FF)
      | 3 => s1.sensorRead k ok (s.i3cCode n (v.toNat % 65536))
      | _ => s1.sensorRead k ok (v.toNat % 1024))

/-- READING_SILENT: a declared tile sensor has not reported for 256 us (R389). -/
def execReadingSilent (t : Fin 16384) (j : Fin 4) (s : State) : Res :=
  let k := 4 * t.val + j.val
  .next (if s.thOn && s.present k then s.breakSensor k 3 else s)

/-- READING_STUCK: a code unchanged for 10 s is broken when its neighbours' median has moved by 5 degrees or more since it last
changed (R389). -/
def execReadingStuck (cls : Fin 4) (i : BitVec 16) (s : State) : Res :=
  let k := cls.val * 0x10000 + i.toNat
  .next (match s.stuckMedian k, (s.sensor k).medAt with
    | some a, some b =>
      if s.thOn && s.sensorOk k && decide (40 ≤ ((a : Int) - b).natAbs) then s.breakSensor k 1 else s
    | _, _ => s)

/-- READING_RESTORED: after 1 s of readings that pass every test the reading returns to use (R391). -/
def execReadingRestored (cls : Fin 4) (i : BitVec 16) (s : State) : Res :=
  let k := cls.val * 0x10000 + i.toNat
  let r := s.sensor k
  .next (if s.thOn && s.present k && r.broken then
      let s1 := s.setSensor k { r with broken := false, cause := 0 }
      if s.owner then s1.emit 0 0x6011 k 0 r.code else s1
    else s)

/-- DIE_UNPINNED: after 10 s at or below 25 % a die is unpinned (R393). -/
def execDieUnpinned (n : Fin 16) (s : State) : Res :=
  let z := s.zone (0x10 + n.val)
  let c := s.dieShare n.val
  .next (if s.thOwn && z.pinned && decide (4 * c.1 ≤ c.2) then
      (s.setZone (0x10 + n.val) { z with pinned := false }).emit 0 0x6013 n.val c.1 c.2
    else s)

/-- STEP_TICK: step counts and duties (R400 to R402). -/
def execStepTick (s : State) : Res := .next (if s.thOwn then s.stepTick else s)

/-- ORDERLY_STOP_RECOMPUTE: at PROJ or less the stop is abandoned for immediate action (R405). -/
def execOrderlyStopRecompute (s : State) : Res :=
  .next (if s.thOwn && decide (1 ≤ s.th.stop ∧ s.th.stop ≤ 4) then
      match s.pkgProj with
      | (none, s1) => { s1 with th.proj := none }
      | (some (z, p), s1) =>
        let s2 := { s1 with th.proj := projIn 100 p }
        if s2.projSafe p then s2
        else (s2.emit 0 0x6004 s2.th.stop ((projIn 100 p).getD 0) z).tripLatch 3 z (s2.zone z).temp
    else s)

/-- DRAIN_END: the drain phase ends; a reservation left at DRAIN_MAX is returned; the flush begins (R406, R747). -/
def execDrainEnd (s : State) : Res :=
  .next (if s.thOwn && s.th.stop == 2 then ({ s.drainAll with th.stop := 3 }).tailFlush else s)

/-- FLUSH_END: the flush phase ends (R406). -/
def execFlushEnd (s : State) : Res := .next (if s.thOwn && s.th.stop == 3 then { s with th.stop := 4 } else s)

/-- GRADE0_REACHED: every running rail has held its grade 0 voltage for 1 us: the trip latch is set (R406). -/
def execGrade0Reached (s : State) : Res :=
  .next (if s.thOwn && s.th.stop == 4 then s.tripLatch 2 s.th.stopZone (s.zone s.th.stopZone).temp else s)

/-- AO_TRIP_COMPARE: AO compares one of its die's own governor sensors with THRESH (R411). DEDUCED, log entry 52. -/
def execAoTripCompare (_j : Fin 16) (ok : Bool) (v : BitVec 10) (s : State) : Res :=
  .next (if ok && decide (s.threshCode ≤ v.toNat) then s.tripLatch 4 0x20 v.toNat else s)

/-- A write of TH_TRIP has been applied: a lowering under the lock goes to flash, and while the trip latch is set THRESH waits for
the next cold start (R408, R413). -/
def State.threshAfter (old s : State) : State :=
  let f := Reg.TH_TRIP_THRESH
  let v := s.rf f
  if v = old.rf f then s
  else
    let s1 := if s.rb Reg.TH_TRIP_LOCK && decide (v < old.rf f) then { s with flash := mput f.rst s.flash f.key v } else s
    if s.th.trip then { s1.wr f (old.rf f) with th.nextThresh := some v } else s1

/-- THRESH_WRITE: a write of TH_TRIP under its access codes (R408, R413). -/
def execThreshWrite (v : Word) (s : State) : Res :=
  .next (s.hostWrite Reg.TH_TRIP_THRESH.addr v.toNat (fun x => s.threshAfter x))

/-- TH_SAVE: TH_CTL.SAVE writes every thermal Config field to flash (R419). -/
def execThSave (v : Word) (s : State) : Res :=
  .next (s.hostWrite Reg.TH_CTL_SAVE.addr v.toNat (fun x => if bitOf v.toNat 1 then x.saveBlock 4 else x))

end Sys2Proof.Machine
end

