-- ==== Sys2Proof/Machine/TwinCmds.lean ====
section
/-! DEFINITION. The commands of the twin (The Twin). -/

namespace Sys2Proof.Machine
open Sys2Proof

/-- QUIET_EXPIRY: TW_OWN_N has read high for T_QUIET; `low` says that the die has read it low while eligible since its last CS or WR
(R706, R707). -/
def execQuietExpiry (low : Bool) (s : State) : Res :=
  let s1 := ({ s with tw.sawLow := s.tw.sawLow || low, edge.ownPinLow := if s.tw.role = 3 then s.edge.ownPinLow else false }).roleSettle
  .next (if s1.ob.halted then s1 else s1.claimBegin)

/-- CLAIM_CHECK: the sink current in microamperes 40 ns after sinking began, and the cause of the other die's release less 1 (R706, R708,
R718). -/
def execClaimCheck (ua : BitVec 16) (cause : Fin 5) (s : State) : Res := .next (s.claimCheck ua.toNat (cause.val + 1))

/-- CLAIM_BACKOFF_EXPIRY: after BACKOFF the die waits for a quiet net again (R706). -/
def execClaimBackoffExpiry (s : State) : Res := .next (if s.tw.claim = 2 then { s with tw.claim := 0 } else s)

/-- OWNER_CONTENTION: an owner whose sink current stays below 1.0 mA for 100 ns keeps ownership (R709). -/
def execOwnerContention (ua : BitVec 16) (s : State) : Res :=
  .next (if s.tw.role = 3 ∧ ua.toNat < 1000 then (s.wr Reg.TW_FELL_CONTENTION 1).emit 7 0xC013 ua.toNat s.tw.attempts 1 else s)

/-- OWNERSHIP_RELEASE: for a cause of Table 18.5, given less 1 (R710, R717). -/
def execOwnershipRelease (cause : Fin 5) (s : State) : Res := .next (s.ownRelease (cause.val + 1))

/-- BARRED_EXPIRY: 1 ms after the release the die is STANDBY, if it is eligible (R710). -/
def execBarredExpiry (s : State) : Res := .next (if s.tw.role = 4 then
    s.setRole (if ({ s with tw.role := 1 }).eligible then 2 else 1)
  else s)

/-- TWIN_FRAME_TIMER: one frame each microsecond (R712). -/
def execTwinFrameTimer (s : State) : Res := .next s.frameOut

/-- TWIN_FRAME_RECEIVED: the bytes of a frame; `swept` says that a sweep of the mirror is complete with it (R712, R716). -/
def execTwinFrameReceived (l : List Byte) (swept : Bool) (s : State) : Res := .next (s.frameIn (l.map (·.toNat)) swept)

/-- OUT_OF_STEP: no good frame for 4 us (R716). -/
def execOutOfStep (s : State) : Res := .next (if s.tw.role ≠ 3 ∧ s.tw.inStep = true then s.outOfStep 0 else { s with tw.good := 0 })

/-- TW_HANDOVER (R722). -/
def execTwHandover (v : Word) (s : State) : Res := .next (s.twCtl v.toNat)

/-- FORCE_CLAIM (R706). -/
def execForceClaim (v : Word) (s : State) : Res := .next (s.twCtl v.toNat)

/-- HANDOVER_READY_TIMEOUT: READY has not arrived within 2 us of the request (R724). -/
def execHandoverReadyTimeout (s : State) : Res := .next (if s.tw.handover = 1 then s.handRefuse 1 s.tw.handSrc else s)

/-- TWIN_LINK_LOSS: `low` is the net as this die reads it (R725, R726). -/
def execTwinLinkLoss (low : Bool) (s : State) : Res := .next (s.twinLost low 0)

/-- TWIN_LINK_TRAINED (R716, R725). -/
def execTwinLinkTrained (s : State) : Res := .next s.twinUp

/-- NET_STUCK_LOW: the net stays low for 20 ms with no die owning (R729). -/
def execNetStuckLow (s : State) : Res :=
  .next (if s.tw.role ≠ 3 ∧ s.eligible = true then
    (({ s with edge.ownPinLow := true }).wr Reg.TW_FELL_INTERLOCK 1).emit 7 0xC016 0
  else s)

/-- HALTED_CLAIM: a halted die that is eligible and reads the net high releases its Halt Sweep with cause 4, and claims (R816). -/
def execHaltedClaim (s : State) : Res :=
  .next (if s.ob.halted && s.tw.role != 3 && s.eligible then
      ((({ s with edge.ownPinLow := false }).haltEnd 4).roleSettle).claimBegin
    else s)

end Sys2Proof.Machine
end

