-- ==== Sys2Proof/Machine/Access.lean ====
section
/-! DEFINITION. Host accesses to the register window by address: writes, reads, pairs, the table SRAM aperture, and the accesses
that cannot be served (Scope, Readers and Conventions; Address Map and Register Index). -/

namespace Sys2Proof.Machine
open Sys2Proof

/-- What a meaning leaves. -/
def Res.state (s : State) (r : Res) : State :=
  match r with
  | .next t => t
  | _ => s

/-- The offset lies in the table SRAM aperture (R856). -/
def inAperture (a : Nat) : Bool := decide (0x1000000 ≤ a ∧ a < 0x1100000)

/-- The registers whose write is a command of its own, by the address of the first instance, and that command for an instance.
-/
def writeRoutes : List (Nat × (Nat → Word → State → Res)) := [
  (Reg.IS_RESET_REQ, fun _ v s => .next (s.resetReq v.toNat)),
  (Reg.IS_PKG_CMD, fun _ => execPkgCmdGo),
  (Reg.PC_PROFILE_CTL_LOCK.addr, fun _ => execProfileSave),
  (Reg.PC_PHASE_CLR, fun _ => execPhaseClr),
  (Reg.PC_RAIL_CTL 0, fun i => execClearFault (Fin.ofNat 8 i)),
  (Reg.SL_LINK_CTL_ENABLE.addr, fun _ => execRetrain),
  (Reg.SL_CTL, fun _ => execProfileSaveSl),
  (Reg.AD_GRADE_REQ 0, fun i => execGradeReqWrite (Fin.ofNat 8 i)),
  (Reg.AD_PAUSE_PART 0, fun i => execPauseDutyChange (Fin.ofNat 8 i)),
  (Reg.AD_CTL, fun _ => execAdSave),
  (Reg.AX_CTL, fun _ v s => .next (s.axCtl v.toNat)),
  (Reg.RV_CTL, fun _ v s => .next (s.rvCtl v.toNat)),
  (Reg.TH_TRIP_THRESH.addr, fun _ => execThreshWrite),
  (Reg.TH_CTL, fun _ => execThSave),
  (Reg.BG_CTL, fun _ v s => .next (s.bgCtl v.toNat)),
  (Reg.BG_PART_CFG0 0, fun i => execPartCfgWrite (Fin.ofNat 64 i) false),
  (Reg.BG_PART_CFG1 0, fun i => execPartCfgWrite (Fin.ofNat 64 i) true),
  (Reg.ME_QCFG 0, fun i => execQcfgWrite (Fin.ofNat 4096 i)),
  (Reg.IK_CTL, fun _ v s => .next (s.ikCtl v.toNat)),
  (Reg.IK_BUDGET, fun _ => execBudgetWrite),
  (Reg.CF_RING_TAIL 0, fun i => execRingDoorbell (Fin.ofNat 1024 i)),
  (Reg.CF_RING_CTL 0, fun i v s => .next (s.ringCtl i v.toNat)),
  (Reg.CF_RING_CFG 0, fun i => execRingCfgWrite (Fin.ofNat 1024 i)),
  (Reg.CF_VEC 0, fun i => execVecMaskWrite (Fin.ofNat 256 i)),
  (Reg.CF_CTL, fun _ => execCfSave),
  (Reg.FL_CH_CTL 0, fun i v s => .next (s.flCtl i v.toNat)),
  (Reg.FL_INV, fun _ => execFlInvGo),
  (Reg.FL_CTX0 0, fun i => execCtxWrite (Fin.ofNat 65 i) false),
  (Reg.FL_CTX1 0, fun i => execCtxWrite (Fin.ofNat 65 i) true),
  (Reg.FL_CFG, fun _ => execFlSave),
  (Reg.VX_TIME_CTL, fun _ => execTimeSetApply),
  (Reg.VX_CTL, fun _ => execVxSave),
  (Reg.VX_CB_CTL, fun _ => execCeilInject),
  (Reg.VX_STAGGER, fun _ => execStaggerWrite),
  (Reg.TW_CTL, fun _ v s => .next (s.twCtl v.toNat)),
  (Reg.LG_CURSOR_LO, fun _ v => execLgCursorWrite 0 (v.zeroExtend 64)),
  (Reg.LG_CURSOR_HI, fun _ v => execLgCursorWrite 1 (v.zeroExtend 64)),
  (Reg.LG_CTL, fun _ v s => .next (s.lgCtl v.toNat)),
  (Reg.LG_RL0 0, fun i => execLgRlWrite (Fin.ofNat 1025 i) false),
  (Reg.LG_RL1 0, fun i => execLgRlWrite (Fin.ofNat 1025 i) true),
  (Reg.LG_RL_DEF, fun _ => execLgRlWrite 1024 false),
  (Reg.SE_CTL, fun _ v s => .next (s.seCtl v.toNat)),
  (Reg.SE_SLOT, fun _ => execSlotActiveWrite),
  (Reg.SE_CHAL_CTL, fun _ v s => .next (s.seChal v.toNat)),
  (Reg.SE_UPD_CTL, fun _ => execUpdGo),
  (Reg.SE_MBOX_CTL, fun _ => execMboxGo),
  (Reg.OB_CTL, fun _ v s => .next (s.obCtl v.toNat)),
  (Reg.OB_GRP0 0, fun i => execObGrpWrite (Fin.ofNat 512 i) 0),
  (Reg.OB_GRP1 0, fun i => execObGrpWrite (Fin.ofNat 512 i) 1),
  (Reg.OB_GRP2 0, fun i => execObGrpWrite (Fin.ofNat 512 i) 2),
  (Reg.OB_GRP3 0, fun i => execObGrpWrite (Fin.ofNat 512 i) 3),
  (Reg.OB_HALT, fun _ v s => .next (s.obHaltWrite v.toNat))]

/-- A word of a handle has been written: a TABLE entry that breaks R575 becomes invalid, and its reserved bits stay zero (R24,
Table 14.10). `a` is the address used. DEDUCED, log entry 92. -/
def State.handleWritten (s : State) (a h : Nat) : State :=
  if s.hKind h ≠ 1 then s
  else
    let x := Reg.CF_HANDLE1_BANK0X h
    let y := Reg.CF_HANDLE1_BANK1X h
    let s1 := if s.rf x = 0 ∧ s.rf y = 0 then s else (((s.wr x 0).wr y 0).glErr Reg.GL_STATUS_RSVD_WRITE a)
    if s1.tableOk h then s1 else (s1.wr (Reg.CF_HANDLE0_KIND h) 0).glErr Reg.GL_STATUS_RSVD_WRITE a

/-- The reservoir's configuration has been written: CELLS, CONFIG and FORCED are judged (R339, R346, Table 8.1). DEDUCED, log entry 93. -/
def State.rvWritten (s : State) : State :=
  if !s.ph.loadOk then s
  else
    let s1 := s.rvStart
    if s1.rvCells != 0 && bitOf s1.rv.causes 6 && !s1.rb Reg.RV_OP_CFG1_FORCE_BYPASS then s1.rvClear 6 else s1

/-- A port has another cost, which its node tells (R640), or has been enabled or disabled, and its VXn_TXDIS follows (R624); no listed cause of 0xB002 names a disable, so it is free (log
entry 3). -/
def State.portWritten (old s : State) (p : Nat) : State :=
  let f := Reg.VX_PORT_CFG_ENABLE p
  if old.rb f = s.rb f then
    (if s.full p && old.rf (Reg.VX_PORT_CFG_COST p) != s.rf (Reg.VX_PORT_CFG_COST p) && s.fabRuns then s.originate else s)
  else if s.rb f then (if s.edge.vxrefOk then s.setVp p { s.vp p with link := 1 } else s).txDisOut p
  else let d := s.draw 75; (d.2.portDown p d.1 0).txDisOut p

/-- Streaming has been enabled or disabled: it starts with the next record accepted (R762). DEDUCED, log entry 94. -/
def State.streamWritten (old s : State) : State :=
  let on := s.rb Reg.LG_ST_CFG_ENABLE
  if old.rb Reg.LG_ST_CFG_ENABLE = on then s
  else if on then ({ s with lg.stNext := some s.lg.next }).streamPump.flSettle
  else { s with lg.stNext := none }

/-- The lane map has changed: lanes that have no rail any more are unused, and the rails note a change in their healthy phases (R147, R198). -/
def State.laneMapWritten (old s : State) (w : Nat) : State :=
  let gone := ((List.range 8).map (· + 8 * w)).filter (fun n => s.laneRail n == none && (s.lane n).active)
  (s.turnOff gone).healthSince old

/-- After a write of MIN_GUAR, EFF or OVERHEAD: a write that would make the partition table invalid is discarded, with REFUSED and
0x7005 (R427); else the budgets move. Which partition the record names when rule 2 fails is DEDUCED, log entry 134. -/
def State.pkgCfgWritten (old s : State) (a v : Nat) : State :=
  match s.tableBad 0 with
  | some (q, rule, x) => ((old.wr Reg.BG_FELL_REFUSED 1).emit 0 0x7005 q rule x).rsvdCheck a v
  | none => s

/-- A word of a group has been written: a COLLECT round in progress ends without delivery (Table 11.13); COUNT and BASE of a FANOUT
group stay in their ranges (R496). Its results that wait stay; the ended round keeps its number. DEDUCED, log entry 135. -/
def State.grpWritten (old s : State) (a g : Nat) : State :=
  let r := mget ({} : Round) s.me.rounds g
  let s1 := if old.rf (Reg.ME_GRP0_KIND g) = 2 then
      { s with me.rounds := mput {} s.me.rounds g { number := r.number, results := r.results } }
    else s
  if s1.rf (Reg.ME_GRP0_KIND g) ≠ 1 then s1
  else
    let n := min 16 (s1.rf (Reg.ME_GRP1_EXPECT g))
    let b := min (16384 - n) (s1.rf (Reg.ME_GRP1_TIMEOUT g))
    if n = s1.rf (Reg.ME_GRP1_EXPECT g) ∧ b = s1.rf (Reg.ME_GRP1_TIMEOUT g) then s1
    else ((s1.wr (Reg.ME_GRP1_EXPECT g) n).wr (Reg.ME_GRP1_TIMEOUT g) b).glErr Reg.GL_STATUS_RSVD_WRITE a

/-- What a write does beyond its fields: by the address of the register's first instance, from the state before and the state
after the fields took the write; `a` is the address used. -/
def afterWrites : List (Nat × (Nat → Nat → Nat → State → State → State)) := [
  (Reg.CF_HANDLE0 0, fun a h _ _ s => s.handleWritten a h),
  (Reg.CF_HANDLE1 0, fun a h _ _ s => s.handleWritten a h),
  (Reg.CF_HANDLE2 0, fun a h _ _ s => s.handleWritten a h),
  (Reg.PC_LANE_MAP 0, fun _ w _ old s => State.laneMapWritten old s w),
  (Reg.PC_RAIL_CFG 0, fun _ r _ _ s => if s.regOn then s.minCheck r else s),
  (Reg.RV_MOD_CFG0_CELLS.addr, fun _ _ _ _ s => s.rvWritten),
  (Reg.RV_MOD_CFG1_SHUNT.addr, fun _ _ _ _ s => s.rvWritten),
  (Reg.RV_MOD_CFG2_FADE_DV.addr, fun _ _ _ _ s => s.rvWritten),
  (Reg.RV_OP_CFG1_FORCE_BYPASS.addr, fun _ _ _ _ s => s.rvWritten),
  (Reg.VX_PORT_CFG 0, fun _ p _ old s => State.portWritten old s p),
  (Reg.LG_ST_CFG, fun _ _ _ old s => State.streamWritten old s),
  (Reg.LG_ST_HEAD, fun _ _ _ _ s => ({ s with lg.stSince := false }).streamPump.flSettle),
  (Reg.TW_CFG, fun _ _ _ _ s => s.roleSettle),
  (Reg.TH_I3C_CFG 0, fun _ i _ old s =>
    if s.owner && s.rb (Reg.TH_I3C_CFG_ENABLE i) && !old.rb (Reg.TH_I3C_CFG_ENABLE i) then s.out (.i3cDaa (s.rf (Reg.TH_I3C_CFG_BUS i))) else s),
  (Reg.ME_GRP0 0, fun a g _ old s => State.grpWritten old s a g),
  (Reg.ME_GRP1 0, fun a g _ old s => State.grpWritten old s a g),
  (Reg.BG_PKG_CFG, fun a _ v old s => State.pkgCfgWritten old s a v),
  (Reg.BG_PKG_CFG2, fun a _ v old s => State.pkgCfgWritten old s a v),
  (Reg.AD_BAR_CFG 0, fun _ g _ _ s => s.checkRelease g),
  (Reg.OB_TRIG_CFG2, fun _ _ _ old s => if old.debugOpen then s else s.wr Reg.OB_TRIG_CFG2_HALT (old.rf Reg.OB_TRIG_CFG2_HALT)),
  (Reg.OB_EXP_CFG, fun _ _ _ old s =>
    if !old.rb Reg.OB_EXP_CFG_ENABLE && s.rb Reg.OB_EXP_CFG_ENABLE then { s with ob.rseq := 0 } else s),
  (Reg.SE_RESP 0, fun _ i v _ s => s.wr (Reg.SE_RESP_WORD i) v),
  (Reg.VX_TIME_SET_LO, fun _ _ v _ s => s.wr Reg.VX_TIME_SET_LO_SET v),
  (Reg.VX_TIME_SET_HI, fun _ _ v _ s => s.wr Reg.VX_TIME_SET_HI_SET v),
  (Reg.VX_CEIL_SET, fun _ _ v _ s => s.wr Reg.VX_CEIL_SET_CEIL v),
  (Reg.VX_ORPH_SET, fun _ _ v _ s => s.wr Reg.VX_ORPH_SET_ORPH_TOTAL v)]

/-- Registers of channels 0 to 7 that their users set: read only to host software (Table 15.10). DEDUCED, log entry 91. -/
def userHeld (base i : Nat) : Bool :=
  decide (i < 8) && [Reg.FL_CH_CFG 0, Reg.FL_CH_IOVA_LO 0, Reg.FL_CH_IOVA_HI 0, Reg.FL_CH_TSRAM 0, Reg.FL_CH_LEN 0].contains base

/-- A 32-bit host write of an aligned offset: the command of its own that the register's write is, or its fields under their
access codes and what follows from them (R18 to R24, R856). -/
def State.hostWrite32 (s : State) (a v : Nat) : State :=
  if s.noAccess then s
  else if inAperture a then
    match s.serveIn 3 true with
    | (true, s1) => { s1 with ik.table := writeBytes s1.ik.table (a - 0x1000000) 4 v }
    | (false, s1) => s1
  else match findReg a with
    | none => s.glErr Reg.GL_STATUS_UNMAPPED a
    | some (d, i, _) =>
      match writeRoutes.find? (fun r => r.1 == d.base) with
      | some r => Res.state s (r.2 i (BitVec.ofNat 32 v) s)
      | none =>
        match s.serveIn d.isl true with
        | (false, s1) => s1
        | (true, s1) =>
          if userHeld d.base i then s1.rsvdCheck a v
          else
            let s2 := s1.writeFields a v
            match afterWrites.find? (fun r => r.1 == d.base) with
            | some r => r.2 a i v s1 s2
            | none => s2

/-- An access that is treated as if to an undefined offset, with MISALIGNED alone set (R23). -/
def State.misaligned (s : State) (a : Nat) : State := if s.noAccess then s else s.glErr Reg.GL_STATUS_MISALIGNED a

/-- A 64-bit host write: of a pair, of CURSOR, or in the aperture; elsewhere R23 holds (R15, R23, R760, R856). -/
def State.hostWrite64 (s : State) (a v : Nat) : State :=
  if inAperture a ∧ a % 8 = 0 then (s.hostWrite32 a (loWord v)).hostWrite32 (a + 4) (hiWord v)
  else if canonAddr a = Reg.LG_CURSOR_LO then Res.state s (execLgCursorWrite 2 (BitVec.ofNat 64 v) s)
  else if pairLow (canonAddr a) then (s.hostWrite32 a (loWord v)).hostWrite32 (a + 4) (hiWord v)
  else s.misaligned a

/-- GL_ERR_OFFSET captures the offset that the access used, whichever of the words of a pair or of the two addresses of a register set
the bit (R25, R855). -/
def State.usedAt (s was : State) (a : Nat) : State :=
  if was.glClean && !s.glClean then s.wr Reg.GL_ERR_OFFSET_OFFSET a else s

/-- A host write by address and width. -/
def State.hostStore (s : State) (a : Nat) (wide : Bool) (v : Nat) : State :=
  (if a % (if wide then 8 else 4) ≠ 0 then s.misaligned a
    else if wide then s.hostWrite64 a v else s.hostWrite32 a v).usedAt s a

/-- Data returned on the Host Tunnel. -/
def State.reply (s : State) (a v : Nat) : State := s.out (.readData a v)

/-- A latched word of a queue's window: the host's latch when it holds a message of this queue (R483). -/
def State.latchWord (s : State) (q k : Nat) : Nat :=
  let l := mget (0, []) s.me.latch 8
  if l.1 = q then l.2.getD k 0 else 0

/-- The value a mapped 32-bit read returns, and what the read leaves: the low word of a pair latches the high word, and the next
read of the high word returns it (R14). DEDUCED, log entry 88. -/
def State.pairRead (s : State) (a : Nat) : Nat × State :=
  let c := canonAddr a
  if pairLow c then
    (s.readWord c, { s with ob.pairLatch := (s.ob.pairLatch.filter (fun e => !(e.1 == 0 && e.2.1 == c))) ++ [(0, c, s.readWord (c + 4))] })
  else if 4 ≤ c ∧ pairLow (c - 4) = true then
    match s.ob.pairLatch.find? (fun e => e.1 == 0 && e.2.1 == c - 4) with
    | some e => (e.2.2, { s with ob.pairLatch := s.ob.pairLatch.filter (fun e => !(e.1 == 0 && e.2.1 == c - 4)) })
    | none => (s.readWord c, s)
  else (s.readWord c, s)

/-- A 32-bit host read of an aligned offset (R14, R21, R482, R483, R856, Table 3.3). -/
def State.hostRead32 (s : State) (a : Nat) : State :=
  if s.noAccess then s
  else if inAperture a then
    match s.serveIn 3 false with
    | (true, s1) => s1.reply a (readBytes s1.ik.table (a - 0x1000000) 4)
    | (false, s1) => s1.reply a 0
  else match findReg a with
    | none => (s.glErr Reg.GL_STATUS_UNMAPPED a).reply a 0
    | some (d, i, j) =>
      if d.base = Reg.ME_POP 0 then s.popRead 8 i false
      else match s.serveIn d.isl false with
        | (false, s1) => s1.reply a 0
        | (true, s1) =>
          if d.base = Reg.ME_LATCH 0 0 then s1.reply a (s1.latchWord i j)
          else let r := s1.pairRead a; r.2.reply a r.1

/-- A 64-bit host read: of a pair, atomically, of ME_POP, or in the aperture; elsewhere R23 holds (R15, R23, R484, R856). -/
def State.hostRead64 (s : State) (a : Nat) : State :=
  if s.noAccess then s
  else if inAperture a then
    match s.serveIn 3 false with
    | (true, s1) => s1.reply a (readBytes s1.ik.table (a - 0x1000000) 8)
    | (false, s1) => s1.reply a 0
  else match findReg a with
    | none => (s.misaligned a).reply a 0
    | some (d, i, _) =>
      if d.base = Reg.ME_POP 0 then s.popRead 8 i true
      else if !pairLow (canonAddr a) then (s.misaligned a).reply a 0
      else match s.serveIn d.isl false with
        | (false, s1) => s1.reply a 0
        | (true, s1) => s1.reply a (s1.readWord (canonAddr a) + 2 ^ 32 * s1.readWord (canonAddr a + 4))

/-- A host read by address and width. -/
def State.hostLoad (s : State) (a : Nat) (wide : Bool) : State :=
  if a % (if wide then 8 else 4) ≠ 0 then (if s.noAccess then s else (s.misaligned a).reply a 0)
  else if wide then s.hostRead64 a else s.hostRead32 a

/-- REGISTER_WRITE: a 32-bit write, or a 64-bit write of a pair (R15, R18 to R20, R24). -/
def execRegisterWrite (a : BitVec 26) (wide : Bool) (v : DWord) (s : State) : Res := .next (s.hostStore a.toNat wide v.toNat)

/-- UNMAPPED_READ (R21). -/
def execUnmappedRead (a : BitVec 26) (s : State) : Res := .next (s.hostLoad a.toNat false)

/-- UNMAPPED_WRITE (R22). -/
def execUnmappedWrite (a : BitVec 26) (v : Word) (s : State) : Res := .next (s.hostStore a.toNat false v.toNat)

/-- MISALIGNED_ACCESS: of 2 ^ `sz` bytes; an access that is valid after all is carried out as one of its width (R23). -/
def execMisalignedAccess (a : BitVec 26) (sz : Fin 4) (write : Bool) (v : DWord) (s : State) : Res :=
  .next (if sz.val < 2 then (if write then s.misaligned a.toNat else if s.noAccess then s else (s.misaligned a.toNat).reply a.toNat 0)
    else if write then s.hostStore a.toNat (sz == 3) v.toNat
    else s.hostLoad a.toNat (sz == 3))

/-- PAIR_LOW_READ: a 32-bit read latches the high word for the host; a 64-bit read is atomic (R14, R15). -/
def execPairLowRead (a : BitVec 26) (wide : Bool) (s : State) : Res := .next (s.hostLoad a.toNat wide)

/-- PAIR_HIGH_READ: returns the latched word (R14). -/
def execPairHighRead (a : BitVec 26) (s : State) : Res := .next (s.hostLoad a.toNat false)

end Sys2Proof.Machine
end

