-- ==== Sys2Proof/Machine/Endpoint.lean ====
section
/-! DEFINITION. The events of a tile endpoint and of a die port (The Sluice Endpoint). An event that Table 5.6 does not list for a
state leaves it unchanged (R223). -/

namespace Sys2Proof.Machine
open Sys2Proof

/-- TILE_NEEDS_CURRENT: from IDLE or RUNNING (R221 to R223). -/
def execTileNeedsCurrent (t : Fin 16384) (cls : Byte) (lease : BitVec 12) (arrive : Bool) (grp : BitVec 12) (op : BitVec 16)
    (layer : BitVec 12) (s : State) : Res :=
  let e := s.endp t
  .next (if e.st = 1 ∨ e.st = 4 then s.ask t {
      cls := cls.toNat, lease := lease.toNat, barrier := arrive, grp := grp.toNat, op := op.toNat, layer := layer.toNat }
    else s)

/-- TILE_RENEW: an INTENT with RENEW for a class at or below the allowance (R230). -/
def execTileRenew (t : Fin 16384) (cls : Byte) (lease : BitVec 12) (s : State) : Res :=
  let e := s.endp t
  .next (if e.st = 4 ∧ cls.toNat ≤ e.allow then s.ask t { cls := cls.toNat, lease := lease.toNat, renew := true } else s)

/-- TILE_NEEDS_LESS: the draw falls first, then RELEASE carries the new class (R223). -/
def execTileNeedsLess (t : Fin 16384) (cls : Byte) (s : State) : Res :=
  let e := s.endp t
  .next (if e.st = 4 ∧ cls.toNat < e.allow then
      (s.setEndp t { e with allow := cls.toNat, st := restState cls.toNat }).upSend t (releaseMsg t e.lastSeq cls.toNat false)
    else s)

/-- TILE_WITHDRAWS: RELEASE with CANCEL for the outstanding INTENT (R223). -/
def execTileWithdraws (t : Fin 16384) (s : State) : Res :=
  let e := s.endp t
  .next (match e.out with
    | some p =>
      if e.st = 2 then
        (s.setEndp t ({ e with st := restState e.allow, out := none, withdrawn := e.withdrawn ++ [(p.seq, p.grp)] }.unback 1)).upSend t
          (releaseMsg t p.seq e.allow true)
      else s
    | none => s)

/-- GRANT_RECEIVED: with the SEQ of the outstanding INTENT, or of a withdrawn one (R222, R223, R225). -/
def execGrantReceived (t : Fin 16384) (m : Msg) (s : State) : Res := .next (s.endIn t 0x81 m)

/-- MGRANT_RECEIVED: for the BARRIER_GRP of the outstanding INTENT (R224, R225). -/
def execMgrantReceived (t : Fin 16384) (m : Msg) (s : State) : Res := .next (s.endIn t 0x82 m)

/-- NAK_RECEIVED (R233, R234). -/
def execNakReceived (t : Fin 16384) (m : Msg) (s : State) : Res := .next (s.endIn t 0x83 m)

/-- BUDGET_RECEIVED: a BUDGET that clears the reason releases a HELD tile (R223, R233). -/
def execBudgetReceived (t : Fin 16384) (m : Msg) (s : State) : Res := .next (s.endIn t 0x84 m)

/-- CONFIG_RECEIVED (R223). From CLAMPED it is taken while the traffic link is up. -/
def execConfigReceived (t : Fin 16384) (m : Msg) (s : State) : Res := .next (s.endIn t 0x85 m)

/-- GROUP_RECEIVED: one of the four slots is set or emptied (R218). -/
def execGroupReceived (t : Fin 16384) (m : Msg) (s : State) : Res := .next (s.endIn t 0x86 m)

/-- FSTEP_RECEIVED: the clock changes to FREQ; FREQ 0 gates it and leaves the grade (R241, R242). -/
def execFstepReceived (t : Fin 16384) (m : Msg) (s : State) : Res := .next (s.endIn t 0x87 m)

/-- PAUSE_RECEIVED (R219, R243, R244). -/
def execPauseReceived (t : Fin 16384) (m : Msg) (s : State) : Res := .next (s.endIn t 0x88 m)

/-- REFRESH_RECEIVED: forwarded to the memory controllers; code 3 acts as 2; a tile without them discards it (R218, R243). -/
def execRefreshReceived (t : Fin 16384) (m : Msg) (s : State) : Res := .next (s.endIn t 0x89 m)

/-- PROBE_RECEIVED: answered with the DATA inverted (R218). -/
def execProbeReceived (t : Fin 16384) (m : Msg) (s : State) : Res := .next (s.endIn t 0x8A m)

/-- CLOSE_RECEIVED: floor class and CLAMPED (R223). -/
def execCloseReceived (t : Fin 16384) (m : Msg) (s : State) : Res := .next (s.endIn t 0x8B m)

/-- SYNC_RECEIVED: on this die's link of compute die `n`, or on the other KG8's (R249 to R251). -/
def execSyncReceived (n : Fin 16) (other : Bool) (s : State) : Res := .next (s.syncIn n other)

/-- RAMP_COMPLETE (R223, R226). -/
def execRampComplete (t : Fin 16384) (s : State) : Res :=
  let e := s.endp t
  .next (if e.st = 3 then s.setEndp t { e with st := 4, rampFrom := e.allow } else s)

/-- ENDPOINT_LEASE_EXPIRY: back at floor class (R223, R227). -/
def execEndpointLeaseExpiry (t : Fin 16384) (s : State) : Res :=
  let e := s.endp t
  .next (if 2 ≤ e.st then s.setEndp t { e with allow := 0, st := if e.st = 3 ∨ e.st = 4 then 1 else e.st } else s)

/-- QFULL_BACKOFF_EXPIRY: the refused message of a TYPE is sent again (R234, R236). -/
def execQfullBackoffExpiry (t : Fin 16384) (s : State) (ty : Fin 8 := 1) : Res :=
  let e := s.endp t
  let b := mget ({} : Backoff) e.backs ty
  .next (if b.waits then (s.setEndp t { e with backs := mput {} e.backs ty { b with waits := false } }).upSend t b.msg else s)

/-- HELD_WAIT_EXPIRY: 1 ms after a SHED or THERMAL (R233). -/
def execHeldWaitExpiry (t : Fin 16384) (s : State) : Res :=
  let e := s.endp t
  .next (if e.st = 5 ∧ (e.heldCode = nakShed ∨ e.heldCode = nakThermal) then
      s.setEndp t { e with st := restState e.allow, heldCode := 0 }
    else s)

/-- OPEN_RETRY: a CLAMPED tile on a live link sends OPEN every 1 ms (R223). -/
def execOpenRetry (t : Fin 16384) (s : State) : Res :=
  let e := s.endp t
  .next (if e.st = 0 ∧ s.portUp (s.tileDie t) = true then s.upSend t (openMsg t e) else s)

/-- TEMP_REPORT: a reading in thousandths of a degree of one of the tile's sensors, periodic or for a change of 1 degree or more since
its last report, and never within 8 us of it; an invalid sensor reports 0x3FF (R239). DEDUCED, log entry 129. -/
def execTempReport (t : Fin 16384) (j : Fin 4) (valid : Bool) (mdeg : Word) (change : Bool) (s : State) : Res :=
  let e := s.endp t
  let v := if valid then some mdeg.toInt else none
  let last := mget none e.temps j
  let moved := match last, v with
    | some (_, some a), some b => decide (1000 ≤ (b - a).natAbs)
    | some (_, none), none => false
    | _, _ => true
  let early := match last with
    | some (at_, _) => decide (s.now < at_ + 8 * usec)
    | none => false
  .next (if decide (e.sensors ≤ j.val) || early || (change && !moved) then s
    else (s.setEndp t { e with temps := mput none e.temps j (some (s.now, v)) }).upSend t
      (upMsg 5 t [(4, 2, if valid then tempEncode mdeg.toInt else 0x3FF), (6, 1, j.val), (7, 1, b01 change)]))

/-- DROOP_REPORT: a tile with a droop reporter sends DROOP, never with COUNT 0 and never within 16 us of the last (R240). -/
def execDroopReport (t : Fin 16384) (count : Byte) (longest : BitVec 16) (s : State) : Res :=
  let e := s.endp t
  let early := match e.droopAt with
    | some at_ => decide (s.now < at_ + 16 * usec)
    | none => false
  .next (if bitOf e.caps 1 && count != 0 && !early then
      (s.setEndp t { e with droopAt := some s.now }).upSend t (upMsg 6 t [(4, 1, count.toNat), (5, 2, longest.toNat)])
    else s)

/-- CLAMP_ACCEPT: a code held for 500 ns is accepted by the die port (R245). -/
def execClampAccept (n code : Fin 16) (s : State) : Res := .next (s.setPort n { s.port n with clamp := code.val })

/-- ENDPOINT_LINK_LOSS (R223, R247, R248). -/
def execEndpointLinkLoss (n : Fin 16) (other : Bool) (s : State) : Res := .next (s.portLoss n other)

end Sys2Proof.Machine
end

