-- ==== Sys2Proof/Machine/IkivaAlu.lean ====
section
/-! DEFINITION. The Ikiva instructions that act on a core's registers and memories only (Tables 13.4 to 13.9, QSEL). -/

namespace Sys2Proof.Machine
open Sys2Proof

/-- ADD: rd = rs1 + rs2; the word with every field zero is ILLEGAL (R531, R539). -/
def execIkAdd (c : Fin 8) (rd rs1 rs2 : Fin 32) (s : State) : Res :=
  s.ran c (s.issueReg c 1 (if rd = 0 ∧ rs1 = 0 ∧ rs2 = 0 then some 1 else none) (fun k => k.setG rd (k.g rs1 + k.g rs2)))

/-- SUB: rd = rs1 - rs2 (R539). -/
def execIkSub (c : Fin 8) (rd rs1 rs2 : Fin 32) (s : State) : Res :=
  s.ran c (s.issueReg c 1 none (fun k => k.setG rd (k.g rs1 - k.g rs2)))

/-- AND: Bitwise AND (R539). -/
def execIkAnd (c : Fin 8) (rd rs1 rs2 : Fin 32) (s : State) : Res :=
  s.ran c (s.issueReg c 1 none (fun k => k.setG rd (k.g rs1 &&& k.g rs2)))

/-- OR: Bitwise OR (R539). -/
def execIkOr (c : Fin 8) (rd rs1 rs2 : Fin 32) (s : State) : Res :=
  s.ran c (s.issueReg c 1 none (fun k => k.setG rd (k.g rs1 ||| k.g rs2)))

/-- XOR: Bitwise XOR (R539). -/
def execIkXor (c : Fin 8) (rd rs1 rs2 : Fin 32) (s : State) : Res :=
  s.ran c (s.issueReg c 1 none (fun k => k.setG rd (k.g rs1 ^^^ k.g rs2)))

/-- SLL: Left shift by rs2[5:0] (R539). -/
def execIkSll (c : Fin 8) (rd rs1 rs2 : Fin 32) (s : State) : Res :=
  s.ran c (s.issueReg c 1 none (fun k => k.setG rd (k.g rs1 <<< ((k.g rs2).toNat % 64))))

/-- SRL: Logical right shift by rs2[5:0] (R539). -/
def execIkSrl (c : Fin 8) (rd rs1 rs2 : Fin 32) (s : State) : Res :=
  s.ran c (s.issueReg c 1 none (fun k => k.setG rd (k.g rs1 >>> ((k.g rs2).toNat % 64))))

/-- SRA: Arithmetic right shift by rs2[5:0] (R539). -/
def execIkSra (c : Fin 8) (rd rs1 rs2 : Fin 32) (s : State) : Res :=
  s.ran c (s.issueReg c 1 none (fun k => k.setG rd ((k.g rs1).sshiftRight ((k.g rs2).toNat % 64))))

/-- SLT: 1 when rs1 is less, signed (R539). -/
def execIkSlt (c : Fin 8) (rd rs1 rs2 : Fin 32) (s : State) : Res :=
  s.ran c (s.issueReg c 1 none (fun k => k.setG rd (if (k.g rs1).toInt < (k.g rs2).toInt then 1 else 0)))

/-- SLTU: 1 when rs1 is less, unsigned (R539). -/
def execIkSltu (c : Fin 8) (rd rs1 rs2 : Fin 32) (s : State) : Res :=
  s.ran c (s.issueReg c 1 none (fun k => k.setG rd (if (k.g rs1).toNat < (k.g rs2).toNat then 1 else 0)))

/-- MIN: Signed minimum (R539). -/
def execIkMin (c : Fin 8) (rd rs1 rs2 : Fin 32) (s : State) : Res :=
  s.ran c (s.issueReg c 1 none (fun k => k.setG rd (if (k.g rs2).toInt < (k.g rs1).toInt then k.g rs2 else k.g rs1)))

/-- MAX: Signed maximum (R539). -/
def execIkMax (c : Fin 8) (rd rs1 rs2 : Fin 32) (s : State) : Res :=
  s.ran c (s.issueReg c 1 none (fun k => k.setG rd (if (k.g rs1).toInt < (k.g rs2).toInt then k.g rs2 else k.g rs1)))

/-- MINU: Unsigned minimum (R539). -/
def execIkMinu (c : Fin 8) (rd rs1 rs2 : Fin 32) (s : State) : Res :=
  s.ran c (s.issueReg c 1 none (fun k => k.setG rd (if (k.g rs2).toNat < (k.g rs1).toNat then k.g rs2 else k.g rs1)))

/-- MAXU: Unsigned maximum (R539). -/
def execIkMaxu (c : Fin 8) (rd rs1 rs2 : Fin 32) (s : State) : Res :=
  s.ran c (s.issueReg c 1 none (fun k => k.setG rd (if (k.g rs1).toNat < (k.g rs2).toNat then k.g rs2 else k.g rs1)))

/-- MUL: Low 64 bits of the product (R539). -/
def execIkMul (c : Fin 8) (rd rs1 rs2 : Fin 32) (s : State) : Res :=
  s.ran c (s.issueReg c 2 none (fun k => k.setG rd (k.g rs1 * k.g rs2)))

/-- MULH: High 64 bits of the signed product (R539). -/
def execIkMulh (c : Fin 8) (rd rs1 rs2 : Fin 32) (s : State) : Res :=
  s.ran c (s.issueReg c 2 none (fun k => k.setG rd (BitVec.ofInt 64 ((k.g rs1).toInt * (k.g rs2).toInt / 18446744073709551616))))

/-- MULHU: High 64 bits of the unsigned product (R539). -/
def execIkMulhu (c : Fin 8) (rd rs1 rs2 : Fin 32) (s : State) : Res :=
  s.ran c (s.issueReg c 2 none (fun k => k.setG rd (BitVec.ofNat 64 ((k.g rs1).toNat * (k.g rs2).toNat / 18446744073709551616))))

/-- DIV: Signed quotient (R540). -/
def execIkDiv (c : Fin 8) (rd rs1 rs2 : Fin 32) (s : State) : Res :=
  s.ran c (s.issueReg c 24 none (fun k => k.setG rd (divS (k.g rs1) (k.g rs2))))

/-- DIVU: Unsigned quotient (R540). -/
def execIkDivu (c : Fin 8) (rd rs1 rs2 : Fin 32) (s : State) : Res :=
  s.ran c (s.issueReg c 24 none (fun k => k.setG rd (divU (k.g rs1) (k.g rs2))))

/-- REM: Signed remainder (R540). -/
def execIkRem (c : Fin 8) (rd rs1 rs2 : Fin 32) (s : State) : Res :=
  s.ran c (s.issueReg c 24 none (fun k => k.setG rd (remS (k.g rs1) (k.g rs2))))

/-- REMU: Unsigned remainder (R540). -/
def execIkRemu (c : Fin 8) (rd rs1 rs2 : Fin 32) (s : State) : Res :=
  s.ran c (s.issueReg c 24 none (fun k => k.setG rd (remU (k.g rs1) (k.g rs2))))

/-- CMP: flags from rs1 - rs2 (R538). -/
def execIkCmp (c : Fin 8) (rs1 rs2 : Fin 32) (s : State) : Res :=
  s.ran c (s.issueReg c 1 none (fun k => k.setFlags (cmpFlags (k.g rs1) (k.g rs2) k.flags)))

/-- CLZ: leading zeros; 64 for zero (R539). -/
def execIkClz (c : Fin 8) (rd rs1 : Fin 32) (s : State) : Res :=
  s.ran c (s.issueReg c 1 none (fun k => k.setG rd (BitVec.ofNat 64 (clzFrom 64 (k.g rs1).toNat))))

/-- POPC: number of 1 bits (R539). -/
def execIkPopc (c : Fin 8) (rd rs1 : Fin 32) (s : State) : Res :=
  s.ran c (s.issueReg c 1 none (fun k => k.setG rd (BitVec.ofNat 64 (popFrom 64 (k.g rs1).toNat))))

/-- ADDI (R541). -/
def execIkAddi (c : Fin 8) (rd rs1 : Fin 32) (imm : BitVec 15) (s : State) : Res :=
  s.ran c (s.issueReg c 1 none (fun k => k.setG rd (k.g rs1 + imm.signExtend 64)))

/-- ANDI (R541). -/
def execIkAndi (c : Fin 8) (rd rs1 : Fin 32) (imm : BitVec 15) (s : State) : Res :=
  s.ran c (s.issueReg c 1 none (fun k => k.setG rd (k.g rs1 &&& imm.zeroExtend 64)))

/-- ORI (R541). -/
def execIkOri (c : Fin 8) (rd rs1 : Fin 32) (imm : BitVec 15) (s : State) : Res :=
  s.ran c (s.issueReg c 1 none (fun k => k.setG rd (k.g rs1 ||| imm.zeroExtend 64)))

/-- XORI (R541). -/
def execIkXori (c : Fin 8) (rd rs1 : Fin 32) (imm : BitVec 15) (s : State) : Res :=
  s.ran c (s.issueReg c 1 none (fun k => k.setG rd (k.g rs1 ^^^ imm.zeroExtend 64)))

/-- SHI: shift by an immediate; selection 0 SLL, 1 SRL, 2 SRA, 3 ILLEGAL (R541). -/
def execIkShi (c : Fin 8) (rd rs1 : Fin 32) (sel : Fin 4) (amt : Fin 64) (s : State) : Res :=
  s.ran c (s.issueReg c 1 (if sel = 3 then some 1 else none) (fun k => k.setG rd (if sel = 0 then k.g rs1 <<< amt.val else if sel = 1 then k.g rs1 >>> amt.val else (k.g rs1).sshiftRight amt.val)))

/-- SLTI (R541). -/
def execIkSlti (c : Fin 8) (rd rs1 : Fin 32) (imm : BitVec 15) (s : State) : Res :=
  s.ran c (s.issueReg c 1 none (fun k => k.setG rd (if (k.g rs1).toInt < imm.toInt then 1 else 0)))

/-- SLTIU: unsigned compare with the sign-extended immediate (R541). -/
def execIkSltiu (c : Fin 8) (rd rs1 : Fin 32) (imm : BitVec 15) (s : State) : Res :=
  s.ran c (s.issueReg c 1 none (fun k => k.setG rd (if (k.g rs1).toNat < (imm.signExtend 64).toNat then 1 else 0)))

/-- CMPI: flags from rs1 - sext(IMM15) (R538). -/
def execIkCmpi (c : Fin 8) (rs1 : Fin 32) (imm : BitVec 15) (s : State) : Res :=
  s.ran c (s.issueReg c 1 none (fun k => k.setFlags (cmpFlags (k.g rs1) (imm.signExtend 64) k.flags)))

/-- LITL: rd = sext(LIT32), pc + 8 (R541). -/
def execIkLitl (c : Fin 8) (rd : Fin 32) (lit : Word) (s : State) : Res :=
  s.ran c (s.issue c 2 8 none (fun x => x.setCore c ((x.core c).setG rd (lit.signExtend 64))))

/-- LITH: rd[63:32] = LIT32, rd[31:0] kept, pc + 8 (R541). -/
def execIkLith (c : Fin 8) (rd : Fin 32) (lit : Word) (s : State) : Res :=
  s.ran c (s.issue c 2 8 none (fun x => x.setCore c ((x.core c).setG rd (BitVec.ofNat 64 (((x.core c).g rd).toNat % 4294967296 + 4294967296 * lit.toNat)))))

/-- LB: load of 1 byte (R542). -/
def execIkLb (c : Fin 8) (rt rb : Fin 32) (off : BitVec 15) (s : State) : Res :=
  s.ran c (s.load c rt rb off 1 true)

/-- LBU: load of 1 byte (R542). -/
def execIkLbu (c : Fin 8) (rt rb : Fin 32) (off : BitVec 15) (s : State) : Res :=
  s.ran c (s.load c rt rb off 1 false)

/-- LH: load of 2 bytes (R542). -/
def execIkLh (c : Fin 8) (rt rb : Fin 32) (off : BitVec 15) (s : State) : Res :=
  s.ran c (s.load c rt rb off 2 true)

/-- LHU: load of 2 bytes (R542). -/
def execIkLhu (c : Fin 8) (rt rb : Fin 32) (off : BitVec 15) (s : State) : Res :=
  s.ran c (s.load c rt rb off 2 false)

/-- LW: load of 4 bytes (R542). -/
def execIkLw (c : Fin 8) (rt rb : Fin 32) (off : BitVec 15) (s : State) : Res :=
  s.ran c (s.load c rt rb off 4 true)

/-- LWU: load of 4 bytes (R542). -/
def execIkLwu (c : Fin 8) (rt rb : Fin 32) (off : BitVec 15) (s : State) : Res :=
  s.ran c (s.load c rt rb off 4 false)

/-- LD: load of 8 bytes (R542). -/
def execIkLd (c : Fin 8) (rt rb : Fin 32) (off : BitVec 15) (s : State) : Res :=
  s.ran c (s.load c rt rb off 8 false)

/-- SB: store of 1 byte (R542, R543). -/
def execIkSb (c : Fin 8) (rt rb : Fin 32) (off : BitVec 15) (s : State) : Res :=
  s.ran c (s.store c rt rb off 1)

/-- SH: store of 2 bytes (R542, R543). -/
def execIkSh (c : Fin 8) (rt rb : Fin 32) (off : BitVec 15) (s : State) : Res :=
  s.ran c (s.store c rt rb off 2)

/-- SW: store of 4 bytes (R542, R543). -/
def execIkSw (c : Fin 8) (rt rb : Fin 32) (off : BitVec 15) (s : State) : Res :=
  s.ran c (s.store c rt rb off 4)

/-- SD: store of 8 bytes (R542, R543). -/
def execIkSd (c : Fin 8) (rt rb : Fin 32) (off : BitVec 15) (s : State) : Res :=
  s.ran c (s.store c rt rb off 8)

/-- ACLR: a[ad] = 0 (R544). -/
def execIkAclr (c ad : Fin 8) (s : State) : Res :=
  s.ran c (s.issueReg c 1 none (fun k => k.setAcc ad 0))

/-- ALD: a[ad] = sext96(rs1) (R544). -/
def execIkAld (c ad : Fin 8) (rs1 : Fin 32) (s : State) : Res :=
  s.ran c (s.issueReg c 1 none (fun k => k.setAcc ad ((k.g rs1).signExtend 96)))

/-- ALDI: a[ad] = sext96(rs1) << 32 (R544). -/
def execIkAldi (c ad : Fin 8) (rs1 : Fin 32) (s : State) : Res :=
  s.ran c (s.issueReg c 1 none (fun k => k.setAcc ad ((k.g rs1).signExtend 96 <<< 32)))

/-- ALDR: a[ad] = rs2[31:0] : rs1[63:0], raw (R544). -/
def execIkAldr (c ad : Fin 8) (rs1 rs2 : Fin 32) (s : State) : Res :=
  s.ran c (s.issueReg c 1 none (fun k => k.setAcc ad (BitVec.ofNat 96 ((k.g rs1).toNat + 18446744073709551616 * ((k.g rs2).toNat % 4294967296)))))

/-- AADD: saturating add (R544). -/
def execIkAadd (c ad asr : Fin 8) (s : State) : Res :=
  s.ran c (s.issueReg c 1 none (fun k => k.setSatAcc ad (sat96 ((k.acc ad).toInt + (k.acc asr).toInt))))

/-- ASUB: saturating subtract (R544). -/
def execIkAsub (c ad asr : Fin 8) (s : State) : Res :=
  s.ran c (s.issueReg c 1 none (fun k => k.setSatAcc ad (sat96 ((k.acc ad).toInt - (k.acc asr).toInt))))

/-- AMOV: a[ad] = a[as] (R544). -/
def execIkAmov (c ad asr : Fin 8) (s : State) : Res :=
  s.ran c (s.issueReg c 1 none (fun k => k.setAcc ad (k.acc asr)))

/-- MULQ: a[ad] = (rs1 * rs2) >>> 32 (R544). -/
def execIkMulq (c ad : Fin 8) (rs1 rs2 : Fin 32) (s : State) : Res :=
  s.ran c (s.issueReg c 2 none (fun k => k.setAcc ad (BitVec.ofInt 96 (mulq (k.g rs1) (k.g rs2)))))

/-- MACQ: saturating multiply-accumulate (R544). -/
def execIkMacq (c ad : Fin 8) (rs1 rs2 : Fin 32) (s : State) : Res :=
  s.ran c (s.issueReg c 3 none (fun k => k.setSatAcc ad (sat96 ((k.acc ad).toInt + mulq (k.g rs1) (k.g rs2)))))

/-- MSUQ: saturating multiply-subtract (R544). -/
def execIkMsuq (c ad : Fin 8) (rs1 rs2 : Fin 32) (s : State) : Res :=
  s.ran c (s.issueReg c 3 none (fun k => k.setSatAcc ad (sat96 ((k.acc ad).toInt - mulq (k.g rs1) (k.g rs2)))))

/-- ASHR: arithmetic right shift by k (R544). -/
def execIkAshr (c ad : Fin 8) (k : Fin 32) (s : State) : Res :=
  s.ran c (s.issueReg c 1 none (fun x => x.setAcc ad ((x.acc ad).sshiftRight k.val)))

/-- ASHL: saturating left shift by k (R544). -/
def execIkAshl (c ad : Fin 8) (k : Fin 32) (s : State) : Res :=
  s.ran c (s.issueReg c 1 none (fun x => x.setSatAcc ad (sat96 ((x.acc ad).toInt * 2 ^ k.val))))

/-- ARD: g = sat64(a[as]) (R544). -/
def execIkArd (c asr : Fin 8) (rd : Fin 32) (s : State) : Res :=
  s.ran c (s.issueReg c 1 none (fun k => (k.setG rd (sat64 (k.acc asr).toInt).1).sat (sat64 (k.acc asr).toInt).2))

/-- ARDL: g = a[as][63:0] (R544). -/
def execIkArdl (c asr : Fin 8) (rd : Fin 32) (s : State) : Res :=
  s.ran c (s.issueReg c 1 none (fun k => k.setG rd (BitVec.ofNat 64 (k.acc asr).toNat)))

/-- ARDH: g = sext(a[as][95:64]) (R544). -/
def execIkArdh (c asr : Fin 8) (rd : Fin 32) (s : State) : Res :=
  s.ran c (s.issueReg c 1 none (fun k => k.setG rd (BitVec.ofInt 64 ((k.acc asr).toInt / 18446744073709551616))))

/-- BEQ (R545). -/
def execIkBeq (c : Fin 8) (ra rb : Fin 32) (off : BitVec 15) (s : State) : Res :=
  s.ran c (s.jump c ((s.core c).g ra == (s.core c).g rb) (((s.core c).pc : Int) + 4 * off.toInt) (fun k => k))

/-- BNE (R545). -/
def execIkBne (c : Fin 8) (ra rb : Fin 32) (off : BitVec 15) (s : State) : Res :=
  s.ran c (s.jump c ((s.core c).g ra != (s.core c).g rb) (((s.core c).pc : Int) + 4 * off.toInt) (fun k => k))

/-- BLT (R545). -/
def execIkBlt (c : Fin 8) (ra rb : Fin 32) (off : BitVec 15) (s : State) : Res :=
  s.ran c (s.jump c (decide (((s.core c).g ra).toInt < ((s.core c).g rb).toInt)) (((s.core c).pc : Int) + 4 * off.toInt) (fun k => k))

/-- BGE (R545). -/
def execIkBge (c : Fin 8) (ra rb : Fin 32) (off : BitVec 15) (s : State) : Res :=
  s.ran c (s.jump c (!decide (((s.core c).g ra).toInt < ((s.core c).g rb).toInt)) (((s.core c).pc : Int) + 4 * off.toInt) (fun k => k))

/-- BLTU (R545). -/
def execIkBltu (c : Fin 8) (ra rb : Fin 32) (off : BitVec 15) (s : State) : Res :=
  s.ran c (s.jump c (decide (((s.core c).g ra).toNat < ((s.core c).g rb).toNat)) (((s.core c).pc : Int) + 4 * off.toInt) (fun k => k))

/-- BGEU (R545). -/
def execIkBgeu (c : Fin 8) (ra rb : Fin 32) (off : BitVec 15) (s : State) : Res :=
  s.ran c (s.jump c (!decide (((s.core c).g ra).toNat < ((s.core c).g rb).toNat)) (((s.core c).pc : Int) + 4 * off.toInt) (fun k => k))

/-- JAL: ra = pc + 4, pc = target (R545). -/
def execIkJal (c : Fin 8) (ra : Fin 32) (off : BitVec 15) (s : State) : Res :=
  s.ran c (s.jump c true (((s.core c).pc : Int) + 4 * off.toInt) (fun k => k.setG ra (BitVec.ofNat 64 ((s.core c).pc + 4))))

/-- JALR: t = rs1 + sext(IMM15), rd = pc + 4, pc = t; rs1 is read first (R545). -/
def execIkJalr (c : Fin 8) (rd rs1 : Fin 32) (imm : BitVec 15) (s : State) : Res :=
  s.ran c (s.jump c true ((((s.core c).g rs1 + imm.signExtend 64).toNat : Nat) : Int) (fun k => k.setG rd (BitVec.ofNat 64 ((s.core c).pc + 4))))

/-- NOP (R546). -/
def execIkNop (c : Fin 8) (s : State) : Res :=
  s.ran c (s.issueReg c 1 none (fun k => k))

/-- MFS: rd = special register n (R500, R546). -/
def execIkMfs (c : Fin 8) (rd : Fin 32) (n : Fin 32) (s : State) : Res :=
  s.ran c (s.issueReg c 1 none (fun k => k.setG rd (BitVec.ofNat 64 (s.special c n))))

/-- MTS: qsel takes rs1[1:0] and flags takes rs1[4:0]; every other write is discarded (R500, R546). -/
def execIkMts (c : Fin 8) (n : Fin 32) (rs1 : Fin 32) (s : State) : Res :=
  s.ran c (s.issueReg c 1 none (fun k => if n.val = 2 then { k with qsel := (k.g rs1).toNat % 4 } else if n.val = 6 then k.setFlags (BitVec.ofNat 5 (k.g rs1).toNat) else k))

/-- MFM: rd = m[k]; a k of 4 or more is ILLEGAL (R546). -/
def execIkMfm (c : Fin 8) (rd : Fin 32) (k : Fin 32) (s : State) : Res :=
  s.ran c (s.issueReg c 1 (if 4 ≤ k.val then some 1 else none) (fun x => x.setG rd (x.m k)))

/-- QSEL: qsel = IMM8[1:0] (R547). -/
def execIkQsel (c : Fin 8) (set : Fin 4) (s : State) : Res :=
  s.ran c (s.issueReg c 1 none (fun k => { k with qsel := set }))

end Sys2Proof.Machine
end

