-- ==== Sys2Proof/Machine/Dispatch.lean ====
section
/-! DEFINITION. One arm per command: the command's meaning, or its rejection by name. -/

namespace Sys2Proof.Machine
open Sys2Proof

def exec (i : Instr) (s : State) : Host.Outcome State Fault Refusal :=
  match i with
  | .registerWrite a wide v => Sys2Proof.Machine.execRegisterWrite a wide v s
  | .unmappedRead a => Sys2Proof.Machine.execUnmappedRead a s
  | .unmappedWrite a v => Sys2Proof.Machine.execUnmappedWrite a v s
  | .misalignedAccess a sz write v => Sys2Proof.Machine.execMisalignedAccess a sz write v s
  | .pairLowRead a wide => Sys2Proof.Machine.execPairLowRead a wide s
  | .pairHighRead a => Sys2Proof.Machine.execPairHighRead a s
  | .coldStart roleSel testen => Sys2Proof.Machine.execColdStart roleSel testen s
  | .aoResetRelease => Sys2Proof.Machine.execAoResetRelease s
  | .aoBootStepsDone flashOk => Sys2Proof.Machine.execAoBootStepsDone flashOk s
  | .resetRelease => Sys2Proof.Machine.execResetRelease s
  | .powerOff => Sys2Proof.Machine.execPowerOff s
  | .rstNLow low => Sys2Proof.Machine.execRstNLow s low
  | .supplyOutOfWindow n => Sys2Proof.Machine.execSupplyOutOfWindow n s
  | .supplyRestored => Sys2Proof.Machine.execSupplyRestored s
  | .vdd33AoLow => Sys2Proof.Machine.execVdd33AoLow s
  | .vdd33AoBelow2v9 => Sys2Proof.Machine.execVdd33AoBelow2v9 s
  | .vdd33AoHigh => Sys2Proof.Machine.execVdd33AoHigh s
  | .refclkLoss => Sys2Proof.Machine.execRefclkLoss s
  | .vxrefLoss => Sys2Proof.Machine.execVxrefLoss s
  | .xt32Loss => Sys2Proof.Machine.execXt32Loss s
  | .externalTrip low => Sys2Proof.Machine.execExternalTrip s low
  | .pfailNLow => Sys2Proof.Machine.execPfailNLow s
  | .shedInChange high => Sys2Proof.Machine.execShedInChange high s
  | .droopNPulse n => Sys2Proof.Machine.execDroopNPulse n s
  | .psfltAssert g => Sys2Proof.Machine.execPsfltAssert g s
  | .islandHung n => Sys2Proof.Machine.execIslandHung n s
  | .crossingUnanswered n row => Sys2Proof.Machine.execCrossingUnanswered n row s
  | .resetReqWr v => Sys2Proof.Machine.execResetReqWr v s
  | .resetReqIr v => Sys2Proof.Machine.execResetReqIr v s
  | .resetReqHr v => Sys2Proof.Machine.execResetReqHr v s
  | .resetReqFr v => Sys2Proof.Machine.execResetReqFr v s
  | .resetReqDr v => Sys2Proof.Machine.execResetReqDr v s
  | .cancelWr v => Sys2Proof.Machine.execCancelWr v s
  | .hostTunnelDown => Sys2Proof.Machine.execHostTunnelDown s
  | .trstNLow => Sys2Proof.Machine.execTrstNLow s
  | .deferredWrProceed => Sys2Proof.Machine.execDeferredWrProceed s
  | .wrWaitEnd => Sys2Proof.Machine.execWrWaitEnd s
  | .energyCheckpoint => Sys2Proof.Machine.execEnergyCheckpoint s
  | .pkgCmdGo v => Sys2Proof.Machine.execPkgCmdGo v s
  | .pkgTransitionDone => Sys2Proof.Machine.execPkgTransitionDone s
  | .pkgTransitionTimeout => Sys2Proof.Machine.execPkgTransitionTimeout s
  | .wakeTimerExpiry => Sys2Proof.Machine.execWakeTimerExpiry s
  | .saveComplete b => Sys2Proof.Machine.execSaveComplete b s
  | .profileLoadDone err => Sys2Proof.Machine.execProfileLoadDone err s
  | .profileSave v => Sys2Proof.Machine.execProfileSave v s
  | .phaseClr v => Sys2Proof.Machine.execPhaseClr v s
  | .clearFault r v => Sys2Proof.Machine.execClearFault r v s
  | .switchingCycle n e busv isn => Sys2Proof.Machine.execSwitchingCycle n e busv isn s
  | .phaseAdd r isn => Sys2Proof.Machine.execPhaseAdd r isn s
  | .phaseShed r isn => Sys2Proof.Machine.execPhaseShed r isn s
  | .phaseImbalance n isn => Sys2Proof.Machine.execPhaseImbalance n isn s
  | .railCurrentLimit r isn => Sys2Proof.Machine.execRailCurrentLimit r isn s
  | .railPowerGood r raw => Sys2Proof.Machine.execRailPowerGood r raw s
  | .ssTimeout r => Sys2Proof.Machine.execSsTimeout r s
  | .burstEntry r isn => Sys2Proof.Machine.execBurstEntry r isn s
  | .burstPulse r raw => Sys2Proof.Machine.execBurstPulse r raw s
  | .burstExit r cause isn raw => Sys2Proof.Machine.execBurstExit r cause isn raw s
  | .floodgateStrobe r => Sys2Proof.Machine.execFloodgateStrobe r s
  | .floodgateHoldEnd r isn => Sys2Proof.Machine.execFloodgateHoldEnd r isn s
  | .deadTimeChange ix ack => Sys2Proof.Machine.execDeadTimeChange ix ack s
  | .pmbusPollRound seg l alert => Sys2Proof.Machine.execPmbusPollRound seg l s alert
  | .avsWrite r => Sys2Proof.Machine.execAvsWrite r s
  | .vsnSenseFault r raw => Sys2Proof.Machine.execVsnSenseFault r raw s
  | .railUndervoltage r raw => Sys2Proof.Machine.execRailUndervoltage r raw s
  | .railOvervoltage r raw => Sys2Proof.Machine.execRailOvervoltage r raw s
  | .ovDischargeDone r raw => Sys2Proof.Machine.execOvDischargeDone r raw s
  | .railGrossOvercurrent r isn => Sys2Proof.Machine.execRailGrossOvercurrent r isn s
  | .groupLocationDone g l still => Sys2Proof.Machine.execGroupLocationDone g l still s
  | .phaseSenseFault n isn => Sys2Proof.Machine.execPhaseSenseFault n isn s
  | .pmbusSegmentStuck seg recovered => Sys2Proof.Machine.execPmbusSegmentStuck seg recovered s
  | .linkTrainAttemptFail n => Sys2Proof.Machine.execLinkTrainAttemptFail n s
  | .linkRetry n => Sys2Proof.Machine.execLinkRetry n s
  | .linkActive n rate x8 => Sys2Proof.Machine.execLinkActive n rate x8 s
  | .retrain v => Sys2Proof.Machine.execRetrain v s
  | .flitReceived n f side => Sys2Proof.Machine.execFlitReceived n f s side
  | .linkLoss n cause => Sys2Proof.Machine.execLinkLoss n cause s
  | .linkLossReturn n => Sys2Proof.Machine.execLinkLossReturn n s
  | .intentReceived n m => Sys2Proof.Machine.execIntentReceived n m s
  | .releaseReceived n m => Sys2Proof.Machine.execReleaseReceived n m s
  | .openReceived n m => Sys2Proof.Machine.execOpenReceived n m s
  | .stateReceived n m => Sys2Proof.Machine.execStateReceived n m s
  | .tempReceived n m => Sys2Proof.Machine.execTempReceived n m s
  | .droopReceived n m => Sys2Proof.Machine.execDroopReceived n m s
  | .probereplyReceived n m => Sys2Proof.Machine.execProbereplyReceived n m s
  | .probeTimeout t => Sys2Proof.Machine.execProbeTimeout t s
  | .reservationReturn t => Sys2Proof.Machine.execReservationReturn t s
  | .budgetRepeat p => Sys2Proof.Machine.execBudgetRepeat p s
  | .tileNeedsCurrent t cls lease arrive grp op layer => Sys2Proof.Machine.execTileNeedsCurrent t cls lease arrive grp op layer s
  | .tileRenew t cls lease => Sys2Proof.Machine.execTileRenew t cls lease s
  | .tileNeedsLess t cls => Sys2Proof.Machine.execTileNeedsLess t cls s
  | .tileWithdraws t => Sys2Proof.Machine.execTileWithdraws t s
  | .grantReceived t m => Sys2Proof.Machine.execGrantReceived t m s
  | .mgrantReceived t m => Sys2Proof.Machine.execMgrantReceived t m s
  | .nakReceived t m => Sys2Proof.Machine.execNakReceived t m s
  | .budgetReceived t m => Sys2Proof.Machine.execBudgetReceived t m s
  | .configReceived t m => Sys2Proof.Machine.execConfigReceived t m s
  | .groupReceived t m => Sys2Proof.Machine.execGroupReceived t m s
  | .fstepReceived t m => Sys2Proof.Machine.execFstepReceived t m s
  | .pauseReceived t m => Sys2Proof.Machine.execPauseReceived t m s
  | .refreshReceived t m => Sys2Proof.Machine.execRefreshReceived t m s
  | .probeReceived t m => Sys2Proof.Machine.execProbeReceived t m s
  | .closeReceived t m => Sys2Proof.Machine.execCloseReceived t m s
  | .syncReceived n other => Sys2Proof.Machine.execSyncReceived n other s
  | .rampComplete t => Sys2Proof.Machine.execRampComplete t s
  | .endpointLeaseExpiry t => Sys2Proof.Machine.execEndpointLeaseExpiry t s
  | .qfullBackoffExpiry t ty => Sys2Proof.Machine.execQfullBackoffExpiry t s ty
  | .heldWaitExpiry t => Sys2Proof.Machine.execHeldWaitExpiry t s
  | .openRetry t => Sys2Proof.Machine.execOpenRetry t s
  | .tempReport t j valid mdeg change => Sys2Proof.Machine.execTempReport t j valid mdeg change s
  | .droopReport t count longest => Sys2Proof.Machine.execDroopReport t count longest s
  | .clampAccept n code => Sys2Proof.Machine.execClampAccept n code s
  | .endpointLinkLoss n other => Sys2Proof.Machine.execEndpointLinkLoss n other s
  | .waveStart d => Sys2Proof.Machine.execWaveStart d s
  | .barrierTimeout g => Sys2Proof.Machine.execBarrierTimeout g s
  | .predictTick g => Sys2Proof.Machine.execPredictTick g s
  | .preboostStart g d => Sys2Proof.Machine.execPreboostStart g d s
  | .preboostMaxhold g d => Sys2Proof.Machine.execPreboostMaxhold g d s
  | .gradeReqWrite d v => Sys2Proof.Machine.execGradeReqWrite d v s
  | .gradeSettled d => Sys2Proof.Machine.execGradeSettled d s
  | .gradeDownFall d => Sys2Proof.Machine.execGradeDownFall d s
  | .gradeSettleTimeout d => Sys2Proof.Machine.execGradeSettleTimeout d s
  | .limitStep d => Sys2Proof.Machine.execLimitStep d s
  | .pauseDutyChange n v => Sys2Proof.Machine.execPauseDutyChange n v s
  | .floodgateDetect r l => Sys2Proof.Machine.execFloodgateDetect r l s
  | .strobeWithdraw r l => Sys2Proof.Machine.execStrobeWithdraw r l s
  | .floodgateRearm r => Sys2Proof.Machine.execFloodgateRearm r s
  | .freezeEnd d => Sys2Proof.Machine.execFreezeEnd d s
  | .axRun v => Sys2Proof.Machine.execAxRun v s
  | .axStop v => Sys2Proof.Machine.execAxStop v s
  | .axClear v => Sys2Proof.Machine.execAxClear v s
  | .axRestart v => Sys2Proof.Machine.execAxRestart v s
  | .auxReady n => Sys2Proof.Machine.execAuxReady n s
  | .auxAdmitTick => Sys2Proof.Machine.execAuxAdmitTick s
  | .auxGood n agv v => Sys2Proof.Machine.execAuxGood n agv v s
  | .auxSsTimeout n c => Sys2Proof.Machine.execAuxSsTimeout n c s
  | .auxFast n c => Sys2Proof.Machine.execAuxFast n c s
  | .auxOverload n c => Sys2Proof.Machine.execAuxOverload n c s
  | .auxUv n agv v => Sys2Proof.Machine.execAuxUv n agv v s
  | .auxSense n c v => Sys2Proof.Machine.execAuxSense n c s v
  | .groupWarn g cs => Sys2Proof.Machine.execGroupWarn g cs s
  | .sagBegin g a b => Sys2Proof.Machine.execSagBegin g a b s
  | .sagEnd g agv => Sys2Proof.Machine.execSagEnd g agv s
  | .sagMaxExpiry g => Sys2Proof.Machine.execSagMaxExpiry g s
  | .reverseOffStep n v => Sys2Proof.Machine.execReverseOffStep n v s
  | .resTick busv busi convW rvstk rvis => Sys2Proof.Machine.execResTick busv busi convW rvstk rvis s
  | .bleedStart => Sys2Proof.Machine.execBleedStart s
  | .bleedOff => Sys2Proof.Machine.execBleedOff s
  | .readingA cells rvstk rvis => Sys2Proof.Machine.execReadingA cells rvstk rvis s
  | .probeOn => Sys2Proof.Machine.execProbeOn s
  | .readingB cells rvstk => Sys2Proof.Machine.execReadingB cells rvstk s
  | .stackOvercurrent rvis => Sys2Proof.Machine.execStackOvercurrent rvis s
  | .cthSample vs => Sys2Proof.Machine.execCthSample vs s
  | .causeClearTimer c => Sys2Proof.Machine.execCauseClearTimer c s
  | .newModule v => Sys2Proof.Machine.execNewModule v s
  | .recheck v => Sys2Proof.Machine.execRecheck v s
  | .rvSave v => Sys2Proof.Machine.execRvSave v s
  | .checkDone => Sys2Proof.Machine.execCheckDone s
  | .prechargeDone => Sys2Proof.Machine.execPrechargeDone s
  | .prechargeTimeout => Sys2Proof.Machine.execPrechargeTimeout s
  | .esrSample step dv => Sys2Proof.Machine.execEsrSample step dv s
  | .esrUnmeasured => Sys2Proof.Machine.execEsrUnmeasured s
  | .enduranceCheckpoint => Sys2Proof.Machine.execEnduranceCheckpoint s
  | .shedFlag => Sys2Proof.Machine.execShedFlag s
  | .zoneTick => Sys2Proof.Machine.execZoneTick s
  | .sensorReading cls ix ok v => Sys2Proof.Machine.execSensorReading cls ix ok v s
  | .readingSilent t j => Sys2Proof.Machine.execReadingSilent t j s
  | .readingStuck cls ix => Sys2Proof.Machine.execReadingStuck cls ix s
  | .readingRestored cls ix => Sys2Proof.Machine.execReadingRestored cls ix s
  | .dieUnpinned n => Sys2Proof.Machine.execDieUnpinned n s
  | .stepTick => Sys2Proof.Machine.execStepTick s
  | .orderlyStopRecompute => Sys2Proof.Machine.execOrderlyStopRecompute s
  | .drainEnd => Sys2Proof.Machine.execDrainEnd s
  | .flushEnd => Sys2Proof.Machine.execFlushEnd s
  | .grade0Reached => Sys2Proof.Machine.execGrade0Reached s
  | .aoTripCompare j ok v => Sys2Proof.Machine.execAoTripCompare j ok v s
  | .threshWrite v => Sys2Proof.Machine.execThreshWrite v s
  | .thSave v => Sys2Proof.Machine.execThSave v s
  | .allocation => Sys2Proof.Machine.execAllocation s
  | .budgetDutyTick => Sys2Proof.Machine.execBudgetDutyTick s
  | .estimateTick => Sys2Proof.Machine.execEstimateTick s
  | .estClear v => Sys2Proof.Machine.execEstClear v s
  | .bgSave v => Sys2Proof.Machine.execBgSave v s
  | .partCfgWrite p hi v => Sys2Proof.Machine.execPartCfgWrite p hi v s
  | .heldAskExpiry t => Sys2Proof.Machine.execHeldAskExpiry t s
  | .rgaTimeout => Sys2Proof.Machine.execRgaTimeout s
  | .qcfgWrite q v => Sys2Proof.Machine.execQcfgWrite q v s
  | .mePopRead req q => Sys2Proof.Machine.execMePopRead req q s
  | .mePop64Read req q => Sys2Proof.Machine.execMePop64Read req q s
  | .collectTimeout g => Sys2Proof.Machine.execCollectTimeout g s
  | .collectRetry g => Sys2Proof.Machine.execCollectRetry g s
  | .normalDispatch c => Sys2Proof.Machine.execNormalDispatch c s
  | .urgentDispatch c => Sys2Proof.Machine.execUrgentDispatch c s
  | .budgetOverrun c => Sys2Proof.Machine.execBudgetOverrun c s
  | .coreException c e => Sys2Proof.Machine.execCoreException c e s
  | .coreRestart c => Sys2Proof.Machine.execCoreRestart c s
  | .ikStop v => Sys2Proof.Machine.execIkStop v s
  | .ikRestart v => Sys2Proof.Machine.execIkRestart v s
  | .ikSave v => Sys2Proof.Machine.execIkSave v s
  | .budgetWrite v => Sys2Proof.Machine.execBudgetWrite v s
  | .imageLoad => Sys2Proof.Machine.execImageLoad s
  | .ikAdd c rd rs1 rs2 => Sys2Proof.Machine.execIkAdd c rd rs1 rs2 s
  | .ikSub c rd rs1 rs2 => Sys2Proof.Machine.execIkSub c rd rs1 rs2 s
  | .ikAnd c rd rs1 rs2 => Sys2Proof.Machine.execIkAnd c rd rs1 rs2 s
  | .ikOr c rd rs1 rs2 => Sys2Proof.Machine.execIkOr c rd rs1 rs2 s
  | .ikXor c rd rs1 rs2 => Sys2Proof.Machine.execIkXor c rd rs1 rs2 s
  | .ikSll c rd rs1 rs2 => Sys2Proof.Machine.execIkSll c rd rs1 rs2 s
  | .ikSrl c rd rs1 rs2 => Sys2Proof.Machine.execIkSrl c rd rs1 rs2 s
  | .ikSra c rd rs1 rs2 => Sys2Proof.Machine.execIkSra c rd rs1 rs2 s
  | .ikSlt c rd rs1 rs2 => Sys2Proof.Machine.execIkSlt c rd rs1 rs2 s
  | .ikSltu c rd rs1 rs2 => Sys2Proof.Machine.execIkSltu c rd rs1 rs2 s
  | .ikMin c rd rs1 rs2 => Sys2Proof.Machine.execIkMin c rd rs1 rs2 s
  | .ikMax c rd rs1 rs2 => Sys2Proof.Machine.execIkMax c rd rs1 rs2 s
  | .ikMinu c rd rs1 rs2 => Sys2Proof.Machine.execIkMinu c rd rs1 rs2 s
  | .ikMaxu c rd rs1 rs2 => Sys2Proof.Machine.execIkMaxu c rd rs1 rs2 s
  | .ikMul c rd rs1 rs2 => Sys2Proof.Machine.execIkMul c rd rs1 rs2 s
  | .ikMulh c rd rs1 rs2 => Sys2Proof.Machine.execIkMulh c rd rs1 rs2 s
  | .ikMulhu c rd rs1 rs2 => Sys2Proof.Machine.execIkMulhu c rd rs1 rs2 s
  | .ikDiv c rd rs1 rs2 => Sys2Proof.Machine.execIkDiv c rd rs1 rs2 s
  | .ikDivu c rd rs1 rs2 => Sys2Proof.Machine.execIkDivu c rd rs1 rs2 s
  | .ikRem c rd rs1 rs2 => Sys2Proof.Machine.execIkRem c rd rs1 rs2 s
  | .ikRemu c rd rs1 rs2 => Sys2Proof.Machine.execIkRemu c rd rs1 rs2 s
  | .ikCmp c rs1 rs2 => Sys2Proof.Machine.execIkCmp c rs1 rs2 s
  | .ikClz c rd rs1 => Sys2Proof.Machine.execIkClz c rd rs1 s
  | .ikPopc c rd rs1 => Sys2Proof.Machine.execIkPopc c rd rs1 s
  | .ikAddi c rd rs1 imm => Sys2Proof.Machine.execIkAddi c rd rs1 imm s
  | .ikAndi c rd rs1 imm => Sys2Proof.Machine.execIkAndi c rd rs1 imm s
  | .ikOri c rd rs1 imm => Sys2Proof.Machine.execIkOri c rd rs1 imm s
  | .ikXori c rd rs1 imm => Sys2Proof.Machine.execIkXori c rd rs1 imm s
  | .ikShi c rd rs1 sel amt => Sys2Proof.Machine.execIkShi c rd rs1 sel amt s
  | .ikSlti c rd rs1 imm => Sys2Proof.Machine.execIkSlti c rd rs1 imm s
  | .ikSltiu c rd rs1 imm => Sys2Proof.Machine.execIkSltiu c rd rs1 imm s
  | .ikCmpi c rs1 imm => Sys2Proof.Machine.execIkCmpi c rs1 imm s
  | .ikLitl c rd lit => Sys2Proof.Machine.execIkLitl c rd lit s
  | .ikLith c rd lit => Sys2Proof.Machine.execIkLith c rd lit s
  | .ikLb c rt rb off => Sys2Proof.Machine.execIkLb c rt rb off s
  | .ikLbu c rt rb off => Sys2Proof.Machine.execIkLbu c rt rb off s
  | .ikLh c rt rb off => Sys2Proof.Machine.execIkLh c rt rb off s
  | .ikLhu c rt rb off => Sys2Proof.Machine.execIkLhu c rt rb off s
  | .ikLw c rt rb off => Sys2Proof.Machine.execIkLw c rt rb off s
  | .ikLwu c rt rb off => Sys2Proof.Machine.execIkLwu c rt rb off s
  | .ikLd c rt rb off => Sys2Proof.Machine.execIkLd c rt rb off s
  | .ikSb c rt rb off => Sys2Proof.Machine.execIkSb c rt rb off s
  | .ikSh c rt rb off => Sys2Proof.Machine.execIkSh c rt rb off s
  | .ikSw c rt rb off => Sys2Proof.Machine.execIkSw c rt rb off s
  | .ikSd c rt rb off => Sys2Proof.Machine.execIkSd c rt rb off s
  | .ikAclr c ad => Sys2Proof.Machine.execIkAclr c ad s
  | .ikAld c ad rs1 => Sys2Proof.Machine.execIkAld c ad rs1 s
  | .ikAldi c ad rs1 => Sys2Proof.Machine.execIkAldi c ad rs1 s
  | .ikAldr c ad rs1 rs2 => Sys2Proof.Machine.execIkAldr c ad rs1 rs2 s
  | .ikAadd c ad asr => Sys2Proof.Machine.execIkAadd c ad asr s
  | .ikAsub c ad asr => Sys2Proof.Machine.execIkAsub c ad asr s
  | .ikAmov c ad asr => Sys2Proof.Machine.execIkAmov c ad asr s
  | .ikMulq c ad rs1 rs2 => Sys2Proof.Machine.execIkMulq c ad rs1 rs2 s
  | .ikMacq c ad rs1 rs2 => Sys2Proof.Machine.execIkMacq c ad rs1 rs2 s
  | .ikMsuq c ad rs1 rs2 => Sys2Proof.Machine.execIkMsuq c ad rs1 rs2 s
  | .ikAshr c ad k => Sys2Proof.Machine.execIkAshr c ad k s
  | .ikAshl c ad k => Sys2Proof.Machine.execIkAshl c ad k s
  | .ikArd c asr rd => Sys2Proof.Machine.execIkArd c asr rd s
  | .ikArdl c asr rd => Sys2Proof.Machine.execIkArdl c asr rd s
  | .ikArdh c asr rd => Sys2Proof.Machine.execIkArdh c asr rd s
  | .ikBeq c ra rb off => Sys2Proof.Machine.execIkBeq c ra rb off s
  | .ikBne c ra rb off => Sys2Proof.Machine.execIkBne c ra rb off s
  | .ikBlt c ra rb off => Sys2Proof.Machine.execIkBlt c ra rb off s
  | .ikBge c ra rb off => Sys2Proof.Machine.execIkBge c ra rb off s
  | .ikBltu c ra rb off => Sys2Proof.Machine.execIkBltu c ra rb off s
  | .ikBgeu c ra rb off => Sys2Proof.Machine.execIkBgeu c ra rb off s
  | .ikJal c ra off => Sys2Proof.Machine.execIkJal c ra off s
  | .ikJalr c rd rs1 imm => Sys2Proof.Machine.execIkJalr c rd rs1 imm s
  | .ikNop c => Sys2Proof.Machine.execIkNop c s
  | .ikRte c => Sys2Proof.Machine.execIkRte c s
  | .ikMfs c rd n => Sys2Proof.Machine.execIkMfs c rd n s
  | .ikMts c n rs1 => Sys2Proof.Machine.execIkMts c n rs1 s
  | .ikMfm c rd k => Sys2Proof.Machine.execIkMfm c rd k s
  | .ikSend c rd rs1 rs2 mode => Sys2Proof.Machine.execIkSend c rd rs1 rs2 mode s
  | .ikRecv c rd rs1 => Sys2Proof.Machine.execIkRecv c rd rs1 s
  | .ikWaitq c rd => Sys2Proof.Machine.execIkWaitq c rd s
  | .waitqComplete c n => Sys2Proof.Machine.execWaitqComplete c n s
  | .ikQsel c set => Sys2Proof.Machine.execIkQsel c set s
  | .ikChopen c rd rs1 => Sys2Proof.Machine.execIkChopen c rd rs1 s
  | .ikChclose c rd rs1 => Sys2Proof.Machine.execIkChclose c rd rs1 s
  | .ikGrade c rd rs1 d => Sys2Proof.Machine.execIkGrade c rd rs1 d s
  | .ikAdmit c rd rs1 rs2 => Sys2Proof.Machine.execIkAdmit c rd rs1 rs2 s
  | .ikBarx c rd rs1 rs2 => Sys2Proof.Machine.execIkBarx c rd rs1 rs2 s
  | .ikPause c rd rs1 rs2 => Sys2Proof.Machine.execIkPause c rd rs1 rs2 s
  | .ikPgrade c rd rs1 rs2 => Sys2Proof.Machine.execIkPgrade c rd rs1 rs2 s
  | .ikRlim c rd rs1 r => Sys2Proof.Machine.execIkRlim c rd rs1 r s
  | .ikLogev c rd rs1 rs2 => Sys2Proof.Machine.execIkLogev c rd rs1 rs2 s
  | .ikDrd c rd rs1 mode => Sys2Proof.Machine.execIkDrd c rd rs1 mode s
  | .ikPstate c rd rs1 => Sys2Proof.Machine.execIkPstate c rd rs1 s
  | .ringDoorbell r v => Sys2Proof.Machine.execRingDoorbell r v s
  | .ringTurn => Sys2Proof.Machine.execRingTurn s
  | .descriptorFetched r bytes ok => Sys2Proof.Machine.execDescriptorFetched r bytes ok s
  | .bufferFetched r bytes ok => Sys2Proof.Machine.execBufferFetched r bytes ok s
  | .setcap => Sys2Proof.Machine.execSetcap s
  | .setfloor => Sys2Proof.Machine.execSetfloor s
  | .loadtbl => Sys2Proof.Machine.execLoadtbl s
  | .tablePublish n => Sys2Proof.Machine.execTablePublish n s
  | .runpol => Sys2Proof.Machine.execRunpol s
  | .profile => Sys2Proof.Machine.execProfile s
  | .signal => Sys2Proof.Machine.execSignal s
  | .fence => Sys2Proof.Machine.execFence s
  | .chain => Sys2Proof.Machine.execChain s
  | .launchRetry => Sys2Proof.Machine.execLaunchRetry s
  | .launchTimeout r ix => Sys2Proof.Machine.execLaunchTimeout r ix s
  | .ringAbort r v => Sys2Proof.Machine.execRingAbort r v s
  | .ringResume r v => Sys2Proof.Machine.execRingResume r v s
  | .ringCfgWrite r v => Sys2Proof.Machine.execRingCfgWrite r v s
  | .vecMaskWrite n v => Sys2Proof.Machine.execVecMaskWrite n v s
  | .cfSave v => Sys2Proof.Machine.execCfSave v s
  | .flStart n v => Sys2Proof.Machine.execFlStart n v s
  | .flResume n v => Sys2Proof.Machine.execFlResume n v s
  | .flAbort n v => Sys2Proof.Machine.execFlAbort n v s
  | .granuleArrived n k bytes ok => Sys2Proof.Machine.execGranuleArrived n k bytes ok s
  | .walkReadDone u e ok => Sys2Proof.Machine.execWalkReadDone u e ok s
  | .upstreamReadTimeout u k => Sys2Proof.Machine.execUpstreamReadTimeout u k s
  | .holdExpiry n => Sys2Proof.Machine.execHoldExpiry n s
  | .flInvGo v => Sys2Proof.Machine.execFlInvGo v s
  | .invComplete => Sys2Proof.Machine.execInvComplete s
  | .ctxWrite c hi v => Sys2Proof.Machine.execCtxWrite c hi v s
  | .flSave v => Sys2Proof.Machine.execFlSave v s
  | .portUp p fec => Sys2Proof.Machine.execPortUp p fec s
  | .portDown p cause => Sys2Proof.Machine.execPortDown p cause s
  | .autonegRestart p => Sys2Proof.Machine.execAutonegRestart p s
  | .helloTimer => Sys2Proof.Machine.execHelloTimer s
  | .helloReceived p l => Sys2Proof.Machine.execHelloReceived p l s
  | .neighbourDead p => Sys2Proof.Machine.execNeighbourDead p s
  | .treqTimer => Sys2Proof.Machine.execTreqTimer s
  | .treqReceived p l => Sys2Proof.Machine.execTreqReceived p l s
  | .trspReceived p l => Sys2Proof.Machine.execTrspReceived p l s
  | .holdover => Sys2Proof.Machine.execHoldover s
  | .lsaReceived p l => Sys2Proof.Machine.execLsaReceived p l s
  | .lsaRefresh => Sys2Proof.Machine.execLsaRefresh s
  | .lsaAgeOut id => Sys2Proof.Machine.execLsaAgeOut id s
  | .addressClaim => Sys2Proof.Machine.execAddressClaim s
  | .routeRecompute => Sys2Proof.Machine.execRouteRecompute s
  | .summaryTimer => Sys2Proof.Machine.execSummaryTimer s
  | .summaryReceived p l => Sys2Proof.Machine.execSummaryReceived p l s
  | .summaryExpiry origin => Sys2Proof.Machine.execSummaryExpiry origin s
  | .dgramReceived p l => Sys2Proof.Machine.execDgramReceived p l s
  | .dgnakReceived p l => Sys2Proof.Machine.execDgnakReceived p l s
  | .ppsEdge => Sys2Proof.Machine.execPpsEdge s
  | .ppsLost => Sys2Proof.Machine.execPpsLost s
  | .timeSetApply v => Sys2Proof.Machine.execTimeSetApply v s
  | .vxSave v => Sys2Proof.Machine.execVxSave v s
  | .ceilInject v => Sys2Proof.Machine.execCeilInject v s
  | .ceilingReceived p l => Sys2Proof.Machine.execCeilingReceived p l s
  | .reportSlot => Sys2Proof.Machine.execReportSlot s
  | .reportReceived p l => Sys2Proof.Machine.execReportReceived p l s
  | .rootCompute => Sys2Proof.Machine.execRootCompute s
  | .allotReceived p l => Sys2Proof.Machine.execAllotReceived p l s
  | .childMissing p elsewhere => Sys2Proof.Machine.execChildMissing p elsewhere s
  | .childDrop p => Sys2Proof.Machine.execChildDrop p s
  | .orphanTimeout => Sys2Proof.Machine.execOrphanTimeout s
  | .shedRefresh => Sys2Proof.Machine.execShedRefresh s
  | .shedReceived p l => Sys2Proof.Machine.execShedReceived p l s
  | .shedCopy1 => Sys2Proof.Machine.execShedCopy1 s
  | .shedExpiry => Sys2Proof.Machine.execShedExpiry s
  | .twinShareCopy watts level slot orphan => Sys2Proof.Machine.execTwinShareCopy watts level slot orphan s
  | .staggerWrite v => Sys2Proof.Machine.execStaggerWrite v s
  | .quietExpiry low => Sys2Proof.Machine.execQuietExpiry low s
  | .claimCheck ua cause => Sys2Proof.Machine.execClaimCheck ua cause s
  | .claimBackoffExpiry => Sys2Proof.Machine.execClaimBackoffExpiry s
  | .ownerContention ua => Sys2Proof.Machine.execOwnerContention ua s
  | .ownershipRelease cause => Sys2Proof.Machine.execOwnershipRelease cause s
  | .barredExpiry => Sys2Proof.Machine.execBarredExpiry s
  | .twinFrameTimer => Sys2Proof.Machine.execTwinFrameTimer s
  | .twinFrameReceived l swept => Sys2Proof.Machine.execTwinFrameReceived l swept s
  | .outOfStep => Sys2Proof.Machine.execOutOfStep s
  | .twHandover v => Sys2Proof.Machine.execTwHandover v s
  | .forceClaim v => Sys2Proof.Machine.execForceClaim v s
  | .handoverReadyTimeout => Sys2Proof.Machine.execHandoverReadyTimeout s
  | .twinLinkLoss low => Sys2Proof.Machine.execTwinLinkLoss low s
  | .recordArrival => Sys2Proof.Machine.execRecordArrival s
  | .tokenRefill code => Sys2Proof.Machine.execTokenRefill code s
  | .summarySecond => Sys2Proof.Machine.execSummarySecond s
  | .ledgerFlushStart => Sys2Proof.Machine.execLedgerFlushStart s
  | .dataPassDone => Sys2Proof.Machine.execDataPassDone s
  | .readbackDone ok => Sys2Proof.Machine.execReadbackDone ok s
  | .markPassDone => Sys2Proof.Machine.execMarkPassDone s
  | .eraseDone ms typ top failed => Sys2Proof.Machine.execEraseDone ms typ top failed s
  | .ledgerScanDone abandoned => Sys2Proof.Machine.execLedgerScanDone abandoned s
  | .lgCursorWrite kind v => Sys2Proof.Machine.execLgCursorWrite kind v s
  | .windowFillDone => Sys2Proof.Machine.execWindowFillDone s
  | .lgClear v => Sys2Proof.Machine.execLgClear v s
  | .lgFlush v => Sys2Proof.Machine.execLgFlush v s
  | .lgSave v => Sys2Proof.Machine.execLgSave v s
  | .streamVecTimer => Sys2Proof.Machine.execStreamVecTimer s
  | .lgRlWrite ix hi v => Sys2Proof.Machine.execLgRlWrite ix hi v s
  | .seCommit v => Sys2Proof.Machine.execSeCommit v s
  | .seVerify v => Sys2Proof.Machine.execSeVerify v s
  | .seRelock v => Sys2Proof.Machine.execSeRelock v s
  | .slotActiveWrite v => Sys2Proof.Machine.execSlotActiveWrite v s
  | .chalRequest v => Sys2Proof.Machine.execChalRequest v s
  | .chalSubmit v => Sys2Proof.Machine.execChalSubmit v s
  | .chalCancel v => Sys2Proof.Machine.execChalCancel v s
  | .chalTimeout => Sys2Proof.Machine.execChalTimeout s
  | .updGo v => Sys2Proof.Machine.execUpdGo v s
  | .updProgramDone ok => Sys2Proof.Machine.execUpdProgramDone ok s
  | .mboxGo v => Sys2Proof.Machine.execMboxGo v s
  | .mboxResponse => Sys2Proof.Machine.execMboxResponse s
  | .provWindowClose => Sys2Proof.Machine.execProvWindowClose s
  | .obEnable v => Sys2Proof.Machine.execObEnable v s
  | .obDisable v => Sys2Proof.Machine.execObDisable v s
  | .obClear v => Sys2Proof.Machine.execObClear v s
  | .obUnfreeze v => Sys2Proof.Machine.execObUnfreeze v s
  | .obArm v => Sys2Proof.Machine.execObArm v s
  | .obFire v => Sys2Proof.Machine.execObFire v s
  | .trigInEdge => Sys2Proof.Machine.execTrigInEdge s
  | .obGrpWrite g j v => Sys2Proof.Machine.execObGrpWrite g j v s
  | .obHalt v => Sys2Proof.Machine.execObHalt v s
  | .jtagHalt => Sys2Proof.Machine.execJtagHalt s
  | .obRelease v => Sys2Proof.Machine.execObRelease v s
  | .jtagRelease => Sys2Proof.Machine.execJtagRelease s
  | .haltMaxExpiry => Sys2Proof.Machine.execHaltMaxExpiry s
  | .haltedClaim => Sys2Proof.Machine.execHaltedClaim s
  | .haltOrphan => Sys2Proof.Machine.execHaltOrphan s
  | .exportTick => Sys2Proof.Machine.execExportTick s
  | .intakeFullReport n => Sys2Proof.Machine.execIntakeFullReport n s
  | .autoRunStart => Sys2Proof.Machine.execAutoRunStart s
  | .waitMaxExpiry => Sys2Proof.Machine.execWaitMaxExpiry s
  | .suppliesLate n => Sys2Proof.Machine.execSuppliesLate n s
  | .profileSaveSl v => Sys2Proof.Machine.execProfileSaveSl v s
  | .adSave v => Sys2Proof.Machine.execAdSave v s
  | .hostTunnelUp rate x8 => Sys2Proof.Machine.execHostTunnelUp rate x8 s
  | .refclkReturn => Sys2Proof.Machine.execRefclkReturn s
  | .vxrefReturn => Sys2Proof.Machine.execVxrefReturn s
  | .xt32Return => Sys2Proof.Machine.execXt32Return s
  | .twinLinkTrained => Sys2Proof.Machine.execTwinLinkTrained s
  | .pfailNHigh => Sys2Proof.Machine.execPfailNHigh s
  | .netStuckLow => Sys2Proof.Machine.execNetStuckLow s
  | .commitDone blown ok => Sys2Proof.Machine.execCommitDone blown ok s
  | .verifyDone => Sys2Proof.Machine.execVerifyDone s
  | .responseCheckDone fuseOk => Sys2Proof.Machine.execResponseCheckDone fuseOk s
  | .ppsOutSecond => Sys2Proof.Machine.execPpsOutSecond s
  | .retireWaitEnd h => Sys2Proof.Machine.execRetireWaitEnd h s
  | .crossingRetry => Sys2Proof.Machine.execCrossingRetry s

end Sys2Proof.Machine
end

