-- ==== Sys2Proof/Machine/Tick.lean ====
section
/-! DEFINITION. The idle step: what one nanosecond does with no command waiting. -/

namespace Sys2Proof.Machine
open Sys2Proof

/-- The idle step: one nanosecond passes, operating time advances while VDD_CORE is in its window, and the ports send what their
egress buffers hold (R651, R734). DESIGN CHOICE, log entry 1. -/
def idleTick (s : State) : State :=
  ({ s with now := s.now + 1, ao.opNs := if bitOf s.edge.supplyGood 0 then s.ao.opNs + 1 else s.ao.opNs }).vxDrain

end Sys2Proof.Machine
end

