-- ==== Sys2Proof/WellFormed.lean ====
section
/-! DEFINITION. Which commands are well formed: the checks that the operand types do not make. A command that is not well formed has
a meaning all the same: an Ikiva word that R531 calls ILLEGAL raises its exception. -/

namespace Sys2Proof

/-- Operand checks the operand types do not make, one arm per constructor. -/
def Instr.wf (i : Instr) : Bool :=
  match i with
  -- an aligned offset, and a value of the width (R13, R15)
  | .registerWrite a wide v => decide (a.toNat % (if wide then 8 else 4) = 0) && (wide || decide (v.toNat < 2 ^ 32))
  -- an aligned offset (R23)
  | .unmappedRead a => decide (a.toNat % 4 = 0)
  -- an aligned offset (R23)
  | .unmappedWrite a _ => decide (a.toNat % 4 = 0)
  -- an access that R23 names
  | .misalignedAccess a sz _ _ => decide (sz.val ≠ 2) || decide (a.toNat % 4 ≠ 0)
  -- a low word lies at an 8-byte-aligned offset (R13, R15)
  | .pairLowRead a _ => decide (a.toNat % 8 = 0)
  -- a high word follows its low word (R13)
  | .pairHighRead a => decide (a.toNat % 8 = 4)
  | .coldStart _ _ => true
  | .aoResetRelease => true
  | .aoBootStepsDone _ => true
  | .resetRelease => true
  | .powerOff => true
  | .rstNLow _ => true
  | .supplyOutOfWindow _ => true
  | .supplyRestored => true
  | .vdd33AoLow => true
  | .vdd33AoBelow2v9 => true
  | .vdd33AoHigh => true
  | .refclkLoss => true
  | .vxrefLoss => true
  | .xt32Loss => true
  | .externalTrip _ => true
  | .pfailNLow => true
  | .shedInChange _ => true
  | .droopNPulse _ => true
  | .psfltAssert _ => true
  | .islandHung _ => true
  | .crossingUnanswered _ _ => true
  | .resetReqWr _ => true
  | .resetReqIr _ => true
  | .resetReqHr _ => true
  | .resetReqFr _ => true
  | .resetReqDr _ => true
  | .cancelWr _ => true
  | .hostTunnelDown => true
  | .trstNLow => true
  | .deferredWrProceed => true
  | .wrWaitEnd => true
  | .energyCheckpoint => true
  | .pkgCmdGo _ => true
  | .pkgTransitionDone => true
  | .pkgTransitionTimeout => true
  | .wakeTimerExpiry => true
  | .saveComplete _ => true
  | .profileLoadDone _ => true
  | .profileSave _ => true
  | .phaseClr _ => true
  | .clearFault _ _ => true
  | .switchingCycle _ _ _ _ => true
  | .phaseAdd _ _ => true
  | .phaseShed _ _ => true
  | .phaseImbalance _ _ => true
  | .railCurrentLimit _ _ => true
  | .railPowerGood _ _ => true
  | .ssTimeout _ => true
  | .burstEntry _ _ => true
  | .burstPulse _ _ => true
  | .burstExit _ _ _ _ => true
  | .floodgateStrobe _ => true
  | .floodgateHoldEnd _ _ => true
  | .deadTimeChange _ _ => true
  | .pmbusPollRound _ _ _ => true
  | .avsWrite _ => true
  | .vsnSenseFault _ _ => true
  | .railUndervoltage _ _ => true
  | .railOvervoltage _ _ => true
  | .ovDischargeDone _ _ => true
  | .railGrossOvercurrent _ _ => true
  | .groupLocationDone _ _ _ => true
  | .phaseSenseFault _ _ => true
  | .pmbusSegmentStuck _ _ => true
  | .linkTrainAttemptFail _ => true
  | .linkRetry _ => true
  | .linkActive _ _ _ => true
  | .retrain _ => true
  | .flitReceived _ _ _ => true
  | .linkLoss _ _ => true
  | .linkLossReturn _ => true
  | .intentReceived _ _ => true
  | .releaseReceived _ _ => true
  | .openReceived _ _ => true
  | .stateReceived _ _ => true
  | .tempReceived _ _ => true
  | .droopReceived _ _ => true
  | .probereplyReceived _ _ => true
  | .probeTimeout _ => true
  | .reservationReturn _ => true
  | .budgetRepeat _ => true
  | .tileNeedsCurrent _ _ _ _ _ _ _ => true
  | .tileRenew _ _ _ => true
  | .tileNeedsLess _ _ => true
  | .tileWithdraws _ => true
  | .grantReceived _ _ => true
  | .mgrantReceived _ _ => true
  | .nakReceived _ _ => true
  | .budgetReceived _ _ => true
  | .configReceived _ _ => true
  | .groupReceived _ _ => true
  | .fstepReceived _ _ => true
  | .pauseReceived _ _ => true
  | .refreshReceived _ _ => true
  | .probeReceived _ _ => true
  | .closeReceived _ _ => true
  | .syncReceived _ _ => true
  | .rampComplete _ => true
  | .endpointLeaseExpiry _ => true
  | .qfullBackoffExpiry _ _ => true
  | .heldWaitExpiry _ => true
  | .openRetry _ => true
  | .tempReport _ _ _ _ _ => true
  | .droopReport _ _ _ => true
  | .clampAccept _ _ => true
  | .endpointLinkLoss _ _ => true
  | .waveStart _ => true
  | .barrierTimeout _ => true
  | .predictTick _ => true
  | .preboostStart _ _ => true
  | .preboostMaxhold _ _ => true
  | .gradeReqWrite _ _ => true
  | .gradeSettled _ => true
  | .gradeDownFall _ => true
  | .gradeSettleTimeout _ => true
  | .limitStep _ => true
  | .pauseDutyChange _ _ => true
  | .floodgateDetect _ _ => true
  | .strobeWithdraw _ _ => true
  | .floodgateRearm _ => true
  | .freezeEnd _ => true
  | .axRun _ => true
  | .axStop _ => true
  | .axClear _ => true
  | .axRestart _ => true
  | .auxReady _ => true
  | .auxAdmitTick => true
  | .auxGood _ _ _ => true
  | .auxSsTimeout _ _ => true
  | .auxFast _ _ => true
  | .auxOverload _ _ => true
  | .auxUv _ _ _ => true
  | .auxSense _ _ _ => true
  | .groupWarn _ _ => true
  | .sagBegin _ _ _ => true
  | .sagEnd _ _ => true
  | .sagMaxExpiry _ => true
  | .reverseOffStep _ _ => true
  | .resTick _ _ _ _ _ => true
  | .bleedStart => true
  | .bleedOff => true
  -- a module has at most 16 cells (R339)
  | .readingA cells _ _ => decide (cells.length ≤ 16)
  | .probeOn => true
  -- a module has at most 16 cells (R339)
  | .readingB cells _ => decide (cells.length ≤ 16)
  | .stackOvercurrent _ => true
  | .cthSample _ => true
  | .causeClearTimer _ => true
  | .newModule _ => true
  | .recheck _ => true
  | .rvSave _ => true
  | .checkDone => true
  | .prechargeDone => true
  | .prechargeTimeout => true
  -- a module has at most 16 cells (R339)
  | .esrSample _ dv => decide (dv.length ≤ 16)
  | .esrUnmeasured => true
  | .enduranceCheckpoint => true
  | .shedFlag => true
  | .zoneTick => true
  | .sensorReading _ _ _ _ => true
  | .readingSilent _ _ => true
  | .readingStuck _ _ => true
  | .readingRestored _ _ => true
  | .dieUnpinned _ => true
  | .stepTick => true
  | .orderlyStopRecompute => true
  | .drainEnd => true
  | .flushEnd => true
  | .grade0Reached => true
  | .aoTripCompare _ _ _ => true
  | .threshWrite _ => true
  | .thSave _ => true
  | .allocation => true
  | .budgetDutyTick => true
  | .estimateTick => true
  | .estClear _ => true
  | .bgSave _ => true
  | .partCfgWrite _ _ _ => true
  | .heldAskExpiry _ => true
  | .rgaTimeout => true
  | .qcfgWrite _ _ => true
  | .mePopRead _ _ => true
  | .mePop64Read _ _ => true
  | .collectTimeout _ => true
  | .collectRetry _ => true
  | .normalDispatch _ => true
  | .urgentDispatch _ => true
  | .budgetOverrun _ => true
  | .coreException _ _ => true
  | .coreRestart _ => true
  | .ikStop _ => true
  | .ikRestart _ => true
  | .ikSave _ => true
  | .budgetWrite _ => true
  | .imageLoad => true
  -- the word of zeros is ILLEGAL (R531)
  | .ikAdd _ rd r1 r2 => !(rd == 0 && r1 == 0 && r2 == 0)
  | .ikSub _ _ _ _ => true
  | .ikAnd _ _ _ _ => true
  | .ikOr _ _ _ _ => true
  | .ikXor _ _ _ _ => true
  | .ikSll _ _ _ _ => true
  | .ikSrl _ _ _ _ => true
  | .ikSra _ _ _ _ => true
  | .ikSlt _ _ _ _ => true
  | .ikSltu _ _ _ _ => true
  | .ikMin _ _ _ _ => true
  | .ikMax _ _ _ _ => true
  | .ikMinu _ _ _ _ => true
  | .ikMaxu _ _ _ _ => true
  | .ikMul _ _ _ _ => true
  | .ikMulh _ _ _ _ => true
  | .ikMulhu _ _ _ _ => true
  | .ikDiv _ _ _ _ => true
  | .ikDivu _ _ _ _ => true
  | .ikRem _ _ _ _ => true
  | .ikRemu _ _ _ _ => true
  | .ikCmp _ _ _ => true
  | .ikClz _ _ _ => true
  | .ikPopc _ _ _ => true
  | .ikAddi _ _ _ _ => true
  | .ikAndi _ _ _ _ => true
  | .ikOri _ _ _ _ => true
  | .ikXori _ _ _ _ => true
  -- selection 3 is ILLEGAL (R541)
  | .ikShi _ _ _ sel _ => sel != 3
  | .ikSlti _ _ _ _ => true
  | .ikSltiu _ _ _ _ => true
  | .ikCmpi _ _ _ => true
  | .ikLitl _ _ _ => true
  | .ikLith _ _ _ => true
  | .ikLb _ _ _ _ => true
  | .ikLbu _ _ _ _ => true
  | .ikLh _ _ _ _ => true
  | .ikLhu _ _ _ _ => true
  | .ikLw _ _ _ _ => true
  | .ikLwu _ _ _ _ => true
  | .ikLd _ _ _ _ => true
  | .ikSb _ _ _ _ => true
  | .ikSh _ _ _ _ => true
  | .ikSw _ _ _ _ => true
  | .ikSd _ _ _ _ => true
  | .ikAclr _ _ => true
  | .ikAld _ _ _ => true
  | .ikAldi _ _ _ => true
  | .ikAldr _ _ _ _ => true
  | .ikAadd _ _ _ => true
  | .ikAsub _ _ _ => true
  | .ikAmov _ _ _ => true
  | .ikMulq _ _ _ _ => true
  | .ikMacq _ _ _ _ => true
  | .ikMsuq _ _ _ _ => true
  | .ikAshr _ _ _ => true
  | .ikAshl _ _ _ => true
  | .ikArd _ _ _ => true
  | .ikArdl _ _ _ => true
  | .ikArdh _ _ _ => true
  | .ikBeq _ _ _ _ => true
  | .ikBne _ _ _ _ => true
  | .ikBlt _ _ _ _ => true
  | .ikBge _ _ _ _ => true
  | .ikBltu _ _ _ _ => true
  | .ikBgeu _ _ _ _ => true
  | .ikJal _ _ _ => true
  | .ikJalr _ _ _ _ => true
  | .ikNop _ => true
  | .ikRte _ => true
  | .ikMfs _ _ _ => true
  | .ikMts _ _ _ => true
  -- a k of 4 or more is ILLEGAL (R546)
  | .ikMfm _ _ k => decide (k.val < 4)
  -- MODE 3, or rs2 above 29, is ILLEGAL (R548)
  | .ikSend _ _ _ r2 mode => mode != 3 && decide (r2.val ≤ 29)
  -- rd is one of 4, 8, 12, 16, 20, 24 and 28 (R549)
  | .ikRecv _ rd _ => rd.val % 4 == 0 && rd != 0
  | .ikWaitq _ _ => true
  | .waitqComplete _ _ => true
  | .ikQsel _ _ => true
  | .ikChopen _ _ _ => true
  | .ikChclose _ _ _ => true
  | .ikGrade _ _ _ _ => true
  | .ikAdmit _ _ _ _ => true
  | .ikBarx _ _ _ _ => true
  | .ikPause _ _ _ _ => true
  | .ikPgrade _ _ _ _ => true
  | .ikRlim _ _ _ _ => true
  -- rs2 above 30 is ILLEGAL (R553)
  | .ikLogev _ _ _ r2 => decide (r2.val ≤ 30)
  -- MODE 2 or 3 is ILLEGAL (R554)
  | .ikDrd _ _ _ mode => decide (mode.val < 2)
  | .ikPstate _ _ _ => true
  | .ringDoorbell _ _ => true
  | .ringTurn => true
  -- a descriptor has 64 bytes (R560)
  | .descriptorFetched _ bytes _ => decide (bytes.length ≤ 64)
  | .bufferFetched _ _ _ => true
  | .setcap => true
  | .setfloor => true
  | .loadtbl => true
  | .tablePublish _ => true
  | .runpol => true
  | .profile => true
  | .signal => true
  | .fence => true
  | .chain => true
  | .launchRetry => true
  | .launchTimeout _ _ => true
  | .ringAbort _ _ => true
  | .ringResume _ _ => true
  | .ringCfgWrite _ _ => true
  | .vecMaskWrite _ _ => true
  | .cfSave _ => true
  | .flStart _ _ => true
  | .flResume _ _ => true
  | .flAbort _ _ => true
  -- a granule has at most 64 bytes (R595)
  | .granuleArrived _ _ bytes _ => decide (bytes.length ≤ 64)
  | .walkReadDone _ _ _ => true
  | .upstreamReadTimeout _ _ => true
  | .holdExpiry _ => true
  | .flInvGo _ => true
  | .invComplete => true
  | .ctxWrite _ _ _ => true
  | .flSave _ => true
  | .portUp _ _ => true
  | .portDown _ _ => true
  | .autonegRestart _ => true
  | .helloTimer => true
  | .helloReceived _ _ => true
  | .neighbourDead _ => true
  | .treqTimer => true
  | .treqReceived _ _ => true
  | .trspReceived _ _ => true
  | .holdover => true
  | .lsaReceived _ _ => true
  | .lsaRefresh => true
  | .lsaAgeOut _ => true
  | .addressClaim => true
  | .routeRecompute => true
  | .summaryTimer => true
  | .summaryReceived _ _ => true
  | .summaryExpiry _ => true
  | .dgramReceived _ _ => true
  | .dgnakReceived _ _ => true
  | .ppsEdge => true
  | .ppsLost => true
  | .timeSetApply _ => true
  | .vxSave _ => true
  | .ceilInject _ => true
  | .ceilingReceived _ _ => true
  | .reportSlot => true
  | .reportReceived _ _ => true
  | .rootCompute => true
  | .allotReceived _ _ => true
  | .childMissing _ _ => true
  | .childDrop _ => true
  | .orphanTimeout => true
  | .shedRefresh => true
  | .shedReceived _ _ => true
  | .shedCopy1 => true
  | .shedExpiry => true
  | .twinShareCopy _ _ _ _ => true
  | .staggerWrite _ => true
  | .quietExpiry _ => true
  | .claimCheck _ _ => true
  | .claimBackoffExpiry => true
  | .ownerContention _ => true
  | .ownershipRelease _ => true
  | .barredExpiry => true
  | .twinFrameTimer => true
  | .twinFrameReceived _ _ => true
  | .outOfStep => true
  | .twHandover _ => true
  | .forceClaim _ => true
  | .handoverReadyTimeout => true
  | .twinLinkLoss _ => true
  | .recordArrival => true
  | .tokenRefill _ => true
  | .summarySecond => true
  | .ledgerFlushStart => true
  | .dataPassDone => true
  | .readbackDone _ => true
  | .markPassDone => true
  | .eraseDone _ _ _ _ => true
  | .ledgerScanDone _ => true
  | .lgCursorWrite _ _ => true
  | .windowFillDone => true
  | .lgClear _ => true
  | .lgFlush _ => true
  | .lgSave _ => true
  | .streamVecTimer => true
  | .lgRlWrite _ _ _ => true
  | .seCommit _ => true
  | .seVerify _ => true
  | .seRelock _ => true
  | .slotActiveWrite _ => true
  | .chalRequest _ => true
  | .chalSubmit _ => true
  | .chalCancel _ => true
  | .chalTimeout => true
  | .updGo _ => true
  | .updProgramDone _ => true
  | .mboxGo _ => true
  | .mboxResponse => true
  | .provWindowClose => true
  | .obEnable _ => true
  | .obDisable _ => true
  | .obClear _ => true
  | .obUnfreeze _ => true
  | .obArm _ => true
  | .obFire _ => true
  | .trigInEdge => true
  | .obGrpWrite _ _ _ => true
  | .obHalt _ => true
  | .jtagHalt => true
  | .obRelease _ => true
  | .jtagRelease => true
  | .haltMaxExpiry => true
  | .haltedClaim => true
  | .haltOrphan => true
  | .exportTick => true
  | .intakeFullReport _ => true
  | .autoRunStart => true
  | .waitMaxExpiry => true
  | .suppliesLate _ => true
  | .profileSaveSl _ => true
  | .adSave _ => true
  | .hostTunnelUp _ _ => true
  | .refclkReturn => true
  | .vxrefReturn => true
  | .xt32Return => true
  | .twinLinkTrained => true
  | .pfailNHigh => true
  | .netStuckLow => true
  | .commitDone _ _ => true
  | .verifyDone => true
  | .responseCheckDone _ => true
  | .ppsOutSecond => true
  | .retireWaitEnd _ => true
  | .crossingRetry => true

end Sys2Proof
end

