-- ==== Sys2Proof/Machine/IkivaWord.lean ====
section
/-! DEFINITION. The words of the Ikiva instructions: decoding under R531 and Table 13.3, and encoding (Tables 13.1 to 13.11). The
decoders are marked noncomputable because the compiler cannot number so many constructors; the kernel evaluates them. -/

namespace Sys2Proof.Machine
open Sys2Proof

/-- Bits [lo + n - 1 : lo] of a word. -/
def fieldOf (w lo n : Nat) : Nat := w / 2 ^ lo % 2 ^ n

/-- A 5-bit register field at bit `lo`. -/
def reg5 (w lo : Nat) : Fin 32 := ⟨w / 2 ^ lo % 32, Nat.mod_lt _ (by decide)⟩

/-- A 3-bit accumulator field at bit `lo`. -/
def reg3 (w lo : Nat) : Fin 8 := ⟨w / 2 ^ lo % 8, Nat.mod_lt _ (by decide)⟩

/-- The 15-bit immediate of formats I, L and C. -/
def imm15 (w : Nat) : BitVec 15 := BitVec.ofNat 15 w

/-- A condition on unused fields holds, or the word is ILLEGAL (R531). -/
def onlyIf (p : Bool) (i : Instr) : Option Instr := if p then some i else none

/-- OP 0x00 (Table 13.4). -/
def decodeInt (c : Fin 8) (w : Nat) : Option Instr :=
  let rd := reg5 w 20
  let r1 := reg5 w 15
  let r2 := reg5 w 10
  match w % 1024 with
  | 0x00 => some (.ikAdd c rd r1 r2)
  | 0x01 => some (.ikSub c rd r1 r2)
  | 0x02 => some (.ikAnd c rd r1 r2)
  | 0x03 => some (.ikOr c rd r1 r2)
  | 0x04 => some (.ikXor c rd r1 r2)
  | 0x05 => some (.ikSll c rd r1 r2)
  | 0x06 => some (.ikSrl c rd r1 r2)
  | 0x07 => some (.ikSra c rd r1 r2)
  | 0x08 => some (.ikSlt c rd r1 r2)
  | 0x09 => some (.ikSltu c rd r1 r2)
  | 0x0A => some (.ikMin c rd r1 r2)
  | 0x0B => some (.ikMax c rd r1 r2)
  | 0x0C => some (.ikMinu c rd r1 r2)
  | 0x0D => some (.ikMaxu c rd r1 r2)
  | 0x10 => some (.ikMul c rd r1 r2)
  | 0x11 => some (.ikMulh c rd r1 r2)
  | 0x12 => some (.ikMulhu c rd r1 r2)
  | 0x18 => some (.ikDiv c rd r1 r2)
  | 0x19 => some (.ikDivu c rd r1 r2)
  | 0x1A => some (.ikRem c rd r1 r2)
  | 0x1B => some (.ikRemu c rd r1 r2)
  | 0x20 => onlyIf (rd == 0) (.ikCmp c r1 r2)
  | 0x21 => onlyIf (r2 == 0) (.ikClz c rd r1)
  | 0x22 => onlyIf (r2 == 0) (.ikPopc c rd r1)
  | _ => none

/-- OP 0x20 (Table 13.7). -/
noncomputable def decodeAcc (c : Fin 8) (w : Nat) : Option Instr :=
  let ad := reg3 w 22
  let asr := reg3 w 19
  let r1 := reg5 w 14
  let r2 := reg5 w 9
  match w % 512 with
  | 0x00 => onlyIf (asr == 0 && r1 == 0 && r2 == 0) (.ikAclr c ad)
  | 0x01 => onlyIf (asr == 0 && r2 == 0) (.ikAld c ad r1)
  | 0x02 => onlyIf (asr == 0 && r2 == 0) (.ikAldi c ad r1)
  | 0x03 => onlyIf (asr == 0) (.ikAldr c ad r1 r2)
  | 0x04 => onlyIf (r1 == 0 && r2 == 0) (.ikAadd c ad asr)
  | 0x05 => onlyIf (r1 == 0 && r2 == 0) (.ikAsub c ad asr)
  | 0x06 => onlyIf (r1 == 0 && r2 == 0) (.ikAmov c ad asr)
  | 0x08 => onlyIf (asr == 0) (.ikMulq c ad r1 r2)
  | 0x09 => onlyIf (asr == 0) (.ikMacq c ad r1 r2)
  | 0x0A => onlyIf (asr == 0) (.ikMsuq c ad r1 r2)
  | 0x0C => onlyIf (asr == 0 && r2 == 0) (.ikAshr c ad r1)
  | 0x0D => onlyIf (asr == 0 && r2 == 0) (.ikAshl c ad r1)
  | 0x10 => onlyIf (ad == 0 && r2 == 0) (.ikArd c asr r1)
  | 0x11 => onlyIf (ad == 0 && r2 == 0) (.ikArdl c asr r1)
  | 0x12 => onlyIf (ad == 0 && r2 == 0) (.ikArdh c asr r1)
  | _ => none

/-- OP 0x30 (Table 13.9). -/
noncomputable def decodeSys (c : Fin 8) (w : Nat) : Option Instr :=
  let rd := reg5 w 20
  let r1 := reg5 w 15
  let r2 := reg5 w 10
  match w % 1024 with
  | 0x00 => onlyIf (rd == 0 && r1 == 0 && r2 == 0) (.ikNop c)
  | 0x01 => onlyIf (rd == 0 && r1 == 0 && r2 == 0) (.ikRte c)
  | 0x02 => onlyIf (r2 == 0) (.ikMfs c rd r1)
  | 0x03 => onlyIf (r2 == 0) (.ikMts c rd r1)
  | 0x04 => onlyIf (r2 == 0 && decide (r1.val < 4)) (.ikMfm c rd r1)
  | _ => none

/-- OP 0x38 to 0x3D and 0x40 to 0x48 (Tables 13.10, 13.11). -/
noncomputable def decodeQueue (c : Fin 8) (w op : Nat) : Option Instr :=
  let rd := reg5 w 20
  let r1 := reg5 w 15
  let r2 := reg5 w 10
  let mode : Fin 4 := ⟨w / 256 % 4, Nat.mod_lt _ (by decide)⟩
  let imm := w % 256
  let low3 : Fin 8 := ⟨w % 8, Nat.mod_lt _ (by decide)⟩
  let low2 : Fin 4 := ⟨w % 4, Nat.mod_lt _ (by decide)⟩
  match op with
  | 0x38 => onlyIf (mode != 3 && imm == 0 && decide (r2.val ≤ 29)) (.ikSend c rd r1 r2 mode)
  | 0x39 => onlyIf (r2 == 0 && mode == 0 && imm == 0 && rd.val % 4 == 0 && rd != 0) (.ikRecv c rd r1)
  | 0x3A => onlyIf (r1 == 0 && r2 == 0 && mode == 0 && imm == 0) (.ikWaitq c rd)
  | 0x3B => onlyIf (rd == 0 && r1 == 0 && r2 == 0 && mode == 0 && decide (imm < 4)) (.ikQsel c low2)
  | 0x3C => onlyIf (r2 == 0 && mode == 0 && imm == 0) (.ikChopen c rd r1)
  | 0x3D => onlyIf (r2 == 0 && mode == 0 && imm == 0) (.ikChclose c rd r1)
  | 0x40 => onlyIf (r2 == 0 && mode == 0 && decide (imm < 8)) (.ikGrade c rd r1 low3)
  | 0x41 => onlyIf (mode == 0 && imm == 0) (.ikAdmit c rd r1 r2)
  | 0x42 => onlyIf (mode == 0 && imm == 0) (.ikBarx c rd r1 r2)
  | 0x43 => onlyIf (mode == 0 && imm == 0) (.ikPause c rd r1 r2)
  | 0x44 => onlyIf (mode == 0 && imm == 0) (.ikPgrade c rd r1 r2)
  | 0x45 => onlyIf (r2 == 0 && mode == 0 && decide (imm < 8)) (.ikRlim c rd r1 low3)
  | 0x46 => onlyIf (mode == 0 && imm == 0 && decide (r2.val ≤ 30)) (.ikLogev c rd r1 r2)
  | 0x47 => onlyIf (r2 == 0 && decide (mode.val < 2) && imm == 0) (.ikDrd c rd r1 mode)
  | 0x48 => onlyIf (r2 == 0 && mode == 0 && imm == 0) (.ikPstate c rd r1)
  | _ => none

/-- The instruction that core `c` reads from an instruction word and the word after it; none for an ILLEGAL word (R530 to
R532). -/
noncomputable def decodeIkiva (c : Fin 8) (word lit : Word) : Option Instr :=
  let w := word.toNat
  let rd := reg5 w 20
  let r1 := reg5 w 15
  match w / 2 ^ 25 with
  | 0x00 => if w = 0 then none else decodeInt c w
  | 0x01 => some (.ikAddi c rd r1 (imm15 w))
  | 0x02 => some (.ikAndi c rd r1 (imm15 w))
  | 0x03 => some (.ikOri c rd r1 (imm15 w))
  | 0x04 => some (.ikXori c rd r1 (imm15 w))
  | 0x06 => some (.ikSlti c rd r1 (imm15 w))
  | 0x07 => some (.ikSltiu c rd r1 (imm15 w))
  | 0x05 => onlyIf (decide (fieldOf w 13 2 < 3) && fieldOf w 6 7 == 0) (.ikShi c rd r1 ⟨w / 2 ^ 13 % 4, Nat.mod_lt _ (by decide)⟩
      ⟨w % 64, Nat.mod_lt _ (by decide)⟩)
  | 0x08 => onlyIf (rd == 0) (.ikCmpi c r1 (imm15 w))
  | 0x09 => onlyIf (w % 2 ^ 20 == 0) (.ikLitl c rd lit)
  | 0x0A => onlyIf (w % 2 ^ 20 == 0) (.ikLith c rd lit)
  | 0x10 => some (.ikLb c rd r1 (imm15 w))
  | 0x11 => some (.ikLbu c rd r1 (imm15 w))
  | 0x12 => some (.ikLh c rd r1 (imm15 w))
  | 0x13 => some (.ikLhu c rd r1 (imm15 w))
  | 0x14 => some (.ikLw c rd r1 (imm15 w))
  | 0x15 => some (.ikLwu c rd r1 (imm15 w))
  | 0x16 => some (.ikLd c rd r1 (imm15 w))
  | 0x18 => some (.ikSb c rd r1 (imm15 w))
  | 0x19 => some (.ikSh c rd r1 (imm15 w))
  | 0x1A => some (.ikSw c rd r1 (imm15 w))
  | 0x1B => some (.ikSd c rd r1 (imm15 w))
  | 0x28 => some (.ikBeq c rd r1 (imm15 w))
  | 0x29 => some (.ikBne c rd r1 (imm15 w))
  | 0x2A => some (.ikBlt c rd r1 (imm15 w))
  | 0x2B => some (.ikBge c rd r1 (imm15 w))
  | 0x2C => some (.ikBltu c rd r1 (imm15 w))
  | 0x2D => some (.ikBgeu c rd r1 (imm15 w))
  | 0x20 => decodeAcc c w
  | 0x2E => onlyIf (r1 == 0) (.ikJal c rd (imm15 w))
  | 0x2F => some (.ikJalr c rd r1 (imm15 w))
  | 0x30 => decodeSys c w
  | op => decodeQueue c w op

/-- A word of format A (Table 13.1). -/
def wordA (op : Nat) (rd r1 r2 : Fin 32) (fn : Nat) : Word :=
  BitVec.ofNat 32 (op * 2 ^ 25 + rd.val * 2 ^ 20 + r1.val * 2 ^ 15 + r2.val * 2 ^ 10 + fn)

/-- A word of format I, L or C, or the first word of format IL with every field but rd zero (Table 13.1). -/
def wordI (op : Nat) (rd r1 : Fin 32) (imm : Nat) : Word := BitVec.ofNat 32 (op * 2 ^ 25 + rd.val * 2 ^ 20 + r1.val * 2 ^ 15 + imm)

/-- A word of format M (Table 13.1). -/
def wordM (ad asr : Fin 8) (r1 r2 : Fin 32) (fn : Nat) : Word :=
  BitVec.ofNat 32 (0x20 * 2 ^ 25 + ad.val * 2 ^ 22 + asr.val * 2 ^ 19 + r1.val * 2 ^ 14 + r2.val * 2 ^ 9 + fn)

/-- A word of format Q (Table 13.1). -/
def wordQ (op : Nat) (rd r1 r2 : Fin 32) (mode : Fin 4) (imm : Nat) : Word := wordA op rd r1 r2 (mode.val * 2 ^ 8 + imm)

/-- The instruction word of an Ikiva instruction; none for a command that is no instruction (Tables 13.3 to 13.11). -/
def encodeIkiva (i : Instr) : Option Word :=
  match i with
  | .ikAdd _ rd r1 r2 => some (wordA 0x00 rd r1 r2 0x00)
  | .ikSub _ rd r1 r2 => some (wordA 0x00 rd r1 r2 0x01)
  | .ikAnd _ rd r1 r2 => some (wordA 0x00 rd r1 r2 0x02)
  | .ikOr _ rd r1 r2 => some (wordA 0x00 rd r1 r2 0x03)
  | .ikXor _ rd r1 r2 => some (wordA 0x00 rd r1 r2 0x04)
  | .ikSll _ rd r1 r2 => some (wordA 0x00 rd r1 r2 0x05)
  | .ikSrl _ rd r1 r2 => some (wordA 0x00 rd r1 r2 0x06)
  | .ikSra _ rd r1 r2 => some (wordA 0x00 rd r1 r2 0x07)
  | .ikSlt _ rd r1 r2 => some (wordA 0x00 rd r1 r2 0x08)
  | .ikSltu _ rd r1 r2 => some (wordA 0x00 rd r1 r2 0x09)
  | .ikMin _ rd r1 r2 => some (wordA 0x00 rd r1 r2 0x0A)
  | .ikMax _ rd r1 r2 => some (wordA 0x00 rd r1 r2 0x0B)
  | .ikMinu _ rd r1 r2 => some (wordA 0x00 rd r1 r2 0x0C)
  | .ikMaxu _ rd r1 r2 => some (wordA 0x00 rd r1 r2 0x0D)
  | .ikMul _ rd r1 r2 => some (wordA 0x00 rd r1 r2 0x10)
  | .ikMulh _ rd r1 r2 => some (wordA 0x00 rd r1 r2 0x11)
  | .ikMulhu _ rd r1 r2 => some (wordA 0x00 rd r1 r2 0x12)
  | .ikDiv _ rd r1 r2 => some (wordA 0x00 rd r1 r2 0x18)
  | .ikDivu _ rd r1 r2 => some (wordA 0x00 rd r1 r2 0x19)
  | .ikRem _ rd r1 r2 => some (wordA 0x00 rd r1 r2 0x1A)
  | .ikRemu _ rd r1 r2 => some (wordA 0x00 rd r1 r2 0x1B)
  | .ikCmp _ r1 r2 => some (wordA 0x00 0 r1 r2 0x20)
  | .ikClz _ rd r1 => some (wordA 0x00 rd r1 0 0x21)
  | .ikPopc _ rd r1 => some (wordA 0x00 rd r1 0 0x22)
  | .ikAddi _ rd r1 imm => some (wordI 0x01 rd r1 imm.toNat)
  | .ikAndi _ rd r1 imm => some (wordI 0x02 rd r1 imm.toNat)
  | .ikOri _ rd r1 imm => some (wordI 0x03 rd r1 imm.toNat)
  | .ikXori _ rd r1 imm => some (wordI 0x04 rd r1 imm.toNat)
  | .ikSlti _ rd r1 imm => some (wordI 0x06 rd r1 imm.toNat)
  | .ikSltiu _ rd r1 imm => some (wordI 0x07 rd r1 imm.toNat)
  | .ikShi _ rd r1 sel amt => some (wordI 0x05 rd r1 (sel.val * 2 ^ 13 + amt.val))
  | .ikCmpi _ r1 imm => some (wordI 0x08 0 r1 imm.toNat)
  | .ikLitl _ rd _ => some (wordI 0x09 rd 0 0)
  | .ikLith _ rd _ => some (wordI 0x0A rd 0 0)
  | .ikLb _ ra rb off => some (wordI 0x10 ra rb off.toNat)
  | .ikLbu _ ra rb off => some (wordI 0x11 ra rb off.toNat)
  | .ikLh _ ra rb off => some (wordI 0x12 ra rb off.toNat)
  | .ikLhu _ ra rb off => some (wordI 0x13 ra rb off.toNat)
  | .ikLw _ ra rb off => some (wordI 0x14 ra rb off.toNat)
  | .ikLwu _ ra rb off => some (wordI 0x15 ra rb off.toNat)
  | .ikLd _ ra rb off => some (wordI 0x16 ra rb off.toNat)
  | .ikSb _ ra rb off => some (wordI 0x18 ra rb off.toNat)
  | .ikSh _ ra rb off => some (wordI 0x19 ra rb off.toNat)
  | .ikSw _ ra rb off => some (wordI 0x1A ra rb off.toNat)
  | .ikSd _ ra rb off => some (wordI 0x1B ra rb off.toNat)
  | .ikBeq _ ra rb off => some (wordI 0x28 ra rb off.toNat)
  | .ikBne _ ra rb off => some (wordI 0x29 ra rb off.toNat)
  | .ikBlt _ ra rb off => some (wordI 0x2A ra rb off.toNat)
  | .ikBge _ ra rb off => some (wordI 0x2B ra rb off.toNat)
  | .ikBltu _ ra rb off => some (wordI 0x2C ra rb off.toNat)
  | .ikBgeu _ ra rb off => some (wordI 0x2D ra rb off.toNat)
  | .ikAclr _ ad => some (wordM ad 0 0 0 0x00)
  | .ikAld _ ad r1 => some (wordM ad 0 r1 0 0x01)
  | .ikAldi _ ad r1 => some (wordM ad 0 r1 0 0x02)
  | .ikAldr _ ad r1 r2 => some (wordM ad 0 r1 r2 0x03)
  | .ikAadd _ ad asr => some (wordM ad asr 0 0 0x04)
  | .ikAsub _ ad asr => some (wordM ad asr 0 0 0x05)
  | .ikAmov _ ad asr => some (wordM ad asr 0 0 0x06)
  | .ikMulq _ ad r1 r2 => some (wordM ad 0 r1 r2 0x08)
  | .ikMacq _ ad r1 r2 => some (wordM ad 0 r1 r2 0x09)
  | .ikMsuq _ ad r1 r2 => some (wordM ad 0 r1 r2 0x0A)
  | .ikAshr _ ad k => some (wordM ad 0 k 0 0x0C)
  | .ikAshl _ ad k => some (wordM ad 0 k 0 0x0D)
  | .ikArd _ asr rd => some (wordM 0 asr rd 0 0x10)
  | .ikArdl _ asr rd => some (wordM 0 asr rd 0 0x11)
  | .ikArdh _ asr rd => some (wordM 0 asr rd 0 0x12)
  | .ikJal _ ra off => some (wordI 0x2E ra 0 off.toNat)
  | .ikJalr _ rd r1 imm => some (wordI 0x2F rd r1 imm.toNat)
  | .ikNop _ => some (wordA 0x30 0 0 0 0x00)
  | .ikRte _ => some (wordA 0x30 0 0 0 0x01)
  | .ikMfs _ rd n => some (wordA 0x30 rd n 0 0x02)
  | .ikMts _ n r1 => some (wordA 0x30 n r1 0 0x03)
  | .ikMfm _ rd k => some (wordA 0x30 rd k 0 0x04)
  | .ikSend _ rd r1 r2 mode => some (wordQ 0x38 rd r1 r2 mode 0)
  | .ikRecv _ rd r1 => some (wordQ 0x39 rd r1 0 0 0)
  | .ikWaitq _ rd => some (wordQ 0x3A rd 0 0 0 0)
  | .ikQsel _ set => some (wordQ 0x3B 0 0 0 0 set.val)
  | .ikChopen _ rd r1 => some (wordQ 0x3C rd r1 0 0 0)
  | .ikChclose _ rd r1 => some (wordQ 0x3D rd r1 0 0 0)
  | .ikGrade _ rd r1 d => some (wordQ 0x40 rd r1 0 0 d.val)
  | .ikAdmit _ rd r1 r2 => some (wordQ 0x41 rd r1 r2 0 0)
  | .ikBarx _ rd r1 r2 => some (wordQ 0x42 rd r1 r2 0 0)
  | .ikPause _ rd r1 r2 => some (wordQ 0x43 rd r1 r2 0 0)
  | .ikPgrade _ rd r1 r2 => some (wordQ 0x44 rd r1 r2 0 0)
  | .ikRlim _ rd r1 r => some (wordQ 0x45 rd r1 0 0 r.val)
  | .ikLogev _ rd r1 r2 => some (wordQ 0x46 rd r1 r2 0 0)
  | .ikDrd _ rd r1 mode => some (wordQ 0x47 rd r1 0 mode 0)
  | .ikPstate _ rd r1 => some (wordQ 0x48 rd r1 0 0 0)
  | _ => none

/-- The literal word of an IL-format instruction; 0 for every other (R530). -/
def literalOf (i : Instr) : Word :=
  match i with
  | .ikLitl _ _ lit => lit
  | .ikLith _ _ lit => lit
  | _ => 0

/-- The core of an Ikiva instruction. -/
def coreOf (i : Instr) : Fin 8 :=
  match i with
  | .ikRte c => c
  | .ikSend c _ _ _ _ => c
  | .ikRecv c _ _ => c
  | .ikWaitq c _ => c
  | .ikChopen c _ _ => c
  | .ikChclose c _ _ => c
  | .ikGrade c _ _ _ => c
  | .ikAdmit c _ _ _ => c
  | .ikBarx c _ _ _ => c
  | .ikPause c _ _ _ => c
  | .ikPgrade c _ _ _ => c
  | .ikRlim c _ _ _ => c
  | .ikLogev c _ _ _ => c
  | .ikDrd c _ _ _ => c
  | .ikPstate c _ _ => c
  | .ikAdd c _ _ _ => c
  | .ikSub c _ _ _ => c
  | .ikAnd c _ _ _ => c
  | .ikOr c _ _ _ => c
  | .ikXor c _ _ _ => c
  | .ikSll c _ _ _ => c
  | .ikSrl c _ _ _ => c
  | .ikSra c _ _ _ => c
  | .ikSlt c _ _ _ => c
  | .ikSltu c _ _ _ => c
  | .ikMin c _ _ _ => c
  | .ikMax c _ _ _ => c
  | .ikMinu c _ _ _ => c
  | .ikMaxu c _ _ _ => c
  | .ikMul c _ _ _ => c
  | .ikMulh c _ _ _ => c
  | .ikMulhu c _ _ _ => c
  | .ikDiv c _ _ _ => c
  | .ikDivu c _ _ _ => c
  | .ikRem c _ _ _ => c
  | .ikRemu c _ _ _ => c
  | .ikCmp c _ _ => c
  | .ikClz c _ _ => c
  | .ikPopc c _ _ => c
  | .ikAddi c _ _ _ => c
  | .ikAndi c _ _ _ => c
  | .ikOri c _ _ _ => c
  | .ikXori c _ _ _ => c
  | .ikShi c _ _ _ _ => c
  | .ikSlti c _ _ _ => c
  | .ikSltiu c _ _ _ => c
  | .ikCmpi c _ _ => c
  | .ikLitl c _ _ => c
  | .ikLith c _ _ => c
  | .ikLb c _ _ _ => c
  | .ikLbu c _ _ _ => c
  | .ikLh c _ _ _ => c
  | .ikLhu c _ _ _ => c
  | .ikLw c _ _ _ => c
  | .ikLwu c _ _ _ => c
  | .ikLd c _ _ _ => c
  | .ikSb c _ _ _ => c
  | .ikSh c _ _ _ => c
  | .ikSw c _ _ _ => c
  | .ikSd c _ _ _ => c
  | .ikAclr c _ => c
  | .ikAld c _ _ => c
  | .ikAldi c _ _ => c
  | .ikAldr c _ _ _ => c
  | .ikAadd c _ _ => c
  | .ikAsub c _ _ => c
  | .ikAmov c _ _ => c
  | .ikMulq c _ _ _ => c
  | .ikMacq c _ _ _ => c
  | .ikMsuq c _ _ _ => c
  | .ikAshr c _ _ => c
  | .ikAshl c _ _ => c
  | .ikArd c _ _ => c
  | .ikArdl c _ _ => c
  | .ikArdh c _ _ => c
  | .ikBeq c _ _ _ => c
  | .ikBne c _ _ _ => c
  | .ikBlt c _ _ _ => c
  | .ikBge c _ _ _ => c
  | .ikBltu c _ _ _ => c
  | .ikBgeu c _ _ _ => c
  | .ikJal c _ _ => c
  | .ikJalr c _ _ _ => c
  | .ikNop c => c
  | .ikMfs c _ _ => c
  | .ikMts c _ _ => c
  | .ikMfm c _ _ => c
  | .ikQsel c _ => c
  | _ => 0

/-- The instruction at the pc of core `c`, as its instruction SRAM holds it (R536). -/
noncomputable def State.instrAt (s : State) (c : Fin 8) : Option Instr :=
  let k := s.core c
  decodeIkiva c (mget 0 k.imem (k.pc / 4)) (mget 0 k.imem (k.pc / 4 + 1))

end Sys2Proof.Machine
end

