-- ==== Sys2Proof/Safety.lean ====
section
/-! DEFINITION. What a safe run of the block is, and when the window serves an access, in the terms claims use. -/

namespace Sys2Proof.Machine
open Sys2Proof

/-- The block takes its command: the step answers a next state. -/
def Goes (s : State) : Prop := ∃ t, step s = .next t

/-- The command answers a next state of which `P` holds. -/
def Yields (c : Instr) (s : State) (P : State → Prop) : Prop := ∃ t, exec c s = .next t ∧ P t

/-- The bytes listed of the table SRAM, and of every core's data SRAM and launch constants, are in canonical form (log entry 8). -/
abbrev CanonicalBytes (s : State) : Prop :=
  Memory.wf s.ik.table = true ∧ ∀ c, Memory.wf (s.core c).data = true ∧ Memory.wf (s.core c).launch = true

/-- A host access that changes something reaches a register held in island `isl` (7 for AO): the host has access, the island is out of
reset, and no Halt Sweep stops it (Tables 3.3 and 24.2). -/
abbrev Reaches (s : State) (isl : Nat) : Prop :=
  s.noAccess = false ∧ s.inReset isl = false ∧ (s.ob.halted = true → stopsInHalt isl = false)

/-- Every bit of GL_STATUS reads 0 (R25). -/
abbrev StatusClear (s : State) : Prop :=
  s.rf Reg.GL_STATUS_UNMAPPED = 0 ∧ s.rf Reg.GL_STATUS_LOCK_REJECT = 0 ∧ s.rf Reg.GL_STATUS_MISALIGNED = 0
    ∧ s.rf Reg.GL_STATUS_RSVD_WRITE = 0

/-- Core `c` can issue, its pc is inside the text, and an instruction of `len` bytes falls through inside the text too (R545). -/
abbrev Ready (s : State) (c len : Nat) : Prop := s.canIssue c = true ∧ (s.core c).pc + len < (s.core c).textLen

/-- The frame of an Ikiva instruction of core `c`: pc goes to `pc`, the shared clock and the count of the level that runs advance by `cyc`;
of the core itself at most the bank in use, qsel and data SRAM differ beyond that, of the cores' shared memory only the table SRAM, and
nothing else of the machine. -/
def CoreMoved (s t : State) (c cyc pc : Nat) : Prop :=
  t = { s with ik := t.ik }
    ∧ t.ik = { s.ik with cyc := s.ik.cyc + cyc, cores := t.ik.cores, table := t.ik.table }
    ∧ (∀ d, d ≠ c → t.core d = s.core d)
    ∧ t.core c = { s.core c with
        pc := pc, qsel := (t.core c).qsel, bankN := (t.core c).bankN, bankU := (t.core c).bankU, data := (t.core c).data
        cntN := (s.core c).cntN + if (s.core c).level = 2 then 0 else cyc
        cntU := (s.core c).cntU + if (s.core c).level = 2 then cyc else 0 }
    ∧ (if (s.core c).level = 2 then (t.core c).bankN = (s.core c).bankN else (t.core c).bankU = (s.core c).bankU)
    ∧ (t.core c).bank.m = (s.core c).bank.m

/-- Core `c`'s memories and the table SRAM are as they were. -/
def MemKept (s t : State) (c : Nat) : Prop := (t.core c).data = (s.core c).data ∧ t.ik.table = s.ik.table

/-- Every g register of core `c` reads as before. -/
def GKept (s t : State) (c : Nat) : Prop := ∀ r, (t.core c).g r = (s.core c).g r

/-- Every accumulator of core `c` reads as before. -/
def AccKept (s t : State) (c : Nat) : Prop := ∀ i, (t.core c).acc i = (s.core c).acc i

/-- The command completes as an instruction of core `c` of `cyc` cycles and `len` bytes that gives `rd` the value `v` (nothing, when rd is
g0) and changes no other register, accumulator, flag or memory. -/
def WritesG (i : Instr) (s : State) (c cyc len rd : Nat) (v : DWord) : Prop := Yields i s (fun t =>
  CoreMoved s t c cyc ((s.core c).pc + len) ∧ MemKept s t c ∧ AccKept s t c ∧ (t.core c).flags = (s.core c).flags
    ∧ (t.core c).qsel = (s.core c).qsel ∧ ∀ r, (t.core c).g r = if r = rd ∧ r ≠ 0 then v else (s.core c).g r)

/-- The command completes as an instruction of core `c` of `cyc` cycles that leaves the flags `f` and changes no other register,
accumulator or memory. -/
def WritesFlags (i : Instr) (s : State) (c cyc : Nat) (f : BitVec 5) : Prop := Yields i s (fun t =>
  CoreMoved s t c cyc ((s.core c).pc + 4) ∧ MemKept s t c ∧ GKept s t c ∧ AccKept s t c
    ∧ (t.core c).qsel = (s.core c).qsel ∧ (t.core c).flags = f)

/-- The command completes as an instruction of core `c` of `cyc` cycles that gives accumulator `ad` the value `v`, sets SAT when `sat`
holds, and changes no other register, accumulator, flag or memory. -/
def WritesAcc (i : Instr) (s : State) (c cyc ad : Nat) (v : BitVec 96) (sat : Prop) : Prop := Yields i s (fun t =>
  CoreMoved s t c cyc ((s.core c).pc + 4) ∧ MemKept s t c ∧ GKept s t c ∧ (t.core c).qsel = (s.core c).qsel
    ∧ (sat → (t.core c).flags = (s.core c).flags ||| 16) ∧ (¬ sat → (t.core c).flags = (s.core c).flags)
    ∧ ∀ i, (t.core c).acc i = if i = ad then v else (s.core c).acc i)

/-- The 96-bit accumulator value nearest to `x`. -/
def near96 (x : Int) : BitVec 96 := BitVec.ofInt 96 (max (-(2 ^ 95)) (min (2 ^ 95 - 1) x))

/-- `x` is outside what `n` bits hold in two's complement. -/
def Outside (n : Nat) (x : Int) : Prop := x < -(2 ^ (n - 1)) ∨ 2 ^ (n - 1) ≤ x

/-- The 128-bit product of two signed 64-bit factors, shifted right by 32 (Table 13.7). -/
def product32 (x y : DWord) : BitVec 128 := (x.signExtend 128 * y.signExtend 128).sshiftRight 32

/-- The byte that core `c` holds at a data address of its map (Table 12.3). -/
def coreByte (s : State) (c a : Nat) : Byte :=
  if a < 0x120000 then mget 0 (s.core c).data a else if a < 0x1000000 then mget 0 (s.core c).launch a else mget 0 s.ik.table (a - 0x1000000)

/-- A core may read the address (Table 12.3): data SRAM, launch constants or table SRAM. -/
abbrev Readable (a : Nat) : Prop := (0x100000 ≤ a ∧ a < 0x120100) ∨ (0x1000000 ≤ a ∧ a < 0x1100000)

/-- A core may write the address (Table 12.3): data SRAM or table SRAM. -/
abbrev Writable (a : Nat) : Prop := (0x100000 ≤ a ∧ a < 0x120000) ∨ (0x1000000 ≤ a ∧ a < 0x1100000)

/-- Cycles of a data access at `a` (R502). -/
def dataCycles (s : State) (c a : Nat) : Nat := if a < 0x1000000 then 2 else 2 + (((c : Int) - s.ik.cyc) % 8).toNat

/-- The address of a load or store (R542). -/
def dataAddr (s : State) (c : Nat) (rb : Fin 32) (off : BitVec 15) : Nat := ((s.core c).g rb + off.signExtend 64).toNat

/-- A load of `n` bytes by core `c` from `rb` + `off` completes with `v` in rt. -/
def LoadsTo (i : Instr) (s : State) (c n : Nat) (rt rb : Fin 32) (off : BitVec 15) (v : DWord) : Prop :=
  Ready s c 4 → Readable (dataAddr s c rb off) → dataAddr s c rb off % n = 0 →
    WritesG i s c (dataCycles s c (dataAddr s c rb off)) 4 rt v

/-- A store of the low `n` bytes of rt by core `c` to `rb` + `off` completes, and changes those bytes and no other byte of its map. -/
def StoresAt (i : Instr) (s : State) (c n : Nat) (rt rb : Fin 32) (off : BitVec 15) : Prop :=
  let a := dataAddr s c rb off
  Ready s c 4 → Writable a → a % n = 0 → Yields i s (fun t =>
    CoreMoved s t c (dataCycles s c a) ((s.core c).pc + 4) ∧ GKept s t c ∧ AccKept s t c ∧ (t.core c).flags = (s.core c).flags
      ∧ (t.core c).qsel = (s.core c).qsel
      ∧ (∀ k, k < n → coreByte t c (a + k) = ((s.core c).g rt).extractLsb' (8 * k) 8)
      ∧ ∀ b, (b < a ∨ a + n ≤ b) → coreByte t c b = coreByte s c b)

/-- The instruction ends in exception `code` of Table 12.7 at its own address, as an instruction of core `c`. -/
abbrev Excepts (i : Instr) (s : State) (c code : Nat) : Prop := exec i s = s.ran c (s.coreFault c code)

/-- A control transfer of core `c` in 1 cycle to `target` when `taken`, else past it: IADDR at the instruction when where it goes is no
multiple of 4 or outside the text; else pc goes there, and of the registers only `link` takes pc + 4 (R545). -/
def Transfers (i : Instr) (s : State) (c : Nat) (taken : Prop) (target : Int) (link : Nat) : Prop :=
  s.canIssue c = true → (s.core c).pc < (s.core c).textLen → ∀ into : Int, (taken → into = target) → (¬ taken → into = (s.core c).pc + 4) →
    ((into % 4 ≠ 0 ∨ into < 0 ∨ ((s.core c).textLen : Int) ≤ into) → Excepts i s c 2)
    ∧ (into % 4 = 0 → 0 ≤ into → into < (s.core c).textLen → Yields i s (fun t =>
        CoreMoved s t c 1 into.toNat ∧ MemKept s t c ∧ AccKept s t c ∧ (t.core c).flags = (s.core c).flags
          ∧ (t.core c).qsel = (s.core c).qsel
          ∧ ∀ r, (t.core c).g r = if r = link ∧ r ≠ 0 then BitVec.ofNat 64 ((s.core c).pc + 4) else (s.core c).g r))

/-- Core `k` after `cyc` cycles, with its pc at `pc`. -/
def IkCore.moved (k : IkCore) (cyc pc : Nat) : IkCore :=
  { k with pc := pc, cntN := k.cntN + if k.level = 2 then 0 else cyc, cntU := k.cntU + if k.level = 2 then cyc else 0 }

/-- The state after `cyc` cycles of an instruction of core `c` and its move of pc, before it acts. -/
def State.movedTo (s : State) (c cyc pc : Nat) : State :=
  (s.spend c cyc).setCore c { (s.spend c cyc).core c with pc := pc }

/-- The command completes as an instruction of core `c` of `cyc` cycles that does `f`, from the state after its cycles and its move of pc,
and leaves the result of `f` in rd. -/
def ActsWith (i : Instr) (s : State) (c cyc : Nat) (rd : Fin 32) (f : State → Nat × State) : Prop :=
  let r := f (s.movedTo c cyc ((s.core c).pc + 4))
  exec i s = s.ran c (r.2.setCore c ((r.2.core c).setG rd (BitVec.ofNat 64 r.1)))

/-- A device write of core `c` under a duty of Table 12.6: DUTY when the core does not hold it; rd = 7 and nothing written when the operands
are out of range; else rd = 0 and the write `f` (R552). -/
def DeviceWrites (i : Instr) (s : State) (c : Nat) (rd : Fin 32) (duty : Nat) (inRange : Prop) (f : State → State) : Prop :=
  (s.holdsDuty c duty = false → Excepts i s c 5)
    ∧ (s.holdsDuty c duty = true → ¬ inRange → WritesG i s c 1 4 rd 7)
    ∧ (s.holdsDuty c duty = true → inRange → exec i s = s.ran c
        (f ((s.movedTo c 1 ((s.core c).pc + 4)).setCore c (((s.core c).moved 1 ((s.core c).pc + 4)).setG rd 0))))

/-- The front end may start command `i` of type `ty`: the die owns, POL runs, ring `r` has the turn with `left` ns of it, and `c` is the lowest
command of its descriptor `d` that can start (R568, R583). -/
abbrev Starts (s : State) (ty r left : Nat) (d : CfDesc) (i : Nat) (c : CfCmd) : Prop :=
  s.owner = true ∧ s.polRuns = true ∧ s.isl.hostDown = false ∧ s.cf.turn = some (r, left) ∧ (s.ring r).desc = some d
    ∧ d.startable = some i
    ∧ d.cmds[i]? = some c ∧ c.ty = ty

/-- The command, where it may start, is marked started at its cost, has the effect `f` on the ring, its index and its bytes, and the turn
goes on with parsing (R568, R583, R584). -/
def RunsCommand (q : Instr) (s : State) (ty : Nat) (P : Nat → CfCmd → Prop) (f : State → Nat → Nat → CfCmd → State) : Prop :=
  ∀ (r left : Nat) (d : CfDesc) (i : Nat) (c : CfCmd), Starts s ty r left d i c → P r c →
    let cost := if c.paid then 0 else 8 + c.bytes.length / 16
    let x : State := { s.setDesc r (some (d.setCmd i (fun y => { y with started := true }))) with cf.turn := some (r, left - cost) }
    exec q s = .next (((((parseOn 4097 (f x r i c).cfSettle).turnTidy r).bufFetch r).cfSettle).flSettle)

end Sys2Proof.Machine
end

