-- ==== Sys2Proof/Certificates/Slice0/Obligations.lean ====
section
/-! DEFINITION. The statements for the provers. -/

open Sys2Proof Sys2Proof.Machine

/-- A write, a pair read and a read of a latched high word complete. With host access to the window: REGISTER_WRITE of 32 bits to an
aligned register offset that has no command of its own and no effect beyond its fields answers the state in which the register's
fields took the write, and GL_ERR_OFFSET the offset where the write set the first bit of GL_STATUS, when the register's island is
reachable. PAIR_LOW_READ of 32 bits puts the low word on the Host Tunnel, changes no register field and holds the high word in the
latch of that pair. PAIR_HIGH_READ of a pair that has a latched word puts that word on the Host Tunnel, and the latch of that pair
is empty after it. Cites: R14, R18, Table 3.3, Table 24.2. -/
def Obligations.HostAccessesComplete : Prop :=
  ∀ (s : State) (a : BitVec 26),
    (∀ (v : DWord) (d : RDesc) (ix j : Nat), a.toNat % 4 = 0 → inAperture a.toNat = false → findReg a.toNat = some (d, ix, j) →
      (∀ r ∈ writeRoutes, r.1 ≠ d.base) → (∀ r ∈ afterWrites, r.1 ≠ d.base) → userHeld d.base ix = false → Reaches s d.isl →
      exec (.registerWrite a false v) s = .next ((s.writeFields a.toNat v.toNat).usedAt s a.toNat))
    ∧ (∀ (d : RDesc) (ix j : Nat), a.toNat % 4 = 0 → inAperture a.toNat = false → findReg a.toNat = some (d, ix, j) →
      d.base ≠ Reg.ME_POP 0 → d.base ≠ Reg.ME_LATCH 0 0 → s.noAccess = false → s.inReset d.isl = false →
      pairLow (canonAddr a.toNat) = true →
      Yields (.pairLowRead a false) s (fun t =>
        t.outbox = (s.out (.readData a.toNat (s.readWord (canonAddr a.toNat)))).outbox ∧ t.regs = s.regs
        ∧ (0, canonAddr a.toNat, s.readWord (canonAddr a.toNat + 4)) ∈ t.ob.pairLatch))
    ∧ (∀ (d : RDesc) (ix j : Nat) (e : Nat × Nat × Nat), a.toNat % 4 = 0 → inAperture a.toNat = false →
      findReg a.toNat = some (d, ix, j) → d.base ≠ Reg.ME_POP 0 → d.base ≠ Reg.ME_LATCH 0 0 → s.noAccess = false →
      s.inReset d.isl = false → pairLow (canonAddr a.toNat) = false → 4 ≤ canonAddr a.toNat →
      pairLow (canonAddr a.toNat - 4) = true →
      s.ob.pairLatch.find? (fun x => x.1 == 0 && x.2.1 == canonAddr a.toNat - 4) = some e →
      Yields (.pairHighRead a) s (fun t => t.outbox = (s.out (.readData a.toNat e.2.2)).outbox ∧ t.regs = s.regs
        ∧ ∀ x ∈ t.ob.pairLatch, ¬ (x.1 = 0 ∧ x.2.1 = canonAddr a.toNat - 4)))

/-- Accesses to undefined offsets and misaligned accesses. With host access to the window. At an aligned offset that no register and
no aperture has: UNMAPPED_READ completes and returns 0 on the Host Tunnel, UNMAPPED_WRITE completes and puts nothing out, and each
sets GL_STATUS.UNMAPPED. MISALIGNED_ACCESS of a size and offset that R23 names (8 or 16 bits wide, not aligned to its width, or 64
bits wide at an offset that is not the low word of a pair, not LG_CURSOR and not in the aperture) sets MISALIGNED, leaves the
other GL_STATUS bits and UNMAPPED as they were, and returns 0 when it is a read. Each of them captures its offset in GL_ERR_OFFSET
exactly while every bit of GL_STATUS reads 0, changes no other register field, and changes nothing of the state but the register
fields and the Host Tunnel's output. Cites: R21, R22, R23, R25. -/
def Obligations.UndefinedOffsetsSetStatus : Prop :=
  ∀ (s : State) (a : BitVec 26), s.noAccess = false →
    let captured (t : State) (f : Fld) : Prop := t.rf f = 1
      ∧ (StatusClear s → t.rf Reg.GL_ERR_OFFSET_OFFSET = a.toNat)
      ∧ (¬ StatusClear s → t.rf Reg.GL_ERR_OFFSET_OFFSET = s.rf Reg.GL_ERR_OFFSET_OFFSET)
      ∧ ∀ g : Fld, g.key ≠ f.key → g.key ≠ Reg.GL_ERR_OFFSET_OFFSET.key → t.rf g = s.rf g
    (a.toNat % 4 = 0 → inAperture a.toNat = false → findReg a.toNat = none →
      Yields (.unmappedRead a) s (fun t => captured t Reg.GL_STATUS_UNMAPPED
        ∧ t = { s with regs := t.regs, outbox := (s.out (.readData a.toNat 0)).outbox })
      ∧ ∀ v : Word, Yields (.unmappedWrite a v) s (fun t => captured t Reg.GL_STATUS_UNMAPPED ∧ t = { s with regs := t.regs }))
    ∧ (∀ (sz : Fin 4) (v : DWord),
      sz.val < 2 ∨ a.toNat % 2 ^ sz.val ≠ 0 ∨ (sz.val = 3 ∧ inAperture a.toNat = false ∧ findReg a.toNat ≠ none
        ∧ canonAddr a.toNat ≠ Reg.LG_CURSOR_LO ∧ pairLow (canonAddr a.toNat) = false
        ∧ ∀ d ix j, findReg a.toNat = some (d, ix, j) → d.base ≠ Reg.ME_POP 0) →
      Yields (.misalignedAccess a sz false v) s (fun t => captured t Reg.GL_STATUS_MISALIGNED
        ∧ t = { s with regs := t.regs, outbox := (s.out (.readData a.toNat 0)).outbox })
      ∧ Yields (.misalignedAccess a sz true v) s (fun t => captured t Reg.GL_STATUS_MISALIGNED ∧ t = { s with regs := t.regs }))

/-- Power, cold start and supply events complete with the effects of Tables 2.8, 3.4 and R839. In every state POWER_OFF answers a
state with every island in reset, the package Off and the Host Tunnel down, with flash, fuses and the waiting commands kept, and
no listed register field that a cold start does not keep except the restored reservoir endurance. COLD_START samples the straps,
holds every island in reset and queues their release in the order of R122. AO_RESET_RELEASE of a powered die counts the power
cycle. AO_BOOT_STEPS_DONE after it marks the boot steps done and takes the meter and operating time from the checkpoint, or zero
without a usable flash. SUPPLY_OUT_OF_WINDOW outside Keep and VDD33_AO_HIGH hold every island in reset; SUPPLY_RESTORED after an
excursion restarts by a warm reset with an island reset of REG, and with nothing to end only marks the supplies good;
VDD33_AO_LOW, with PFAIL_N not fallen, records the supply and runs the power-fail duties; VDD33_AO_BELOW_2V9 puts the outputs at
high impedance; SUPPLIES_LATE during the release of a cold start records 0x1016 for a supply that is not good. Cites: R10, R114,
R121, R122, R140, R839, R851, Table 2.8, Table 3.4. -/
def Obligations.PowerAndSupplyEventsComplete : Prop :=
  ∀ s : State,
    Yields .powerOff s (fun t => t.isl.inReset = 0x7F ∧ t.isl.pkg = 4 ∧ t.isl.hostDown = true ∧ t.ao.bootDone = false
      ∧ t.flash = s.flash ∧ t.fuse = s.fuse ∧ t.pending = s.pending
      ∧ ∀ e ∈ t.regs, (keyKept e.1).1 &&& 128 ≠ 0 ∨ (blkHolds 3 (e.1 / 32) = true ∧ keyClass e.1 = 3))
    ∧ (∀ r test : Bool, Yields (.coldStart r test) s (fun t => t.edge.roleSel = r ∧ t.edge.testen = test
      ∧ t.isl.inReset = 0x7F ∧ t.isl.releaseQ = [6, 5, 0, 1, 2, 4, 3] ∧ t.isl.pkg = 2 ∧ t.ao.powered = true
      ∧ t.rf Reg.IS_LAST_RESET_CLASS = 0 ∧ t.rf Reg.IS_LAST_RESET_CAUSE = 0 ∧ t.flash = s.flash))
    ∧ (s.ao.powered = true → s.ao.aoUp = false → exec .aoResetRelease s = .next { s with
        ao.aoUp := true, ao.powerCycles := s.ao.ckCycles + 1, ao.ckCycles := s.ao.ckCycles + 1 })
    ∧ (∀ ok : Bool, s.ao.aoUp = true → s.ao.bootDone = false → Yields (.aoBootStepsDone ok) s (fun t =>
        t.ao.bootDone = true ∧ t.edge.flashOk = ok ∧ t.ao.meterUj = (if ok then s.ao.ckMeter else 0)
        ∧ t.ao.opNs = (if ok then s.ao.ckOpSec * second else 0) ∧ t.isl = s.isl))
    ∧ (∀ n : Fin 3, s.isl.pkg ≠ 3 → Yields (.supplyOutOfWindow n) s (fun t =>
        t.isl.inReset = 0x7F ∧ t.isl.releaseQ = [] ∧ t.edge.supplyHold = true))
    ∧ Yields .vdd33AoHigh s (fun t => t.isl.inReset = 0x7F ∧ t.isl.releaseQ = [] ∧ t.edge.supplyHold = true)
    ∧ (s.edge.supplyHold = true → exec .supplyRestored s = .next ((((({ s with
        edge.supplyGood := 15, edge.vdd33Low := false, edge.outputsOff := false, edge.supplyHold := false } : State).emit
          7 0x1004 1 3).wrAssert 3 0 true)).roleSettle))
    ∧ (s.edge.supplyHold = false → s.edge.vdd33Low = false → exec .supplyRestored s = .next (({ s with
        edge.supplyGood := 15, edge.outputsOff := false } : State).roleSettle))
    ∧ (s.edge.pfailPinLow = false → exec .vdd33AoLow s = .next ((((({ (({ s with
        edge.supplyGood := setBitsOf s.edge.supplyGood 3 3 0 } : State).setBit Reg.GL_SUPPLY_SUPPLY_FELL 3) with
          edge.vdd33Low := true } : State).supplyRecord 3).powerFail)).roleSettle))
    ∧ Yields .vdd33AoBelow2v9 s (fun t => t.edge.outputsOff = true ∧ t.edge.vdd33Low = true)
    ∧ (∀ n : Fin 3, s.isl.coldRel = true → bitOf s.edge.supplyGood n = false →
        exec (.suppliesLate n) s = .next (s.emit 7 0x1016 n ((s.now - s.isl.bootAt) / msec)))

/-- Clock losses and returns and the pins complete with the effects of Table 2.8. In every state: REFCLK_LOSS and REFCLK_RETURN switch
the derived islands to the AO-derived reference and back; XT32_LOSS marks the crystal absent, latches it in GL_CLOCK and records
0x0023, and XT32_RETURN marks it present; EXTERNAL_TRIP keeps the level that TRIP_N is pulled to, and low with neither die's latch
set records 0x0024 and sets GL_EDGE.EXT_TRIP; PFAIL_N_LOW runs the power-fail duties; with FAB out of reset VXREF_LOSS takes every
port down and VXREF_RETURN lets the enabled ports train; with FRI out of reset SHED_IN_CHANGE gives FRI the level and
DROOP_N_PULSE raises the backoff of every domain with a tile on that die to 1 at least, and no other part of the admission state
changes; PPS_OUT_SECOND on an owner with FAB running raises PPS_OUT. Cites: R54, R67, R97, R111, R302, Table 2.8. -/
def Obligations.ClockAndPinEventsComplete : Prop :=
  ∀ s : State,
    (∀ w : State, w = ({ s with edge.refclkOk := false, edge.aoDerived := true } : State).setBit Reg.GL_CLOCK_CLK_FELL 0 →
      exec .refclkLoss s = .next (((w.draw 168).2.emit 7 0x0021 ((w.draw 168).1 % 2)).roleSettle))
    ∧ exec .refclkReturn s = .next (({ s with edge.refclkOk := true, edge.aoDerived := false } : State).roleSettle)
    ∧ Yields .xt32Loss s (fun t => t.edge = { s.edge with xt32Ok := false }
        ∧ t.rf Reg.GL_CLOCK_CLK_FELL = s.rf Reg.GL_CLOCK_CLK_FELL % 8 ||| 4
        ∧ t.raised = s.raised ++ [⟨7, 0x0023, none, 0, 0, 0, 0, 8⟩] ∧ t.isl = s.isl)
    ∧ exec .xt32Return s = .next { s with edge.xt32Ok := true }
    ∧ exec (.externalTrip false) s = .next { s with edge.tripPinLow := false }
    ∧ (s.th.trip = false → bitOf s.tw.peerFlags 4 = false → Yields (.externalTrip true) s (fun t =>
        t.edge = { s.edge with tripPinLow := true } ∧ t.rf Reg.GL_EDGE_EXT_TRIP = 1
        ∧ t.raised = s.raised ++ [⟨7, 0x0024, none, 0, 0, 0, 0, 8⟩] ∧ t.th = s.th))
    ∧ exec .pfailNLow s = .next (({ s with edge.pfailPinLow := true } : State).powerFail)
    ∧ (s.inReset 4 = false → Yields .vxrefLoss s (fun t => t = (((((({ s with edge.vxrefOk := false } : State).setBit
        Reg.GL_CLOCK_CLK_FELL 1).emit 7 0x0022).draw 73).2).portsDown (Config.freeValue 73 s.free % 5) 3)))
    ∧ (s.inReset 4 = false → Yields .vxrefReturn s (fun t => t.edge = { s.edge with vxrefOk := true } ∧
        ∀ p < 6, (t.vp p).link = if s.rb (Reg.VX_PORT_CFG_ENABLE p) = true ∧ (s.vp p).link = 3 then 1 else (s.vp p).link))
    ∧ (∀ h : Bool, s.inReset 0 = false → exec (.shedInChange h) s = .next (s.shedInput h))
    ∧ (∀ n : Fin 16, s.inReset 0 = false → Yields (.droopNPulse n) s (fun t =>
        mget 0 t.edge.droopAt n = s.now ∧ t.regs = s.regs ∧
        ∀ d < 8, t.dom d = if (s.linkTiles n).any (fun x => (s.tile x).dom == d) then
          { s.dom d with backoff := max (s.dom d).backoff 1 } else s.dom d))
    ∧ (s.owner = true → s.fabRuns = true → exec .ppsOutSecond s = .next (s.out .ppsOut))

/-- Reset requests, reset ends and hangs complete. RST_N_LOW keeps the level of the pin; low, outside Keep it requests a warm reset
with cause RST_N, and in Keep it is a wake source. A keyed write of IS_RESET_REQ that sets exactly one request bit takes the write
in the fields and runs that one request: island reset of ISLAND, warm reset, host link reset, fabric reset, debug reset once the
debug unlock is in force, or the cancel of a deferred warm reset, which clears its pending mark and nothing else. HOST_TUNNEL_DOWN
is a host link reset with cause 6, after which the Host Tunnel is down; HOST_TUNNEL_UP ends it on full rate and width. TRST_N_LOW
is a debug reset whose recorded cause is a free value. DEFERRED_WR_PROCEED of a deferred reset on a die that does not own, or in
Nap, begins its wait; WR_WAIT_END during the wait asserts the reset, with REG on the exit from Keep. RESET_RELEASE takes the first
island of the release queue out of reset. ISLAND_HUNG and CROSSING_UNANSWERED of a receiving island of that crossing declare the
island hung. Cites: R100, R117, R121, R124, R126, R127, R128, R141, R143, R667, Table 3.5, Table 3.9. -/
def Obligations.ResetCommandsComplete : Prop :=
  ∀ s : State,
    (s.isl.pkg ≠ 3 → exec (.rstNLow true) s = .next (State.wrRequest { s with edge.rstPinLow := true } 1))
    ∧ (s.isl.pkg = 3 → exec (.rstNLow true) s = .next (State.wake { s with edge.rstPinLow := true } 4))
    ∧ exec (.rstNLow false) s = .next { s with edge.rstPinLow := false }
    ∧ (∀ v : Word, Reaches s 7 → bitsOf v.toNat 31 24 = 0x5C →
        let w := s.writeFields Reg.IS_RESET_REQ v.toNat
        (bitsOf v.toNat 5 0 = 1 → exec (.resetReqIr v) s = .next (w.islandAsk (bitsOf v.toNat 10 8)))
        ∧ (bitsOf v.toNat 5 0 = 2 → exec (.resetReqWr v) s = .next (w.wrRequest 2))
        ∧ (bitsOf v.toNat 5 0 = 4 → exec (.resetReqHr v) s = .next (w.hostReset 2))
        ∧ (bitsOf v.toNat 5 0 = 8 → exec (.resetReqFr v) s = .next (w.frReset 2))
        ∧ (bitsOf v.toNat 5 0 = 16 → w.debugOpen = true → exec (.resetReqDr v) s = .next (w.debugReset 2))
        ∧ (bitsOf v.toNat 5 0 = 32 → exec (.cancelWr v) s = .next { w with isl.wrPending := false }))
    ∧ exec .hostTunnelDown s = .next (s.hostReset 6)
    ∧ (s.isl.hostDown = false → s.inReset 5 = false → Yields .hostTunnelDown s (fun t => t.isl.hostDown = true))
    ∧ (s.isl.hostDown = true → s.inReset 5 = false → s.edge.refclkOk = true →
        exec (.hostTunnelUp 0 false) s = .next (({ s with isl.hostDown := false } : State).seResetEnd))
    ∧ exec .trstNLow s = .next (((s.draw 72).2).debugReset (Config.freeValue 72 s.free))
    ∧ (s.isl.wrPending = true → s.owner = false ∨ s.isl.pkg = 2 → exec .deferredWrProceed s = .next (({ s with
        isl.wrPending := false, isl.wrWait := true, isl.wrSince := s.now } : State).tailFlush))
    ∧ (s.isl.wrWait = true → exec .wrWaitEnd s = .next
        (s.wrAssert s.isl.wrCause ((s.now - s.isl.wrSince) / usec) (s.isl.wrCause == 5)))
    ∧ (∀ (n : Nat) (q : List Nat), s.isl.releaseQ = n :: q → s.ao.bootDone = true → s.edge.supplyHold = false →
        exec .resetRelease s = .next (({ s with
          isl.releaseQ := q, isl.inReset := setBitsOf s.isl.inReset n n 0, isl.coldRel := s.isl.coldRel && !q.isEmpty
          edge.supplyGood := 15 } : State).islandUp n))
    ∧ (∀ n : Fin 7, exec (.islandHung n) s = .next (s.hang n 0)
        ∧ ∀ row : Fin 20, n.val ∈ crossingTo (row + 1) → exec (.crossingUnanswered n row) s = .next (s.hang n (row + 1)))

/-- Package commands, saves and the bring-up events complete. A keyed PKG_CMD_GO with GO set gives its TARGET to the package.
PKG_TRANSITION_DONE of the owner completes Doze to Run, and Nap to Keep once the tail is flushed, recorded with 0x1010;
PKG_TRANSITION_TIMEOUT of the owner's transition from Run toward Doze is abandoned with 0x1015. WAKE_TIMER_EXPIRY with a nonzero
SECONDS is a wake source. SAVE_COMPLETE of a save in progress with none queued leaves the captured values in flash and ends the
save. PROFILE_LOAD_DONE before the profile is judged judges it. AUTO_RUN_START issues the Run command when everything selected
holds, and WAIT_MAX_EXPIRY marks the wait over and issues it if only waits were missing. Cites: R131, R141, R143, R840, R843,
R872, Table 3.6. -/
def Obligations.PackageAndBootCommandsComplete : Prop :=
  ∀ s : State,
    (∀ v : Word, Reaches s 7 → bitsOf v.toNat 31 24 = 0x5C → bitOf v.toNat 2 = true →
      exec (.pkgCmdGo v) s = .next ((s.writeFields Reg.IS_PKG_CMD v.toNat).pkgCommand (bitsOf v.toNat 1 0) 0))
    ∧ (s.owner = true → s.isl.inTrans = true → s.isl.pkg = 1 → s.isl.target = 0 → s.isl.goal = 0 →
        exec .pkgTransitionDone s = .next (({ s with
          isl.frozen := false, isl.pkg := 0, isl.target := 0, isl.inTrans := false, isl.retried := false } : State).emit
            7 0x1010 1 0 s.isl.trig))
    ∧ (s.owner = true → s.isl.inTrans = true → s.isl.pkg = 2 → s.isl.target = 3 → s.lg.tail = false →
        Yields .pkgTransitionDone s (fun t => t.isl.pkg = 3 ∧ t.isl.inTrans = false ∧ t.isl.inReset = 0x7F))
    ∧ (s.owner = true → s.isl.inTrans = true → s.isl.pkg = 0 → s.isl.target = 1 →
        Yields .pkgTransitionTimeout s (fun t => t.isl.pkg = 0 ∧ t.isl.target = 0 ∧ t.isl.inTrans = false ∧ t.isl.frozen = false
          ∧ t.raised = s.raised ++ [⟨7, 0x1015, none, 0, 1, 0, 0, 8⟩]))
    ∧ (s.rf Reg.IS_WAKE_TIMER_SECONDS ≠ 0 → exec .wakeTimerExpiry s = .next (s.wake 5))
    ∧ (∀ b : Fin 11, bitOf s.isl.saving b = true → bitOf s.isl.saveQueued b = false → Yields (.saveComplete b) s (fun t =>
        t.flash = mergeKeys (mget [] s.isl.saveBuf b) (s.flash.filter (fun e => !blkPick b e.1))
        ∧ t.isl.saving = s.isl.saving - 2 ^ b.val ∧ t.outbox = (s.out (.flashSave b)).outbox ∧ t.regs = s.regs))
    ∧ (∀ w : Word, s.inReset 1 = false → s.ph.judged = false → Yields (.profileLoadDone w) s (fun t => t = s.profileDone w.toNat ∧ t.ph.judged = true))
    ∧ (s.isl.autoArmed = true → s.owner = true → s.isl.pkg = 2 → s.isl.inTrans = false → s.runMissing = none → s.unmet = 0 →
        exec .autoRunStart s = .next (({ s with isl.autoArmed := false, isl.goal := 0, isl.retried := false } : State).pkgBegin 3))
    ∧ exec .waitMaxExpiry s = .next (({ s with isl.waitOver := true } : State).autoStart)

/-- IS_RESET_REQ and IS_PKG_CMD act only with KEY 0x5C and at most one request bit. When AO's registers are reachable, each of the six
rows that write IS_RESET_REQ, with a KEY that is not 0x5C or with more than one request bit, and PKG_CMD_GO with a KEY that is not
0x5C, answers the state with IS_RESET_STATUS.REFUSED set and nothing else changed. With KEY 0x5C, no request bit and no reserved
bit set, whatever ISLAND or TARGET is carried, each answers the state unchanged. Cites: R143. -/
def Obligations.KeyedRequestsNeedKeyAndOneBit : Prop :=
  ∀ s : State, Reaches s 7 →
    (∀ (v : Word) (mk : Word → Instr), mk ∈ [Instr.resetReqWr, .resetReqIr, .resetReqHr, .resetReqFr, .resetReqDr, .cancelWr] →
      (bitsOf v.toNat 31 24 ≠ 0x5C ∨ 1 < ((List.range 6).filter (fun n => bitOf v.toNat n)).length) →
      exec (mk v) s = .next (s.wr Reg.IS_RESET_STATUS_REFUSED 1))
    ∧ (∀ v : Word, bitsOf v.toNat 31 24 ≠ 0x5C → exec (.pkgCmdGo v) s = .next (s.wr Reg.IS_RESET_STATUS_REFUSED 1))
    ∧ (∀ (n : Fin 8) (mk : Word → Instr), mk ∈ [Instr.resetReqWr, .resetReqIr, .resetReqHr, .resetReqFr, .resetReqDr, .cancelWr] →
      exec (mk (BitVec.ofNat 32 (0x5C000000 + 256 * n))) s = .next s)
    ∧ (∀ n : Fin 4, exec (.pkgCmdGo (BitVec.ofNat 32 (0x5C000000 + n))) s = .next s)

/-- A warm reset on a die that does not own proceeds at once, in any package state. On a die that does not hold ownership, with no
warm reset pending or under way and no cold start in progress (R126 merges those), a warm reset requested by RST_N outside Keep,
or by a keyed IS_RESET_REQ.WR write, begins its wait at once in every package state: it is not pending, its wait has begun with
its cause, and IS_LAST_RESET and the package state are as before. Cites: R125. -/
def Obligations.WarmResetDeferral : Prop :=
  ∀ s : State, s.owner = false → s.isl.wrPending = false → s.isl.wrWait = false → s.isl.coldRel = false → s.ao.bootDone = true →
    s.isl.inReset &&& 0x7D ≠ 0x7D →
    (s.isl.pkg ≠ 3 → Yields (.rstNLow true) s (fun t => t.isl = { s.isl with wrWait := true, wrSince := s.now, wrCause := 1 }))
    ∧ (∀ v : Word, Reaches s 7 → bitsOf v.toNat 31 24 = 0x5C → bitsOf v.toNat 5 0 = 2 →
        Yields (.resetReqWr v) s (fun t => t.isl = { s.isl with wrWait := true, wrSince := s.now, wrCause := 2 }))

/-- A refused reset request sets REFUSED and records 0x1011. With AO's registers reachable and KEY 0x5C, an island reset that names
AO, an island reset of REG while any rail is on, an island reset of FRI on the owner while any rail is on, and a debug reset while
debug is not unlocked change nothing but this: the fields take the write, REFUSED is set, and event 0x1011 is raised with
parameter 0 the class requested and parameter 1 the island code. Each island named is out of reset. Cites: R129. -/
def Obligations.RefusedResetIsRecorded : Prop :=
  ∀ (s : State) (v : Word), Reaches s 7 → bitsOf v.toNat 31 24 = 0x5C →
    let w := s.writeFields Reg.IS_RESET_REQ v.toNat
    (bitsOf v.toNat 5 0 = 1 →
      (bitsOf v.toNat 10 8 = 7 → exec (.resetReqIr v) s = .next ((w.wr Reg.IS_RESET_STATUS_REFUSED 1).emit 7 0x1011 2 7))
      ∧ (bitsOf v.toNat 10 8 = 1 → s.inReset 1 = false → w.anyRailOn = true →
        exec (.resetReqIr v) s = .next ((w.wr Reg.IS_RESET_STATUS_REFUSED 1).emit 7 0x1011 2 1))
      ∧ (bitsOf v.toNat 10 8 = 0 → s.inReset 0 = false → s.owner = true → w.anyRailOn = true →
        exec (.resetReqIr v) s = .next ((w.wr Reg.IS_RESET_STATUS_REFUSED 1).emit 7 0x1011 2 0)))
    ∧ (bitsOf v.toNat 5 0 = 16 → w.debugOpen = false →
      exec (.resetReqDr v) s = .next ((w.wr Reg.IS_RESET_STATUS_REFUSED 1).emit 7 0x1011 5 0))

/-- The power-cycle count increases by one at each cold start, before any record of that start. In every state, COLD_START followed by
AO_RESET_RELEASE answers a state whose power-cycle count, and whose checkpointed count, is the checkpointed count before plus one,
and in which no record has been raised and no record is in the Ledger buffer. Cites: R140. -/
def Obligations.PowerCycleCountIncreases : Prop :=
  ∀ (s : State) (r test : Bool), Yields (.coldStart r test) s (fun t => Yields .aoResetRelease t (fun u =>
    u.ao.powerCycles = s.ao.ckCycles + 1 ∧ u.ao.ckCycles = s.ao.ckCycles + 1 ∧ u.raised = [] ∧ u.lg.buf = []))

/-- The regulation commands of the phase controller complete with the effects of their rules. With REG out of reset on the owner.
SWITCHING_CYCLE of an active phase takes its current reading and, with no handback or discharge, runs that phase's cycle in
soft-start and regulation, or in a Floodgate hold the hold's cycle; in a discharge it runs the discharge's. Each command that
carries a set of ISN samples or a sensed voltage takes note of it first; then, on a rail in the mode named and with a reading that
meets its rule: PHASE_ADD adds a phase, PHASE_SHED sheds one, RAIL_CURRENT_LIMIT limits the rail and outside a hold records
0x2011, RAIL_POWER_GOOD makes it power-good, BURST_ENTRY enters burst mode, BURST_PULSE fires the burst phases, BURST_EXIT leaves
burst mode. FLOODGATE_STROBE starts a hold and FLOODGATE_HOLD_END ends it. DEAD_TIME_CHANGE of a mapped lane judges its stage and
of a reservoir pair judges the pair; PMBUS_POLL_ROUND on a segment not lost polls it; AVS_WRITE of a target above the value last
written, outside soft-stop, writes it to the stages of the rail's lanes. PROFILE_SAVE with SAVE set, with REG's registers
reachable, takes the write and saves the rail profile. Cites: R145, R151, R159, R160, R166, R170, R172, R173, R175, R178, R180,
R189. -/
def Obligations.RegulationCommandsComplete : Prop :=
  ∀ (s : State) (r : Fin 8), s.regOn = true →
    (∀ (n : Fin 256) (e : BitVec 12) (busv isn : BitVec 16), s.laneRail n = some r.val →
      let s0 := s.setLane n { s.lane n with amps := isnAmps isn.toNat }
      ((s.lane n).active = true → (s.rail r).mode ∈ [1, 2] → (s.rail r).handback = false → (s.rail r).discharge = false →
        exec (.switchingCycle n e busv isn) s = .next (if (s.rail r).hold then s0.holdCycle r n isn
          else s0.switchCycle r n (signedOf 12 e.toNat) (busvMv busv.toNat) isn))
      ∧ ((s.rail r).mode ≠ 6 → (s.rail r).discharge = true → exec (.switchingCycle n e busv isn) s = .next (s0.dischargeCycle r n isn)))
    ∧ (∀ isn : List (BitVec 16),
      let w := s.sample r isn
      ((w.rail r).mode = 2 → (10 * ((w.staying r).length * w.rf (Reg.PC_RAIL_SHED_I_ADD r)) : Nat) < (w.rail r).total →
        exec (.phaseAdd r isn) s = .next (w.addPhase r))
      ∧ ((w.rail r).mode = 2 → w.allActive r = false → w.rf (Reg.PC_RAIL_CFG_MIN_ACTIVE r) < (w.staying r).length →
        (w.rail r).total < (10 * (((w.staying r).length - 1) * w.rf (Reg.PC_RAIL_SHED_I_SHED r)) : Nat) →
        exec (.phaseShed r isn) s = .next (w.shedPhase r))
      ∧ (((w.rail r).mode ∈ [1, 2, 3, 6]) → (10 * (w.limit32 r).1 : Nat) ≤ 32 * (w.rail r).total → (w.rail r).limiting = false →
        (w.rail r).hold = false → exec (.railCurrentLimit r isn) s = .next ((w.setRail r { w.rail r with limiting := true }).emit
          1 0x2011 r ((w.limit32 r).1 / 32) (w.limit32 r).2))
      ∧ ((w.rail r).mode = 2 → 100 * (w.rail r).total < (30 * w.derated r : Nat) → w.allActive r = false →
        exec (.burstEntry r isn) s = .next (w.burstEnter r))
      ∧ ((w.rail r).hold = true → exec (.floodgateHoldEnd r isn) s = .next (w.holdEnd r))
      ∧ (∀ (raw : BitVec 12) (cause : Fin 4), w.regOn = true →
        let x := w.noteVolts r raw.toNat
        x.owner = true → (x.rail r).mode = 3 → ((cause = 2 ∧ (60 * x.derated r : Nat) < 100 * (x.rail r).total) ∨ (cause = 3 ∧ 5 * raw.toNat + 160 < x.setpoint r)
          ∨ (cause.val < 2 ∧ (x.dom r).burstWait = true)) →
        exec (.burstExit r cause isn raw) s = .next (x.burstLeave r)))
    ∧ (∀ raw : BitVec 12, let w := s.noteVolts r raw.toNat
      ((w.rail r).mode = 1 → 5 * raw.toNat ≤ w.setpoint r + 200 → w.setpoint r ≤ 5 * raw.toNat + 200 →
        exec (.railPowerGood r raw) s = .next (w.powerGood r))
      ∧ ((w.rail r).mode = 3 → 5 * raw.toNat + 60 ≤ w.setpoint r → exec (.burstPulse r raw) s = .next (w.burstFire r)))
    ∧ ((s.dom r).strobe = true → ((s.rail r).mode = 2 ∨ (s.rail r).mode = 3) → (s.rail r).hold = false →
        (s.rail r).handback = false → exec (.floodgateStrobe r) s = .next (s.strobeHold r))
    ∧ (∀ (n : Fin 256) (ack : Bool), s.laneRail n ≠ none →
        exec (.deadTimeChange (n.castLE (by decide)) ack) s = .next (s.deadMain n ack))
    ∧ (∀ (k : Fin 8) (ack : Bool), exec (.deadTimeChange ⟨256 + k, by omega⟩ ack) s = .next (s.deadRes k))
    ∧ (∀ (seg : Fin 4) (l : List StageRead) (alert : Bool), bitOf s.ph.segLost seg = false →
        exec (.pmbusPollRound seg l alert) s = .next (s.pollRound seg l alert))
    ∧ ((s.rail r).mode ∈ [1, 2, 3] → (s.rail r).avs < s.setpointGoal r →
        exec (.avsWrite r) s = .next ((s.setRail r { s.rail r with avs := s.setpointGoal r }).each (s.mapped r) (fun n x =>
          x.out (.avs (n / 64) n ((s.setpointGoal r + 9) / 10)))))
    ∧ (∀ v : Word, Reaches s 1 → bitOf v.toNat 2 = true →
        exec (.profileSave v) s = .next ((s.writeFields Reg.PC_PROFILE_CTL v.toNat).saveBlock 0))

/-- The phase controller's faults and their clears complete with the effects of their rules. With REG out of reset on the owner. On a
rail that runs in the mode its rule names and with a reading that meets the rule, SS_TIMEOUT, VSN_SENSE_FAULT (with its 0x0025),
RAIL_UNDERVOLTAGE, RAIL_GROSS_OVERCURRENT and, in a discharge, OV_DISCHARGE_DONE put the rail in the regulation fault state with
their cause and value; RAIL_OVERVOLTAGE begins the discharge and drives every healthy phase low-side. PHASE_IMBALANCE and
PHASE_SENSE_FAULT fail the phase with their cause and what was measured. GROUP_LOCATION_DONE of a group being located completes
its location, and PMBUS_SEGMENT_STUCK recovers or loses the segment. PSFLT_ASSERT with REG out of reset makes the group suspect.
With REG's registers reachable and KEY 0x5C, CLEAR_FAULT with its bit takes the write and clears the rail's fault, and PHASE_CLR
of a failed phase returns it to healthy and sends CLEAR_FAULTS to its stage. Cites: R74, R158, R170, R191, R192, R193, R194, R195,
R196, R197, R202. -/
def Obligations.PhaseControllerFaultsComplete : Prop :=
  ∀ (s : State) (r : Fin 8), s.regOn = true →
    ((s.rail r).mode = 1 → exec (.ssTimeout r) s = .next (s.regFault r 1 ((s.rail r).sensed / 10)))
    ∧ (∀ raw : BitVec 12, (s.rail r).mode ≠ 0 → (s.rail r).mode ≠ 5 → raw.toNat < 100 ∨ 4000 < raw.toNat →
        exec (.vsnSenseFault r raw) s = .next ((s.emit 0 0x0025 r (raw.toNat / 2) (b01 (decide (4000 < raw.toNat)))).regFault r 0 (raw.toNat / 2)))
    ∧ (∀ raw : BitVec 12, let w := s.noteVolts r raw.toNat
      (((w.rail r).mode = 2 ∨ (w.rail r).mode = 6) → 5 * raw.toNat + 1000 < w.setpoint r →
        exec (.railUndervoltage r raw) s = .next (w.regFault r 2 (raw.toNat / 2)))
      ∧ ((w.rail r).mode ≠ 0 → (w.rail r).mode ≠ 5 →
          w.setpoint r + 400 + 50 * w.rf (Reg.PC_RAIL_CFG_OV_MARGIN r) < 5 * raw.toNat →
        exec (.railOvervoltage r raw) s = .next ((w.setRail r { w.rail r with discharge := true }).each (w.healthy r)
          (fun n y => y.drive n .low)))
      ∧ ((w.rail r).discharge = true → 5 * raw.toNat ≤ w.setpoint r →
        exec (.ovDischargeDone r raw) s = .next (w.regFault r 3 (raw.toNat / 2))))
    ∧ (∀ isn : List (BitVec 16), let w := s.sample r isn
      (w.rail r).mode ≠ 0 → (w.rail r).mode ≠ 5 → (50 * (w.limit32 r).1 : Nat) < 128 * (w.rail r).total →
        exec (.railGrossOvercurrent r isn) s = .next (w.regFault r 4 ((w.rail r).total / 10).toNat))
    ∧ (∀ (n : Fin 256) (isn : List (BitVec 16)), s.laneRail n = some r.val → let w := s.sample r isn
        (w.lane n).active = true → ((w.lane n).bal = 64 ∨ (w.lane n).bal = -64) →
        10 * w.rf (Reg.PC_PHASE_CFG_RATING n) < 4 * (w.shareErr r n).natAbs →
        exec (.phaseImbalance n isn) s = .next (w.phaseFail n 0 ((w.shareErr r n).natAbs / 10)))
    ∧ (∀ (n : Fin 256) (isn : BitVec 16), isn.toNat ≤ 2050 ∨ 10950 ≤ isn.toNat →
        exec (.phaseSenseFault n isn) s = .next (s.phaseFail n 2 (isn.toNat / 10)))
    ∧ (∀ (g : Fin 16) (l : List StageRead) (still : Bool), bitOf s.ph.locating g = true →
        exec (.groupLocationDone g l still) s = .next (s.groupLocated g l still))
    ∧ (∀ (seg : Fin 4) (ok : Bool), exec (.pmbusSegmentStuck seg ok) s = .next (s.segStuck seg ok))
    ∧ (∀ g : Fin 16, exec (.psfltAssert g) s = .next (s.groupSuspect g))
    ∧ (∀ v : Word, Reaches s 1 → bitsOf v.toNat 31 24 = 0x5C →
      (bitOf v.toNat 0 = true →
        exec (.clearFault r v) s = .next ((s.writeFields (Reg.PC_RAIL_CTL r) v.toNat).clearFault r))
      ∧ (let n := bitsOf v.toNat 7 0
        let w := s.writeFields Reg.PC_PHASE_CLR v.toNat
        (w.lane n).mark = 1 → exec (.phaseClr v) s =
          .next (((w.setLane n { w.lane n with mark := 0, peaks := 0, tries := 0 }).pmbus n 0x03 0).healthSince w)))

/-- A rail in the regulation fault state is held off with every lane at high impedance. With REG out of reset on the owner and the
rail running, the five direct conditions of R191 (sense, failed start, undervoltage, overvoltage once discharged, 1.25 times the
limit) leave the rail in the regulation fault state: mode 5, not power-good, no hold, handback or discharge, and every lane mapped
to it inactive and at high impedance. A rail already in that state stays in it with its record unchanged under SS_TIMEOUT and
VSN_SENSE_FAULT, which then change nothing. Cites: R191, R193. -/
def Obligations.RegulationFaultHoldsTheRail : Prop :=
  ∀ (s : State) (r : Fin 8), s.regOn = true →
    let off (t : State) : Prop := (t.rail r).mode = 5 ∧ (t.rail r).powerGood = false ∧ (t.rail r).hold = false
      ∧ (t.rail r).handback = false ∧ (t.rail r).discharge = false
      ∧ ∀ n < 256, s.laneRail n = some r.val → (t.lane n).active = false ∧ (t.lane n).pin = .hiZ
    ((s.rail r).mode = 1 → Yields (.ssTimeout r) s off)
    ∧ (∀ raw : BitVec 12, (s.rail r).mode ≠ 0 → (s.rail r).mode ≠ 5 → raw.toNat < 100 ∨ 4000 < raw.toNat →
        Yields (.vsnSenseFault r raw) s off)
    ∧ (∀ raw : BitVec 12, ((s.rail r).mode = 2 ∨ (s.rail r).mode = 6) → 5 * raw.toNat + 1000 < s.setpoint r →
        Yields (.railUndervoltage r raw) s off)
    ∧ (∀ raw : BitVec 12, (s.rail r).mode ≠ 5 → (s.rail r).discharge = true → 5 * raw.toNat ≤ s.setpoint r →
        Yields (.ovDischargeDone r raw) s off)
    ∧ (∀ isn : List (BitVec 16), let w := s.sample r isn
        (w.rail r).mode ≠ 0 → (w.rail r).mode ≠ 5 → (50 * (w.limit32 r).1 : Nat) < 128 * (w.rail r).total →
        Yields (.railGrossOvercurrent r isn) s off)
    ∧ ((s.rail r).mode = 5 → exec (.ssTimeout r) s = .next s ∧ ∀ raw : BitVec 12, exec (.vsnSenseFault r raw) s = .next s)

/-- The endpoint's transitions of Table 5.6 complete. For a tile's endpoint e. From IDLE or RUNNING TILE_NEEDS_CURRENT, and from
RUNNING TILE_RENEW at or below the allowance, send an INTENT with the next SEQ and enter ASKING. From RUNNING TILE_NEEDS_LESS
lowers the allowance, enters IDLE at class 0 and sends RELEASE; from ASKING TILE_WITHDRAWS abandons the INTENT and sends RELEASE
with CANCEL. A GRANT addressed to the tile with the SEQ of the outstanding INTENT of an ASKING endpoint is granted. NAK addressed
to the tile is handled by its code and echo. A BUDGET that clears the reason, or the end of the 1 ms wait, takes HELD to IDLE or
RUNNING. CONFIG is applied in an open state, and from CLAMPED on a live link opens the endpoint as IDLE with SEQ 0 and empty
slots. CLOSE takes an open endpoint to CLAMPED. RAMP_COMPLETE takes GRANTED to RUNNING; ENDPOINT_LEASE_EXPIRY takes the allowance
to 0 and GRANTED and RUNNING to IDLE. Each of these changes the endpoint of that tile as said and no other endpoint; a message
leaves through the tile's die port. Cites: R218, R222, R223, R225, R226, R227, R230, R233, R241, R242, R243, Table 5.6. -/
def Obligations.EndpointTransitionsComplete : Prop :=
  ∀ (s : State) (t : Fin 16384),
    let e := s.endp t
    let becomes (x : State) (e' : Endpoint) : Prop := x.endp t = e' ∧ ∀ u, u ≠ t.val → x.endp u = s.endp u
    let sends (x : State) (e' : Endpoint) (m : Msg) : Prop := x = (s.setEndp t e').upSend t m
      ∧ (x.endp t).st = e'.st ∧ (x.endp t).allow = e'.allow ∧ (x.endp t).out = e'.out ∧ (x.endp t).seq = e'.seq
      ∧ ∀ u, u ≠ t.val → x.endp u = s.endp u
    (∀ (cls : Byte) (lease : BitVec 12) (arr : Bool) (grp : BitVec 12) (op : BitVec 16) (layer : BitVec 12), e.st = 1 ∨ e.st = 4 →
      let p : Pend := { cls := cls.toNat, lease := lease.toNat, barrier := arr, grp := grp.toNat, op := op.toNat,
                        layer := layer.toNat, seq := e.seq }
      Yields (.tileNeedsCurrent t cls lease arr grp op layer) s (fun x =>
        sends x ({ e with st := 2, out := some p, seq := (e.seq + 1) % 256 }.unback 1) (intentMsg t p)))
    ∧ (∀ (cls : Byte) (lease : BitVec 12), e.st = 4 → cls.toNat ≤ e.allow →
      let p : Pend := { cls := cls.toNat, lease := lease.toNat, renew := true, seq := e.seq }
      Yields (.tileRenew t cls lease) s (fun x =>
        sends x ({ e with st := 2, out := some p, seq := (e.seq + 1) % 256 }.unback 1) (intentMsg t p)))
    ∧ (∀ cls : Byte, e.st = 4 → cls.toNat < e.allow → Yields (.tileNeedsLess t cls) s (fun x =>
        sends x { e with allow := cls.toNat, st := if cls.toNat = 0 then 1 else 4 } (releaseMsg t e.lastSeq cls.toNat false)))
    ∧ (∀ p, e.out = some p → e.st = 2 → Yields (.tileWithdraws t) s (fun x =>
        sends x ({ e with st := if e.allow = 0 then 1 else 4, out := none, withdrawn := e.withdrawn ++ [(p.seq, p.grp)] }.unback 1)
          (releaseMsg t p.seq e.allow true)))
    ∧ (∀ m : Msg,
      (∀ p, e.takes t 0x81 m = true → e.out = some p → e.st = 2 → p.seq = mByte m 3 →
        exec (.grantReceived t m) s = .next (s.granted t p (mByte m 4) (mByte m 9) (mPair m 10)))
      ∧ (e.takes t 0x83 m = true → exec (.nakReceived t m) s = .next (s.nakIn t m))
      ∧ (e.takes t 0x84 m = true → e.st = 5 → bitOf (mByte m 4) (clearsBit e.heldCode) = true →
        Yields (.budgetReceived t m) s (fun x => becomes x { e with st := if e.allow = 0 then 1 else 4, heldCode := 0 }))
      ∧ (e.takes t 0x85 m = true → e.st ≠ 0 → Yields (.configReceived t m) s (fun x => becomes x { e.answered.unback 3 with
          die := some (s.tileDie t), floor := mByte m 4, part := mByte m 5 % 64, dom := mByte m 6 % 8, maxcls := mByte m 7,
          ramp := mByte m 8, grade := mByte m 9 % 32, freq := mPair m 10 % 4096, gated := false, configured := true, seq := 0 }))
      ∧ (e.takes t 0x85 m = true → e.st = 0 → s.portUp (s.tileDie t) = true → Yields (.configReceived t m) s (fun x =>
          (x.endp t).st = 1 ∧ (x.endp t).seq = 0 ∧ (x.endp t).slots = [] ∧ (x.endp t).allow = 0
          ∧ (x.endp t).floor = mByte m 4 ∧ (x.endp t).freq = mPair m 10 % 4096 ∧ ∀ u, u ≠ t.val → x.endp u = s.endp u))
      ∧ (e.takes t 0x8B m = true → e.st ≠ 0 → Yields (.closeReceived t m) s (fun x => becomes x { e with
          st := 0, allow := 0, out := none, heldCode := 0, backs := [], withdrawn := [] })))
    ∧ (e.st = 5 → (e.heldCode = nakShed ∨ e.heldCode = nakThermal) → Yields (.heldWaitExpiry t) s (fun x =>
        becomes x { e with st := if e.allow = 0 then 1 else 4, heldCode := 0 }))
    ∧ (e.st = 3 → Yields (.rampComplete t) s (fun x => becomes x { e with st := 4, rampFrom := e.allow }))
    ∧ (2 ≤ e.st → Yields (.endpointLeaseExpiry t) s (fun x => becomes x { e with
        allow := 0, st := if e.st = 3 ∨ e.st = 4 then 1 else e.st }))

/-- The endpoint's other messages, reports and the die port's events complete. GROUP addressed to the tile sets or empties its slot;
FSTEP that names its domain gates its clock with FREQ 0 and keeps the grade, else takes the grade and the frequency; PAUSE takes
the duty; REFRESH of a tile with memory controllers takes the code, 3 acting as 2; PROBE is answered with its DATA inverted.
QFULL_BACKOFF_EXPIRY sends the waiting message of a TYPE again; OPEN_RETRY of a clamped tile on a live link sends OPEN; a periodic
TEMP_REPORT of a sensor the tile has, 8 us or more after its last, sends the encoded reading, or 0x3FF for an invalid sensor;
DROOP_REPORT of a tile with a droop reporter, a count that is not 0 and none sent within 16 us sends DROOP. CLAMP_ACCEPT puts its
code in force at that die's port and at no other. ENDPOINT_LINK_LOSS of the traffic link takes every tile of the die to floor
class, with no allowance, INTENT or pause; of the other link it changes no tile. SYNC_RECEIVED moves the port's traffic to that
link and leaves every endpoint's state and allowance as they were. Cites: R218, R234, R236, R239, R240, R242, R243, R245, R247,
R249, R250, R251. -/
def Obligations.EndpointMessagesComplete : Prop :=
  ∀ (s : State) (t : Fin 16384),
    let e := s.endp t
    (∀ m : Msg,
      (e.takes t 0x86 m = true → Yields (.groupReceived t m) s (fun x => x = s.setEndp t { e with
          slots := (e.slots.filter (fun y => y.1 != mByte m 4 % 4)) ++ (if bitOf (mPair m 5) 15 then [(mByte m 4 % 4, mPair m 5 % 4096)] else []) }))
      ∧ (e.takes t 0x87 m = true → e.inMask m = true → Yields (.fstepReceived t m) s (fun x =>
        x.endp t = if mPair m 6 % 4096 = 0 then { e with gated := true }
          else { e with grade := mByte m 5 % 32, freq := mPair m 6 % 4096, gated := false }))
      ∧ (e.takes t 0x88 m = true → e.inMask m = true → Yields (.pauseReceived t m) s (fun x =>
        x.endp t = { e with pause := mByte m 5 % 16 }))
      ∧ (e.takes t 0x89 m = true → e.inMask m = true → bitOf e.caps 0 = true → Yields (.refreshReceived t m) s (fun x =>
        x.endp t = { e with refresh := min 2 (mByte m 5 % 4) }))
      ∧ (e.takes t 0x8A m = true → exec (.probeReceived t m) s = .next (s.upSend t
        (upMsg 7 t [(4, 1, mByte m 4), (5, 8, 2 ^ 64 - 1 - ofLe ((List.range 8).map (fun k => mByte m (5 + k))))]))))
    ∧ (∀ (ty : Fin 8) (b : Backoff), mget {} e.backs ty = b → b.waits = true → exec (.qfullBackoffExpiry t ty) s = .next
        ((s.setEndp t { e with backs := mput {} e.backs ty { b with waits := false } }).upSend t b.msg))
    ∧ (e.st = 0 → s.portUp (s.tileDie t) = true → exec (.openRetry t) s = .next (s.upSend t (openMsg t e)))
    ∧ (∀ (j : Fin 4) (valid : Bool) (mdeg : Word), j.val < e.sensors → (∀ r, mget none e.temps j = some r → r.1 + 8 * usec ≤ s.now) →
        exec (.tempReport t j valid mdeg false) s = .next ((s.setEndp t { e with
            temps := mput none e.temps j (some (s.now, if valid then some mdeg.toInt else none)) }).upSend t
          (upMsg 5 t [(4, 2, if valid then tempEncode mdeg.toInt else 0x3FF), (6, 1, j), (7, 1, 0)])))
    ∧ (∀ (count : Byte) (longest : BitVec 16), bitOf e.caps 1 = true → count ≠ 0 → (∀ d, e.droopAt = some d → d + 16 * usec ≤ s.now) →
        exec (.droopReport t count longest) s = .next ((s.setEndp t { e with droopAt := some s.now }).upSend t
          (upMsg 6 t [(4, 1, count.toNat), (5, 2, longest.toNat)])))
    ∧ (∀ n code : Fin 16, Yields (.clampAccept n code) s (fun x => (x.port n).clamp = code
        ∧ ∀ k : Nat, k ≠ n → x.port k = s.port k))
    ∧ (∀ (n : Fin 16) (other : Bool), Yields (.endpointLinkLoss n other) s (fun x =>
        ((s.port n).traffic = (if other then 2 else 1) → ∀ u ∈ s.dieTiles n, (x.endp u).st = 0
          ∧ (x.endp u).allow = 0 ∧ (x.endp u).out = none ∧ (x.endp u).pause = 0)
        ∧ ((s.port n).traffic ≠ (if other then 2 else 1) → x.sl.ends = s.sl.ends)))
    ∧ (∀ (n : Fin 16) (other : Bool), Yields (.syncReceived n other) s (fun x =>
        (x.port n).traffic = (if other then 2 else 1)
        ∧ ∀ u, (x.endp u).st = (s.endp u).st ∧ (x.endp u).allow = (s.endp u).allow))

/-- MGRANT is accepted only by an ASKING tile whose INTENT carries its BARRIER_GRP. For an MGRANT addressed to the tile: when the
endpoint is ASKING and its outstanding INTENT carries the MGRANT's BARRIER_GRP, 0xFFF matching 0xFFF, and it is no renewal of an
expired lease, the endpoint enters GRANTED with the class it asked if the MGRANT's CLASS is 0, and the lower of the two otherwise.
When the endpoint is not ASKING, or its INTENT carries another BARRIER_GRP, and no withdrawn INTENT carries the MGRANT's, the
state is unchanged. Cites: R224. -/
def Obligations.MgrantIsAcceptedByMatch : Prop :=
  ∀ (s : State) (t : Fin 16384) (m : Msg), (s.endp t).takes t 0x82 m = true →
    (∀ p, (s.endp t).st = 2 → (s.endp t).out = some p → p.grp = mPair m 12 % 4096 → ¬ (p.renew = true ∧ (s.endp t).allow = 0) →
      Yields (.mgrantReceived t m) s (fun x => (x.endp t).st = 3 ∧ (x.endp t).out = none ∧ (x.endp t).lastSeq = p.seq
        ∧ (x.endp t).allow = if mByte m 4 = 0 then p.cls else min p.cls (mByte m 4)))
    ∧ (((s.endp t).st ≠ 2 ∨ (∀ p, (s.endp t).out = some p → p.grp ≠ mPair m 12 % 4096)) →
      (∀ w ∈ (s.endp t).withdrawn, w.2 ≠ mPair m 12 % 4096) → exec (.mgrantReceived t m) s = .next s)

/-- An endpoint event that Table 5.6 does not list for the state leaves everything unchanged. TILE_NEEDS_CURRENT in a state other than
IDLE and RUNNING, TILE_RENEW and TILE_NEEDS_LESS outside RUNNING, TILE_WITHDRAWS outside ASKING, RAMP_COMPLETE outside GRANTED,
ENDPOINT_LEASE_EXPIRY in CLAMPED and IDLE, HELD_WAIT_EXPIRY and BUDGET outside HELD, OPEN_RETRY outside CLAMPED, CLOSE in CLAMPED,
and a GRANT with no outstanding and no withdrawn INTENT answer the state unchanged. Cites: R223, Table 5.6. -/
def Obligations.EndpointEventsNotListedAreDiscarded : Prop :=
  ∀ (s : State) (t : Fin 16384) (m : Msg) (cls : Byte) (lease grp layer : BitVec 12) (arr : Bool) (op : BitVec 16),
    let e := s.endp t
    (e.st ≠ 1 → e.st ≠ 4 → exec (.tileNeedsCurrent t cls lease arr grp op layer) s = .next s)
    ∧ (e.st ≠ 4 → exec (.tileRenew t cls lease) s = .next s ∧ exec (.tileNeedsLess t cls) s = .next s)
    ∧ (e.st ≠ 2 → exec (.tileWithdraws t) s = .next s)
    ∧ (e.st ≠ 3 → exec (.rampComplete t) s = .next s)
    ∧ (e.st < 2 → exec (.endpointLeaseExpiry t) s = .next s)
    ∧ (e.st ≠ 5 → exec (.heldWaitExpiry t) s = .next s ∧ exec (.budgetReceived t m) s = .next s)
    ∧ (e.st ≠ 0 → exec (.openRetry t) s = .next s)
    ∧ (e.st = 0 → exec (.closeReceived t m) s = .next s)
    ∧ (e.out = none → e.withdrawn = [] → exec (.grantReceived t m) s = .next s)

/-- The Sluice's link events, flits, upstream messages and returns complete on the KG8's side. With SLU out of reset:
LINK_TRAIN_ATTEMPT_FAIL of a training link counts the failure, disables the link at the third, and records 0x3003; LINK_RETRY of
an enabled link that is in reset or lost starts training; LINK_ACTIVE of a training link with REFCLK_100 present, at full rate and
width, makes it active, sends SYNC on it, and looks at its enumeration, clamps and the start of Run; LINK_LOSS loses the link.
FLIT_RECEIVED takes a flit on an active link, and one at the die port takes it there; a flit on an active link whose CRC fails, or
whose FSEQ is out of order on a flit that is not idle, sets REPLAY, puts out one idle flit where REPLAY was not set, and brings no
message. An upstream message is handled as its TYPE says: on an active link, with room in the intake and the tile's queue, outside
a Halt Sweep and with no failing check, it is noted as accepted and has its own effect; TEMP and DROOP go to the report table.
PROBE_TIMEOUT of a tile with a PROBE pending fails check 5; LINK_LOSS_RETURN and RESERVATION_RETURN give reservations back;
BUDGET_REPEAT with a HELD tile in the partition sends BUDGET again. RETRAIN with SLU reachable takes the write, trains newly
enabled links, takes disabled ones to reset, and starts the links it names; PROFILE_SAVE_SL with SAVE set takes the write, saves
the Sluice configuration, and the CLAMP codes follow. Cites: R208, R212, R217, R228, R232, R235, R236, R248, R250, R251, R252,
R256. -/
def Obligations.SluiceCommandsComplete : Prop :=
  ∀ s : State,
    (∀ n : Fin 16, s.inReset 2 = false →
      ((s.link n).st = 1 → exec (.linkTrainAttemptFail n) s = .next (((s.setLink n { s.link n with
          fails := (s.link n).fails + 1, barred := decide (3 ≤ (s.link n).fails + 1),
          st := if 3 ≤ (s.link n).fails + 1 then 4 else 3 }).emit 2 0x3003 n ((s.link n).fails + 1)).runCheck))
      ∧ (s.linkOn n = true → (s.link n).st = 0 ∨ (s.link n).st = 3 → exec (.linkRetry n) s = .next (s.linkTrain n))
      ∧ ((s.link n).st = 1 → s.edge.refclkOk = true → exec (.linkActive n 0 false) s = .next (((((s.setLink n { (s.link n).ended 2 with
          fails := 0, lost := false, rate := 0, x8 := false, traffic := s.owner }).sendLink n (mkMsg 0x8C 3 0 [])).enumCheck
            n).clampAll).runCheck))
      ∧ (∀ cause : Fin 3, exec (.linkLoss n cause) s = .next (s.linkLoss n cause))
      ∧ (∀ f : BitVec 512, (s.link n).st = 2 →
          let l := (s.link n).fl
          exec (.flitReceived n f 0) s = .next (s.flitIn n f)
          ∧ ((flitCrcOk f = false ∨ (bitOf (flitByte f 15) 7 = false ∧ flitByte f 15 % 128 ≠ l.rxNext)) →
            exec (.flitReceived n f 0) s = .next (s.putFlits n ({ l with askReplay := true },
              if l.askReplay then [] else [FlitLink.idle { l with askReplay := true }])))))
    ∧ (∀ (n : Fin 16) (f : BitVec 512), exec (.flitReceived n f 1) s = .next (s.portFlit n false f)
        ∧ exec (.flitReceived n f 2) s = .next (s.portFlit n true f))
    ∧ (∀ (n : Fin 16) (m : Msg), s.inReset 2 = false → (s.link n).st = 2 → (s.link n).intake.contains m = false →
        s.sl.held.contains (n.val, m) = false →
      ((s.link n).intake.length < 256 → s.queueLen (mTile m) < 16 → s.ob.halted = false → (s.noteAccept m).badBytes m = [] →
        (mByte m 0 = 1 → exec (.intentReceived n m) s = .next ((s.noteAccept m).intentIn n m))
        ∧ (mByte m 0 = 2 → exec (.releaseReceived n m) s = .next ((s.noteAccept m).releaseIn n m))
        ∧ (mByte m 0 = 3 → exec (.openReceived n m) s = .next ((s.noteAccept m).openIn n m).runCheck)
        ∧ (mByte m 0 = 4 → exec (.stateReceived n m) s = .next ((s.noteAccept m).stateIn n m))
        ∧ (mByte m 0 = 7 → exec (.probereplyReceived n m) s = .next ((s.noteAccept m).probeReplyIn n m).runCheck))
      ∧ (s.badBytes m = [] → (mByte m 0 = 5 → exec (.tempReceived n m) s = .next (s.tempIn m))
        ∧ (mByte m 0 = 6 → exec (.droopReceived n m) s = .next
          (s.setTile (mTile m) { s.tile (mTile m) with droop := some (mByte m 4, mPair m 5) }))))
    ∧ (∀ t : Fin 16384,
      ((s.tile t).probe ≠ none → exec (.probeTimeout t) s = .next (s.nonconform (s.tile t).link t 5).runCheck)
      ∧ exec (.reservationReturn t) s = .next (s.giveBack t).napAdvance)
    ∧ (∀ n : Fin 16, exec (.linkLossReturn n) s = .next (((s.setLink n { s.link n with losing := [] }).giveBackAll
        ((s.link n).losing.filter (fun t => (s.tile t).returning))).napAdvance))
    ∧ (∀ p : Fin 64, (∃ t ∈ s.partTiles p, (s.tile t).held ≠ none) →
        exec (.budgetRepeat p) s = .next (s.sendBudget p (s.clearsNow p) (s.headroom p)))
    ∧ (∀ v : Word, Reaches s 2 →
      exec (.retrain v) s = .next (((s.writeFields Reg.SL_LINK_CTL_ENABLE.addr v.toNat).upto 16 (fun n z =>
          z.linkEnable (s.rf Reg.SL_LINK_CTL_ENABLE) n)).upto 16 (fun n z => if bitOf v.toNat (16 + n) && z.linkOn n then
            ((z.linkLoss n 0).setLink n { (z.linkLoss n 0).link n with fails := 0, barred := false }).linkTrain n else z))
      ∧ (bitOf v.toNat 24 = true → exec (.profileSaveSl v) s =
          .next ((s.writeFields Reg.SL_CTL_SAVE.addr v.toNat).saveBlock 1).clampAll))

/-- Waves, barriers, pre-boost, grades and pause duties complete. With FRI running, WAVE_START runs the domain's wave, BARRIER_TIMEOUT
of a round with arrivals releases it with 0x3013, PREDICT_TICK computes each prediction of the round again where there is one, and
PREBOOST_START of a predicted round whose parked current reaches PB_MIN_A adds the boost to the domain. PREBOOST_MAXHOLD withdraws
an unreleased offset with 0x3016. GRADE_SETTLED after an upward slew puts the target in force and sends FSTEP; GRADE_DOWN_FALL
starts the fall; GRADE_SETTLE_TIMEOUT sets the target back with 0x3012; LIMIT_STEP on a limiting rail lowers the target by one
with 0x3015; FREEZE_END ends the domain's storm freeze and changes nothing else of it. With FRI's registers reachable
GRADE_REQ_WRITE, PAUSE_DUTY_CHANGE and AD_SAVE with SAVE take the write and have their effect. Cites: R258, R275, R278, R280,
R281, R286, R287, R289, R291, R292, R294, R301. -/
def Obligations.AdmissionCommandsComplete : Prop :=
  ∀ s : State,
    (∀ d : Fin 8, s.friRuns = true → exec (.waveStart d) s = .next (s.waveStart d))
    ∧ (∀ g : Fin 4095, s.friRuns = true → (s.round g).arrived ≠ [] → exec (.barrierTimeout g) s =
        .next ((s.emitHw (some 3) 0 0x3013 g (s.round g).arrived.length (s.expected g)).release g))
    ∧ (∀ g : Fin 4095, s.friRuns = true → Yields (.predictTick g) s (fun t =>
        (t.round g).preds = (s.round g).preds.map (fun e => (e.1, (s.predict g e.1).getD e.2))
        ∧ (t.round g).arrived = (s.round g).arrived ∧ t.regs = s.regs ∧ t.ad.doms = s.ad.doms))
    ∧ (∀ (g : Fin 4095) (d : Fin 8),
      (s.friRuns = true → (∃ e ∈ (s.round g).preds, e.1 = d.val) →
        s.rf (Reg.AD_PB_CFG2_PB_MIN_A d) * 1000 ≤ s.parked g d * 4 → (∀ b ∈ (s.dom d).boosts, b.grp = g.val → b.withdrawing = true) →
        exec (.preboostStart g d) s = .next (((s.setDom d { s.dom d with boosts := (s.dom d).boosts ++ [{ grp := g, ramp := {
          frm := 0, goal := s.rf (Reg.AD_PB_CFG_OFFSET d) * 5, num := s.rf (Reg.AD_PB_CFG_OFFSET d) * 5,
          den := s.rf (Reg.AD_PB_CFG_LEAD d) * 100, since := s.now } }] }).burstExitCmd d).activateAll d))
      ∧ ((∃ b ∈ (s.dom d).boosts, b.grp = g.val ∧ b.withdrawing = false ∧ b.released = false) →
        exec (.preboostMaxhold g d) s = .next ((s.boostFall d g).emitHw (some 4) 0 0x3016 d g (s.round g).arrived.length)))
    ∧ (∀ d : Fin 8,
      ((s.dom d).step = 1 → exec (.gradeSettled d) s = .next ((s.setDom d { s.dom d with
          step := 0, grade := (s.dom d).target, freq := s.gradeF d (s.dom d).target }).sendFstep (2 ^ d.val) (s.dom d).target
            (s.gradeF d (s.dom d).target)))
      ∧ ((s.dom d).step = 2 → exec (.gradeDownFall d) s = .next ((s.setDom d { s.dom d with step := 0 }).slewTo d (s.dom d).grade
            (s.rf (Reg.AD_GR_CFG_SLEW_DN d))))
      ∧ ((s.dom d).step = 1 → exec (.gradeSettleTimeout d) s = .next ((((s.emit 0 0x3012 d (s.dom d).target
            ((s.rail d).sensed / 10)).setDom d { s.dom d with step := 0, target := (s.dom d).grade }).wr
              (Reg.AD_GRADE_REQ_TARGET d) (s.dom d).grade).slewTo d (s.dom d).grade (s.rf (Reg.AD_GR_CFG_SLEW_DN d))))
      ∧ (s.rb (Reg.AD_GR_CFG_LIMSTEP_EN d) = true → (s.rail d).limiting = true → 0 < (s.dom d).target →
          exec (.limitStep d) s = .next ((s.emit 0 0x3015 d ((s.dom d).target - 1) (s.railLimit d).1).retarget d
            ((s.dom d).target - 1)))
      ∧ Yields (.freezeEnd d) s (fun t => t.dom d = { s.dom d with storm := false } ∧ (∀ k, k ≠ d.val → t.dom k = s.dom k)
          ∧ t.regs = s.regs ∧ t.ph = s.ph ∧ t.sl = s.sl))
    ∧ (∀ v : Word, Reaches s 0 →
      (∀ d : Fin 8, exec (.gradeReqWrite d v) s =
          .next ((s.writeFields (Reg.AD_GRADE_REQ d) v.toNat).gradeRequest d (v.toNat % 32)))
      ∧ (∀ n : Fin 8, exec (.pauseDutyChange n v) s = .next ((s.writeFields (Reg.AD_PAUSE_PART n) v.toNat).upto 8
          (fun j y => y.pauseUpdate (8 * n + j))))
      ∧ (bitOf v.toNat 31 = true → exec (.adSave v) s = .next ((s.writeFields Reg.AD_CTL v.toNat).saveBlock 2)))

/-- Floodgate detection is armed only as R296 says, and a die that does not own fires without a strobe. With FRI out of reset:
FLOODGATE_DETECT on a rail that is neither regulating nor in burst, or whose FG_ENABLE is 0, or with a hold, a handback or a
strobe in progress, or of whose samples the last QUAL do not all qualify, answers the state unchanged. On an armed rail whose last
QUAL samples qualify it completes: AD_FG_STAT.FIRES counts the fire and saturates, the domain's backoff takes BACKOFF, and the
domain's strobe is launched on the owner and not on the other die. STROBE_WITHDRAW of a launched strobe ends it and notes the
deepest undershoot; FLOODGATE_REARM after the hold ends the handback; with a strobe held it begins that strobe with REG out of
reset on the owner, and elsewhere only ends the handback. Cites: R296. -/
def Obligations.FloodgateFiresOnlyWhenArmed : Prop :=
  ∀ (s : State) (r : Fin 8) (l : List (BitVec 12)), s.inReset 0 = false →
    ((((s.rail r).mode ≠ 2 ∧ (s.rail r).mode ≠ 3) ∨ s.rb (Reg.AD_FG_CFG_FG_ENABLE r) = false ∨ (s.rail r).hold = true
        ∨ (s.rail r).handback = true ∨ (s.dom r).strobe = true ∨ s.fgDetects r (l.map (·.toNat)) = false) →
        exec (.floodgateDetect r l) s = .next s)
    ∧ (((s.rail r).mode = 2 ∨ (s.rail r).mode = 3) → s.rb (Reg.AD_FG_CFG_FG_ENABLE r) = true → (s.rail r).hold = false →
        (s.rail r).handback = false → (s.dom r).strobe = false → s.fgDetects r (l.map (·.toNat)) = true →
        Yields (.floodgateDetect r l) s (fun t =>
          t.rf (Reg.AD_FG_STAT_FIRES r) = satU (Fld.hi (Reg.AD_FG_STAT_FIRES r) + 1 - Fld.lo (Reg.AD_FG_STAT_FIRES r))
            (s.rf (Reg.AD_FG_STAT_FIRES r) + 1)
          ∧ (t.dom r).backoff = s.rf (Reg.AD_FG_CFG2_BACKOFF r) ∧ (t.dom r).strobe = s.owner ∧ t.ph = s.ph))
    ∧ ((s.dom r).strobe = true → Yields (.strobeWithdraw r l) s (fun t => (t.dom r).strobe = false
        ∧ t.rf (Reg.AD_FG_STAT_LAST_UNDER r) = max (s.dom r).deepest (s.fgDeepest r (l.map (·.toNat)))
          % 2 ^ (Fld.hi (Reg.AD_FG_STAT_LAST_UNDER r) + 1 - Fld.lo (Reg.AD_FG_STAT_LAST_UNDER r))))
    ∧ ((s.rail r).hold = false → (s.rail r).strobeWaits = false → Yields (.floodgateRearm r) s (fun t =>
        t.rail r = { s.rail r with handback := false } ∧ t.ad = s.ad))
    ∧ ((s.rail r).hold = false → (s.rail r).strobeWaits = true →
        (s.regOn = true → exec (.floodgateRearm r) s = .next (s.strobeHold r))
        ∧ (s.regOn = false → Yields (.floodgateRearm r) s (fun t =>
            t.rail r = { s.rail r with handback := false, strobeWaits := false } ∧ t.ad = s.ad)))

/-- The auxiliary sequence and sag commands complete. With REG's registers reachable and KEY 0x5C, a write of AX_CTL with one request
bit runs it: RUN starts the sequence, STOP with every main rail off turns every channel off, CLEAR of a faulted channel puts it in
WAITING, RESTART restarts the named group. With REG out of reset: AUX_READY of a waiting channel whose predecessors are GOOD makes
it ready and changes no other channel; AUX_ADMIT_TICK admits group by group; AUX_GOOD of a soft-starting channel at its threshold
makes it GOOD, driven to 1.80 V; SAG_BEGIN and SAG_END with readings that meet R326 begin and end the sag, and SAG_BEGIN with a
channel paused beyond SAG_MAX in total stops the group; SAG_MAX_EXPIRY of a sag stops the group; GROUP_WARN at the warning level
reports 0x4013; REVERSE_OFF_STEP of a channel below 10 % ends its turn-off. Cites: R312, R313, R314, R318, R323, R326, R328, R329,
R330, R334. -/
def Obligations.AuxiliaryCommandsComplete : Prop :=
  ∀ s : State,
    (∀ v : Word, Reaches s 1 → bitsOf v.toNat 31 24 = 0x5C →
      let w := s.writeFields Reg.AX_CTL v.toNat
      (bitsOf v.toNat 23 16 = 8 → exec (.axRun v) s = .next w.auxStart)
      ∧ (bitsOf v.toNat 23 16 = 4 → w.anyRailOn = false →
          exec (.axStop v) s = .next ({ w with ax.seqDone := false, ax.running := false } : State).auxAllOff)
      ∧ (bitsOf v.toNat 23 16 = 2 → (w.aux (bitsOf v.toNat 4 0)).st = 5 → exec (.axClear v) s =
          .next (w.setAux (bitsOf v.toNat 4 0) { w.aux (bitsOf v.toNat 4 0) with st := 1, ready := false }))
      ∧ (∀ g : Fin 4, bitsOf v.toNat 23 16 = 16 * 2 ^ g.val → exec (.axRestart v) s = .next (w.auxRestart g)))
    ∧ (s.inReset 1 = false →
      (∀ n : Fin 24, (s.aux n).st = 1 → (s.auxGrp (n.val / 6)).stopped = false → (∀ d ∈ s.auxPreds n, (s.aux d).st = 4) →
        Yields (.auxReady n) s (fun t => t.aux n = { s.aux n with ready := true } ∧ ∀ k, k ≠ n.val → t.aux k = s.aux k))
      ∧ exec .auxAdmitTick s = .next (s.upto 4 (fun g x => x.auxAdmit g))
      ∧ (∀ (n : Fin 24) (agv mv : BitVec 12), let w := (s.agvRead (n.val / 6) (auxMv agv)).auxRead n.val (some (auxMv mv)) none
        (w.aux n).st = 2 → w.rf (Reg.AX_CH_CFG2_PG_PCT n) * auxMv agv ≤ 100 * auxMv mv → exec (.auxGood n agv mv) s =
          .next ((((w.setAux n { w.aux n with st := 4, timer := (w.aux n).timer + (w.now - (w.aux n).since) }).auxDrive n
            1800).auxSeq).startReady))
      ∧ (∀ (g : Fin 4) (a b : BitVec 12), let w := s.agvRead g (auxMv b)
        (w.auxGrp g).stopped = false → (100 * auxMv a < w.rf (Reg.AX_GRP_CFG_SAG_PCT g) * w.rf (Reg.AX_GRP_CFG_AGV_NOM g)
          ∨ 100 * auxMv b < w.rf (Reg.AX_GRP_CFG_SAG_PCT g) * w.rf (Reg.AX_GRP_CFG_AGV_NOM g)) → w.sagSpent g = true →
        exec (.sagBegin g a b) s = .next (w.auxGroupStop g))
      ∧ (∀ (g : Fin 4) (a b : BitVec 12), let w := s.agvRead g (auxMv b)
        (w.auxGrp g).sag = false → (w.auxGrp g).stopped = false → w.sagSpent g = false →
        100 * auxMv a < w.rf (Reg.AX_GRP_CFG_SAG_PCT g) * w.rf (Reg.AX_GRP_CFG_AGV_NOM g) →
        100 * auxMv b < w.rf (Reg.AX_GRP_CFG_SAG_PCT g) * w.rf (Reg.AX_GRP_CFG_AGV_NOM g) →
        exec (.sagBegin g a b) s = .next (w.sagBegin g (min (auxMv a) (auxMv b))))
      ∧ (∀ (g : Fin 4) (agv : BitVec 12), let w := s.agvRead g (auxMv agv)
        (w.auxGrp g).sag = true → (w.rf (Reg.AX_GRP_CFG_SAG_PCT g) + 2) * w.rf (Reg.AX_GRP_CFG_AGV_NOM g) ≤ 100 * auxMv agv →
        exec (.sagEnd g agv) s = .next (((w.setAuxGrp g { w.auxGrp g with sag := false }).each (grpChans g)
          (fun n y => y.auxResume n)).emit 1 0x4011 g ((w.now - (w.auxGrp g).sagAt) / usec) 0 (w.auxGrp g).corr))
      ∧ (∀ g : Fin 4, (s.auxGrp g).sag = true → exec (.sagMaxExpiry g) s = .next (s.auxGroupStop g))
      ∧ (∀ (g : Fin 4) (cs : List (BitVec 12)), (s.auxGrp g).stopped = false → s.rf (Reg.AX_GRP_CFG2_GRP_WARN g) ≤ s.grpAmps g cs →
        exec (.groupWarn g cs) s = .next ((s.upto 6 (fun i x =>
          x.auxRead (6 * g.val + i) none (some (x.auxMa (6 * g.val + i) (cs.getD i 0))))).emitHw none 1 0x4013 g (s.grpAmps g cs) (s.rf (Reg.AX_GRP_CFG2_GRP_WARN g))))
      ∧ (∀ (n : Fin 24) (mv : BitVec 12) (a : Nat), let w := s.auxRead n.val (some (auxMv mv)) none
        (w.aux n).offAt = some a → (w.aux n).st = 6 → 10 * auxMv mv < w.rf (Reg.AX_GRP_CFG_AGV_NOM (n.val / 6)) →
        exec (.reverseOffStep n mv) s =
          .next (((w.setAux n { w.aux n with st := (w.aux n).offTo, offAt := none }).auxRelease).auxSeq)))

/-- Each auxiliary fault condition faults its channel with its cause and reading. With REG out of reset, the reading is taken first;
then AUX_SS_TIMEOUT of a soft-starting channel (cause 1), AUX_FAST of a channel that is not OFF (0), AUX_OVERLOAD of a GOOD
channel above RUN_LIM outside a sag (2), AUX_UV of a GOOD channel below PG_PCT less 5 % outside a sag (3) and AUX_SENSE of a
reading at its full-scale end on a channel neither OFF nor FAULTED nor in a stopped group (5) fault the channel with that cause
and the reading as the value. Cites: R319, R320, R321, R322, R323, R336. -/
def Obligations.AuxiliaryFaultsComplete : Prop :=
  ∀ (s : State) (n : Fin 24), s.inReset 1 = false →
    (∀ c : BitVec 12,
      let ma := s.auxMa n.val c
      let w := s.auxRead n.val none (some ma)
      ((s.aux n).st = 2 → exec (.auxSsTimeout n c) s = .next (w.auxFault n 1 ma))
      ∧ ((s.aux n).st ≠ 0 → exec (.auxFast n c) s = .next (w.auxFault n 0 ma))
      ∧ ((w.aux n).st = 4 → (w.auxGrp (n.val / 6)).sag = false → w.rf (Reg.AX_CH_CFG0_RUN_LIM n) * 500 < ma →
          exec (.auxOverload n c) s = .next (w.auxFault n 2 ma))
      ∧ (∀ v : BitVec 12, (s.aux n).st ≠ 0 → (s.aux n).st ≠ 5 → (s.auxGrp (n.val / 6)).stopped = false → v = 4095 ∨ c = 4095 →
          exec (.auxSense n c v) s = .next (w.auxFault n 5 ma)))
    ∧ (∀ agv mv : BitVec 12, let w := (s.agvRead (n.val / 6) (auxMv agv)).auxRead n.val (some (auxMv mv)) none
      (w.aux n).st = 4 → (w.auxGrp (n.val / 6)).sag = false →
        100 * auxMv mv < (w.rf (Reg.AX_CH_CFG2_PG_PCT n) - 5) * auxMv agv →
        exec (.auxUv n agv mv) s = .next (w.auxFault n 3 (auxMv mv)))

/-- The reservoir's tick, readings, probes and bleed commands complete. RES_TICK takes the bus readings into AO's meter, and with REG
out of reset, a converter that is off or no cell estimate above 2.88 V, measures, computes and drives the converter's legs, and
returns the allowance to FRI when FRI is out of reset. With REG out of reset and a module present: READING_A keeps the reading and
judges it for cell faults, leakage and capacitance; READING_B of a clean probe with no open tap lengthens the clean run and
changes no cause; PROBE_ON on the owner stimulates the taps of this period; CTH_SAMPLE takes every thermistor's reading;
BLEED_START begins the other parity's period, and BLEED_OFF ends all bleeding. SHED_FLAG at the start of a shed records 0x5050 and
at its end 0x5051, with the shed marked or no longer. Cites: R346, R348, R352, R354, R356, R357, R365, R367, R371, R376, R378,
R446. -/
def Obligations.ReservoirCommandsComplete : Prop :=
  ∀ (s : State),
    (∀ (bv : Option (BitVec 16)) (bi conv : Int) (stk : Nat) (ris : Int),
      let ma := s.busiMa bi
      let b := s.busReading (bv.map busvOf) ma
      let m := b.rvMeasure ma conv (stackOf stk) (b.rvisDa ris)
      b.ao.meterUj = (s.ao.meterUj + ((bv.map busvOf).getD s.edge.busMv * ma.toNat * 10 + s.ao.meterPj) / 1000000) % 2 ^ 64
      ∧ (s.inReset 1 = true → exec (.resTick bv bi conv stk ris) s = .next b)
      ∧ (s.inReset 1 = false → (convOff m.rv.mode = true ∨ m.rvHigh ≤ 2880) →
        let c := m.rvCompute.legsDrive
        (c.inReset 0 = true → exec (.resTick bv bi conv stk ris) s = .next c)
        ∧ (c.inReset 0 = false → exec (.resTick bv bi conv stk ris) s = .next c.rgaReturn)))
    ∧ (s.inReset 1 = false → s.rvCells ≠ 0 →
      (∀ (cells : List (BitVec 16)) (stk : Nat) (ris : Int), exec (.readingA cells stk ris) s = .next ((({ s with
          rv.a := { time := s.now, cells := (cells.take s.rvCells).map cellMv, stack := stackOf stk, charge := s.rv.charge }
          rv.stackMv := stackOf stk, rv.stackDa := s.rvisDa ris
          rv.old := ((if s.rv.a.cells.isEmpty then [] else [s.rv.a]) ++ s.rv.old).take 101 } : State).rvCellFaults).rvLeak).rvSegment)
      ∧ (∀ (cells : List (BitVec 16)) (stk : Nat), (∀ k, ((cellMv (cells.getD k 0) : Nat) : Int) = s.rv.a.cell (k + 1)) →
          s.rv.a.stack = stackOf stk → s.rv.openTaps = 0 → (s.owner = true ∨ s.tw.stimAt.isSome = true) →
          Yields (.readingB cells stk) s (fun t =>
            t.rv.cleanRun = satU 7 (s.rv.cleanRun + 1) ∧ t.rv.senseRun = 0 ∧ t.rv.checkClean = s.rv.checkClean + 1
            ∧ t.rv.causes = s.rv.causes ∧ t.rv.openTaps = 0 ∧ t.rv.probing = 0 ∧ t.raised = s.raised))
      ∧ (s.owner = true → let src := (((List.range (s.rvCells + 1)).filter (fun k => (k + s.rv.parity) % 2 == 0)).map (fun k => 2 ^ k)).sum
          exec .probeOn s = .next (({ s with rv.probing := src } : State).out (.tapProbe src))))
    ∧ (s.inReset 1 = false → ∀ vs : List (BitVec 16), Yields (.cthSample vs) s (fun t =>
        ∀ j < 4, (mget ({} : Therm) t.rv.therms j).temp = ((vs.map cthRead).getD j (1, 0)).2))
    ∧ (s.inReset 1 = false → Yields .bleedStart s (fun t => t.rv.parity = 1 - s.rv.parity ∧ t.rv.periodAt = s.now
        ∧ ((convOff s.rv.mode = true ∨ s.owner = false) → t.rv.bleeding = 0) ∧ t.regs = s.regs))
    ∧ Yields .bleedOff s (fun t => t.rv.bleeding = 0 ∧ t.rv.causes = s.rv.causes ∧ t.regs = s.regs)
    ∧ (s.inReset 1 = false → s.shedOn = true → s.rv.shed = false → Yields .shedFlag s (fun t => t.rv.shed = true
        ∧ t.rv.shedAt = s.now ∧ t.rv.shedUj = 0 ∧ ∃ p0 p2, t.raised = s.raised ++ [⟨1, 0x5050, none, p0, p32 (s.gCeil / watt), p2, 0, 8⟩]))
    ∧ (s.inReset 1 = false → s.shedOn = false → s.rv.shed = true → Yields .shedFlag s (fun t => t.rv.shed = false
        ∧ t.raised = s.raised ++ [⟨1, 0x5051, none, p32 ((s.now - s.rv.shedAt) / msec), p32 (s.rv.shedUj / 10000000), 0, 0, 8⟩]))

/-- The reservoir's checks, causes, module commands and endurance events complete. STACK_OVERCURRENT above 1.25 times IMAX with the
converter on stops it with cause FAULT. CAUSE_CLEAR_TIMER clears CHECK and TAPS, TEMP with the window open, an unlatched FAULT and
a precharge timeout, when the cause is set. CHECK_DONE in CHECK fails with 0x5002 on the first item of R378 that fails and else
runs the mode the stack calls for; PRECHARGE_DONE with V_low at VMIN runs it; PRECHARGE_TIMEOUT in PRECHARGE records 0x5003 and
takes the precharge cause. A sufficient ESR_SAMPLE gives each cell its sample; ESR_UNMEASURED with a module records 0x5041;
ENDURANCE_CHECKPOINT with REG out of reset checkpoints. With REG's registers reachable and KEY 0x5C a write of RV_CTL with one
request bit is NEW_MODULE, RECHECK or RV_SAVE. Cites: R346, R368, R369, R372, R374, R375, R378, R379, R383, R872, Table 8.2. -/
def Obligations.ReservoirModesAndCausesComplete : Prop :=
  ∀ (s : State),
    (∀ ris : Int, convOff s.rv.mode = false → 25 * s.rf Reg.RV_MOD_CFG0_IMAX < 2 * (s.rvisDa ris).natAbs →
        exec (.stackOvercurrent ris) s = .next (s.rvFault 0 (s.rvisDa ris).natAbs))
    ∧ (bitOf s.rv.causes 2 = true → exec (.causeClearTimer 2) s = .next (s.rvClear 2))
    ∧ (bitOf s.rv.causes 3 = true → s.rv.disOpen = true → exec (.causeClearTimer 3) s = .next (s.rvClear 3))
    ∧ (bitOf s.rv.causes 5 = true → s.rv.latched = false → exec (.causeClearTimer 5) s = .next (s.rvClear 5))
    ∧ (bitOf s.rv.causes 7 = true → exec (.causeClearTimer 7) s = .next (s.rvClear 7))
    ∧ (bitOf s.rv.causes 8 = true → s.rv.preTimeout = true →
        exec (.causeClearTimer 8) s = .next (({ s with rv.preTimeout := false } : State).rvClear 8))
    ∧ (s.rv.mode = 1 → (∀ p, s.checkItem = some p → exec .checkDone s = .next ((s.emit 1 0x5002 p.1 p.2).rvCause 2))
        ∧ (s.checkItem = none → exec .checkDone s = .next s.rvRun))
    ∧ (s.rv.mode = 2 → (s.rvVmin : Int) ≤ s.rvLow → exec .prechargeDone s = .next s.rvRun)
    ∧ (s.rv.mode = 2 → exec .prechargeTimeout s = .next ((({ s with rv.preTimeout := true } : State).emit 1 0x5003 (pI s.rvLow)
        s.rv.stackMv ((s.now - s.rv.preAt) / second)).rvCause 8))
    ∧ (∀ (step : Int) (dv : List (BitVec 16)), let da := (s.rvisDa step).natAbs
        s.wearOk = true → 2 * s.rf Reg.RV_MOD_CFG0_IMAX ≤ da → 0 < da →
        exec (.esrSample step dv) s = .next (({ s with rv.esrAt := s.now } : State).upto s.rvCells (fun n x =>
          x.newEsr n ((dv.getD n 0).toNat * 3200000000 / (65536 * da * s.rf Reg.RV_MOD_CFG1_ESR_NAME)))))
    ∧ (s.rvCells ≠ 0 → s.inReset 1 = false → exec .esrUnmeasured s = .next (s.emit 1 0x5041 7))
    ∧ (s.inReset 1 = false → exec .enduranceCheckpoint s = .next s.rvCheckpoint)
    ∧ (∀ v : Word, Reaches s 1 → bitsOf v.toNat 31 24 = 0x5C →
        let w := s.writeFields Reg.RV_CTL v.toNat
        (bitsOf v.toNat 3 0 = 4 → exec (.newModule v) s = .next w.newModule)
        ∧ (bitsOf v.toNat 3 0 = 2 → exec (.recheck v) s = .next w.recheck)
        ∧ (bitsOf v.toNat 3 0 = 8 → exec (.rvSave v) s = .next (w.saveBlock 3)))

/-- Thermal ticks, readings, broken-reading events and the orderly stop's phases complete. With FRI out of reset: SENSOR_READING of a
present sensor (an I3C one on the owner) judges the reading with the code its class gives; READING_SILENT of a present tile sensor
and READING_STUCK of a usable reading whose neighbours' median has moved by 5 degrees break it; READING_RESTORED of a present
broken reading returns it to use. On the owner: ZONE_TICK and STEP_TICK run their computations, DIE_UNPINNED at or below a quarter
unpins with 0x6013, DRAIN_END in the drain phase drains and begins the flush, FLUSH_END moves to the grade 0 phase and changes
nothing else, GRADE0_REACHED in that phase sets the trip latch, and ORDERLY_STOP_RECOMPUTE during a stop with nothing projected
clears the projection. With FRI's registers reachable (AO's for TH_TRIP) THRESH_WRITE takes the write and its effect, and TH_SAVE
with SAVE saves. Cites: R386, R387, R389, R391, R393, R395, R400, R405, R406, R408, R413, R419. -/
def Obligations.ThermalCommandsComplete : Prop :=
  ∀ s : State,
    (s.inReset 0 = false →
      (∀ (cls : Fin 4) (k : BitVec 16) (v : BitVec 17) (ok : Bool),
        let n := cls.val * 0x10000 + k.toNat
        s.present n = true → (cls.val = 3 → s.owner = true) → exec (.sensorReading cls k ok v) s = .next (
          if cls.val = 1 then (s.senseOut 1 k.toNat).sensorRead n (ok && (s.tdCode k.toNat v.toNat).isSome)
            ((s.tdCode k.toNat v.toNat).getD 0x3FF)
          else if cls.val = 3 then (s.senseOut 3 k.toNat).sensorRead n ok (s.i3cCode k.toNat (v.toNat % 65536))
          else s.sensorRead n ok (v.toNat % 1024)))
      ∧ (∀ (t : Fin 16384) (j : Fin 4), s.present (4 * t.val + j.val) = true →
          exec (.readingSilent t j) s = .next (s.breakSensor (4 * t.val + j.val) 3))
      ∧ (∀ (cls : Fin 4) (k : BitVec 16), let n := cls.val * 0x10000 + k.toNat
        (∀ a b, s.stuckMedian n = some a → (s.sensor n).medAt = some b → s.sensorOk n = true → 40 ≤ ((a : Int) - b).natAbs →
          exec (.readingStuck cls k) s = .next (s.breakSensor n 1))
        ∧ (s.present n = true → (s.sensor n).broken = true → Yields (.readingRestored cls k) s (fun t =>
          (t.sensor n).broken = false ∧ (t.sensor n).cause = 0 ∧ (t.sensor n).code = (s.sensor n).code ∧ t.regs = s.regs
          ∧ t.raised = s.raised ++ (if s.owner then [⟨0, 0x6011, none, p32 n, 0, p32 (s.sensor n).code, 0, 8⟩] else [])))))
    ∧ (s.inReset 0 = false → s.owner = true →
      exec .zoneTick s = .next s.zoneTick ∧ exec .stepTick s = .next s.stepTick
      ∧ (∀ n : Fin 16, (s.zone (0x10 + n.val)).pinned = true → 4 * (s.dieShare n.val).1 ≤ (s.dieShare n.val).2 →
          exec (.dieUnpinned n) s = .next ((s.setZone (0x10 + n.val) { s.zone (0x10 + n.val) with pinned := false }).emit 0 0x6013
            n.val (s.dieShare n.val).1 (s.dieShare n.val).2))
      ∧ (s.th.stop = 2 → exec .drainEnd s = .next ({ s.drainAll with th.stop := 3 } : State).tailFlush)
      ∧ (s.th.stop = 3 → exec .flushEnd s = .next { s with th.stop := 4 })
      ∧ (s.th.stop = 4 → exec .grade0Reached s = .next (s.tripLatch 2 s.th.stopZone (s.zone s.th.stopZone).temp))
      ∧ (1 ≤ s.th.stop → s.th.stop ≤ 4 → s.pkgProj.1 = none → exec .orderlyStopRecompute s = .next { s.pkgProj.2 with th.proj := none }))
    ∧ (∀ v : Word,
      (Reaches s 7 → exec (.threshWrite v) s = .next (s.threshAfter (s.writeFields Reg.TH_TRIP_THRESH.addr v.toNat)))
      ∧ (Reaches s 0 → bitOf v.toNat 1 = true → exec (.thSave v) s =
          .next ((s.writeFields Reg.TH_CTL_SAVE.addr v.toNat).saveBlock 4)))

/-- AO sets the trip latch with cause AO at or above THRESH, through no part of FRI. In every state whose latch is not set, whatever
FRI's reset or state: AO_TRIP_COMPARE of a valid reading at or above the code of THRESH answers a state with the latch set,
TH_TRIP_STAT.CAUSE reading 4 (AO) and its TEMP the reading, event 0x6002 raised, and the package in Keep with no transition in
progress. A reading below the code, or one that is not valid, answers the state unchanged; so does any reading while the latch is
set. Cites: R411. -/
def Obligations.AoTripLatchesAtThresh : Prop :=
  ∀ (s : State) (j : Fin 16) (v : BitVec 10),
    (s.th.trip = false → s.threshCode ≤ v.toNat → Yields (.aoTripCompare j true v) s (fun t =>
      t.th.trip = true ∧ t.rf Reg.TH_TRIP_STAT_CAUSE = 4 ∧ t.rf Reg.TH_TRIP_STAT_TEMP = v.toNat
      ∧ t.isl.pkg = 3 ∧ t.isl.tripped = true ∧ t.isl.inTrans = false
      ∧ ⟨7, 0x6002, none, 4, 0x20, p32 v.toNat, 0, 8⟩ ∈ t.raised))
    ∧ (v.toNat < s.threshCode → exec (.aoTripCompare j true v) s = .next s)
    ∧ exec (.aoTripCompare j false v) s = .next s
    ∧ (s.th.trip = true → exec (.aoTripCompare j true v) s = .next s)

/-- Allocation, duty, estimate and partition table commands complete. With FRI running, ALLOCATION notes the source and recomputes
every allocation, and BUDGET_DUTY_TICK with measured demand within the margin of the budget only starts a new average. With FRI
out of reset ESTIMATE_TICK leaves the reservations, doms and outputs alone and writes BG_UNATTR from the meter, and RGA_TIMEOUT
marks the allowance lost and moves the budget. With FRI's registers reachable: EST_CLEAR zeroes every estimate and BG_UNATTR;
BG_SAVE saves; PART_CFG_WRITE that leaves the table valid takes the write and recomputes, and one that breaks R427 is discarded
with BG_FELL.REFUSED set and 0x7005, its reserved bits still judged. HELD_ASK_EXPIRY of a HELD ask stops it counting in demand and
changes no other tile. Cites: R427, R430, R431, R445, R447, R449, R452, R872, Table 10.6, Table 10.8. -/
def Obligations.BudgetCommandsComplete : Prop :=
  ∀ s : State,
    (s.friRuns = true → exec .allocation s = .next s.noteSource.allocate)
    ∧ (s.friRuns = true → s.measured * 100 ≤ s.bPkg * (100 + s.rf Reg.BG_PKG_CFG3_DUTY_MARGIN) →
        s.bPkg * (100 - s.rf Reg.BG_PKG_CFG3_DUTY_MARGIN) ≤ s.measured * 100 →
        exec .budgetDutyTick s = .next { s with rv.accDuty := 0, rv.cntDuty := 0 })
    ∧ (s.inReset 0 = false → Yields .estimateTick s (fun t => t.sl = s.sl ∧ t.ad = s.ad ∧ t.outbox = s.outbox ∧ t.ao = s.ao
        ∧ t.rf Reg.BG_UNATTR_LO_UNATTR + 2 ^ 32 * t.rf Reg.BG_UNATTR_HI_UNATTR
          = codeOf 64 (((s.ao.meterUj : Int) - s.bg.meterAt) - ((t.bg.est.map (fun e => e.2 / 1000000)).sum : Nat))))
    ∧ (s.inReset 0 = false → exec .rgaTimeout s = .next ({ s with bg.rgaLost := true } : State).budgetMoved)
    ∧ (∀ v : Word, Reaches s 0 →
      let w := s.writeFields Reg.BG_CTL v.toNat
      (bitOf v.toNat 1 = true → bitOf v.toNat 31 = false → Yields (.estClear v) s (fun t => t.bg.est = []
        ∧ t.bg.meterAt = s.ao.meterUj ∧ t.rf Reg.BG_UNATTR_LO_UNATTR = 0 ∧ t.rf Reg.BG_UNATTR_HI_UNATTR = 0
        ∧ ∀ p < 64, t.rf (Reg.BG_PART_EST_LO_EST p) = 0 ∧ t.rf (Reg.BG_PART_EST_HI_EST p) = 0))
      ∧ (bitOf v.toNat 1 = false → bitOf v.toNat 31 = true → exec (.bgSave v) s = .next (w.saveBlock 5))
      ∧ (∀ (p : Fin 64) (hi : Bool), let x := s.writeFields (if hi then Reg.BG_PART_CFG1 p else Reg.BG_PART_CFG0 p) v.toNat
        (x.tableBad p = none → exec (.partCfgWrite p hi v) s = .next x.allocate)
        ∧ (∀ q, x.tableBad p = some q → exec (.partCfgWrite p hi v) s =
            .next (((s.wr Reg.BG_FELL_REFUSED 1).emit 0 0x7005 q.1 q.2.1 q.2.2).rsvdCheck
              (if hi then Reg.BG_PART_CFG1 p else Reg.BG_PART_CFG0 p) v.toNat))))
    ∧ (∀ (t : Fin 16384) (h : HeldAsk), (s.tile t).held = some h → Yields (.heldAskExpiry t) s (fun x =>
        x.tile t = { s.tile t with held := some { h with counts := false } } ∧ (∀ u, u ≠ t.val → x.tile u = s.tile u)
        ∧ x.regs = s.regs ∧ x.ad = s.ad))

/-- Queue configuration, pops and collect groups complete. With POL's registers reachable, QCFG_WRITE is the queue write of R455 to
R458 followed by what waits for it; ME_POP_READ and ME_POP64_READ by the READER of a queue without DISPATCH that holds a message
remove the head, latch words 1 to 7 for that requester and return word 0, or words 0 and 1; on an empty queue they clear the latch
and return 0. COLLECT_TIMEOUT of a collect round with arrivals and a TIMEOUT that is not 0 delivers the round PARTIAL with 0x8006.
COLLECT_RETRY tries each undelivered result once, oldest first: a result is delivered when its TARGET, none of queues 0 to 15, is
enabled, takes datagrams and has room, dropped with COLLECT_DROP and 0x8005 at the hundredth try, and otherwise counts the try.
Cites: R455, R457, R458, R481, R482, R483, R484. -/
def Obligations.MessageEngineCommandsComplete : Prop :=
  ∀ s : State, 
    (∀ (q : Fin 4096) (v : Word), Reaches s 3 → exec (.qcfgWrite q v) s = .next ((s.qcfgWrite q v.toNat).launchSweep.flSettle))
    ∧ (∀ (req : Fin 9) (q : Fin 4096), Reaches s 3 → s.rb (Reg.ME_QCFG_DISPATCH q) = false → s.qReader q = req →
      (∀ m rest, s.qMsgs q = m :: rest →
        let x := ((s.qPop q).2.setLatch req q (qWords m).tail).launchSweep.flSettle
        exec (.mePopRead req q) s = .next (x.out (.readData (Reg.ME_POP q) ((qWords m).getD 0 0)))
        ∧ exec (.mePop64Read req q) s =
            .next (x.out (.readData (Reg.ME_POP q) ((qWords m).getD 0 0 + 2 ^ 32 * (qWords m).getD 1 0))))
      ∧ (s.qMsgs q = [] →
        let x := (s.setLatch req 0 []).launchSweep.flSettle
        exec (.mePopRead req q) s = .next (x.out (.readData (Reg.ME_POP q) 0))
        ∧ exec (.mePop64Read req q) s = .next (x.out (.readData (Reg.ME_POP q) 0))))
    ∧ (∀ g : Fin 4096, let r := mget ({} : Round) s.me.rounds g
      (s.rf (Reg.ME_GRP0_KIND g) = 2 → 0 < r.arrivals → s.rf (Reg.ME_GRP1_TIMEOUT g) ≠ 0 →
        exec (.collectTimeout g) s = .next ((s.collectDeliver g true).emit 3 0x8006 g r.arrivals (s.rf (Reg.ME_GRP1_EXPECT g))))
      ∧ (let none0 : State := { s with me.rounds := mput {} s.me.rounds g { r with results := [] } }
        let tgt := s.rf (Reg.ME_GRP0_TARGET g)
        let room := sendTo tgt 0x40 && s.rb (Reg.ME_QCFG_ENABLE tgt) && s.qAccepts tgt false && s.qReady tgt
        exec (.collectRetry g) s = .next (r.results.foldl (fun x e => x.collectTry g e) none0)
        ∧ ∀ e, r.results = [e] →
          (room = true → exec (.collectRetry g) s = .next (none0.qAccept tgt e.1))
          ∧ (room = false → 99 ≤ e.2.2 → exec (.collectRetry g) s =
              .next ((none0.wr Reg.ME_FELL_COLLECT_DROP 1).emit 3 0x8005 g tgt e.2.1))
          ∧ (let r0 := mget ({} : Round) none0.me.rounds g
            let again : Round := { r0 with results := r0.results ++ [(e.1, e.2.1, e.2.2 + 1)] }
            room = false → e.2.2 < 99 → exec (.collectRetry g) s =
              .next { s with me.rounds := mput {} none0.me.rounds g again })))

/-- A pop by a requester that is not the READER, or of a queue with DISPATCH 1, returns 0 and removes nothing. With POL's registers
reachable, ME_POP_READ and ME_POP64_READ of a queue with DISPATCH 1, or by a requester that is not its READER, return 0, set
ME_FELL.ACCESS and record 0x8007 with parameters queue, requester and 1 or 0; no message and no latch changes before the launches
and transfers that wait are looked at, as after every read of the window. Cites: R485. -/
def Obligations.RefusedPopRemovesNothing : Prop :=
  ∀ (s : State) (req : Fin 9) (q : Fin 4096), Reaches s 3 →
    (s.rb (Reg.ME_QCFG_DISPATCH q) = true ∨ s.qReader q ≠ req) →
    let w := (s.wr Reg.ME_FELL_ACCESS 1).emit 3 0x8007 q req (if s.rb (Reg.ME_QCFG_DISPATCH q) then 1 else 0)
    w.me = s.me
    ∧ exec (.mePopRead req q) s = .next (w.launchSweep.flSettle.out (.readData (Reg.ME_POP q) 0))
    ∧ exec (.mePop64Read req q) s = .next (w.launchSweep.flSettle.out (.readData (Reg.ME_POP q) 0))

/-- The integer operations give rd the value of Table 13.4 and change nothing else. Whenever core c can issue with its pc and the next
word inside its text: ADD (whose three fields are not all zero), SUB, AND, OR, XOR, SLL, SRL, SRA, SLT, SLTU, MIN, MAX, MINU,
MAXU, MUL, MULH, MULHU, CLZ and POPC complete. rd reads the value of Table 13.4 (nothing is written when rd is g0); pc moves on by
4 and the cycles are the table's; every other g register, every accumulator, the flags, qsel, every memory, every other core and
the rest of the machine are as before. Shifts are by rs2[5:0] and are stated by multiplication and division by a power of two;
MULH and MULHU as the high half of the 128-bit product; CLZ by the powers of two that bound rs1; POPC by the count of bits that
are 1. ADD with every field zero is ILLEGAL. Cites: R533, R536, R537, R539, Table 13.4. -/
def Obligations.IntegerOperations : Prop :=
  ∀ (s : State) (c : Fin 8) (rd r1 r2 : Fin 32), Ready s c 4 →
    let x := (s.core c).g r1
    let y := (s.core c).g r2
    let k := y.toNat % 64
    (¬ (rd = 0 ∧ r1 = 0 ∧ r2 = 0) → WritesG (.ikAdd c rd r1 r2) s c 1 4 rd (BitVec.ofInt 64 (x.toInt + y.toInt)))
    ∧ Excepts (.ikAdd c 0 0 0) s c 1
    ∧ WritesG (.ikSub c rd r1 r2) s c 1 4 rd (BitVec.ofInt 64 (x.toInt - y.toInt))
    ∧ WritesG (.ikAnd c rd r1 r2) s c 1 4 rd (BitVec.ofNat 64 (x.toNat &&& y.toNat))
    ∧ WritesG (.ikOr c rd r1 r2) s c 1 4 rd (BitVec.ofNat 64 (x.toNat ||| y.toNat))
    ∧ WritesG (.ikXor c rd r1 r2) s c 1 4 rd (BitVec.ofNat 64 (x.toNat ^^^ y.toNat))
    ∧ WritesG (.ikSll c rd r1 r2) s c 1 4 rd (BitVec.ofNat 64 (x.toNat * 2 ^ k))
    ∧ WritesG (.ikSrl c rd r1 r2) s c 1 4 rd (BitVec.ofNat 64 (x.toNat / 2 ^ k))
    ∧ WritesG (.ikSra c rd r1 r2) s c 1 4 rd (BitVec.ofInt 64 (x.toInt / 2 ^ k))
    ∧ WritesG (.ikSlt c rd r1 r2) s c 1 4 rd (if x.slt y then 1 else 0)
    ∧ WritesG (.ikSltu c rd r1 r2) s c 1 4 rd (if x.ult y then 1 else 0)
    ∧ WritesG (.ikMin c rd r1 r2) s c 1 4 rd (BitVec.ofInt 64 (min x.toInt y.toInt))
    ∧ WritesG (.ikMax c rd r1 r2) s c 1 4 rd (BitVec.ofInt 64 (max x.toInt y.toInt))
    ∧ WritesG (.ikMinu c rd r1 r2) s c 1 4 rd (BitVec.ofNat 64 (min x.toNat y.toNat))
    ∧ WritesG (.ikMaxu c rd r1 r2) s c 1 4 rd (BitVec.ofNat 64 (max x.toNat y.toNat))
    ∧ WritesG (.ikMul c rd r1 r2) s c 2 4 rd (BitVec.ofInt 64 (x.toInt * y.toInt))
    ∧ WritesG (.ikMulh c rd r1 r2) s c 2 4 rd ((x.signExtend 128 * y.signExtend 128).extractLsb' 64 64)
    ∧ WritesG (.ikMulhu c rd r1 r2) s c 2 4 rd ((x.zeroExtend 128 * y.zeroExtend 128).extractLsb' 64 64)
    ∧ (∃ n, n ≤ 64 ∧ x.toNat < 2 ^ (64 - n) ∧ (n < 64 → 2 ^ (63 - n) ≤ x.toNat) ∧ WritesG (.ikClz c rd r1) s c 1 4 rd (BitVec.ofNat 64 n))
    ∧ WritesG (.ikPopc c rd r1) s c 1 4 rd (BitVec.ofNat 64 ((List.range 64).filter (fun i => x.getLsbD i)).length)

/-- Division raises no exception, takes 24 cycles, and has a defined result for a zero divisor. Whenever core c can issue with its pc
and the next word inside its text, DIV, DIVU, REM and REMU of any operands complete in 24 cycles, write only rd and move pc on by
4. With a divisor of zero DIV and DIVU give all ones, and REM and REMU the dividend. With any other divisor there are a quotient q
and a remainder r with x = q y + r, r smaller than y in magnitude and zero or of the sign of x, and DIV gives q and REM gives r on
64 bits; DIVU and REMU give the unsigned quotient and remainder. DIV of -2^63 by -1 gives -2^63, and REM of the same operands
gives 0. Cites: R540. -/
def Obligations.DivisionResults : Prop :=
  ∀ (s : State) (c : Fin 8) (rd r1 r2 : Fin 32), Ready s c 4 →
    let x := (s.core c).g r1
    let y := (s.core c).g r2
    (y = 0 → WritesG (.ikDiv c rd r1 r2) s c 24 4 rd 0xFFFFFFFFFFFFFFFF ∧ WritesG (.ikDivu c rd r1 r2) s c 24 4 rd 0xFFFFFFFFFFFFFFFF
      ∧ WritesG (.ikRem c rd r1 r2) s c 24 4 rd x ∧ WritesG (.ikRemu c rd r1 r2) s c 24 4 rd x)
    ∧ (y ≠ 0 → (∃ q r : Int, x.toInt = q * y.toInt + r ∧ r.natAbs < y.toInt.natAbs ∧ 0 ≤ r * x.toInt
        ∧ WritesG (.ikDiv c rd r1 r2) s c 24 4 rd (BitVec.ofInt 64 q) ∧ WritesG (.ikRem c rd r1 r2) s c 24 4 rd (BitVec.ofInt 64 r))
      ∧ (∃ q r : Nat, x.toNat = q * y.toNat + r ∧ r < y.toNat
        ∧ WritesG (.ikDivu c rd r1 r2) s c 24 4 rd (BitVec.ofNat 64 q) ∧ WritesG (.ikRemu c rd r1 r2) s c 24 4 rd (BitVec.ofNat 64 r)))
    ∧ (x = 0x8000000000000000 → y = 0xFFFFFFFFFFFFFFFF → WritesG (.ikDiv c rd r1 r2) s c 24 4 rd 0x8000000000000000
      ∧ WritesG (.ikRem c rd r1 r2) s c 24 4 rd 0)

/-- CMP and CMPI set Z, N, C and V from x - y, keep SAT and change nothing else. Whenever core c can issue with its pc and the next
word inside its text, CMP of rs1 and rs2 and CMPI of rs1 and sext(IMM15) complete in 1 cycle, and of the core's registers only the
flags change: Z says that the operands are equal, N is bit 63 of the difference on 64 bits, C says that the first is at least the
second unsigned, V says that the difference of the signed operands lies outside 64 bits, and SAT is as it was. Cites: R538, R539,
R541. -/
def Obligations.CompareFlags : Prop :=
  ∀ (s : State) (c : Fin 8) (r1 r2 : Fin 32) (imm : BitVec 15), Ready s c 4 →
    let x := (s.core c).g r1
    let z (b : Bool) : BitVec 1 := BitVec.ofBool b
    let flags (y : DWord) : BitVec 5 := z ((s.core c).flags.getLsbD 4)
      ++ z (decide (x.toInt - y.toInt < -(2 ^ 63) ∨ 2 ^ 63 ≤ x.toInt - y.toInt)) ++ z (y.ule x) ++ z ((x - y).msb) ++ z (x == y)
    WritesFlags (.ikCmp c r1 r2) s c 1 (flags ((s.core c).g r2)) ∧ WritesFlags (.ikCmpi c r1 imm) s c 1 (flags (imm.signExtend 64))

/-- The immediate operations give rd the value of Table 13.5 and change nothing else. Whenever core c can issue inside its text: ADDI
and SLTI and SLTIU take the sign-extended immediate, ANDI, ORI and XORI the zero-extended one, in 1 cycle with pc + 4; SHI shifts
left, right or arithmetically right by its 6-bit amount for selections 0, 1 and 2, and is ILLEGAL for selection 3; LITL gives rd
the sign-extended literal and LITH replaces bits 63 to 32 of rd by the literal and keeps bits 31 to 0, in 2 cycles with pc + 8.
Nothing is written when rd is g0; every other register, accumulator, flag, memory and the rest of the machine are as before.
Cites: R533, R536, R541, Table 13.5. -/
def Obligations.ImmediateOperations : Prop :=
  ∀ (s : State) (c : Fin 8) (rd r1 : Fin 32) (imm : BitVec 15) (amt : Fin 64) (lit : Word),
    let x := (s.core c).g r1
    (Ready s c 4 →
      WritesG (.ikAddi c rd r1 imm) s c 1 4 rd (BitVec.ofInt 64 (x.toInt + imm.toInt))
      ∧ WritesG (.ikAndi c rd r1 imm) s c 1 4 rd (BitVec.ofNat 64 (x.toNat &&& imm.toNat))
      ∧ WritesG (.ikOri c rd r1 imm) s c 1 4 rd (BitVec.ofNat 64 (x.toNat ||| imm.toNat))
      ∧ WritesG (.ikXori c rd r1 imm) s c 1 4 rd (BitVec.ofNat 64 (x.toNat ^^^ imm.toNat))
      ∧ WritesG (.ikSlti c rd r1 imm) s c 1 4 rd (if x.toInt < imm.toInt then 1 else 0)
      ∧ WritesG (.ikSltiu c rd r1 imm) s c 1 4 rd (if x.ult (imm.signExtend 64) then 1 else 0)
      ∧ WritesG (.ikShi c rd r1 0 amt) s c 1 4 rd (BitVec.ofNat 64 (x.toNat * 2 ^ amt.val))
      ∧ WritesG (.ikShi c rd r1 1 amt) s c 1 4 rd (BitVec.ofNat 64 (x.toNat / 2 ^ amt.val))
      ∧ WritesG (.ikShi c rd r1 2 amt) s c 1 4 rd (BitVec.ofInt 64 (x.toInt / 2 ^ amt.val))
      ∧ Excepts (.ikShi c rd r1 3 amt) s c 1)
    ∧ (Ready s c 8 →
      WritesG (.ikLitl c rd lit) s c 2 8 rd (BitVec.ofInt 64 lit.toInt)
      ∧ WritesG (.ikLith c rd lit) s c 2 8 rd (lit ++ ((s.core c).g rd).extractLsb' 0 32))

/-- A load gives rt the bytes at its address, little-endian, and changes nothing else. Whenever core c can issue inside its text and
rb + sext(OFF15) on 64 bits is a readable address that is a multiple of the width: LB, LH and LW give rt the sign-extended value,
LBU, LHU and LWU the zero-extended one, and LD all 8 bytes, the byte at the lowest address in bits 7 to 0. The load takes 2
cycles, or 2 + ((c - cyc) mod 8) from table SRAM. Every other register, accumulator, flag, memory and the rest of the machine are
as before. Cites: R3, R501, R502, R533, R542, Table 12.3, Table 13.6. -/
def Obligations.LoadsReturnTheBytes : Prop :=
  ∀ (s : State) (c : Fin 8) (rt rb : Fin 32) (off : BitVec 15),
    let b (i : Nat) : Byte := coreByte s c (dataAddr s c rb off + i)
    LoadsTo (.ikLb c rt rb off) s c 1 rt rb off ((b 0).signExtend 64)
    ∧ LoadsTo (.ikLbu c rt rb off) s c 1 rt rb off ((b 0).zeroExtend 64)
    ∧ LoadsTo (.ikLh c rt rb off) s c 2 rt rb off ((b 1 ++ b 0).signExtend 64)
    ∧ LoadsTo (.ikLhu c rt rb off) s c 2 rt rb off ((b 1 ++ b 0).zeroExtend 64)
    ∧ LoadsTo (.ikLw c rt rb off) s c 4 rt rb off ((b 3 ++ b 2 ++ b 1 ++ b 0).signExtend 64)
    ∧ LoadsTo (.ikLwu c rt rb off) s c 4 rt rb off ((b 3 ++ b 2 ++ b 1 ++ b 0).zeroExtend 64)
    ∧ LoadsTo (.ikLd c rt rb off) s c 8 rt rb off (b 7 ++ b 6 ++ b 5 ++ b 4 ++ b 3 ++ b 2 ++ b 1 ++ b 0)

/-- A store writes the low bytes of rt at its address and no other byte. Whenever core c can issue inside its text and rb +
sext(OFF15) on 64 bits is a writable address a that is a multiple of the width n: SB, SH, SW and SD (n = 1, 2, 4 and 8) complete
in 2 cycles, or 2 + ((c - cyc) mod 8) for table SRAM. Byte k of the n bytes from a reads bits 8k + 7 to 8k of rt, every byte of
the core's address map outside them reads as before, and so do every register, accumulator and flag, the data SRAM of every other
core and the rest of the machine. Cites: R3, R501, R502, R533, R542, R543, Table 12.3, Table 13.6. -/
def Obligations.StoresChangeOnlyTheirBytes : Prop :=
  ∀ (s : State) (c : Fin 8) (rt rb : Fin 32) (off : BitVec 15),
    StoresAt (.ikSb c rt rb off) s c 1 rt rb off ∧ StoresAt (.ikSh c rt rb off) s c 2 rt rb off
    ∧ StoresAt (.ikSw c rt rb off) s c 4 rt rb off ∧ StoresAt (.ikSd c rt rb off) s c 8 rt rb off

/-- An unaligned or unmapped data access is DADDR, and a store to read-only memory WRITE_RO. Whenever core c can issue with its pc
inside its text. A load whose address rb + sext(OFF15) on 64 bits is not readable in Table 12.3 (an address above 0xFFFF_FFFF and
the instruction SRAM among them) or is not a multiple of its width raises DADDR. A store to an address that no region holds, or
that is not a multiple of its width, raises DADDR; a store to a multiple of its width in the instruction SRAM or the launch
constants raises WRITE_RO. An access to an address that permits it, of the right alignment, completes when the next word lies
inside the text. Cites: R542. -/
def Obligations.DataAccessExceptions : Prop :=
  ∀ (s : State) (c : Fin 8) (rt rb : Fin 32) (off : BitVec 15), s.canIssue c = true → (s.core c).pc < (s.core c).textLen →
    let a := dataAddr s c rb off
    let loads : List (Instr × Nat) := [(.ikLb c rt rb off, 1), (.ikLbu c rt rb off, 1), (.ikLh c rt rb off, 2), (.ikLhu c rt rb off, 2),
      (.ikLw c rt rb off, 4), (.ikLwu c rt rb off, 4), (.ikLd c rt rb off, 8)]
    let stores : List (Instr × Nat) := [(.ikSb c rt rb off, 1), (.ikSh c rt rb off, 2), (.ikSw c rt rb off, 4), (.ikSd c rt rb off, 8)]
    (∀ e ∈ loads, ((¬ Readable a ∨ a % e.2 ≠ 0) → Excepts e.1 s c 3)
      ∧ (Readable a → a % e.2 = 0 → (s.core c).pc + 4 < (s.core c).textLen → Yields e.1 s (fun t => (t.core c).pc = (s.core c).pc + 4)))
    ∧ (∀ e ∈ stores,
      ((a % e.2 ≠ 0 ∨ ¬ (Writable a ∨ a < 0x10000 ∨ (0x120000 ≤ a ∧ a < 0x120100))) → Excepts e.1 s c 3)
      ∧ (a % e.2 = 0 → (a < 0x10000 ∨ (0x120000 ≤ a ∧ a < 0x120100)) → Excepts e.1 s c 4)
      ∧ (Writable a → a % e.2 = 0 → (s.core c).pc + 4 < (s.core c).textLen → Yields e.1 s (fun t => (t.core c).pc = (s.core c).pc + 4)))

/-- The accumulator operations give the accumulator or rd the value of Table 13.7. Whenever core c can issue with its pc and the next
word inside its text. ACLR, ALD, ALDI, ALDR, AMOV, MULQ and ASHR give a[ad] their value and change no flag. AADD, ASUB, MACQ, MSUQ
and ASHL give a[ad] the exact sum, difference or left shift clamped to 96 bits and set SAT exactly when it clamped. ARD gives g
the accumulator clamped to 64 bits and sets SAT exactly when it clamped; ARDL and ARDH give g bits 63 to 0 raw and bits 95 to 64
sign-extended and change no flag. A product is the 128-bit product of the signed factors shifted right arithmetically by 32. Each
takes the cycles of Table 13.7; no other register, accumulator, flag or memory changes. Cites: R499, R533, R538, R544, Table 13.7. -/
def Obligations.AccumulatorOperations : Prop :=
  ∀ (s : State) (c ad asr : Fin 8) (r1 r2 : Fin 32), Ready s c 4 →
    let x := (s.core c).g r1
    let y := (s.core c).g r2
    let a := (s.core c).acc ad
    let b := (s.core c).acc asr
    let p := product32 x y
    WritesAcc (.ikAclr c ad) s c 1 ad 0 False
    ∧ WritesAcc (.ikAld c ad r1) s c 1 ad (BitVec.ofInt 96 x.toInt) False
    ∧ WritesAcc (.ikAldi c ad r1) s c 1 ad (BitVec.ofInt 96 (x.toInt * 2 ^ 32)) False
    ∧ WritesAcc (.ikAldr c ad r1 r2) s c 1 ad (y.extractLsb' 0 32 ++ x) False
    ∧ WritesAcc (.ikAadd c ad asr) s c 1 ad (near96 (a.toInt + b.toInt)) (Outside 96 (a.toInt + b.toInt))
    ∧ WritesAcc (.ikAsub c ad asr) s c 1 ad (near96 (a.toInt - b.toInt)) (Outside 96 (a.toInt - b.toInt))
    ∧ WritesAcc (.ikAmov c ad asr) s c 1 ad b False
    ∧ WritesAcc (.ikMulq c ad r1 r2) s c 2 ad (p.extractLsb' 0 96) False
    ∧ WritesAcc (.ikMacq c ad r1 r2) s c 3 ad (near96 (a.toInt + p.toInt)) (Outside 96 (a.toInt + p.toInt))
    ∧ WritesAcc (.ikMsuq c ad r1 r2) s c 3 ad (near96 (a.toInt - p.toInt)) (Outside 96 (a.toInt - p.toInt))
    ∧ WritesAcc (.ikAshr c ad r1) s c 1 ad (BitVec.ofInt 96 (a.toInt / 2 ^ r1.val)) False
    ∧ WritesAcc (.ikAshl c ad r1) s c 1 ad (near96 (a.toInt * 2 ^ r1.val)) (Outside 96 (a.toInt * 2 ^ r1.val))
    ∧ WritesG (.ikArdl c asr r1) s c 1 4 r1 (b.extractLsb' 0 64)
    ∧ WritesG (.ikArdh c asr r1) s c 1 4 r1 ((b.extractLsb' 64 32).signExtend 64)
    ∧ Yields (.ikArd c asr r1) s (fun t => CoreMoved s t c 1 ((s.core c).pc + 4) ∧ MemKept s t c ∧ AccKept s t c
      ∧ (t.core c).qsel = (s.core c).qsel
      ∧ (t.core c).flags = (s.core c).flags ||| (if b.toInt < -(2 ^ 63) ∨ 2 ^ 63 ≤ b.toInt then 16 else 0)
      ∧ ∀ r, (t.core c).g r = if r = r1 ∧ r ≠ 0 then BitVec.ofInt 64 (max (-(2 ^ 63)) (min (2 ^ 63 - 1) b.toInt)) else (s.core c).g r)

/-- Branches and jumps go to their target, and IADDR catches every way out of the text. Whenever core c can issue with its pc inside
its text. BEQ, BNE, BLT, BGE, BLTU and BGEU go to pc + 4 sext(OFF15) when their comparison of ra and rb holds and to pc + 4 when
it does not; JAL goes to pc + 4 sext(OFF15) and JALR to rs1 + sext(IMM15) on 64 bits, with pc + 4 in the link register (not when
it is g0), rs1 read first. Each takes 1 cycle and changes nothing else. Where the place they go to is no multiple of 4, or is at
or above TEXT_LEN or below 0, they raise IADDR at the instruction. NOP, which falls through, raises IADDR at the last word of the
text, and LITL and LITH do where their literal word or what follows it lies at or above TEXT_LEN; NOP completes elsewhere and
changes nothing but pc and the counts. Cites: R545. -/
def Obligations.ControlTransfers : Prop :=
  ∀ (s : State) (c : Fin 8) (ra rb : Fin 32) (off : BitVec 15) (lit : Word),
    let x := (s.core c).g ra
    let y := (s.core c).g rb
    let into : Int := (s.core c).pc + 4 * off.toInt
    Transfers (.ikBeq c ra rb off) s c (x = y) into 0 ∧ Transfers (.ikBne c ra rb off) s c (x ≠ y) into 0
    ∧ Transfers (.ikBlt c ra rb off) s c (x.toInt < y.toInt) into 0 ∧ Transfers (.ikBge c ra rb off) s c (y.toInt ≤ x.toInt) into 0
    ∧ Transfers (.ikBltu c ra rb off) s c (x.toNat < y.toNat) into 0 ∧ Transfers (.ikBgeu c ra rb off) s c (y.toNat ≤ x.toNat) into 0
    ∧ Transfers (.ikJal c ra off) s c True into ra
    ∧ Transfers (.ikJalr c ra rb off) s c True ((y + off.signExtend 64).toNat : Int) ra
    ∧ (s.canIssue c = true → (s.core c).pc < (s.core c).textLen →
      ((s.core c).textLen ≤ (s.core c).pc + 4 → Excepts (.ikNop c) s c 2)
      ∧ ((s.core c).pc + 4 < (s.core c).textLen → WritesG (.ikNop c) s c 1 4 0 0)
      ∧ ((s.core c).textLen ≤ (s.core c).pc + 8 → Excepts (.ikLitl c ra lit) s c 2 ∧ Excepts (.ikLith c ra lit) s c 2))

/-- MFS, MTS, MFM and QSEL read and write the special registers as Table 12.2 says. Whenever core c can issue with its pc and the next
word inside its text. MFS gives rd the special register named: 0 its own pc, 1 cyc, 2 qsel, 3 hcause of the context that runs, 4
the core number, 5 the cycles left of the level's budget (never below 0), 6 the flags, 7 upc, 8 npc, 9 the level, and 0 for every
other number. MTS to 2 gives qsel bits 1 to 0 of rs1, to 6 gives the flags bits 4 to 0, and to any other number changes only pc
and the counts. MFM gives rd message register k of the bank in use for k below 4, and is ILLEGAL for any other. QSEL gives qsel
its immediate. Cites: R499, R500, R546, R547, Table 12.2, Table 13.9. -/
def Obligations.SpecialRegisters : Prop :=
  ∀ (s : State) (c : Fin 8) (rd r1 n : Fin 32) (set : Fin 4), Ready s c 4 →
    let k := s.core c
    let x := k.g r1
    (∀ v, (n, v) ∈ ([(0, k.pc), (1, s.ik.cyc), (2, k.qsel), (4, c.val), (6, k.flags.toNat), (7, k.upc), (8, k.npc), (9, k.level)] : List (Fin 32 × Nat)) →
      WritesG (.ikMfs c rd n) s c 1 4 rd (BitVec.ofNat 64 v))
    ∧ (∀ l cause, (l, cause) ∈ [(0, k.causeT), (1, k.causeN), (2, k.causeU)] → k.level = l →
      WritesG (.ikMfs c rd 3) s c 1 4 rd (BitVec.ofNat 64 cause))
    ∧ WritesG (.ikMfs c rd 5) s c 1 4 rd (BitVec.ofNat 64 (if k.level = 2 then s.rf Reg.IK_BUDGET_BUDGET_U - k.cntU
        else s.rf Reg.IK_BUDGET_BUDGET_N - k.cntN))
    ∧ (10 ≤ n.val → WritesG (.ikMfs c rd n) s c 1 4 rd 0)
    ∧ Yields (.ikMts c 2 r1) s (fun t => CoreMoved s t c 1 (k.pc + 4) ∧ MemKept s t c ∧ GKept s t c ∧ AccKept s t c
        ∧ (t.core c).flags = k.flags ∧ (t.core c).qsel = x.toNat % 4)
    ∧ WritesFlags (.ikMts c 6 r1) s c 1 (x.extractLsb' 0 5)
    ∧ (n ≠ 2 → n ≠ 6 → WritesG (.ikMts c n r1) s c 1 4 0 0)
    ∧ (∀ i : Fin 32, if i.val < 4 then WritesG (.ikMfm c rd i) s c 1 4 rd (k.m i) else Excepts (.ikMfm c rd i) s c 1)
    ∧ Yields (.ikQsel c set) s (fun t => CoreMoved s t c 1 (k.pc + 4) ∧ MemKept s t c ∧ GKept s t c ∧ AccKept s t c
        ∧ (t.core c).flags = k.flags ∧ (t.core c).qsel = set.val)

/-- Dispatch, overruns, exceptions, restart, the host's core control and image loading complete. For every core c: a count past its
budget on a live core is an overrun that stops it, and CORE_EXCEPTION e on a live core stops it with code e + 1; CORE_RESTART of a
core due on the owning die starts it with reason 1. With POL's registers reachable: a keyed IK_CTL write stops the cores of its
STOP bits and starts those of its RESTART bits that are loaded, stopped and on the owning die; a write of STOP or RESTART without
the key only sets REFUSED; SAVE alone saves the block; BUDGET_WRITE of budgets in force for every loaded WCET takes the write, and
one below a WCET writes neither and records 0x9008. IMAGE_LOAD of a usable flash loads once. CROSSING_RETRY carries a held policy
write to its island. Cites: R506, R510, R513, R516, R517, R521, R523, R525, R529, R552, Table 12.15, Table 12.17. -/
def Obligations.CoreControlCommandsComplete : Prop :=
  ∀ (s : State) (c : Fin 8) (v : Word),
    (s.coreLive c = true →
      (((s.core c).level = 2 → s.rf Reg.IK_BUDGET_BUDGET_U < (s.core c).cntU →
          exec (.budgetOverrun c) s = .next (((s.noteMax c).coreFault c 0).lostSweep))
      ∧ ((s.core c).level < 2 → (s.core c).atWait = false → s.rf Reg.IK_BUDGET_BUDGET_N < (s.core c).cntN →
          exec (.budgetOverrun c) s = .next (((s.noteMax c).coreFault c 0).lostSweep))
      ∧ (∀ e : Fin 8, exec (.coreException c e) s = .next ((s.coreFault c (e.val + 1)).lostSweep))))
    ∧ ((s.core c).restartDue = true → s.owner = true → s.polRuns = true → exec (.coreRestart c) s = .next ((s.startCore c 1).lostSweep))
    ∧ (Reaches s 3 →
      let w := s.writeFields Reg.IK_CTL v.toNat
      let n := bitsOf v.toNat 31 16
      let u := bitsOf v.toNat 15 0
      (bitsOf v.toNat 15 0 ≠ 0 → keyOk v.toNat = false →
        exec (.ikStop v) s = .next s.refuse ∧ exec (.ikRestart v) s = .next s.refuse)
      ∧ (keyOk v.toNat = true → bitsOf v.toNat 17 8 = 0 → bitsOf v.toNat 7 0 ≠ 0 → exec (.ikStop v) s =
          .next (w.upto 8 (fun c x => if bitOf v.toNat c then
            (x.stopCore c 5).setCore c { (x.stopCore c 5).core c with restartDue := false } else x)).lostSweep)
      ∧ (v = 0x5C000000 ||| (1 <<< (8 + c.val)) → s.owner = true → (s.core c).running = false →
        exec (.ikRestart v) s = .next (w.startCore c 3).lostSweep)
      ∧ (bitsOf v.toNat 15 0 = 0 → bitOf v.toNat 17 = true → exec (.ikSave v) s = .next (w.saveBlock 6))
      ∧ (s.largestWcet false ≤ clampN 1000 65535 n → s.largestWcet true ≤ clampN 1000 65535 u →
          exec (.budgetWrite v) s = .next (s.writeFields Reg.IK_BUDGET v.toNat))
      ∧ (clampN 1000 65535 n < s.largestWcet false → s.largestWcet true ≤ clampN 1000 65535 u →
          Yields (.budgetWrite v) s (fun t => t.rf Reg.IK_BUDGET_BUDGET_N = s.rf Reg.IK_BUDGET_BUDGET_N
            ∧ t.rf Reg.IK_BUDGET_BUDGET_U = s.rf Reg.IK_BUDGET_BUDGET_U ∧ t.rf Reg.IK_FELL_REFUSED = 1
            ∧ t.raised = s.raised ++ [⟨3, 0x9008, none, 1, p32 n, p32 (s.largestWcet false), 0, 8⟩])))
    ∧ (s.inReset 3 = false → s.edge.flashOk = true → s.ik.check = 0 → (∀ e ∈ s.ik.cores, e.2.loaded = false ∧ e.2.refused = false) →
        exec .imageLoad s = .next ((s.imageLoad.startLoaded 0).lostSweep))
    ∧ (∀ (n kind : Nat) (ops : List Nat), s.isl.retries = [(n, kind, ops)] → s.inReset n = false →
        exec .crossingRetry s = .next (let t := ({ s with isl.retries := [] } : State).policyTake kind ops
          if kind = 6 then t.flSettle else t))

/-- An exception stops and resets its core, and restarts it unless it is the third or PARITY. Whenever core c, which runs no launch,
ends an instruction in exception code at its pc (RTE at thread level, code 7, and WAITQ in an Urgent handler, code 6): both banks
and qsel are zeroed, the level is the thread's and nothing runs or waits; its data SRAM, its instruction SRAM and the table SRAM
are kept, and so is every other core; IK_CORE_FAULT holds the code and the pc, IK_FELL.EXCEPT of the core is set and its
autonomous floor governs. It is due to restart when fewer than two other faults lie within the last second, and held otherwise.
Cites: R37, R516, R517, R536, Table 12.7, Table 12.18. -/
def Obligations.CoreFaultsResetTheCore : Prop :=
  ∀ (s : State) (c : Fin 8) (rd : Fin 32), s.canIssue c = true → (s.core c).pc < (s.core c).textLen → (s.core c).launchId = none →
    let recent := ((s.core c).faultAt.filter (fun t => decide (s.now < t + second))).length
    ∀ i code, (i = .ikRte c ∧ code = 7 ∧ (s.core c).level = 0) ∨ (i = .ikWaitq c rd ∧ code = 6 ∧ (s.core c).level = 2) →
      Yields i s (fun t =>
        (t.core c).bankN = {} ∧ (t.core c).bankU = {} ∧ (t.core c).qsel = 0 ∧ (t.core c).level = 0
        ∧ (t.core c).running = false ∧ (t.core c).waiting = false ∧ (t.core c).floor = true
        ∧ (t.core c).data = (s.core c).data ∧ (t.core c).imem = (s.core c).imem ∧ t.ik.table = s.ik.table
        ∧ (∀ d, d ≠ c.val → t.core d = s.core d)
        ∧ t.rf (Reg.IK_CORE_FAULT_CODE c) = code ∧ t.rf (Reg.IK_CORE_FAULT_PC c) = (s.core c).pc % 2 ^ 16
        ∧ bitOf (t.rf Reg.IK_FELL_EXCEPT) c = true
        ∧ (t.core c).restartDue = decide (recent < 2) ∧ (t.core c).held = decide (2 ≤ recent))

/-- A handler starts with its message at a wait point or a boundary, and RTE returns from it. For a live core c. WAITQ outside an
Urgent handler makes it wait with rd noted and its pc kept. NORMAL_DISPATCH at a wait point with no Urgent message, of the first
message of the queue that R489 chooses, whose handler is flagged Normal and which is not the launch queue: the handler begins at
its address at level 1 with the message in m0 to m3, npc holds the address of the WAITQ, the flags are saved, hcause says Normal
and the queue, the count starts at 4 and the shared clock moves on by 4. URGENT_DISPATCH below level 2 does the same on the Urgent
bank with upc, keeping the Normal bank and count. RTE of a Normal handler without a launch returns to npc at thread level with the
flags saved and every g register as it is; RTE of an Urgent handler with no Urgent message waiting returns to upc and the level
that was preempted. WAITQ_COMPLETE with no dispatch to take gives rd the chosen queue and moves pc past the WAITQ. Cites: R460,
R489, R506, R507, R509, R510, R512, R550, Table 12.4, Table 12.5. -/
def Obligations.HandlersEnterAndReturn : Prop :=
  ∀ (s : State) (c : Fin 8) (rd : Fin 32), s.coreLive c = true →
    let k := s.core c
    (k.waiting = false → k.pc < k.textLen → k.level < 2 → Yields (.ikWaitq c rd) s (fun t =>
      (t.core c).waiting = true ∧ (t.core c).waitRd = rd.val ∧ (t.core c).pc = k.pc ∧ (t.core c).bankN = k.bankN ∧ t.ik.table = s.ik.table))
    ∧ (∀ (q adr flags wcet : Nat) (m : QMsg) (rest : List QMsg), s.qMsgs q = m :: rest →
      k.handlers[s.rf (Reg.ME_QCFG_HANDLER q)]? = some (adr, flags, wcet) → bitOf flags 0 = true →
      (k.atWait = true → s.dispatchable c true = [] → s.bestPrio (s.dispatchable c false) = some q → q ≠ c.val → bitOf flags 1 = true →
        Yields (.normalDispatch c) s (fun t => (t.core c).level = 1 ∧ (t.core c).pc = adr ∧ (t.core c).npc = k.pc
          ∧ (t.core c).flagsBack = k.bankN.flags ∧ (t.core c).bankN = { k.bankN with m := msgRegs m } ∧ (t.core c).bankU = k.bankU
          ∧ (t.core c).hcause = q % 4096 + 0x4000 + 0x10000 * s.rf (Reg.ME_QCFG_HANDLER q)
          ∧ (t.core c).waiting = false ∧ (t.core c).cntN = 4 ∧ t.ik.cyc = s.ik.cyc + 4 ∧ t.qMsgs q = rest))
      ∧ (k.level < 2 → s.bestPrio (s.dispatchable c true) = some q → bitOf flags 2 = true →
        Yields (.urgentDispatch c) s (fun t => (t.core c).level = 2 ∧ (t.core c).pc = adr ∧ (t.core c).upc = k.pc
          ∧ (t.core c).levelBack = k.level ∧ (t.core c).bankU = { k.bankU with m := msgRegs m } ∧ (t.core c).bankN = k.bankN
          ∧ (t.core c).hcause = q % 4096 + 0x8000 + 0x10000 * s.rf (Reg.ME_QCFG_HANDLER q)
          ∧ (t.core c).cntU = 4 ∧ (t.core c).cntN = k.cntN ∧ t.ik.cyc = s.ik.cyc + 4 ∧ t.qMsgs q = rest)))
    ∧ (k.waiting = false → k.pc < k.textLen → k.level = 1 → k.launchId = none → Yields (.ikRte c) s (fun t =>
        (t.core c).level = 0 ∧ (t.core c).pc = k.npc ∧ (t.core c).flags = k.flagsBack ∧ t.ik.cyc = s.ik.cyc + 1
        ∧ (∀ r, (t.core c).g r = k.g r) ∧ (∀ i, (t.core c).acc i = k.acc i) ∧ (t.core c).data = k.data))
    ∧ (k.waiting = false → k.pc < k.textLen → k.level = 2 → s.dispatchable c true = [] → Yields (.ikRte c) s (fun t =>
        (t.core c).level = k.levelBack ∧ (t.core c).pc = k.upc ∧ (t.core c).bankN = k.bankN ∧ (t.core c).bankU = k.bankU
        ∧ (t.core c).cntN = k.cntN ∧ t.ik.cyc = s.ik.cyc + 1))
    ∧ (∀ (n : BitVec 16) (p q : Nat), k.waiting = true → s.dispatchable c true = [] → (k.level = 0 → s.dispatchable c false = []) →
        s.selChoose c k.qsel = some (p, q) → k.pc + 4 < k.textLen → Yields (.waitqComplete c n) s (fun t =>
          (t.core c).waiting = false ∧ (t.core c).pc = k.pc + 4 ∧ t.ik.cyc = s.ik.cyc + max 4 n.toNat
          ∧ ∀ r, (t.core c).g r = if r = k.waitRd ∧ r ≠ 0 then BitVec.ofNat 64 q else k.g r))

/-- A datagram to a queue is appended and answers 0, or leaves the queue alone and says why. Whenever core c can issue inside its text
and SEND of MODE 0 names rs2 at most 29 and in rs1 a class 0 DEST, queue q, with bits 63 to 32 zero. A launch or event queue (0 to
15) gives 7 and changes nothing else. With any other queue enabled, taking datagrams and not full, rd reads 0, and the queue holds
one more message, last, with the payload g[rs2] to g[rs2 + 2], TAG from rs1[31:16], the core as its source and LOST when a
datagram was dropped before it; every other queue is as before. With the queue full rd reads 1, no queue changes, the next
datagram accepted carries LOST and ME_FELL.DROP is set. With the queue not enabled or taking channels only rd reads 6 and nothing
else changes. A nonzero rs1[63:32] gives 7 and changes nothing else; MODE 3 or rs2 above 29 is ILLEGAL. Cites: R456, R462, R463,
R464, R466, R473, R547, R548, Table 11.3. -/
def Obligations.DatagramResults : Prop :=
  ∀ (s : State) (c : Fin 8) (rd r1 r2 : Fin 32) (mode : Fin 4), Ready s c 4 →
    let a := ((s.core c).g r1).toNat
    let q := a % 2 ^ 16
    let took := s.rb (Reg.ME_QCFG_ENABLE q) = true ∧ s.rf (Reg.ME_QCFG_ACCEPT q) ≠ 1
    ((mode = 3 ∨ 29 < r2.val) → Excepts (.ikSend c rd r1 r2 mode) s c 1)
    ∧ (mode ≠ 3 → r2.val ≤ 29 → 2 ^ 32 ≤ a → WritesG (.ikSend c rd r1 r2 mode) s c 4 4 rd 7)
    ∧ (r2.val ≤ 29 → a < 2 ^ 32 → q < 16 → WritesG (.ikSend c rd r1 r2 0) s c 4 4 rd 7)
    ∧ (r2.val ≤ 29 → a < 2 ^ 32 → 16 ≤ q → q < 4096 →
      (took → s.qLen q < s.qDepth q → Yields (.ikSend c rd r1 r2 0) s (fun t =>
        t.qMsgs q = s.qMsgs q ++
          [⟨a / 2 ^ 16, c.val, false, false, mget false s.me.lost q, 0, 0xFFFF, (s.core c).g r2, (s.core c).g (r2.val + 1), (s.core c).g (r2.val + 2)⟩]
        ∧ (∀ p, p ≠ q → t.qMsgs p = s.qMsgs p) ∧ MemKept s t c ∧ AccKept s t c
        ∧ ∀ r, (t.core c).g r = if r = rd ∧ r ≠ 0 then 0 else (s.core c).g r))
      ∧ (took → s.qDepth q ≤ s.qLen q → Yields (.ikSend c rd r1 r2 0) s (fun t =>
        t.me.queues = s.me.queues ∧ mget false t.me.lost q = true ∧ t.rf Reg.ME_FELL_DROP = 1 ∧ MemKept s t c ∧ AccKept s t c
        ∧ ∀ r, (t.core c).g r = if r = rd ∧ r ≠ 0 then 1 else (s.core c).g r))
      ∧ (¬ took → WritesG (.ikSend c rd r1 r2 0) s c 4 4 rd 6))

/-- SEND, RECV, CHOPEN and CHCLOSE complete with the result of their queue operation. Whenever core c can issue inside its text. SEND
of MODE 0 to a DEST does the send of its class, and of MODE 1 or 2 to a channel number up to 8,191 the send on that channel, MODE
2 as a RESEND; rd has the result. RECV into rd = 4, 8 and so on to 28 pops the queue named by rs1[11:0] into rd to rd + 3, and any
other rd is ILLEGAL. CHOPEN of a class 0 DEST opens a channel and gives rd its number and the result in bits 23 to 16, with 0xFFFF
for a number when it fails; another DEST gives BADTAG. CHCLOSE closes the core's own channel of rs1[12:0]; with other bits of rs1
set the result is BADTAG. Each takes 4 cycles. Cites: R465, R470, R471, R472, R479, R485, R486, R547, R548, R549, R551. -/
def Obligations.QueueInstructionsComplete : Prop :=
  ∀ (s : State) (c : Fin 8) (rd r1 r2 : Fin 32) (mode : Fin 4), Ready s c 4 →
    let k := s.core c
    let a := (k.g r1).toNat
    let m : QMsg := { tag := bitsOf a 31 16, source := c.val, p0 := k.g r2, p1 := k.g (r2.val + 1), p2 := k.g (r2.val + 2) }
    (r2.val ≤ 29 → a < 2 ^ 32 →
      ActsWith (.ikSend c rd r1 r2 0) s c 4 rd (fun x => x.sendDest c (a % 2 ^ 16) m)
      ∧ (a % 2 ^ 16 ≤ 8191 → (mode = 1 ∨ mode = 2) →
        ActsWith (.ikSend c rd r1 r2 mode) s c 4 rd (fun x => x.sendChan (a % 2 ^ 16) c (mode == 2) m)))
    ∧ (if rd.val ∈ [4, 8, 12, 16, 20, 24, 28] then
        exec (.ikRecv c rd r1) s = s.ran c (let r := (s.movedTo c 4 (k.pc + 4)).recvPop c (a % 4096)
          (r.2.setCore c ((r.2.core c).loadMsg rd r.1)).lostSweep)
      else Excepts (.ikRecv c rd r1) s c 1)
    ∧ (if a < 4096 then ActsWith (.ikChopen c rd r1) s c 4 rd (fun x => let r := x.chanOpen c c a
          ((if r.1 = 0 then r.2.1 else 0xFFFF) + 2 ^ 16 * r.1, r.2.2))
      else WritesG (.ikChopen c rd r1) s c 4 4 rd 0x7FFFF)
    ∧ (if a < 8192 then ActsWith (.ikChclose c rd r1) s c 4 rd (fun x => x.chanClose c a) else WritesG (.ikChclose c rd r1) s c 4 4 rd 7)

/-- A device write needs its duty and operands in range, and then crosses to its island. Whenever core c can issue inside its text:
GRADE d (duty GRADE_d, grade up to 31), ADMIT (PLAN, entry up to 1,023, BARRIER_GRP up to 4,094, bits 63 to 36 zero), BARX (PLAN,
group up to 4,094, EXPECT up to 16,384), PAUSE (PAUSE, partition up to 63, duty up to 15), PGRADE (PGRADE, partition up to 63,
only VALID and GRADE set), RLIM (LIMIT, up to 65,535) and PSTATE (PKGSTATE, Run or Doze). A core that does not hold the duty
raises DUTY. Operands out of range give rd = 7 and write nothing but rd and the move of pc. Otherwise rd is 0 and the write is
handed over: to the island that holds the register, and for PSTATE to AO as a package command. Each takes 1 cycle. Cites: R514,
R552, Table 12.6, Table 13.11. -/
def Obligations.DeviceWritesNeedTheirDuty : Prop :=
  ∀ (s : State) (c : Fin 8) (rd r1 r2 : Fin 32) (d : Fin 8), Ready s c 4 →
    let x := ((s.core c).g r1).toNat
    let y := ((s.core c).g r2).toNat
    DeviceWrites (.ikGrade c rd r1 d) s c rd d.val (x ≤ 31) (fun t => t.policyWrite 0 [d.val, x])
    ∧ DeviceWrites (.ikAdmit c rd r1 r2) s c rd 8 (x ≤ 1023 ∧ y / 2 ^ 12 % 2 ^ 12 ≤ 4094 ∧ y < 2 ^ 36) (fun t => t.policyWrite 1 [x, y])
    ∧ DeviceWrites (.ikBarx c rd r1 r2) s c rd 8 (x ≤ 4094 ∧ y ≤ 16384) (fun t => t.policyWrite 2 [x, y])
    ∧ DeviceWrites (.ikPause c rd r1 r2) s c rd 9 (x ≤ 63 ∧ y ≤ 15) (fun t => t.policyWrite 3 [x, y])
    ∧ DeviceWrites (.ikPgrade c rd r1 r2) s c rd 10 (x ≤ 63 ∧ y < 256 ∧ y / 2 ^ 5 % 4 = 0) (fun t => t.policyWrite 4 [x, y])
    ∧ DeviceWrites (.ikRlim c rd r1 d) s c rd 11 (x ≤ 65535) (fun t => t.policyWrite 5 [d.val, x])
    ∧ DeviceWrites (.ikPstate c rd r1) s c rd 13 (x ≤ 1) (fun t => t.pstateAsk x)

/-- LOGEV records its event or says why not, and DRD reads a register or a pair. Whenever core c can issue inside its text. LOGEV with
rs2 above 30 is ILLEGAL; with rs1[63:24] nonzero rd reads 7 and with the core's buffer of 8 full rd reads 1, and no record is
made. Otherwise rd reads 0 and one record is raised: for a code from 0x9800 to 0x9FFE that code with byte 2 from rs1[18:16] and
the four parameters of g[rs2] and g[rs2 + 1], low word first; for a code outside 0x9800 to 0x9FFF event 0x9006 with the core, 4
and the code asked. DRD with MODE 2 or 3 is ILLEGAL; an offset at or above 0x0400_0000, or one that is no multiple of 4 (MODE 0)
or 8 (MODE 1), raises DADDR; else it takes 96 cycles and gives rd the register or, at the low word of a pair, both words with the
low one in bits 31 to 0; an undefined offset reads 0, and so does one whose island is in reset. Cites: R519, R553, R554, R868. -/
def Obligations.LogevAndDrd : Prop :=
  ∀ (s : State) (c : Fin 8) (rd r1 r2 : Fin 32) (mode : Fin 4), Ready s c 4 →
    let k := s.core c
    let a := (k.g r1).toNat
    let x := k.g r2
    let y := k.g (r2.val + 1)
    let held := (s.raised.filter (fun r => r.core == c.val)).length
    let logs (r : Raised) := Yields (.ikLogev c rd r1 r2) s (fun t => t.raised = s.raised ++ [r] ∧ MemKept s t c ∧ AccKept s t c
      ∧ ∀ r, (t.core c).g r = if r = rd ∧ r ≠ 0 then 0 else k.g r)
    (30 < r2.val → Excepts (.ikLogev c rd r1 r2) s c 1)
    ∧ (r2.val ≤ 30 → 2 ^ 24 ≤ a → WritesG (.ikLogev c rd r1 r2) s c 1 4 rd 7)
    ∧ (r2.val ≤ 30 → a < 2 ^ 24 → 8 ≤ held → WritesG (.ikLogev c rd r1 r2) s c 1 4 rd 1)
    ∧ (r2.val ≤ 30 → a < 2 ^ 24 → held < 8 →
      (0x9800 ≤ a % 2 ^ 16 → a % 2 ^ 16 < 0x9FFF → logs ⟨3, a % 2 ^ 16, some (a / 2 ^ 16 % 8), (x.extractLsb' 0 32).toNat,
        (x.extractLsb' 32 32).toNat, (y.extractLsb' 0 32).toNat, (y.extractLsb' 32 32).toNat, c.val⟩)
      ∧ ((a % 2 ^ 16 < 0x9800 ∨ 0x9FFF < a % 2 ^ 16) → logs ⟨3, 0x9006, none, c.val, 4, a % 2 ^ 16, 0, c.val⟩))
    ∧ (2 ≤ mode.val → Excepts (.ikDrd c rd r1 mode) s c 1)
    ∧ (mode.val < 2 → (0x4000000 ≤ a ∨ a % (4 * (mode.val + 1)) ≠ 0) → Excepts (.ikDrd c rd r1 mode) s c 3)
    ∧ (a < 0x4000000 → a % 4 = 0 →
      (findReg a = none → WritesG (.ikDrd c rd r1 0) s c 96 4 rd 0)
      ∧ (∀ d i j, findReg a = some (d, i, j) →
        WritesG (.ikDrd c rd r1 0) s c 96 4 rd (BitVec.ofNat 64 (if s.inReset d.isl then 0 else s.readWord a)))
      ∧ (a % 8 = 0 → WritesG (.ikDrd c rd r1 1) s c 96 4 rd
          (if pairLow (canonAddr a) then BitVec.ofNat 64 (s.drdWord a + 2 ^ 32 * s.drdWord (a + 4)) else 0)))

/-- Rings, descriptors, commands, launches and the front end's registers complete. With POL's registers reachable, RING_DOORBELL and
CF_SAVE take their write and its effect; a keyed RING_ABORT ends the descriptor and RING_RESUME leaves STOPPED; RING_CFG_WRITE of
an enabled ring of the owner takes the write. VEC_MASK_WRITE, with HST's registers reachable, sends one interrupt and clears
PENDING exactly when MASK is left clear with PENDING set. On the owner with POL running, the Host Tunnel up and no turn, RING_TURN
gives the next ring due its turn. A fetched descriptor that is well formed and not chained, and fetched command bytes, are kept
for parsing. The lowest startable command of the ring in turn runs: SETCAP and SETFLOOR of the host with FRI out of reset judge
the partition table as one change and end with 0 or 5, and of a guest end with 3; LOADTBL waits for a channel when its handles
check; RUNPOL and PROFILE launch; SIGNAL of an interrupt raises its vector; FENCE completes behind its predecessors; CHAIN sets
the next address. TABLE_PUBLISH of a whole load publishes the bank under the next generation and completes the command;
LAUNCH_RETRY tries every waiting launch; LAUNCH_TIMEOUT gives one up with 0xA004 and status 7; RETIRE_WAIT_END frees the channels
held for the handle. Cites: R559, R561, R563, R568, R570, R573, R576, R577, R579, R581, R585, R588. -/
def Obligations.FrontEndCommandsComplete : Prop :=
  ∀ (s : State) (r : Fin 1024) (v : Word),
    (Reaches s 3 →
      exec (.ringDoorbell r v) s = .next ((s.writeFields (Reg.CF_RING_TAIL r) v.toNat).cfPrefetch.flSettle)
      ∧ (bitOf v.toNat 1 = true → exec (.cfSave v) s = .next ((s.writeFields Reg.CF_CTL v.toNat).saveBlock 7))
      ∧ (keyOk v.toNat = true → let w := s.writeFields (Reg.CF_RING_CTL r) v.toNat
        (bitsOf v.toNat 1 0 = 2 → exec (.ringAbort r v) s = .next (w.ringAbort r).flSettle)
        ∧ (bitsOf v.toNat 1 0 = 1 → exec (.ringResume r v) s = .next (w.setRing r { w.ring r with stopped := false }).cfPrefetch.flSettle))
      ∧ (s.owner = true → s.rb (Reg.CF_RING_CFG_ENABLE r) = true → bitOf v.toNat 31 = true →
          exec (.ringCfgWrite r v) s = .next (s.writeFields (Reg.CF_RING_CFG r) v.toNat).cfPrefetch.flSettle)
      ∧ (s.owner = false → bitOf v.toNat 31 = true → exec (.ringCfgWrite r v) s =
          .next (s.rsvdCheck (Reg.CF_RING_CFG r) v.toNat).refuse))
    ∧ (Reaches s 5 → ∀ n : Fin 256, let w := s.writeFields (Reg.CF_VEC n) v.toNat
        exec (.vecMaskWrite n v) s = .next (if w.rf (Reg.CF_VEC_MASK n) = 0 ∧ w.rf (Reg.CF_VEC_PENDING n) ≠ 0 then
          (w.wr (Reg.CF_VEC_PENDING n) 0).out (.irq n) else w))
    ∧ (s.owner = true → s.polRuns = true → s.isl.hostDown = false → s.cf.turn = none → ∀ k, s.turnOrder.find? s.turnDue = some k → exec .ringTurn s =
        .next ((((parseOn 4097 { s with cf.turn := some (k, 2000), cf.last := k }).turnTidy k).bufFetch k).cfPrefetch).flSettle)
    ∧ (∀ (bytes : List Byte) (a : FeAcc) (d : CfDesc), (s.ring r).desc = some d →
      (s.fl.fe.find? (fun a => a.ring == r.val && a.kind == 0 && a.issued) = some a → d.chained ≠ 0 → descBad (arrivedBytes bytes 64) = none →
        let d1 : CfDesc := { d with bytes := some (arrivedBytes bytes 64), fetching := false }
        exec (.descriptorFetched r bytes true) s = .next ((((s.feSwap a none).setDesc r (some d1)).bufFetch r).cfPrefetch).flSettle)
      ∧ (s.fl.fe.find? (fun a => a.ring == r.val && a.kind == 1 && a.issued) = some a → exec (.bufferFetched r bytes true) s =
          .next (((s.feSwap a none).setDesc r (some { d with buf := d.buf ++ arrivedBytes bytes a.len, fetching := false })).bufFetch r).flSettle))
    ∧ RunsCommand .setcap s 1 (fun r _ => s.ringOwner r ≠ 0) (fun x r i _ => x.cmdDone r i 3)
    ∧ RunsCommand .setfloor s 2 (fun r _ => s.ringOwner r ≠ 0) (fun x r i _ => x.cmdDone r i 3)
    ∧ RunsCommand .setcap s 1 (fun r c => s.ringOwner r = 0 ∧ s.inReset 0 = false ∧ c.le 9 1 = 0) (fun x r i c => let p := c.le 8 1
        let t := x.tableWrite p (fun y => (y.writeFields (Reg.BG_PART_CFG0 p) (c.le 12 2 * 2 ^ 16 + x.rf (Reg.BG_PART_CFG0_FLOOR p))).writeFields
          (Reg.BG_PART_CFG1 p) (x.rf (Reg.BG_PART_CFG1_ENABLE p) * 2 ^ 31 + x.rf (Reg.BG_PART_CFG1_WEIGHT p)))
        t.2.cmdDone r i (if t.1 then 0 else 5))
    ∧ RunsCommand .setfloor s 2 (fun r _ => s.ringOwner r = 0 ∧ s.inReset 0 = false) (fun x r i c => let p := c.le 8 1
        let t := x.tableWrite p (fun y => y.writeFields (Reg.BG_PART_CFG0 p) (x.rf (Reg.BG_PART_CFG0_CEILING p) * 2 ^ 16 + c.le 12 2))
        t.2.cmdDone r i (if t.1 then 0 else 5))
    ∧ RunsCommand .loadtbl s 3 (fun r c => s.hCheck r (c.le 8 2) 1 (c.le 16 4) = 0 ∧ s.hCheck r (c.le 10 2) 2 (c.le 12 4 + c.le 16 4) = 0)
        (fun x r i _ => { x with cf.loads := x.cf.loads ++ [(r, i, none)] })
    ∧ RunsCommand .runpol s 4 (fun _ _ => True) (fun x r i c => x.launchCmd r i (c.le 8 1) (c.le 10 2) (c.le 16 8) (c.le 24 8)
        ((c.bytes.drop 32).take (c.le 12 2)) (bitOf (c.le 6 1) 0))
    ∧ (∀ k, (List.range 8).find? (fun k => s.holdsDuty k 12) = some k → RunsCommand .profile s 5
        (fun r c => c.le 18 2 = 0xFFFF ∧ (s.ringOwner r = 0 ∨ c.le 16 1 + 1 = s.ringOwner r))
        (fun x r i c => x.launchCmd r i k 0xFFFF 0 0 (c.bytes.drop 16) (bitOf (c.le 6 1) 0)))
    ∧ RunsCommand .signal s 6 (fun _ c => c.le 8 1 = 3) (fun x r i c => (x.raiseVec (c.le 9 1)).cmdDone r i 0)
    ∧ RunsCommand .fence s 7 (fun _ _ => True) (fun x r _ _ => match (x.ring r).desc with
        | none => x
        | some d => (x.setDesc r (some { d with cmds := fences true d.cmds })).descCheck r)
    ∧ RunsCommand .chain s 8 (fun _ _ => True) (fun x r i c => match (x.ring r).desc with
        | none => x.cmdDone r i 0
        | some d => (x.setDesc r (some { d with next := some (c.le 8 8) })).cmdDone r i 0)
    ∧ (∀ (n : Fin 6) (k i h : Nat), let c := s.fch n
        s.polRuns = true → c.load = some (k, i, h) → c.complete = true → let gen := (s.rf (Reg.CF_HANDLE3_GEN h) + 1) % 2 ^ 32
        let bank := writeBytes s.ik.table (c.tsram + c.len) (s.hSize h - c.len) 0
        let dir := writeBytes bank (8 * s.rf (Reg.CF_HANDLE2_DIR h)) 8 (c.tsram + gen * 2 ^ 32)
        let left := s.cf.loads.filter (fun (e : Nat × Nat × Option Nat) => !(e.1 == k && e.2.1 == i))
        let x : State := { s with ik.table := dir, cf.pubAt := mins s.cf.pubAt h s.now, cf.loads := left }
        let y := (x.wr (Reg.CF_HANDLE3_GEN h) gen).wr (Reg.CF_HANDLE0_ACTIVE h) (1 - s.rf (Reg.CF_HANDLE0_ACTIVE h))
        exec (.tablePublish n) s = .next (((y.setFch n { c with st := 3, load := none }).cmdDone k i 0).flSettle))
    ∧ (s.polRuns = true → exec .launchRetry s = .next (s.cf.waiting.foldl (fun (x : State) e => (x.launchTry e.1 e.2).getD x) s).flSettle
      ∧ ∀ (i : Fin 4096) (n : Nat) (l : Launch), s.cf.waiting.find? (fun e => e.2.ring == r.val && e.2.cmd == i.val) = some (n, l) →
        exec (.launchTimeout r i) s = .next ((((({ s with cf.waiting := mdel s.cf.waiting n } : State).wr Reg.CF_FELL_LAUNCH 1).emit 3 0xA004
          r l.core i).cmdDone r i 7).flSettle))
    ∧ (∀ h : Fin 4096, exec (.retireWaitEnd h) s = .next (({ s with cf.retire := s.cf.retire.filter (fun n => match (s.fch n).load with
        | some e => e.2.2 != h.val
        | none => true) } : State).flSettle))

/-- Transfers, walks, their failures, invalidation and contexts complete. With POL's registers reachable: a keyed FL_START on an idle
channel from 8 up whose length is 8 to 1 MiB in eights and ends within the table SRAM starts the transfer, and one with a length
of 0 only sets REJECT; FL_RESUME of a halted channel sets it running from DONE with 0xA011; FL_ABORT of a halted host channel ends
it with 0xA012. FL_INV with GO drops the entries of the context, or all, and sets BUSY, which INV_COMPLETE clears; CTX_WRITE of a
disabled context takes the write; FL_SAVE saves. With POL out of reset, GRANULE_ARRIVED of an outstanding granule keeps its bytes,
or with an error completion faults the channel (BUS from the host, TSRAM to it); WALK_READ_DONE judges the entry for its user.
UPSTREAM_READ_TIMEOUT of a channel's walk fails the walk, and of an outstanding granule is a BUS fault; HOLD_EXPIRY of a halted
table channel aborts its load with cause 1. Cites: R594, R596, R599, R602, R604, R605, R606, R607, R610, R614, R615, Table 15.3. -/
def Obligations.FlumeCommandsComplete : Prop :=
  ∀ (s : State) (n : Fin 16) (v : Word) (k : Fin 16384) (bytes : List Byte),
    let c := s.fch n
    let live := (c.st = 1 ∨ c.st = 2) ∧ k.val < c.issued ∧ c.written ≤ k.val ∧ ∀ e ∈ c.arrived, e.1 ≠ k.val
    (Reaches s 3 →
      (keyOk v.toNat = true → let w := s.writeFields (Reg.FL_CH_CTL n) v.toNat
        let len := s.rf (Reg.FL_CH_LEN_LEN n)
        let ts := 8 * s.rf (Reg.FL_CH_TSRAM_OFFSET n)
        (bitsOf v.toNat 2 0 = 1 → 8 ≤ n.val → c.st ≠ 1 → c.st ≠ 2 → 0 < len → len % 8 = 0 → ts + len ≤ 1048576 →
          let a := 8 * s.rf (Reg.FL_CH_IOVA_LO_IOVA n) + s.rf (Reg.FL_CH_IOVA_HI_IOVA n) * 2 ^ 32
          exec (.flStart n v) s = .next (w.chStart n { ctx := s.rf (Reg.FL_CH_CFG_CONTEXT n), iova := a, tsram := ts, len := len,
                                                       toHost := s.rb (Reg.FL_CH_CFG_DIR n) }).flSettle)
        ∧ (bitsOf v.toNat 2 0 = 1 → len = 0 → exec (.flStart n v) s = .next (w.wr Reg.FL_FELL_REJECT 1).flSettle)
        ∧ (bitsOf v.toNat 2 0 = 2 → c.st = 2 → exec (.flResume n v) s =
            .next ((w.setFch n { c with st := 1 }).emit 3 0xA011 n c.done).flSettle)
        ∧ (bitsOf v.toNat 2 0 = 4 → c.st = 2 → 8 ≤ n.val → exec (.flAbort n v) s =
            .next ((w.setFch n { c with st := 4, walk := none }).emit 3 0xA012 n c.done 0).flSettle))
      ∧ (let w := s.writeFields Reg.FL_INV v.toNat
        exec (.flInvGo v) s = .next (if bitOf v.toNat 31 then
          { w with fl.tlb := w.fl.tlb.filter (fun e => !bitOf v.toNat 29 && e.ctx != min 64 (bitsOf v.toNat 6 0)), fl.invBusy := true } else w))
      ∧ (∀ x : Fin 65, s.rb (Reg.FL_CTX0_ENABLE x) = false →
          exec (.ctxWrite x false v) s = .next (s.writeFields (Reg.FL_CTX0 x) v.toNat)
          ∧ exec (.ctxWrite x true v) s = .next (s.writeFields (Reg.FL_CTX1 x) v.toNat))
      ∧ (bitOf v.toNat 1 = true → exec (.flSave v) s = .next ((s.writeFields Reg.FL_CFG v.toNat).saveBlock 8)))
    ∧ (s.inReset 3 = false →
      (live → exec (.granuleArrived n k bytes true) s =
          .next (s.setFch n { c with arrived := c.arrived ++ [(k.val, arrivedBytes bytes 64)] }).flSettle
        ∧ exec (.granuleArrived n k bytes false) s =
          .next (s.chFault n k (if c.toHost then 7 else 6) (c.iova + 64 * k) none false).flSettle)
      ∧ ∀ (u : Fin 1041) (e : DWord) (ok : Bool), exec (.walkReadDone u e ok) s =
          .next (if u.val < 16 then s.chWalk u e.toNat ok else s.feWalk u e.toNat ok).flSettle)
    ∧ (s.polRuns = true →
      Yields .invComplete s (fun t => t = { s with fl.invBusy := false })
      ∧ (c.walk.isSome = true → exec (.upstreamReadTimeout (n.castLE (by decide)) k) s = .next (s.chWalk n 0 false).flSettle)
      ∧ (c.walk = none → c.toHost = false → live →
          exec (.upstreamReadTimeout (n.castLE (by decide)) k) s = .next (s.chFault n k 6 (c.iova + 64 * k) none false).flSettle)
      ∧ ∀ m : Fin 6, (s.fch m).st = 2 → exec (.holdExpiry m) s = .next ((s.wr Reg.FL_FELL_EXPIRED 1).loadAbort m 1).flSettle)

/-- Ports, neighbours, time, the database, routes, datagrams and the fabric's registers complete. With FAB running, and a frame good,
of its type, on a port p that is up. PORT_UP brings an enabled port up, with FEC in use only on 10GBASE-KR with FEC 1, and 0xB001;
PORT_DOWN (a module's absence over SFI only) and NEIGHBOUR_DEAD take a port down; AUTONEG_RESTART trains it. HELLO of a new
neighbour, where it is of no other Catchment, gives it one-way standing and keeps its identity and address; HELLO_TIMER sends on
every up port. TREQ_TIMER sends T1; TREQ is answered; a TRSP that answers the TREQ last sent steers by theta, any other leaves the
state; HOLDOVER records 0xB00B. An LSA of this group newer than the one held replaces it, goes on to the other group ports and is
checked for conflict; LSA_REFRESH originates, LSA_AGE_OUT drops, ADDRESS_CLAIM claims, ROUTE_RECOMPUTE recomputes. SUMMARY_TIMER
sends; a SUMMARY from a foreign neighbour is held and floods this node's own; SUMMARY_EXPIRY drops; a change goes to the foreign
neighbours. A DGRAM to this address is delivered, and a DGRAM or DGNAK to another routed; a DGNAK to this address counts a notice
at each entry that names its source and queue. PPS_EDGE counts edges 1 s apart and takes the third as valid, and a later one out
of place does not end that; PPS_LOST ends that. A keyed TIME_SET_APPLY on the Catchment root waits for the edge with PPS valid and
else sets the time, and elsewhere only sets REJECT. VX_SAVE saves. A frame that fails its checks only counts an error. Cites:
R625, R626, R634, R637, R640, R643, R647, R655, R658, R662, R663, R665. -/
def Obligations.FabricCommandsComplete : Prop :=
  ∀ (s : State) (p : Fin 6) (l : List Byte) (v : Word),
    let f := vxFrame l
    let x := s.vp p
    let arrives (ty : Nat) : Prop := s.fabRuns = true ∧ x.link = 2 ∧ vxBad f = false ∧ f.ty.toNat = ty
    let los (n : Nat) (v : Nat) : State := if n = 0 then { s with edge.vxLos := setBitsOf s.edge.vxLos p p v }
      else if n = 1 then s else { s with edge.vxAbs := setBitsOf s.edge.vxAbs p p v }
    (∀ fec : Bool, s.fabRuns = true → s.rb (Reg.VX_PORT_CFG_ENABLE p) = true → s.edge.vxrefOk = true → x.link ≠ 2 →
      let on := fec && s.rf (Reg.VX_PORT_CFG_MODE p) == 0 && s.rb (Reg.VX_PORT_CFG_FEC p)
      Yields (.portUp p fec) s (fun t => t.vp p = { x with link := 2, fecOn := on, nbr := 0, foreignTold := false, busyTo := s.now }
        ∧ (∀ q, q ≠ p.val → t.vp q = s.vp q) ∧ bitOf t.edge.vxLos p = false
        ∧ t.raised = s.raised ++ [⟨4, 0xB001, none, p32 p, p32 (s.rf (Reg.VX_PORT_CFG_MODE p)), p32 (b01 on), 0, 8⟩]))
    ∧ (∀ c : Fin 3, s.inReset 4 = false → x.link ≠ 0 → (c = 2 → s.rb (Reg.VX_PORT_CFG_MODE p) = true) →
        exec (.portDown p c) s = .next ((los c 1).portDown p c 3))
    ∧ (s.inReset 4 = false → x.nbr ≠ 0 → exec (.neighbourDead p) s = .next (s.portDown p 3 3))
    ∧ (s.fabRuns = true → s.rb (Reg.VX_PORT_CFG_ENABLE p) = true → s.rb (Reg.VX_PORT_CFG_MODE p) = false → x.link ≠ 2 →
        exec (.autonegRestart p) s = .next (s.setVp p { x with link := 1 }))
    ∧ (arrives 0x01 → s.groupBase = none → x.nbr = 0 → Yields (.helloReceived p l) s (fun t =>
        (t.vp p).nbr = 1 ∧ (t.vp p).nbId = fbody f 0 8 ∧ (t.vp p).nbAddr = fbody f 8 4 ∧ (t.vp p).link = 2))
    ∧ (∀ c ∈ [Instr.helloReceived p l, .treqReceived p l, .trspReceived p l, .lsaReceived p l, .summaryReceived p l, .dgramReceived p l,
        .dgnakReceived p l], s.fabRuns = true → x.link = 2 → vxBad f = true → exec c s = .next (s.satAdd (Reg.VX_PORT_ERR_ERRORS p) 1))
    ∧ (arrives 0x02 → exec (.treqReceived p l) s = .next (s.vxSend [p.val] 0x03 0x09 0xFFFFFFFF (leBytes 2 (fbody f 0 2) ++ [0, 0]
        ++ stamp (stampAt f 4) ++ stamp s.weir16 ++ stamp s.weir16)))
    ∧ (arrives 0x03 → if s.fb.parent = some p.val ∧ fbody f 0 2 = s.fb.xseq ∧ stampAt f 4 = s.fb.t1 then
        exec (.trspReceived p l) s = .next (s.steer p ((((stampAt f 14 : Int) - s.fb.t1) + ((stampAt f 24 : Int) - s.weir16)) * 10
          - signedOf 8 (s.rf (Reg.VX_PORT_CFG_ASYM p)) * 65536))
      else exec (.trspReceived p l) s = .next s)
    ∧ (arrives 0x04 → 2 ≤ x.nbr → fbody f 0 8 ≠ s.myId → let d := s.lsaOf f
        s.sameGroup d.address = true → (∀ e, s.fb.lsas.find? (fun e => e.1 == fbody f 0 8) = some e → e.2.lseq < d.lseq) →
        s.fb.lsas.length < 32768 → let y : State := { s with fb.lsas := mput {} s.fb.lsas (fbody f 0 8) d }
        exec (.lsaReceived p l) s = .next ((y.vxForward (y.groupPorts.filter (fun q => q != p.val)) f (y.lsaBody (fbody f 0 8) d)).conflict))
    ∧ (arrives 0x05 → s.full p = true → f.cls = 0x0A → s.fb.sums = [] → fbody f 0 4 ≠ s.myAddr → s.sameGroup x.nbAddr = false →
        fbody f 12 2 ≤ 4096 → ∃ m : Summary, m.origin = fbody f 0 4 ∧ m.sseq = fbody f 4 4 ∧ m.port = some p.val ∧ m.part = fbody f 10 1
          ∧ exec (.summaryReceived p l) s = .next (State.sumTell s ({ s with fb.sums := [m] } : State).floodSummary.judgeRoots))
    ∧ (arrives 0x06 → s.full p = true → exec (.dgramReceived p l) s =
        .next (if f.dst.toNat = s.myAddr ∧ s.myAddr ≠ 0 then s.dgramDeliver f else s.vxRoute f))
    ∧ (arrives 0x07 → s.full p = true →
      (f.dst.toNat ≠ s.myAddr → exec (.dgnakReceived p l) s = .next (s.vxRoute f))
      ∧ (f.dst.toNat = s.myAddr → s.myAddr ≠ 0 → s.rb Reg.VX_NOTICE_Q_VALID = false → ∀ n, s.repNaming f.src.toNat (fbody f 2 2 % 4096) = [n] →
        exec (.dgnakReceived p l) s = .next (((s.satAdd (Reg.VX_REP2_NOTICES n) 1).wr (Reg.VX_REP2_LAST_CODE n) (fbody f 4 1)).emit 4 0xB00E n
          (fbody f 4 1) f.src.toNat)))
    ∧ (s.fabRuns = true →
      exec .helloTimer s = .next (s.upto 6 (fun p y => if (y.vp p).link = 2 then y.sendHello p else y))
      ∧ exec .lsaRefresh s = .next s.originate
      ∧ (∀ d : DWord, d.toNat ≠ s.myId → exec (.lsaAgeOut d) s = .next { s with fb.lsas := mdel s.fb.lsas d.toNat })
      ∧ (s.myAddr = 0 → exec .addressClaim s = .next (s.claim 0).conflict)
      ∧ exec .routeRecompute s = .next (({ s with fb.routes := s.computeRoutes, fb.dead := [] } : State).judgeRoots)
      ∧ (s.border = true → s.myAddr ≠ 0 → exec .summaryTimer s =
          .next ((s.foreignPorts.foldl (fun y q => y.foreignSummary q) s).floodSummary))
      ∧ (∀ o : Word, exec (.summaryExpiry o) s = .next
          (State.sumTell s ({ s with fb.sums := s.fb.sums.filter (fun m => m.origin != o.toNat) } : State).judgeRoots))
      ∧ (∀ q, s.fb.parent = some q → let n := (s.fb.xseq + 1) % 65536
        (exec .treqTimer s = .next (({ s with fb.xseq := n, fb.t1 := s.weir16 } : State).vxSend [q] 0x02 0x09 0xFFFFFFFF
          (leBytes 2 n ++ [0, 0] ++ stamp s.weir16)))
        ∧ (s.fb.holdover = false → Yields .holdover s (fun t => t.fb.holdover = true ∧ t.rf Reg.VX_FELL_TIME = 1
          ∧ t.fb.parent = some q ∧ t.raised = s.raised ++ [⟨4, 0xB00B, none, p32 q, 1, 0, 0, 8⟩])))
      ∧ (let run := match s.fb.ppsLast with
          | some e => if 999800000 ≤ s.now - e ∧ s.now - e ≤ 1000200000 then min 3 (s.fb.ppsRun + 1) else 1
          | none => 1
        Yields .ppsEdge s (fun t => t.fb.ppsLast = some s.now ∧ t.fb.ppsRun = run ∧ t.fb.ppsValid = (s.fb.ppsValid || decide (3 ≤ run))))
      ∧ (s.fb.ppsValid = true → Yields .ppsLost s (fun t => t.fb.ppsValid = false ∧ t.fb.ppsRun = 0 ∧ t.rf Reg.VX_FELL_TIME = 1)))
    ∧ (Reaches s 4 → let w := s.writeFields Reg.VX_TIME_CTL v.toNat
      let t := w.rf Reg.VX_TIME_SET_LO_SET + 2 ^ 32 * w.rf Reg.VX_TIME_SET_HI_SET
      (keyOk v.toNat = true → bitOf v.toNat 0 = true →
        (s.isCroot = false → exec (.timeSetApply v) s = .next (w.wr Reg.VX_FELL_REJECT 1))
        ∧ (s.isCroot = true → s.fb.ppsValid = true → exec (.timeSetApply v) s = .next { w with fb.setDue := some t })
        ∧ (s.isCroot = true → s.fb.ppsValid = false → exec (.timeSetApply v) s = .next { w with fb.ofs := ((t : Int) - s.now) * 65536 }))
      ∧ (bitOf v.toNat 1 = true → exec (.vxSave v) s = .next ((s.writeFields Reg.VX_CTL v.toNat).saveBlock 9)))

/-- Ceilings, reports, allotments, orphan state, sheds and the stagger slot complete. CEIL_INJECT with the key on a node with an
address, of 0 < ORPH_TOTAL < CEIL and PERIOD 1 or 2, holds the ceiling under the next VERSION and floods it; one that breaks a
rule sets REJECT with 0xB021 and holds nothing. On a good frame from a Catchment port: a CEILING of a higher VERSION is held and
goes on to the others; a first REPORT makes its sender a child with its sums; an ALLOT of the parent is divided when it has
MAJORITY and else passed on as 0; a SHED while none is in force, with hops left and its time to come, starts a shed, goes on with
COPY 0 and leaves a copy with COPY 1, which SHED_COPY1 sends. With FAB running: REPORT_SLOT of a node below the root sends the new
sums to its parent; ROOT_COMPUTE with no ceiling held and no majority before allots 0; CHILD_MISSING holds a child down and
CHILD_DROP forgets one with 0xB026. ORPHAN_TIMEOUT on the owner marks the orphan with 0xB023. SHED_REFRESH with SHED_IN high
originates again; SHED_EXPIRY with it low ends the shed. TWIN_SHARE_COPY sends the share from the owner and is held by the other
die. STAGGER_WRITE takes the slot, with 0xB032. Cites: R675, R678, R681, R682, R685, R688, R689, R691, R693, R694, R695, R696. -/
def Obligations.CatchmentCommandsComplete : Prop :=
  ∀ (s : State) (p : Fin 6) (l : List Byte) (v : Word),
    let f := vxFrame l
    let arrives (ty : Nat) : Prop := s.fabRuns = true ∧ (s.vp p).link = 2 ∧ vxBad f = false ∧ f.ty.toNat = ty ∧ s.catchPorts.contains p.val = true
    let c := s.child p
    (Reaches s 4 →
      (keyOk v.toNat = true → bitOf v.toNat 0 = true → let w := s.writeFields Reg.VX_CB_CTL v.toNat
        let ceil := s.rf Reg.VX_CEIL_SET_CEIL
        let orph := s.rf Reg.VX_ORPH_SET_ORPH_TOTAL
        let per := bitsOf v.toNat 9 8
        (0 < orph → orph < ceil → (per = 1 ∨ per = 2) → s.myAddr ≠ 0 →
          let y := w.holdCeil s.myId (s.rf Reg.VX_CVER_VERSION + 1) ceil orph per
          exec (.ceilInject v) s = .next (y.floodCeil y.catchPorts))
        ∧ (¬ (0 < orph ∧ orph < ceil) → exec (.ceilInject v) s = .next ((w.wr Reg.VX_CB_FELL_REJECT 1).emit 4 0xB021 ceil orph 1)))
      ∧ (let w := s.writeFields Reg.VX_STAGGER v.toNat
        Yields (.staggerWrite v) s (fun t => t.cb.slot = w.rf Reg.VX_STAGGER_SLOT
          ∧ t.raised = w.raised ++ [⟨4, 0xB032, none, p32 s.cb.slot, p32 (w.rf Reg.VX_STAGGER_SLOT), 0, 0, 8⟩])))
    ∧ (arrives 0x20 → s.rf Reg.VX_CVER_VERSION < fbody f 8 4 →
        let y := s.holdCeil (fbody f 0 8) (fbody f 8 4) (fbody f 12 4) (fbody f 16 4) (fbody f 20 1)
        exec (.ceilingReceived p l) s =
          .next (y.vxForward (y.catchPorts.filter (fun q => q != p.val)) f (f.body.map (fun b => b.toNat))))
    ∧ (arrives 0x21 → c.reports = false → Yields (.reportReceived p l) s (fun t =>
        (t.child p).reports = true ∧ (t.child p).heldDown = false ∧ (t.child p).demand = fbody f 4 4 ∧ (t.child p).floor = fbody f 8 4
        ∧ (t.child p).pkgs = fbody f 12 3 ∧ ∀ q, q ≠ p.val → t.child q = s.child q))
    ∧ (arrives 0x22 → s.fb.parent = some p.val → exec (.allotReceived p l) s =
        .next (if bitOf (fbody f 12 1) 0 then s.allotOut (fbody f 4 4) (fbody f 8 4) else s.allotNone (fbody f 8 4)))
    ∧ (arrives 0x23 → let u := s.now + fbody f 8 4 * 1000 - 10000
        s.cb.shed = false → s.now < u → let ports := s.catchPorts.filter (fun q => q != p.val)
        let n := (u - s.now) / 1000
        let y := (({ s with cb.shedUntil := u } : State).shedBegin (fbody f 0 8) true).vxForward ports f (shedBody (fbody f 0 8) n 0)
        1 < f.ttl.toNat → exec (.shedReceived p l) s = .next
          { y with cb.copies := y.cb.copies ++ [(ports, fwdOut f (shedBody (fbody f 0 8) n 1))] })
    ∧ (s.fabRuns = true →
      (∀ q, s.fb.parent = some q → 1 ≤ s.fb.chops → s.fb.chops ≤ 63 → s.catchPorts.contains q = true → let y := s.formReport
        exec .reportSlot s = .next (y.vxSend [q] 0x21 0x0A 0xFFFFFFFF (leBytes 4 y.pnum ++ leBytes 4 y.cb.subDemand ++ leBytes 4 y.cb.subFloor
          ++ leBytes 3 y.cb.subPkgs ++ [b01 y.cb.shed + 2 * b01 y.cb.orphan, 0, 0, 0, 0])))
      ∧ (s.fb.chops = 0 → s.rf Reg.VX_CVER_VERSION = 0 → s.cb.rootMaj = false →
        exec .rootCompute s = .next (({ s.formReport with cb.rootMaj := false, cb.excess := false } : State).allotNone 0))
      ∧ (c.reports = true → c.heldDown = false → Yields (.childMissing p false) s (fun t =>
          (t.child p).heldDown = true ∧ (t.child p).allot = c.allot ∧ t.rf Reg.VX_CB_FELL_HELD_DOWN = 1
          ∧ t.raised = s.raised ++ [⟨4, 0xB025, none, p32 p, 2, p32 c.allot, 0, 8⟩]))
      ∧ (c.heldDown = true → Yields (.childDrop p) s (fun t => t.child p = {} ∧ (∀ q, q ≠ p.val → t.child q = s.child q)
          ∧ t.raised = s.raised ++ [⟨4, 0xB026, none, p32 p, p32 c.floor, p32 c.pkgs, 0, 8⟩]))
      ∧ (∀ ports o rest, s.cb.copies = (ports, o) :: rest →
          exec .shedCopy1 s = .next ((ports.filter s.full).foldl (fun y q => y.egressPut q o) ({ s with cb.copies := rest } : State)))
      ∧ (s.tw.linkUp = true → s.owner = true → ∀ w l b o, exec (.twinShareCopy w l b o) s =
          .next (s.out (.twin 3 [s.shareW, if s.cb.shed then s.cb.shedLevel else 0, s.cb.slot, b01 s.cb.orphan]))))
    ∧ (s.tw.linkUp = true → s.owner = false → ∀ w l b o, Yields (.twinShareCopy w l b o) s (fun t =>
        t.tw.shareCopy = some (w.toNat, s.now) ∧ t.cb.orphan = o ∧ t.cb.slot = b.toNat ∧ t.regs = s.regs
        ∧ t.cb.shedLevel = if s.cb.shed then s.cb.shedLevel else l.toNat))
    ∧ (s.inReset 4 = false → s.owner = true → s.cb.orphan = false → ∀ a, s.cb.allotAt = some a → exec .orphanTimeout s =
        .next (((({ s with cb.orphan := true, cb.orphanTold := true, cb.orphanAt := s.now } : State).wr Reg.VX_CB_FELL_ORPHAN 1).emit 4 0xB023
          ((s.now - a) / 1000000) (s.rf Reg.VX_CB_CFG_ORPHAN)).budgetMoved))
    ∧ (s.edge.shedIn = true → exec .shedRefresh s = .next s.originateShed)
    ∧ (s.edge.shedIn = false → exec .shedExpiry s = .next s.shedEnd)

/-- Claims, release, frames, handover, splits and the halted claim complete. QUIET_EXPIRY on an eligible STANDBY that is not halted
begins a claim and sinks the net. CLAIM_CHECK of a claim with less than 1.0 mA backs off and counts the attempt with 0xC013, and
the eighth ends in the interlock with 0xC016; with 1.0 mA or more, supplies good and the die eligible it gains ownership.
CLAIM_BACKOFF_EXPIRY ends the backoff. An owner below 1.0 mA keeps ownership with 0xC013 and CONTENTION. OWNERSHIP_RELEASE of an
owner releases; BARRED_EXPIRY makes a barred die STANDBY or INELIGIBLE as it is eligible. With the twin engine running the Active
sends a mirror frame and the other die one status frame of 28 bytes under the next SEQ; a frame with a good CRC is taken and any
other only counts as bad. OUT_OF_STEP of a die in step that does not own records 0xC004. TW_HANDOVER with the key on an Active
free to hand over asks for it, and one that may not is refused; FORCE_CLAIM ends the interlock; HANDOVER_READY_TIMEOUT refuses
with reason 1. TWIN_LINK_LOSS with the net low puts the other die in split with 0xC014; TWIN_LINK_TRAINED ends it; NET_STUCK_LOW
records 0xC016; HALTED_CLAIM releases the halt and claims. Cites: R704, R706, R708, R709, R710, R712, R716, R722, R723, R724,
R725, R816. -/
def Obligations.TwinCommandsComplete : Prop :=
  ∀ (s : State) (v : Word) (ua : BitVec 16) (k : Fin 5),
    let n := s.tw.attempts + 1
    (∀ low : Bool, s.tw.role = 2 → s.eligible = true → s.tw.claim = 0 → s.ob.halted = false →
      exec (.quietExpiry low) s = .next { s with tw.sawLow := s.tw.sawLow || low, tw.claim := 1, edge.ownPinLow := true })
    ∧ (s.tw.claim = 1 →
      (ua.toNat < 1000 → n ≠ 8 → Yields (.claimCheck ua k) s (fun t => t.tw.claim = 2 ∧ t.tw.attempts = n ∧ t.tw.role = s.tw.role
        ∧ t.rf Reg.TW_FELL_CONTENTION = 1 ∧ t.raised = s.raised ++ [⟨7, 0xC013, none, p32 ua.toNat, p32 n, 0, 0, 8⟩]))
      ∧ (ua.toNat < 1000 → n = 8 → Yields (.claimCheck ua k) s (fun t => t.tw.claim = 3 ∧ t.tw.attempts = 8 ∧ t.tw.role = s.tw.role
        ∧ t.rf Reg.TW_FELL_CONTENTION = 1 ∧ t.rf Reg.TW_FELL_INTERLOCK = 1
        ∧ t.raised = s.raised ++ [⟨7, 0xC013, none, p32 ua.toNat, 8, 0, 0, 8⟩, ⟨7, 0xC016, none, 1, 0, 0, 0, 8⟩]))
      ∧ (1000 ≤ ua.toNat → s.suppliesOk = true → s.eligible = true →
        exec (.claimCheck ua k) s = .next (s.ownGain s.tw.sawLow (k.val + 1) (s.tQuiet + 40))))
    ∧ (s.tw.claim = 2 → exec .claimBackoffExpiry s = .next { s with tw.claim := 0 })
    ∧ (s.tw.role = 3 → ua.toNat < 1000 → Yields (.ownerContention ua) s (fun t => t.tw = s.tw ∧ t.rf Reg.TW_FELL_CONTENTION = 1
        ∧ t.raised = s.raised ++ [⟨7, 0xC013, none, p32 ua.toNat, p32 s.tw.attempts, 1, 0, 8⟩]))
    ∧ (s.tw.role = 3 → exec (.ownershipRelease k) s = .next (s.ownRelease (k.val + 1)))
    ∧ (s.tw.role = 4 → Yields .barredExpiry s (fun t => t.regs = s.regs ∧ t.edge = s.edge
        ∧ t.tw.role = if ({ s with tw.role := 1 } : State).eligible then 2 else 1))
    ∧ (s.twnRuns = true → let q := (s.tw.seq + 1) % 2 ^ 32
      (s.tw.role = 3 → exec .twinFrameTimer s = .next ({ s with tw.seq := q } : State).mirrorFrame)
      ∧ (s.tw.role ≠ 3 → Yields .twinFrameTimer s (fun t => t.tw.seq = q ∧ t.tw.readyDue = false ∧ t.regs = s.regs
          ∧ ∃ l, l.length = 28 ∧ t.outbox = (s.out (.twin 2 l)).outbox))
      ∧ ∀ (l : List Byte) (swept : Bool), let b := l.map (·.toNat)
        let good := (b.length = 28 ∨ b.length = 2972) ∧ crc32 (b.take (b.length - 4)) = ofLe (b.drop (b.length - 4))
        (good → exec (.twinFrameReceived l swept) s = .next (s.frameGood (ofLe (b.take (b.length - 4))) swept))
        ∧ (¬ good → exec (.twinFrameReceived l swept) s = .next (({ s with tw.good := 0 } : State).satAdd Reg.TW_COUNT_BAD_FRAMES 1)))
    ∧ (s.tw.role ≠ 3 → s.tw.inStep = true → Yields .outOfStep s (fun t => t.tw.inStep = false ∧ t.tw.good = 0 ∧ t.tw.role = s.tw.role
        ∧ t.rf Reg.TW_FELL_LINK_LOST = 1 ∧ t.raised = s.raised ++ [⟨6, 0xC004, none, 0, p32 s.tw.rxSeq, 0, 0, 8⟩]))
    ∧ (Reaches s 6 → keyOk v.toNat = true → let w := s.writeFields Reg.TW_CTL v.toNat
      (bitsOf v.toNat 1 0 = 1 → s.tw.role = 3 → s.tw.handover = 0 →
        (s.handBad = none → exec (.twHandover v) s = .next { w with tw.handover := 1, tw.handSrc := 0 })
        ∧ (∀ r, s.handBad = some r → exec (.twHandover v) s = .next (w.handRefuse r 0)))
      ∧ (bitsOf v.toNat 1 0 = 2 → exec (.forceClaim v) s =
          .next { w with tw.attempts := 0, tw.claim := if s.tw.claim = 3 then 0 else s.tw.claim }))
    ∧ (s.tw.handover = 1 → Yields .handoverReadyTimeout s (fun t => t.tw.handover = 0 ∧ t.tw.role = s.tw.role
        ∧ t.rf Reg.TW_FELL_HANDOVER_REFUSED = 1 ∧ t.raised = s.raised ++ [⟨6, 0xC012, none, 1, p32 s.tw.handSrc, 0, 0, 8⟩]))
    ∧ (s.tw.linkUp = true → s.tw.role ≠ 3 → s.tw.inStep = false → Yields (.twinLinkLoss true) s (fun t => t.tw.linkUp = false
        ∧ t.tw.split = true ∧ t.tw.splitAt = s.now ∧ t.rf Reg.TW_FELL_SPLIT = 1 ∧ t.raised = s.raised ++ [⟨6, 0xC014, none, 0, 0, 0, 0, 8⟩]))
    ∧ (s.inReset 6 = false → s.ob.halted = false → s.tw.linkUp = false → s.tw.role ≠ 3 → Yields .twinLinkTrained s (fun t =>
        t.tw.linkUp = true ∧ t.tw.split = false ∧ t.tw.good = 0 ∧ t.tw.upAt = s.now ∧ t.regs = s.regs))
    ∧ (s.tw.role ≠ 3 → s.eligible = true → Yields .netStuckLow s (fun t => t.tw = s.tw ∧ t.rf Reg.TW_FELL_INTERLOCK = 1
        ∧ t.edge.ownPinLow = true ∧ t.raised = s.raised ++ [⟨7, 0xC016, none, 0, 0, 0, 0, 8⟩]))
    ∧ (s.ob.halted = true → s.tw.role ≠ 3 → s.eligible = true → exec .haltedClaim s =
        .next ((({ s with edge.ownPinLow := false } : State).haltEnd 4).roleSettle).claimBegin)

/-- An arriving record takes a token and the next sequence number, or is counted and given none. RECORD_ARRIVAL takes the oldest
record on its way, which does not fire the trigger, and stamps it; the scan of the flash is done. Its code is limited unless its
severity is critical, it is 0xF000 or above, or its LG_RL entry says NOLIMIT; the limit is the entry's BURST, or that of
LG_RL_DEF. A limited record whose bucket holds no token is suppressed: it is counted for its code, SUPPRESSED is set and it gets
no sequence number. Any other takes its token and meets the bound: with fewer unflushed records than 221 (253 at severity fault or
above, 256 for 0xF000 and above) it gets the next sequence number and the last place in the buffer of 8,192, and otherwise it is
counted as overflowed with OVERFLOW set. The stream and the front end then go on from that state. Cites: R734, R735, R737, R738,
R740, R741, R742. -/
def Obligations.RecordsAreAdmittedSuppressedOrOverflowed : Prop :=
  ∀ (s : State) (r : Raised) (rest : List Raised), s.raised = r :: rest → s.lg.scanning = false →
    let x : State := { s with raised := rest }
    let q := x.stampRec r
    let used := mget 0 s.lg.used q.code
    let entry := (List.range 1024).find? (fun i => s.rb (Reg.LG_RL0_VALID i) && s.rf (Reg.LG_RL0_CODE i) == q.code)
    let free := 4 ≤ q.level ∨ 0xF000 ≤ q.code ∨ ∃ i, entry = some i ∧ s.rb (Reg.LG_RL0_NOLIMIT i) = true
    let burst := match entry with
      | some i => s.rf (Reg.LG_RL1_BURST i)
      | none => s.rf Reg.LG_RL_DEF_BURST
    let top := if 0xF000 ≤ q.code then 256 else if 3 ≤ q.level then 253 else 221
    let settles (t : State) := exec .recordArrival s = .next t.streamPump.flSettle
    let kept (t : State) := { t with lg.next := s.lg.next + 1, lg.buf := lgTrim (s.lg.buf ++ [({ r := { q with seq := s.lg.next } } : BRec)]) }
    let overs (t : State) := ({ t with
      lg.overs := s.lg.overs + 1, lg.overFault := s.lg.overFault + (if 3 ≤ q.level then 1 else 0)
      lg.overFirst := if s.lg.overs = 0 then q.code else s.lg.overFirst } : State).wr Reg.LG_FELL_OVERFLOW 1
    x.trigMatch r.code = false →
      (¬ free → burst ≤ used →
        settles (({ x with lg.supp := mput 0 s.lg.supp q.code (mget 0 s.lg.supp q.code + 1) } : State).wr Reg.LG_FELL_SUPPRESSED 1))
      ∧ (¬ free → used < burst → let y : State := { x with lg.used := mput 0 s.lg.used q.code (used + 1) }
        (s.unflCount < top → settles (kept y)) ∧ (top ≤ s.unflCount → settles (overs y)))
      ∧ (free → (s.unflCount < top → settles (kept x)) ∧ (top ≤ s.unflCount → settles (overs x)))

/-- Token refills, summaries, page passes, erases, the window and the Ledger's registers complete. RECORD_ARRIVAL with nothing on its
way leaves the Ledger; TOKEN_REFILL returns a token; SUMMARY_SECOND raises 0xF001 for what was suppressed, then 0xF007 for what
overflowed, and counts anew. LEDGER_FLUSH_START starts a flush; a data pass leaves the page's records in flash and goes to
read-back, a match goes to the mark pass and a mismatch moves them on, and the mark pass of a page with no clear in it marks them;
ERASE_DONE ends the erase; LEDGER_SCAN_DONE ends the scan. With AO's registers reachable, a keyed LG_FLUSH flushes, LG_CLEAR asks
for a clear and LG_SAVE saves; LG_RL_WRITE takes its word and refills the buckets of the codes it names. With HST's reachable, a
write of the cursor's high word starts a fill with READY 0. WINDOW_FILL_DONE fills the window with 128 slots from the cursor on,
with READY 1. STREAM_VEC_TIMER raises the vector once a record was streamed. ENERGY_CHECKPOINT saves the meter, operating seconds,
power cycles and next number. PFAIL_N_HIGH leaves an erase suspended only while a tail flush runs. Cites: R739, R742, R743, R745,
R750, R754, R755, R760, R763, R765, R766, R866. -/
def Obligations.LedgerCommandsComplete : Prop :=
  ∀ (s : State) (v : Word),
    (s.raised = [] → exec .recordArrival s = .next s.flSettle)
    ∧ (∀ code : BitVec 16, exec (.tokenRefill code) s =
        .next { s with lg.used := mput 0 s.lg.used code.toNat (mget 0 s.lg.used code.toNat - 1) })
    ∧ (let n := (s.lg.supp.map (·.2)).sum
      Yields .summarySecond s (fun t => t.lg.supp = [] ∧ t.lg.overs = 0 ∧ t.lg.overFault = 0 ∧ t.regs = s.regs ∧ t.lg.next = s.lg.next
        ∧ ∃ top : Nat × Nat, t.raised = s.raised
          ++ (if n = 0 then [] else [⟨7, 0xF001, none, p32 s.lg.supp.length, p32 n, p32 top.1, p32 top.2, 8⟩])
          ++ (if s.lg.overs = 0 then [] else [⟨7, 0xF007, none, p32 s.lg.overs, p32 s.lg.overFault, p32 s.lg.overFirst, 0, 8⟩])))
    ∧ exec .ledgerFlushStart s = .next s.flushGo
    ∧ (s.lg.pass = 1 → exec .dataPassDone s = .next { s.writeData with lg.pass := 2 })
    ∧ (s.lg.pass = 2 → exec (.readbackDone true) s = .next { s with lg.pass := 3 }
        ∧ exec (.readbackDone false) s = .next s.verifyFail)
    ∧ (s.lg.pass = 3 → s.lg.clear = 0 → s.lg.tail = false → exec .markPassDone s =
        .next (let t := s.writeMarks; if t.lg.tail then t.tailGo else t.flushGo))
    ∧ (∀ (ms typ top : BitVec 16) (failed : Bool), exec (.eraseDone ms typ top failed) s = .next (s.eraseDone ms.toNat typ.toNat top.toNat failed))
    ∧ (∀ b : Bool, s.lg.scanning = true → exec (.ledgerScanDone b) s = .next (s.scanDone b))
    ∧ (Reaches s 7 →
      (keyOk v.toNat = true → let w := s.writeFields Reg.LG_CTL v.toNat
        (bitsOf v.toNat 3 1 = 1 → exec (.lgFlush v) s = .next w.flushGo)
        ∧ (bitsOf v.toNat 3 1 = 2 → exec (.lgClear v) s = .next w.clearAsk)
        ∧ (bitsOf v.toNat 3 1 = 4 → exec (.lgSave v) s = .next (w.saveBlock 10)))
      ∧ (∀ i : Fin 1025, i.val ≠ 1024 → let w := s.writeFields (Reg.LG_RL0 i) v.toNat
        Yields (.lgRlWrite i false v) s (fun t => t.regs = w.regs ∧ t.lg.used =
          s.lg.used.filter (fun e => !([s.rf (Reg.LG_RL0_CODE i), w.rf (Reg.LG_RL0_CODE i)].contains e.1)))))
    ∧ (Reaches s 5 → ∀ d : DWord, exec (.lgCursorWrite 1 d) s =
        .next (({ s.writeFields Reg.LG_CURSOR_HI (d.toNat % 2 ^ 32) with lg.filling := true } : State).wr Reg.LG_WIN_STAT_READY 0))
    ∧ (s.lg.filling = true → s.inReset 5 = false → let c := s.rf Reg.LG_CURSOR_LO_SEQ + s.rf Reg.LG_CURSOR_HI_SEQ * 2 ^ 32
      Yields .windowFillDone s (fun t => t.lg.filling = false ∧ t.rf Reg.LG_WIN_STAT_READY = 1 ∧ t.lg.buf = s.lg.buf
        ∧ t.lg.win = (List.range 128).filterMap (fun i => (s.recordAt (c + i)).map (fun r => (i, r)))))
    ∧ (s.lg.stSince = true → exec .streamVecTimer s = .next (s.raiseVec (s.rf Reg.LG_ST_CFG_VEC)))
    ∧ (s.lg.scanning = false → Yields .energyCheckpoint s (fun t => t.ao.ckMeter = s.ao.meterUj ∧ t.ao.ckOpSec = s.ao.opNs / 1000000000
        ∧ t.ao.ckCycles = s.ao.powerCycles ∧ t.ao.ckNext = some s.lg.next ∧ t.lg = s.lg ∧ t.regs = s.regs))
    ∧ Yields .pfailNHigh s (fun t => t.edge.pfailPinLow = false ∧ t.lg.suspended = (s.lg.suspended && s.lg.tail) ∧ t.regs = s.regs)

/-- Commits, verifies, slots, challenges, updates and the mailbox complete. With HST's registers reachable and the key: SE_COMMIT of a
loaded image of a higher EPOCH starts blowing fuses; SE_VERIFY of a slot that no update writes starts its check; SE_RELOCK ends
the unlock and the provisioning window; SLOT_ACTIVE_WRITE of a slot that has passed takes it and saves it to flash; CHAL_REQUEST
of purpose 1, 3, 4 or 5 with none pending issues a challenge, CHAL_SUBMIT hands the response over, CHAL_CANCEL ends the challenge
as timed out; UPD_GO starts programming the idle slot. MBOX_GO submits a request, and MBOX_RESPONSE ends it. COMMIT_DONE sets the
counter to the EPOCH with 0xE004, or to what reads blown with 0xE00A; VERIFY_DONE gives the slot its result; CHAL_TIMEOUT of an
unanswered challenge refuses it with reason 0; RESPONSE_CHECK_DONE of a good response grants with 0xE006 and its purpose's effect,
and of a bad one refuses with its reason; UPD_PROGRAM_DONE with no tail flush leaves the slot's result unknown; PROV_WINDOW_CLOSE
closes the window with 0xE009. Cites: R777, R779, R781, R783, R785, R786, R787, R789, R790, R791, R796, Table 20.9. -/
def Obligations.SecurityCommandsComplete : Prop :=
  ∀ (s : State) (v : Word),
    let w := s.writeFields Reg.SE_CTL v.toNat
    let h := s.writeFields Reg.SE_CHAL_CTL v.toNat
    (Reaches s 5 →
      (keyOk v.toNat = true →
        ((∀ slot e b, bitsOf v.toNat 3 1 = 2 → s.se.loaded = some (slot, e, b) → s.se.counter < e → s.se.commit = none →
            exec (.seCommit v) s = .next { w with se.commit := some e })
          ∧ (bitsOf v.toNat 3 1 = 1 → s.se.update = none → s.se.verify = none →
            exec (.seVerify v) s = .next { w with se.verify := some (bitsOf v.toNat 8 8) })
          ∧ (bitsOf v.toNat 3 1 = 4 → exec (.seRelock v) s = .next (w.debugRelock 0).provClose))
        ∧ (s.rf (if bitsOf v.toNat 8 8 = 0 then Reg.SE_SLOT_RESULT_A else Reg.SE_SLOT_RESULT_B) = 1 → Yields (.slotActiveWrite v) s (fun t =>
            t.rf Reg.SE_SLOT_ACTIVE = bitsOf v.toNat 8 8 ∧ t.flash = mins s.flash Reg.SE_SLOT_ACTIVE.key (bitsOf v.toNat 8 8)))
        ∧ ((bitsOf v.toNat 2 0 = 1 → bitsOf v.toNat 14 12 ∈ [1, 3, 4, 5] → exec (.chalRequest v) s =
            .next (h.chalIssue (bitsOf v.toNat 14 12) (bitsOf v.toNat 18 16) (bitsOf v.toNat 23 20)))
          ∧ (∀ c, s.se.chal = some c → c.resp = none →
            (bitsOf v.toNat 2 0 = 2 → exec (.chalSubmit v) s = .next { h with se.chal := some { c with
              resp := some ((List.range 50).flatMap (fun i => leBytes 4 (h.rf (Reg.SE_RESP_WORD i)))) } })
            ∧ (bitsOf v.toNat 2 0 = 4 → exec (.chalCancel v) s = .next (h.chalRefuse 0 0))))
        ∧ (bitOf v.toNat 1 = true → s.se.update = none → exec (.updGo v) s =
            .next { s.writeFields Reg.SE_UPD_CTL v.toNat with se.update := some (bitsOf v.toNat 19 8), se.updSlot := (s.writeFields Reg.SE_UPD_CTL v.toNat).idleSlot }))
      ∧ (bitOf v.toNat 15 = true → s.se.mbox = false → exec (.mboxGo v) s = .next { s.writeFields Reg.SE_MBOX_CTL v.toNat with se.mbox := true }))
    ∧ (s.se.mbox = true → s.inReset 5 = false → Yields .mboxResponse s (fun t => t.se.mbox = false ∧ t.se.chal = s.se.chal
        ∧ t.rf Reg.SE_MBOX_CTL_LEN ≤ 4096 ∧ t.free = s.free + 1))
    ∧ (∀ (blown : Fin 65) (e : Nat), s.se.commit = some e →
      (Yields (.commitDone blown true) s (fun t => t.se.commit = none ∧ t.se.counter = max s.se.counter e ∧ t.regs = s.regs
        ∧ t.raised = s.raised ++ [⟨7, 0xE004, none, p32 s.se.counter, p32 e, 0, 0, 8⟩]))
      ∧ (let new := max s.se.counter (min blown.val e)
        Yields (.commitDone blown false) s (fun t => t.se.commit = none ∧ t.se.counter = new ∧ t.regs = s.regs
        ∧ t.raised = s.raised ++ [⟨7, 0xE00A, none, 1, p32 new, 0, 0, 8⟩])))
    ∧ (∀ slot, s.se.verify = some slot → let x : State := { s with se.verify := none }
      (s.imgBad slot = none → exec .verifyDone s = .next (x.slotResult slot 1))
      ∧ (∀ b, s.imgBad slot = some b → exec .verifyDone s = .next ((x.slotResult slot 2).emit 7 0xE002 slot b.check b.item)))
    ∧ (∀ c, s.se.chal = some c →
      (c.resp = none → exec .chalTimeout s = .next (s.chalRefuse 0 0))
      ∧ (∀ l key b, c.resp = some l →
        (s.respBad c l = (none, key) → exec (.responseCheckDone b) s =
          .next (((({ s with se.chal := none } : State).chalStat 0 1).emit 7 0xE006 c.purpose key c.target).grantEffect c key b))
        ∧ (∀ e, s.respBad c l = (some e, key) → exec (.responseCheckDone b) s = .next (s.chalRefuse e key))))
    ∧ (∀ off, s.se.update = some off → s.lg.tail = false → ∀ ok : Bool, Yields (.updProgramDone ok) s (fun t => t.se.update = none
        ∧ t.rf (if s.se.updSlot = 0 then Reg.SE_SLOT_RESULT_A else Reg.SE_SLOT_RESULT_B) = 0 ∧ t.lg = s.lg))
    ∧ (s.rb Reg.SE_STAT_PROV_OPEN = true → Yields .provWindowClose s (fun t => t.rf Reg.SE_STAT_PROV_OPEN = 0 ∧ t.se.provKeys = []
        ∧ t.raised = s.raised ++ [⟨7, 0xE009, none, p32 s.se.provSaved, 0, 0, 0, 8⟩]))

/-- Counters, the trigger, Halt Sweeps, the export and SLU's report complete. With HST's registers reachable and the key: OB_ENABLE
powers the counters at zero, OB_DISABLE loses their values, OB_CLEAR zeroes them, OB_UNFREEZE thaws them, OB_ARM arms the trigger
and OB_FIRE fires it; OB_GRP_WRITE takes its word and zeroes the group's eight counters; OB_HALT requests a Halt Sweep and
OB_RELEASE ends the one in force. A firing of the armed trigger by TRIG_IN, enabled and with HALT 0, disarms it, sets TRIGGER and
freezes the counters with 0xE012. JTAG_HALT with debug unlocked, out of Keep and with none in force, halts with 0xE010 and the TAP
holding HALT, and locked is refused with 0xE013; JTAG_RELEASE and HALT_MAX_EXPIRY with HALT_MAX not 0 end the one in force;
HALT_ORPHAN marks the orphan share as taken and the budget moves. EXPORT_TICK takes its snapshot. INTAKE_FULL_REPORT of a link
whose intake was full in the period records 0x3008 and counts anew. Cites: R799, R804, R805, R806, R807, R808, R809, R813, R814,
R815, R819, R835. -/
def Obligations.ObservationCommandsComplete : Prop :=
  ∀ (s : State) (v : Word),
    let w := s.writeFields Reg.OB_CTL v.toNat
    let h := s.writeFields Reg.OB_HALT v.toNat
    (Reaches s 5 →
      (keyOk v.toNat = true →
        ((bitsOf v.toNat 5 0 = 1 → s.rb Reg.OB_STAT_ENABLED = false →
            exec (.obEnable v) s = .next (({ w with ob.cnt := [] } : State).wr Reg.OB_STAT_ENABLED 1))
          ∧ (bitsOf v.toNat 5 0 = 2 → Yields (.obDisable v) s (fun t => t.ob.cnt = [] ∧ t.rf Reg.OB_STAT_ENABLED = 0 ∧ t.rf Reg.OB_STAT_FROZEN = (s.writeFields Reg.OB_CTL v.toNat).rf Reg.OB_STAT_FROZEN))
          ∧ (bitsOf v.toNat 5 0 = 4 → exec (.obClear v) s = .next { w with ob.cnt := [] })
          ∧ (bitsOf v.toNat 5 0 = 8 → exec (.obUnfreeze v) s = .next (w.wr Reg.OB_STAT_FROZEN 0))
          ∧ (bitsOf v.toNat 5 0 = 16 → exec (.obArm v) s = .next (w.wr Reg.OB_STAT_ARMED 1))
          ∧ (bitsOf v.toNat 5 0 = 32 → exec (.obFire v) s = .next (w.trigFire 2 0)))
        ∧ ((bitsOf v.toNat 1 0 = 1 → s.ob.halted = false → exec (.obHalt v) s = .next (h.haltRequest 1))
          ∧ (bitsOf v.toNat 1 0 = 2 → s.ob.halted = true → exec (.obRelease v) s = .next (h.haltRelease 0).flSettle)))
      ∧ (∀ (g : Fin 512) (j : Fin 4), let w := s.writeFields (Reg.OB_GRP0 g.val + 4 * j.val) v.toNat
        exec (.obGrpWrite g j v) s = .next { w with ob.cnt := w.ob.cnt.filter (fun e => decide (e.1 < 8 * g.val) || decide (8 * g.val + 8 ≤ e.1)) }))
    ∧ (s.rb Reg.OB_TRIG_CFG2_TRIGIN_EN = true → s.rb Reg.OB_STAT_ARMED = true → s.rb Reg.OB_TRIG_CFG2_HALT = false →
        s.rb Reg.OB_NOTIFY_VALID = false → Yields .trigInEdge s (fun t => t.rf Reg.OB_STAT_ARMED = 0 ∧ t.rf Reg.OB_FELL_TRIGGER = 1
          ∧ t.rf Reg.OB_STAT_FROZEN ≠ 0 ∧ t.ob.cnt = s.ob.cnt ∧ t.ob.halted = s.ob.halted
          ∧ t.raised = s.raised ++ [⟨7, 0xE012, none, 0, 0, 0, 0, 8⟩]))
    ∧ (s.debugOpen = true → s.isl.pkg ≠ 3 → s.ob.halted = false → exec .jtagHalt s = .next (({ s with ob.tap := .halt } : State).haltBegin 0))
    ∧ (s.debugOpen = false → Yields .jtagHalt s (fun t => t.ob = s.ob ∧ t.rf Reg.OB_FELL_HALT_REFUSED = 1
        ∧ t.raised = s.raised ++ [⟨5, 0xE013, none, 0, 0, 0, 0, 8⟩]))
    ∧ (s.ob.halted = true →
      exec .jtagRelease s = .next (({ s with ob.tap := if s.debugOpen then .release else s.ob.tap } : State).haltRelease 0).flSettle
      ∧ (s.rf Reg.OB_HALT_CFG_HALT_MAX ≠ 0 → exec .haltMaxExpiry s = .next (s.haltRelease 2).flSettle)
      ∧ exec .haltOrphan s = .next ({ s with ob.orphanTaken := true } : State).budgetMoved)
    ∧ exec .exportTick s = .next s.expTick.flSettle
    ∧ (∀ n : Fin 16, s.inReset 2 = false → (s.link n).msFull = true → Yields (.intakeFullReport n) s (fun t =>
        (t.link n).msFull = decide (256 ≤ (s.link n).intake.length) ∧ (t.link n).msFulls = 0
        ∧ (t.link n).msBusy = (if 256 ≤ (s.link n).intake.length then s.busyLinks else 0) ∧ (∀ m, m ≠ n.val → t.link m = s.link m)
        ∧ t.regs = s.regs ∧ t.raised = s.raised ++ [⟨2, 0x3008, none, p32 n, p32 (s.link n).msFulls, p32 (s.link n).msBusy, 0, 8⟩]))

/-- A step is exec of the command at the front of the queue. For every state, every command c and every queue rest: with c at the
front of the queue and rest behind it, step is exec of c on the state with the queue rest, whatever exec answers. With no command
waiting a step answers the state after one idle nanosecond, which is the model's own choice (log entry 1). Cites:
95_what_each_step_holds.md. -/
def Obligations.StepRunsTheFrontCommand : Prop :=
  (∀ (c : Instr) (rest : List Instr) (s : State), s.pending = c :: rest → step s = exec c (s.withPending rest))
    ∧ ∀ s : State, s.pending = [] → step s = .next (idleTick s)

/-- Every command in every state answers a next state and leaves the queue alone. Whatever the command and whatever the state, exec
answers a next state, never a fault and never a refusal, and the queue of waiting commands is in it as it was before. So a run
never stops, and the commands waiting are taken one by one in the order they were sent. Cites: 95_what_each_step_holds.md,
94_opcode_table.md. -/
def Obligations.NoCommandStopsTheBlock : Prop :=
  (∀ (c : Instr) (s : State), Yields c s (fun t => t.pending = s.pending))
    ∧ ∀ s : State, ∃ t, step s = .next t ∧ t.pending = s.pending.tail

/-- Every step keeps the table SRAM and every core's data memories canonical. Call a state canonical when the bytes listed of the
table SRAM, of each core's data SRAM and of each core's launch constants lie at strictly rising addresses, with no listed byte
that reads 0 as an unlisted one does. From every canonical state, whatever command waits, a step answers a canonical state. The
canonical form is the model's own (log entry 8): it makes equal memories equal data. Cites: Table 12.3, R501, R542. -/
def Obligations.ByteMemoriesStayCanonical : Prop :=
  ∀ s t : State, step s = .next t → CanonicalBytes s → CanonicalBytes t

/-- What the registers and the memories hold at reset. At reset every register field reads the reset value of its register table,
which for GL_ID is vendor 0x0B7A and device 0x0A08, for a tile's TEMP 0x3FF, for a group's EXPECT 1, for a ring's SIZE_LOG2 2, for
a vector's MASK 1, for the fault log's SIZE_LOG2 2, for the Ledger stream's SIZE_LOG2 4, and for the export COUNT 1, PERIOD 100
and SIZE_LOG2 2; every bit of GL_STATUS reads 0. No command waits, nothing has been put out and no record has been raised, and the
byte memories are canonical and read 0 everywhere, which is the model's choice (log entries 2 and 8). Cites: Tables 0.8, 5.17,
11.13, 14.9, 14.11, 15.9, 19.8, 21.10, R25. -/
def Obligations.ResetValues : Prop :=
  (∀ f : Fld, State.reset.rf f = f.rst)
    ∧ State.reset.rf Reg.GL_ID_VENDOR = 0x0B7A ∧ State.reset.rf Reg.GL_ID_DEVICE = 0x0A08 ∧ StatusClear State.reset
    ∧ (∀ n, State.reset.rf (Reg.SL_TILE_STAT_TEMP n) = 0x3FF ∧ State.reset.rf (Reg.ME_GRP1_EXPECT n) = 1
      ∧ State.reset.rf (Reg.CF_RING_CFG_SIZE_LOG2 n) = 2 ∧ State.reset.rf (Reg.CF_VEC_MASK n) = 1)
    ∧ State.reset.rf Reg.FL_FLOG_CFG_SIZE_LOG2 = 2 ∧ State.reset.rf Reg.LG_ST_CFG_SIZE_LOG2 = 4
    ∧ State.reset.rf Reg.OB_EXP_CFG_COUNT = 1 ∧ State.reset.rf Reg.OB_EXP_CFG2_PERIOD = 100 ∧ State.reset.rf Reg.OB_EXP_CFG2_SIZE_LOG2 = 2
    ∧ State.reset.pending = [] ∧ State.reset.outbox = [] ∧ State.reset.raised = [] ∧ CanonicalBytes State.reset
    ∧ ∀ c a, coreByte State.reset c a = 0

/-- Every well-formed Ikiva instruction is what its word decodes to. For every command that is an Ikiva instruction and well formed,
with every operand at every value: the word that Tables 13.1 to 13.11 give it, followed by its literal word where it has one,
decodes for its core to that instruction with all of its operands. The word of zeros decodes to nothing: R531 calls it ILLEGAL.
Cites: R530, R531, R532, Tables 13.1 to 13.11. -/
def Obligations.IkivaWordsRoundTrip : Prop :=
  (∀ (i : Instr) (w : Word), encodeIkiva i = some w → i.wf = true → decodeIkiva (coreOf i) w (literalOf i) = some i)
    ∧ ∀ (c : Fin 8) (lit : Word), decodeIkiva c 0 lit = none
end

