-- ==== Sys2Proof/Laws/Store.lean ====
section
/-! SUPPORT. The laws of the sparse stores: reading after storing, and the canonical form. -/

namespace Sys2Proof.Machine
open Sys2Proof

variable {β : Type}

@[simp] theorem mget_nil (d : β) (k : Nat) : mget d [] k = d := rfl

theorem mget_mins_self (d : β) (m : List (Nat × β)) (k : Nat) (v : β) : mget d (mins m k v) k = v := by
  induction m with
  | nil => simp [mins, mget]
  | cons e t ih =>
    unfold mins
    split
    · simp [mget]
    · split
      · simp [mget]
      · rename_i h
        simp [mget, h, ih]

theorem mget_mins_ne (d : β) (m : List (Nat × β)) {k j : Nat} (v : β) (h : k ≠ j) :
    mget d (mins m k v) j = mget d m j := by
  induction m with
  | nil => simp [mins, mget, h]
  | cons e t ih =>
    unfold mins
    split
    · simp [mget, h]
    · split
      · rename_i hk
        have : e.1 ≠ j := by omega
        simp [mget, h, this]
      · simp only [mget]
        split <;> simp_all

theorem mget_mdel_self (d : β) (m : List (Nat × β)) (k : Nat) : mget d (mdel m k) k = d := by
  induction m with
  | nil => rfl
  | cons e t ih =>
    unfold mdel at *
    by_cases he : e.1 = k
    · rw [List.filter_cons_of_neg (by simp [he])]
      exact ih
    · rw [List.filter_cons_of_pos (by simp [he])]
      simp [mget, he, ih]

theorem mget_mdel_ne (d : β) (m : List (Nat × β)) {k j : Nat} (h : k ≠ j) : mget d (mdel m k) j = mget d m j := by
  induction m with
  | nil => rfl
  | cons e t ih =>
    unfold mdel at *
    by_cases he : e.1 = k
    · have : e.1 ≠ j := by omega
      rw [List.filter_cons_of_neg (by simp [he])]
      simp [mget, this, ih]
    · rw [List.filter_cons_of_pos (by simp [he])]
      simp [mget, ih]

/-- A read after a store to the same key gives what was stored. -/
@[simp] theorem mget_mput_self [DecidableEq β] (d : β) (m : List (Nat × β)) (k : Nat) (v : β) :
    mget d (mput d m k v) k = v := by
  unfold mput
  split
  · rename_i h
    rw [mget_mdel_self, h]
  · exact mget_mins_self d m k v

/-- A store leaves every other key alone. -/
theorem mget_mput_ne [DecidableEq β] (d : β) (m : List (Nat × β)) {k j : Nat} (v : β) (h : k ≠ j) :
    mget d (mput d m k v) j = mget d m j := by
  unfold mput
  split
  · exact mget_mdel_ne d m h
  · exact mget_mins_ne d m v h

theorem mwf_cons [DecidableEq β] {d : β} {e : Nat × β} {t : List (Nat × β)} :
    mwf d (e :: t) = true ↔ e.2 ≠ d ∧ (∀ x ∈ t, e.1 < x.1) ∧ mwf d t = true := by
  simp [mwf, and_assoc]

theorem mwf_filter [DecidableEq β] {d : β} (p : Nat × β → Bool) {m : List (Nat × β)} (h : mwf d m = true) :
    mwf d (m.filter p) = true := by
  induction m with
  | nil => rfl
  | cons e t ih =>
    obtain ⟨h1, h2, h3⟩ := mwf_cons.mp h
    by_cases hp : p e = true
    · rw [List.filter_cons_of_pos hp]
      exact mwf_cons.mpr ⟨h1, fun x hx => h2 x (List.mem_filter.mp hx).1, ih h3⟩
    · rw [List.filter_cons_of_neg hp]
      exact ih h3

theorem mem_mins {m : List (Nat × β)} {k : Nat} {v : β} {x : Nat × β} (h : x ∈ mins m k v) : x = (k, v) ∨ x ∈ m := by
  induction m with
  | nil => simpa [mins] using h
  | cons e t ih =>
    unfold mins at h
    split at h
    · simpa using h
    · split at h
      · rcases List.mem_cons.mp h with h | h
        · exact .inl h
        · exact .inr (List.mem_cons_of_mem _ h)
      · rcases List.mem_cons.mp h with h | h
        · exact .inr (h ▸ List.mem_cons_self)
        · rcases ih h with h | h
          · exact .inl h
          · exact .inr (List.mem_cons_of_mem _ h)

theorem mwf_mins [DecidableEq β] {d : β} {m : List (Nat × β)} (h : mwf d m = true) (k : Nat) {v : β} (hv : v ≠ d) :
    mwf d (mins m k v) = true := by
  induction m with
  | nil => simp [mins, mwf, hv]
  | cons e t ih =>
    obtain ⟨h1, h2, h3⟩ := mwf_cons.mp h
    unfold mins
    split
    · rename_i hk
      refine mwf_cons.mpr ⟨hv, fun x hx => ?_, h⟩
      rcases List.mem_cons.mp hx with rfl | hx
      · exact hk
      · exact Nat.lt_trans hk (h2 x hx)
    · split
      · rename_i hk
        exact mwf_cons.mpr ⟨hv, fun x hx => hk ▸ h2 x hx, h3⟩
      · rename_i hlt hne
        refine mwf_cons.mpr ⟨h1, fun x hx => ?_, ih h3⟩
        rcases mem_mins hx with rfl | hx
        · show e.1 < k
          omega
        · exact h2 x hx

/-- Every store keeps the canonical form. -/
theorem mwf_mput [DecidableEq β] {d : β} {m : List (Nat × β)} (h : mwf d m = true) (k : Nat) (v : β) :
    mwf d (mput d m k v) = true := by
  unfold mput
  split
  · exact mwf_filter _ h
  · rename_i hv
    exact mwf_mins h k hv

/-- Writing bytes keeps the canonical form of a memory. -/
theorem writeBytes_wf {m : List Host.Cell} (h : Memory.wf m = true) (a n v : Nat) : Memory.wf (writeBytes m a n v) = true := by
  unfold writeBytes
  generalize List.range n = l
  induction l generalizing m with
  | nil => exact h
  | cons i t ih => exact ih (mwf_mput h _ _)

/-- Writing bytes leaves every byte outside the range alone. -/
theorem mget_writeBytes_out (m : List Host.Cell) (a n v : Nat) {j : Nat} (h : j < a ∨ a + n ≤ j) :
    mget (0 : Byte) (writeBytes m a n v) j = mget 0 m j := by
  unfold writeBytes
  have hl : ∀ i ∈ List.range n, a + i ≠ j := fun i hi => by
    have := List.mem_range.mp hi
    omega
  generalize List.range n = l at hl
  induction l generalizing m with
  | nil => rfl
  | cons i t ih =>
    rw [List.foldl_cons, ih _ (fun x hx => hl x (List.mem_cons_of_mem _ hx))]
    exact mget_mput_ne _ _ _ (hl i List.mem_cons_self)

end Sys2Proof.Machine
end

