-- ==== Sys2Proof/Laws/State.lean ====
section
/-! SUPPORT. What each update of the state leaves in each field. -/

namespace Sys2Proof.Machine
open Sys2Proof

@[simp] theorem State.withPending_pending (s : State) (q : List Instr) : (s.withPending q).pending = q := rfl
@[simp] theorem State.withPending_now (s : State) (q : List Instr) : (s.withPending q).now = s.now := rfl
@[simp] theorem State.withPending_free (s : State) (q : List Instr) : (s.withPending q).free = s.free := rfl
@[simp] theorem State.withPending_regs (s : State) (q : List Instr) : (s.withPending q).regs = s.regs := rfl
@[simp] theorem State.withPending_flash (s : State) (q : List Instr) : (s.withPending q).flash = s.flash := rfl
@[simp] theorem State.withPending_outbox (s : State) (q : List Instr) : (s.withPending q).outbox = s.outbox := rfl
@[simp] theorem State.withPending_raised (s : State) (q : List Instr) : (s.withPending q).raised = s.raised := rfl
@[simp] theorem State.withPending_edge (s : State) (q : List Instr) : (s.withPending q).edge = s.edge := rfl
@[simp] theorem State.withPending_fuse (s : State) (q : List Instr) : (s.withPending q).fuse = s.fuse := rfl
@[simp] theorem State.withPending_ao (s : State) (q : List Instr) : (s.withPending q).ao = s.ao := rfl
@[simp] theorem State.withPending_isl (s : State) (q : List Instr) : (s.withPending q).isl = s.isl := rfl
@[simp] theorem State.withPending_me (s : State) (q : List Instr) : (s.withPending q).me = s.me := rfl
@[simp] theorem State.withPending_ob (s : State) (q : List Instr) : (s.withPending q).ob = s.ob := rfl
@[simp] theorem State.withPending_ik (s : State) (q : List Instr) : (s.withPending q).ik = s.ik := rfl
@[simp] theorem State.withPending_ph (s : State) (q : List Instr) : (s.withPending q).ph = s.ph := rfl
@[simp] theorem State.withPending_sl (s : State) (q : List Instr) : (s.withPending q).sl = s.sl := rfl
@[simp] theorem State.withPending_ad (s : State) (q : List Instr) : (s.withPending q).ad = s.ad := rfl
@[simp] theorem State.withPending_bg (s : State) (q : List Instr) : (s.withPending q).bg = s.bg := rfl
@[simp] theorem State.withPending_th (s : State) (q : List Instr) : (s.withPending q).th = s.th := rfl
@[simp] theorem State.withPending_tw (s : State) (q : List Instr) : (s.withPending q).tw = s.tw := rfl
@[simp] theorem State.withPending_rv (s : State) (q : List Instr) : (s.withPending q).rv = s.rv := rfl
@[simp] theorem State.withPending_fb (s : State) (q : List Instr) : (s.withPending q).fb = s.fb := rfl
@[simp] theorem State.withPending_cb (s : State) (q : List Instr) : (s.withPending q).cb = s.cb := rfl
@[simp] theorem State.withPending_ax (s : State) (q : List Instr) : (s.withPending q).ax = s.ax := rfl
@[simp] theorem State.withPending_lg (s : State) (q : List Instr) : (s.withPending q).lg = s.lg := rfl
@[simp] theorem State.withPending_se (s : State) (q : List Instr) : (s.withPending q).se = s.se := rfl
@[simp] theorem State.withPending_cf (s : State) (q : List Instr) : (s.withPending q).cf = s.cf := rfl
@[simp] theorem State.withPending_fl (s : State) (q : List Instr) : (s.withPending q).fl = s.fl := rfl

@[simp] theorem State.wr_pending (s : State) (f : Fld) (v : Nat) : (s.wr f v).pending = s.pending := rfl
@[simp] theorem State.wr_now (s : State) (f : Fld) (v : Nat) : (s.wr f v).now = s.now := rfl
@[simp] theorem State.wr_free (s : State) (f : Fld) (v : Nat) : (s.wr f v).free = s.free := rfl
@[simp] theorem State.wr_regs (s : State) (f : Fld) (v : Nat) : (s.wr f v).regs = mput f.rst s.regs f.key (v % 2 ^ (f.hi + 1 - f.lo)) := rfl
@[simp] theorem State.wr_flash (s : State) (f : Fld) (v : Nat) : (s.wr f v).flash = s.flash := rfl
@[simp] theorem State.wr_outbox (s : State) (f : Fld) (v : Nat) : (s.wr f v).outbox = s.outbox := rfl
@[simp] theorem State.wr_raised (s : State) (f : Fld) (v : Nat) : (s.wr f v).raised = s.raised := rfl
@[simp] theorem State.wr_edge (s : State) (f : Fld) (v : Nat) : (s.wr f v).edge = s.edge := rfl
@[simp] theorem State.wr_fuse (s : State) (f : Fld) (v : Nat) : (s.wr f v).fuse = s.fuse := rfl
@[simp] theorem State.wr_ao (s : State) (f : Fld) (v : Nat) : (s.wr f v).ao = s.ao := rfl
@[simp] theorem State.wr_isl (s : State) (f : Fld) (v : Nat) : (s.wr f v).isl = s.isl := rfl
@[simp] theorem State.wr_me (s : State) (f : Fld) (v : Nat) : (s.wr f v).me = s.me := rfl
@[simp] theorem State.wr_ob (s : State) (f : Fld) (v : Nat) : (s.wr f v).ob = s.ob := rfl
@[simp] theorem State.wr_ik (s : State) (f : Fld) (v : Nat) : (s.wr f v).ik = s.ik := rfl
@[simp] theorem State.wr_ph (s : State) (f : Fld) (v : Nat) : (s.wr f v).ph = s.ph := rfl
@[simp] theorem State.wr_sl (s : State) (f : Fld) (v : Nat) : (s.wr f v).sl = s.sl := rfl
@[simp] theorem State.wr_ad (s : State) (f : Fld) (v : Nat) : (s.wr f v).ad = s.ad := rfl
@[simp] theorem State.wr_bg (s : State) (f : Fld) (v : Nat) : (s.wr f v).bg = s.bg := rfl
@[simp] theorem State.wr_th (s : State) (f : Fld) (v : Nat) : (s.wr f v).th = s.th := rfl
@[simp] theorem State.wr_tw (s : State) (f : Fld) (v : Nat) : (s.wr f v).tw = s.tw := rfl
@[simp] theorem State.wr_rv (s : State) (f : Fld) (v : Nat) : (s.wr f v).rv = s.rv := rfl
@[simp] theorem State.wr_fb (s : State) (f : Fld) (v : Nat) : (s.wr f v).fb = s.fb := rfl
@[simp] theorem State.wr_cb (s : State) (f : Fld) (v : Nat) : (s.wr f v).cb = s.cb := rfl
@[simp] theorem State.wr_ax (s : State) (f : Fld) (v : Nat) : (s.wr f v).ax = s.ax := rfl
@[simp] theorem State.wr_lg (s : State) (f : Fld) (v : Nat) : (s.wr f v).lg = s.lg := rfl
@[simp] theorem State.wr_se (s : State) (f : Fld) (v : Nat) : (s.wr f v).se = s.se := rfl
@[simp] theorem State.wr_cf (s : State) (f : Fld) (v : Nat) : (s.wr f v).cf = s.cf := rfl
@[simp] theorem State.wr_fl (s : State) (f : Fld) (v : Nat) : (s.wr f v).fl = s.fl := rfl

@[simp] theorem State.out_pending (s : State) (o : Out) : (s.out o).pending = s.pending := rfl
@[simp] theorem State.out_now (s : State) (o : Out) : (s.out o).now = s.now := rfl
@[simp] theorem State.out_free (s : State) (o : Out) : (s.out o).free = s.free := rfl
@[simp] theorem State.out_regs (s : State) (o : Out) : (s.out o).regs = s.regs := rfl
@[simp] theorem State.out_flash (s : State) (o : Out) : (s.out o).flash = s.flash := rfl
@[simp] theorem State.out_outbox (s : State) (o : Out) : (s.out o).outbox = if s.drives then s.outbox ++ [o] else s.outbox := rfl
@[simp] theorem State.out_raised (s : State) (o : Out) : (s.out o).raised = s.raised := rfl
@[simp] theorem State.out_edge (s : State) (o : Out) : (s.out o).edge = s.edge := rfl
@[simp] theorem State.out_fuse (s : State) (o : Out) : (s.out o).fuse = s.fuse := rfl
@[simp] theorem State.out_ao (s : State) (o : Out) : (s.out o).ao = s.ao := rfl
@[simp] theorem State.out_isl (s : State) (o : Out) : (s.out o).isl = s.isl := rfl
@[simp] theorem State.out_me (s : State) (o : Out) : (s.out o).me = s.me := rfl
@[simp] theorem State.out_ob (s : State) (o : Out) : (s.out o).ob = s.ob := rfl
@[simp] theorem State.out_ik (s : State) (o : Out) : (s.out o).ik = s.ik := rfl
@[simp] theorem State.out_ph (s : State) (o : Out) : (s.out o).ph = s.ph := rfl
@[simp] theorem State.out_sl (s : State) (o : Out) : (s.out o).sl = s.sl := rfl
@[simp] theorem State.out_ad (s : State) (o : Out) : (s.out o).ad = s.ad := rfl
@[simp] theorem State.out_bg (s : State) (o : Out) : (s.out o).bg = s.bg := rfl
@[simp] theorem State.out_th (s : State) (o : Out) : (s.out o).th = s.th := rfl
@[simp] theorem State.out_tw (s : State) (o : Out) : (s.out o).tw = s.tw := rfl
@[simp] theorem State.out_rv (s : State) (o : Out) : (s.out o).rv = s.rv := rfl
@[simp] theorem State.out_fb (s : State) (o : Out) : (s.out o).fb = s.fb := rfl
@[simp] theorem State.out_cb (s : State) (o : Out) : (s.out o).cb = s.cb := rfl
@[simp] theorem State.out_ax (s : State) (o : Out) : (s.out o).ax = s.ax := rfl
@[simp] theorem State.out_lg (s : State) (o : Out) : (s.out o).lg = s.lg := rfl
@[simp] theorem State.out_se (s : State) (o : Out) : (s.out o).se = s.se := rfl
@[simp] theorem State.out_cf (s : State) (o : Out) : (s.out o).cf = s.cf := rfl
@[simp] theorem State.out_fl (s : State) (o : Out) : (s.out o).fl = s.fl := rfl

@[simp] theorem State.emit_pending (s : State) (src code p0 p1 p2 p3 : Nat) : (s.emit src code p0 p1 p2 p3).pending = s.pending := rfl
@[simp] theorem State.emit_now (s : State) (src code p0 p1 p2 p3 : Nat) : (s.emit src code p0 p1 p2 p3).now = s.now := rfl
@[simp] theorem State.emit_free (s : State) (src code p0 p1 p2 p3 : Nat) : (s.emit src code p0 p1 p2 p3).free = s.free := rfl
@[simp] theorem State.emit_regs (s : State) (src code p0 p1 p2 p3 : Nat) : (s.emit src code p0 p1 p2 p3).regs = s.regs := rfl
@[simp] theorem State.emit_flash (s : State) (src code p0 p1 p2 p3 : Nat) : (s.emit src code p0 p1 p2 p3).flash = s.flash := rfl
@[simp] theorem State.emit_outbox (s : State) (src code p0 p1 p2 p3 : Nat) : (s.emit src code p0 p1 p2 p3).outbox = s.outbox := rfl
@[simp] theorem State.emit_raised (s : State) (src code p0 p1 p2 p3 : Nat) : (s.emit src code p0 p1 p2 p3).raised = s.raised ++ [⟨src, code, none, p32 p0, p32 p1, p32 p2, p32 p3, 8⟩] := rfl
@[simp] theorem State.emit_edge (s : State) (src code p0 p1 p2 p3 : Nat) : (s.emit src code p0 p1 p2 p3).edge = s.edge := rfl
@[simp] theorem State.emit_fuse (s : State) (src code p0 p1 p2 p3 : Nat) : (s.emit src code p0 p1 p2 p3).fuse = s.fuse := rfl
@[simp] theorem State.emit_ao (s : State) (src code p0 p1 p2 p3 : Nat) : (s.emit src code p0 p1 p2 p3).ao = s.ao := rfl
@[simp] theorem State.emit_isl (s : State) (src code p0 p1 p2 p3 : Nat) : (s.emit src code p0 p1 p2 p3).isl = s.isl := rfl
@[simp] theorem State.emit_me (s : State) (src code p0 p1 p2 p3 : Nat) : (s.emit src code p0 p1 p2 p3).me = s.me := rfl
@[simp] theorem State.emit_ob (s : State) (src code p0 p1 p2 p3 : Nat) : (s.emit src code p0 p1 p2 p3).ob = s.ob := rfl
@[simp] theorem State.emit_ik (s : State) (src code p0 p1 p2 p3 : Nat) : (s.emit src code p0 p1 p2 p3).ik = s.ik := rfl
@[simp] theorem State.emit_ph (s : State) (src code p0 p1 p2 p3 : Nat) : (s.emit src code p0 p1 p2 p3).ph = s.ph := rfl
@[simp] theorem State.emit_sl (s : State) (src code p0 p1 p2 p3 : Nat) : (s.emit src code p0 p1 p2 p3).sl = s.sl := rfl
@[simp] theorem State.emit_ad (s : State) (src code p0 p1 p2 p3 : Nat) : (s.emit src code p0 p1 p2 p3).ad = s.ad := rfl
@[simp] theorem State.emit_bg (s : State) (src code p0 p1 p2 p3 : Nat) : (s.emit src code p0 p1 p2 p3).bg = s.bg := rfl
@[simp] theorem State.emit_th (s : State) (src code p0 p1 p2 p3 : Nat) : (s.emit src code p0 p1 p2 p3).th = s.th := rfl
@[simp] theorem State.emit_tw (s : State) (src code p0 p1 p2 p3 : Nat) : (s.emit src code p0 p1 p2 p3).tw = s.tw := rfl
@[simp] theorem State.emit_rv (s : State) (src code p0 p1 p2 p3 : Nat) : (s.emit src code p0 p1 p2 p3).rv = s.rv := rfl
@[simp] theorem State.emit_fb (s : State) (src code p0 p1 p2 p3 : Nat) : (s.emit src code p0 p1 p2 p3).fb = s.fb := rfl
@[simp] theorem State.emit_cb (s : State) (src code p0 p1 p2 p3 : Nat) : (s.emit src code p0 p1 p2 p3).cb = s.cb := rfl
@[simp] theorem State.emit_ax (s : State) (src code p0 p1 p2 p3 : Nat) : (s.emit src code p0 p1 p2 p3).ax = s.ax := rfl
@[simp] theorem State.emit_lg (s : State) (src code p0 p1 p2 p3 : Nat) : (s.emit src code p0 p1 p2 p3).lg = s.lg := rfl
@[simp] theorem State.emit_se (s : State) (src code p0 p1 p2 p3 : Nat) : (s.emit src code p0 p1 p2 p3).se = s.se := rfl
@[simp] theorem State.emit_cf (s : State) (src code p0 p1 p2 p3 : Nat) : (s.emit src code p0 p1 p2 p3).cf = s.cf := rfl
@[simp] theorem State.emit_fl (s : State) (src code p0 p1 p2 p3 : Nat) : (s.emit src code p0 p1 p2 p3).fl = s.fl := rfl

@[simp] theorem State.withPending_drives (s : State) (q : List Instr) : (s.withPending q).drives = s.drives := rfl
@[simp] theorem State.wr_drives (s : State) (f : Fld) (v : Nat) : (s.wr f v).drives = s.drives := rfl
@[simp] theorem State.out_drives (s : State) (o : Out) : (s.out o).drives = s.drives := rfl
@[simp] theorem State.emit_drives (s : State) (src code p0 p1 p2 p3 : Nat) : (s.emit src code p0 p1 p2 p3).drives = s.drives := rfl
@[simp] theorem State.draw_drives (s : State) (k : Nat) : (s.draw k).2.drives = s.drives := rfl

@[simp] theorem State.outEnd_pending (s : State) (o : Out) : (s.outEnd o).pending = s.pending := rfl
@[simp] theorem State.outEnd_now (s : State) (o : Out) : (s.outEnd o).now = s.now := rfl
@[simp] theorem State.outEnd_free (s : State) (o : Out) : (s.outEnd o).free = s.free := rfl
@[simp] theorem State.outEnd_regs (s : State) (o : Out) : (s.outEnd o).regs = s.regs := rfl
@[simp] theorem State.outEnd_flash (s : State) (o : Out) : (s.outEnd o).flash = s.flash := rfl
@[simp] theorem State.outEnd_outbox (s : State) (o : Out) : (s.outEnd o).outbox = s.outbox ++ [o] := rfl
@[simp] theorem State.outEnd_raised (s : State) (o : Out) : (s.outEnd o).raised = s.raised := rfl
@[simp] theorem State.outEnd_edge (s : State) (o : Out) : (s.outEnd o).edge = s.edge := rfl
@[simp] theorem State.outEnd_fuse (s : State) (o : Out) : (s.outEnd o).fuse = s.fuse := rfl
@[simp] theorem State.outEnd_ao (s : State) (o : Out) : (s.outEnd o).ao = s.ao := rfl
@[simp] theorem State.outEnd_isl (s : State) (o : Out) : (s.outEnd o).isl = s.isl := rfl
@[simp] theorem State.outEnd_me (s : State) (o : Out) : (s.outEnd o).me = s.me := rfl
@[simp] theorem State.outEnd_ob (s : State) (o : Out) : (s.outEnd o).ob = s.ob := rfl
@[simp] theorem State.outEnd_ik (s : State) (o : Out) : (s.outEnd o).ik = s.ik := rfl
@[simp] theorem State.outEnd_ph (s : State) (o : Out) : (s.outEnd o).ph = s.ph := rfl
@[simp] theorem State.outEnd_sl (s : State) (o : Out) : (s.outEnd o).sl = s.sl := rfl
@[simp] theorem State.outEnd_ad (s : State) (o : Out) : (s.outEnd o).ad = s.ad := rfl
@[simp] theorem State.outEnd_bg (s : State) (o : Out) : (s.outEnd o).bg = s.bg := rfl
@[simp] theorem State.outEnd_th (s : State) (o : Out) : (s.outEnd o).th = s.th := rfl
@[simp] theorem State.outEnd_tw (s : State) (o : Out) : (s.outEnd o).tw = s.tw := rfl
@[simp] theorem State.outEnd_rv (s : State) (o : Out) : (s.outEnd o).rv = s.rv := rfl
@[simp] theorem State.outEnd_fb (s : State) (o : Out) : (s.outEnd o).fb = s.fb := rfl
@[simp] theorem State.outEnd_cb (s : State) (o : Out) : (s.outEnd o).cb = s.cb := rfl
@[simp] theorem State.outEnd_ax (s : State) (o : Out) : (s.outEnd o).ax = s.ax := rfl
@[simp] theorem State.outEnd_lg (s : State) (o : Out) : (s.outEnd o).lg = s.lg := rfl
@[simp] theorem State.outEnd_se (s : State) (o : Out) : (s.outEnd o).se = s.se := rfl
@[simp] theorem State.outEnd_cf (s : State) (o : Out) : (s.outEnd o).cf = s.cf := rfl
@[simp] theorem State.outEnd_fl (s : State) (o : Out) : (s.outEnd o).fl = s.fl := rfl

@[simp] theorem State.draw_pending (s : State) (k : Nat) : (s.draw k).2.pending = s.pending := rfl
@[simp] theorem State.draw_now (s : State) (k : Nat) : (s.draw k).2.now = s.now := rfl
@[simp] theorem State.draw_free (s : State) (k : Nat) : (s.draw k).2.free = s.free + 1 := rfl
@[simp] theorem State.draw_regs (s : State) (k : Nat) : (s.draw k).2.regs = s.regs := rfl
@[simp] theorem State.draw_flash (s : State) (k : Nat) : (s.draw k).2.flash = s.flash := rfl
@[simp] theorem State.draw_outbox (s : State) (k : Nat) : (s.draw k).2.outbox = s.outbox := rfl
@[simp] theorem State.draw_raised (s : State) (k : Nat) : (s.draw k).2.raised = s.raised := rfl
@[simp] theorem State.draw_edge (s : State) (k : Nat) : (s.draw k).2.edge = s.edge := rfl
@[simp] theorem State.draw_fuse (s : State) (k : Nat) : (s.draw k).2.fuse = s.fuse := rfl
@[simp] theorem State.draw_ao (s : State) (k : Nat) : (s.draw k).2.ao = s.ao := rfl
@[simp] theorem State.draw_isl (s : State) (k : Nat) : (s.draw k).2.isl = s.isl := rfl
@[simp] theorem State.draw_me (s : State) (k : Nat) : (s.draw k).2.me = s.me := rfl
@[simp] theorem State.draw_ob (s : State) (k : Nat) : (s.draw k).2.ob = s.ob := rfl
@[simp] theorem State.draw_ik (s : State) (k : Nat) : (s.draw k).2.ik = s.ik := rfl
@[simp] theorem State.draw_ph (s : State) (k : Nat) : (s.draw k).2.ph = s.ph := rfl
@[simp] theorem State.draw_sl (s : State) (k : Nat) : (s.draw k).2.sl = s.sl := rfl
@[simp] theorem State.draw_ad (s : State) (k : Nat) : (s.draw k).2.ad = s.ad := rfl
@[simp] theorem State.draw_bg (s : State) (k : Nat) : (s.draw k).2.bg = s.bg := rfl
@[simp] theorem State.draw_th (s : State) (k : Nat) : (s.draw k).2.th = s.th := rfl
@[simp] theorem State.draw_tw (s : State) (k : Nat) : (s.draw k).2.tw = s.tw := rfl
@[simp] theorem State.draw_rv (s : State) (k : Nat) : (s.draw k).2.rv = s.rv := rfl
@[simp] theorem State.draw_fb (s : State) (k : Nat) : (s.draw k).2.fb = s.fb := rfl
@[simp] theorem State.draw_cb (s : State) (k : Nat) : (s.draw k).2.cb = s.cb := rfl
@[simp] theorem State.draw_ax (s : State) (k : Nat) : (s.draw k).2.ax = s.ax := rfl
@[simp] theorem State.draw_lg (s : State) (k : Nat) : (s.draw k).2.lg = s.lg := rfl
@[simp] theorem State.draw_se (s : State) (k : Nat) : (s.draw k).2.se = s.se := rfl
@[simp] theorem State.draw_cf (s : State) (k : Nat) : (s.draw k).2.cf = s.cf := rfl
@[simp] theorem State.draw_fl (s : State) (k : Nat) : (s.draw k).2.fl = s.fl := rfl

@[simp] theorem State.draw_fst (s : State) (k : Nat) : (s.draw k).1 = Config.freeValue k s.free := rfl

/-- A field read after it was written holds the low bits of the value that fit it. -/
@[simp] theorem State.rf_wr_self (s : State) (f : Fld) (v : Nat) : (s.wr f v).rf f = v % 2 ^ (f.hi + 1 - f.lo) :=
  mget_mput_self _ _ _ _

/-- Writing one field leaves every field of another key alone. -/
theorem State.rf_wr_ne (s : State) {f g : Fld} (v : Nat) (h : f.key ≠ g.key) : (s.wr f v).rf g = s.rf g := by
  unfold State.rf
  rw [State.wr_regs]
  by_cases hr : f.rst = g.rst
  · rw [hr]
    exact mget_mput_ne _ _ _ h
  · unfold mput
    split
    · exact mget_mdel_ne _ _ h
    · exact mget_mins_ne _ _ _ h

@[simp] theorem State.rf_withPending (s : State) (q : List Instr) (f : Fld) : (s.withPending q).rf f = s.rf f := rfl

@[simp] theorem State.rf_out (s : State) (o : Out) (f : Fld) : (s.out o).rf f = s.rf f := rfl

@[simp] theorem State.rf_emit (s : State) (src code p0 p1 p2 p3 : Nat) (f : Fld) :
    (s.emit src code p0 p1 p2 p3).rf f = s.rf f := rfl

@[simp] theorem State.rf_draw (s : State) (k : Nat) (f : Fld) : (s.draw k).2.rf f = s.rf f := rfl

/-- Two states with the same register store read the same in every field. -/
theorem State.rf_congr {s t : State} (h : s.regs = t.regs) (f : Fld) : s.rf f = t.rf f := by
  unfold State.rf
  rw [h]

@[simp] theorem State.reset_rf (f : Fld) : State.reset.rf f = f.rst := rfl

end Sys2Proof.Machine
end

