-- ==== Sys2Proof/Laws/Ikiva.lean ====
section
/-! SUPPORT. What the shared operations of the policy cores can do: the register banks, and the running of one instruction. -/

namespace Sys2Proof.Machine
open Sys2Proof

@[simp] theorem core_setCore_self (s : State) (c : Nat) (k : IkCore) : (s.setCore c k).core c = k := mget_mput_self _ _ _ _

theorem core_setCore_ne (s : State) {c d : Nat} (k : IkCore) (h : d ≠ c) : (s.setCore c k).core d = s.core d :=
  mget_mput_ne _ _ _ h.symm

@[simp] theorem setBank_bank (k : IkCore) (b : Bank) : (k.setBank b).bank = b := by
  unfold IkCore.setBank IkCore.bank
  by_cases h : k.level = 2 <;> simp [h]

/-- A change of a core that touches at most the bank in use, but for its message registers, and qsel. -/
def BankOnly (k k' : IkCore) : Prop :=
  k' = { k with bankN := k'.bankN, bankU := k'.bankU, qsel := k'.qsel }
    ∧ (if k.level = 2 then k'.bankN = k.bankN else k'.bankU = k.bankU) ∧ k'.bank.m = k.bank.m

theorem bankOnly_refl (k : IkCore) : BankOnly k k := ⟨rfl, by split <;> rfl, rfl⟩

theorem bankOnly_setBank (k : IkCore) (b : Bank) (h : b.m = k.bank.m) : BankOnly k (k.setBank b) := by
  refine ⟨?_, ?_, ?_⟩
  · unfold IkCore.setBank
    split <;> rfl
  · unfold IkCore.setBank
    split <;> rfl
  · rw [setBank_bank, h]

theorem bankOnly_setG (k : IkCore) (r : Nat) (v : DWord) : BankOnly k (k.setG r v) := by
  unfold IkCore.setG
  split
  · exact bankOnly_refl k
  · exact bankOnly_setBank k _ rfl

theorem bankOnly_setAcc (k : IkCore) (i : Nat) (v : BitVec 96) : BankOnly k (k.setAcc i v) := bankOnly_setBank k _ rfl

theorem bankOnly_setFlags (k : IkCore) (f : BitVec 5) : BankOnly k (k.setFlags f) := bankOnly_setBank k _ rfl

theorem bankOnly_sat {k k' : IkCore} (b : Bool) (h : BankOnly k k') : BankOnly k (k'.sat b) := by
  unfold IkCore.sat
  split
  · obtain ⟨h1, h2, h3⟩ := h
    obtain ⟨g1, g2, g3⟩ := bankOnly_setFlags k' (k'.flags ||| 16)
    have hl : k'.level = k.level := by rw [h1]
    refine ⟨?_, ?_, g3.trans h3⟩
    · rw [g1, h1]
    · rw [hl] at g2
      by_cases hk : k.level = 2
      · rw [if_pos hk] at *
        exact g2.trans h2
      · rw [if_neg hk] at *
        exact g2.trans h2
  · exact h

/-- A g register after a write of one (R537). -/
theorem setG_g (k : IkCore) (r q : Nat) (v : DWord) : (k.setG r v).g q = if q = r ∧ q ≠ 0 then v else k.g q := by
  by_cases hq : q = 0
  · simp [IkCore.g, hq]
  · by_cases hr : r = 0
    · have : q ≠ r := by omega
      simp [IkCore.setG, hr, hq]
    · by_cases h : q = r
      · simp [IkCore.g, IkCore.setG, h, hr]
      · have h' : r ≠ q := fun e => h e.symm
        simp [IkCore.g, IkCore.setG, h, hr, hq, mget_mput_ne _ _ _ h']

@[simp] theorem setG_acc (k : IkCore) (r : Nat) (v : DWord) (i : Nat) : (k.setG r v).acc i = k.acc i := by
  unfold IkCore.setG IkCore.acc
  split <;> simp

@[simp] theorem setG_flags (k : IkCore) (r : Nat) (v : DWord) : (k.setG r v).flags = k.flags := by
  unfold IkCore.setG IkCore.flags
  split <;> simp

@[simp] theorem setG_qsel (k : IkCore) (r : Nat) (v : DWord) : (k.setG r v).qsel = k.qsel := by
  unfold IkCore.setG IkCore.setBank
  repeat' split
  all_goals rfl

@[simp] theorem setAcc_g (k : IkCore) (i : Nat) (v : BitVec 96) (r : Nat) : (k.setAcc i v).g r = k.g r := by
  simp [IkCore.setAcc, IkCore.g]

@[simp] theorem setAcc_flags (k : IkCore) (i : Nat) (v : BitVec 96) : (k.setAcc i v).flags = k.flags := by
  simp [IkCore.setAcc, IkCore.flags]

@[simp] theorem setAcc_qsel (k : IkCore) (i : Nat) (v : BitVec 96) : (k.setAcc i v).qsel = k.qsel := by
  unfold IkCore.setAcc IkCore.setBank
  split <;> rfl

/-- An accumulator after a write of one. -/
theorem setAcc_acc (k : IkCore) (i j : Nat) (v : BitVec 96) : (k.setAcc i v).acc j = if j = i then v else k.acc j := by
  by_cases h : j = i
  · simp [IkCore.setAcc, IkCore.acc, h]
  · have h' : i ≠ j := fun e => h e.symm
    simp [IkCore.setAcc, IkCore.acc, h, mget_mput_ne _ _ _ h']

@[simp] theorem setFlags_flags (k : IkCore) (f : BitVec 5) : (k.setFlags f).flags = f := by
  simp [IkCore.setFlags, IkCore.flags]

@[simp] theorem setFlags_g (k : IkCore) (f : BitVec 5) (r : Nat) : (k.setFlags f).g r = k.g r := by
  simp [IkCore.setFlags, IkCore.g]

@[simp] theorem setFlags_acc (k : IkCore) (f : BitVec 5) (i : Nat) : (k.setFlags f).acc i = k.acc i := by
  simp [IkCore.setFlags, IkCore.acc]

@[simp] theorem setFlags_qsel (k : IkCore) (f : BitVec 5) : (k.setFlags f).qsel = k.qsel := by
  unfold IkCore.setFlags IkCore.setBank
  split <;> rfl

@[simp] theorem sat_g (k : IkCore) (b : Bool) (r : Nat) : (k.sat b).g r = k.g r := by
  unfold IkCore.sat
  split <;> simp

@[simp] theorem sat_acc (k : IkCore) (b : Bool) (i : Nat) : (k.sat b).acc i = k.acc i := by
  unfold IkCore.sat
  split <;> simp

@[simp] theorem sat_qsel (k : IkCore) (b : Bool) : (k.sat b).qsel = k.qsel := by
  unfold IkCore.sat
  split <;> simp

/-- The flags after a clamp: SAT is set when it clamped (R538). -/
theorem sat_flags (k : IkCore) (b : Bool) : (k.sat b).flags = if b then k.flags ||| 16 else k.flags := by
  unfold IkCore.sat
  split <;> simp

@[simp] theorem moved_bank (k : IkCore) (cyc pc : Nat) : (k.moved cyc pc).bank = k.bank := rfl
@[simp] theorem moved_g (k : IkCore) (cyc pc r : Nat) : (k.moved cyc pc).g r = k.g r := rfl
@[simp] theorem moved_acc (k : IkCore) (cyc pc i : Nat) : (k.moved cyc pc).acc i = k.acc i := rfl
@[simp] theorem moved_flags (k : IkCore) (cyc pc : Nat) : (k.moved cyc pc).flags = k.flags := rfl
@[simp] theorem moved_qsel (k : IkCore) (cyc pc : Nat) : (k.moved cyc pc).qsel = k.qsel := rfl

@[simp] theorem movedTo_core (s : State) (c cyc pc : Nat) : (s.movedTo c cyc pc).core c = (s.core c).moved cyc pc := by
  unfold State.movedTo State.spend IkCore.moved
  simp only [core_setCore_self]
  split <;> simp

theorem movedTo_core_ne (s : State) {c d : Nat} (cyc pc : Nat) (h : d ≠ c) : (s.movedTo c cyc pc).core d = s.core d := by
  unfold State.movedTo State.spend
  rw [core_setCore_ne _ _ h, core_setCore_ne _ _ h]
  rfl

/-- The one way an instruction completes: its core can issue, it has no exception, and it stays inside the text. -/
theorem issue_ready {s : State} {c len : Nat} (h : Ready s c len) (cyc : Nat) (act : State → State) :
    s.issue c cyc len none act = act (s.movedTo c cyc ((s.core c).pc + len)) := by
  obtain ⟨h1, h2⟩ := h
  have h3 : ¬ (s.core c).textLen ≤ (s.core c).pc := by omega
  have h4 : ¬ (s.core c).textLen ≤ (s.core c).pc + len := by omega
  simp [State.issue, h1, h3, h4, State.movedTo]

/-- An exception of an instruction inside the text. -/
theorem issue_exc {s : State} {c : Nat} (h1 : s.canIssue c = true) (h2 : (s.core c).pc < (s.core c).textLen) (cyc len e : Nat)
    (act : State → State) : s.issue c cyc len (some e) act = s.coreFault c e := by
  have h3 : ¬ (s.core c).textLen ≤ (s.core c).pc := by omega
  simp [State.issue, h1, h3]

/-- A core that cannot issue does nothing. -/
theorem issue_idle {s : State} {c : Nat} (h : s.canIssue c = false) (cyc len : Nat) (exc : Option Nat) (act : State → State) :
    s.issue c cyc len exc act = s := by
  simp [State.issue, h]

/-- An instruction's cycles and its move of pc change only the cores and the shared clock. -/
theorem movedTo_eq (s : State) (c cyc pc : Nat) : ∃ l, s.movedTo c cyc pc = { s with ik := { s.ik with cyc := s.ik.cyc + cyc, cores := l } } := by
  have h (k1 k2 : IkCore) : ∃ l, (({ s with ik.cyc := s.ik.cyc + cyc } : State).setCore c k1).setCore c k2
      = { s with ik := { s.ik with cyc := s.ik.cyc + cyc, cores := l } } := ⟨_, rfl⟩
  exact h _ _

/-- A register change keeps the frame of an instruction, and no launch ends. -/
theorem coreMoved_setCore {s : State} {c : Nat} (cyc pc : Nat) {k' : IkCore} (h : BankOnly ((s.core c).moved cyc pc) k') :
    CoreMoved s ((s.movedTo c cyc pc).setCore c k') c cyc pc ∧ MemKept s ((s.movedTo c cyc pc).setCore c k') c
      ∧ k'.launchId = (s.core c).launchId := by
  obtain ⟨h1, h2, h3⟩ := h
  obtain ⟨l, hl⟩ := movedTo_eq s c cyc pc
  refine ⟨⟨?_, ?_, ?_, ?_, ?_, ?_⟩, ⟨?_, ?_⟩, ?_⟩
  · rw [hl]
    rfl
  · rw [hl]
    rfl
  · intro d hd
    rw [core_setCore_ne _ _ hd, movedTo_core_ne _ _ _ hd]
  · rw [core_setCore_self, h1]
    rfl
  · rw [core_setCore_self]
    exact h2
  · rw [core_setCore_self]
    exact h3
  · rw [core_setCore_self, h1]
    rfl
  · rw [hl]
    rfl
  · rw [h1]
    rfl

/-- An instruction after which the core's launch is what it was completes with the state it leaves. -/
theorem ran_same {s t : State} {c : Nat} (h : (t.core c).launchId = (s.core c).launchId) : s.ran c t = .next t := by
  unfold State.ran
  rw [h]
  cases (s.core c).launchId <;> simp

/-- What an instruction that only changes registers does when it completes. -/
theorem ran_issueReg {s : State} {c : Nat} (hr : Ready s c 4) (cyc : Nat) (f : IkCore → IkCore)
    (h : BankOnly ((s.core c).moved cyc ((s.core c).pc + 4)) (f ((s.core c).moved cyc ((s.core c).pc + 4)))) :
    ∃ t, s.ran c (s.issueReg c cyc none f) = .next t ∧ CoreMoved s t c cyc ((s.core c).pc + 4) ∧ MemKept s t c
      ∧ t.core c = f ((s.core c).moved cyc ((s.core c).pc + 4)) := by
  obtain ⟨h1, h2, h3⟩ := coreMoved_setCore cyc ((s.core c).pc + 4) h
  refine ⟨_, ?_, h1, h2, core_setCore_self _ _ _⟩
  unfold State.issueReg
  rw [issue_ready hr]
  simp only [movedTo_core]
  exact ran_same (by rw [core_setCore_self, h3])

/-- An instruction that gives rd a value. -/
theorem writesG_of {i : Instr} {s : State} {c cyc rd : Nat} {v : DWord} {w : IkCore → DWord} (hr : Ready s c 4)
    (he : exec i s = s.ran c (s.issueReg c cyc none (fun k => k.setG rd (w k))))
    (hv : w ((s.core c).moved cyc ((s.core c).pc + 4)) = v) : WritesG i s c cyc 4 rd v := by
  obtain ⟨t, h1, h2, h3, h4⟩ := ran_issueReg hr cyc (fun k => k.setG rd (w k)) (bankOnly_setG _ _ _)
  refine ⟨t, he.trans h1, h2, h3, ?_, ?_, ?_, ?_⟩
  · intro i
    simp [h4]
  · simp [h4]
  · simp [h4]
  · intro r
    rw [h4]
    simp only [setG_g, hv, moved_g]

/-- An instruction that writes the flags. -/
theorem writesFlags_of {i : Instr} {s : State} {c cyc : Nat} {v : BitVec 5} {w : IkCore → BitVec 5} (hr : Ready s c 4)
    (he : exec i s = s.ran c (s.issueReg c cyc none (fun k => k.setFlags (w k))))
    (hv : w ((s.core c).moved cyc ((s.core c).pc + 4)) = v) : WritesFlags i s c cyc v := by
  obtain ⟨t, h1, h2, h3, h4⟩ := ran_issueReg hr cyc (fun k => k.setFlags (w k)) (bankOnly_setFlags _ _)
  refine ⟨t, he.trans h1, h2, h3, ?_, ?_, ?_, ?_⟩
  · intro r
    simp [h4]
  · intro i
    simp [h4]
  · simp [h4]
  · simp [h4, hv]

/-- An instruction that gives an accumulator a value, clamped or not. -/
theorem writesAcc_of {i : Instr} {s : State} {c cyc ad : Nat} {v : BitVec 96} {sat : Prop} {w : IkCore → BitVec 96} {b : IkCore → Bool}
    (hr : Ready s c 4) (he : exec i s = s.ran c (s.issueReg c cyc none (fun k => (k.setAcc ad (w k)).sat (b k))))
    (hv : w ((s.core c).moved cyc ((s.core c).pc + 4)) = v)
    (hb : b ((s.core c).moved cyc ((s.core c).pc + 4)) = true ↔ sat) : WritesAcc i s c cyc ad v sat := by
  obtain ⟨t, h1, h2, h3, h4⟩ := ran_issueReg hr cyc (fun k => (k.setAcc ad (w k)).sat (b k)) (bankOnly_sat _ (bankOnly_setAcc _ _ _))
  refine ⟨t, he.trans h1, h2, h3, ?_, ?_, ?_, ?_, ?_⟩
  · intro r
    simp [h4]
  · simp [h4]
  · intro h
    simp [h4, sat_flags, hb.mpr h]
  · intro h
    have : b ((s.core c).moved cyc ((s.core c).pc + 4)) = false := by
      cases hh : b ((s.core c).moved cyc ((s.core c).pc + 4))
      · rfl
      · exact absurd (hb.mp hh) h
    simp [h4, sat_flags, this]
  · intro j
    rw [h4]
    simp only [sat_acc, setAcc_acc, hv, moved_acc]

end Sys2Proof.Machine
end

