-- ==== Sys2Proof/Tests/Slice0.lean ====
section
/-! SUPPORT. Tests of single commands, words of Ikiva against the tables of the spec, the well-formedness smoke, and for every
statement with hypotheses a concrete state and operands that meet them. -/

namespace Sys2Proof.Tests
open Sys2Proof Sys2Proof.Machine

set_option Elab.async false

/-! Ill-formed commands, one for each check of `Instr.wf`. -/

theorem test_wf_registerWrite_unaligned : (Instr.registerWrite 2 false 0).wf = false := by decide
theorem test_wf_registerWrite_wide_unaligned : (Instr.registerWrite 4 true 0).wf = false := by decide
theorem test_wf_registerWrite_too_wide : (Instr.registerWrite 4 false 0x100000000).wf = false := by decide
theorem test_wf_unmappedRead : (Instr.unmappedRead 1).wf = false := by decide
theorem test_wf_unmappedWrite : (Instr.unmappedWrite 1 0).wf = false := by decide
theorem test_wf_misalignedAccess : (Instr.misalignedAccess 4 2 false 0).wf = false := by decide
theorem test_wf_pairLowRead : (Instr.pairLowRead 4 false).wf = false := by decide
theorem test_wf_pairHighRead : (Instr.pairHighRead 0).wf = false := by decide
theorem test_wf_readingA : (Instr.readingA (List.replicate 17 0) 0 0).wf = false := by decide
theorem test_wf_readingB : (Instr.readingB (List.replicate 17 0) 0).wf = false := by decide
theorem test_wf_esrSample : (Instr.esrSample 0 (List.replicate 17 0)).wf = false := by decide
theorem test_wf_ikAdd_zeros : (Instr.ikAdd 0 0 0 0).wf = false := by decide
theorem test_wf_ikShi : (Instr.ikShi 0 0 0 3 0).wf = false := by decide
theorem test_wf_ikMfm : (Instr.ikMfm 0 0 4).wf = false := by decide
theorem test_wf_ikSend_mode : (Instr.ikSend 0 0 0 0 3).wf = false := by decide
theorem test_wf_ikSend_source : (Instr.ikSend 0 0 0 30 0).wf = false := by decide
theorem test_wf_ikRecv : (Instr.ikRecv 0 5 0).wf = false := by decide
theorem test_wf_ikLogev : (Instr.ikLogev 0 0 0 31).wf = false := by decide
theorem test_wf_ikDrd : (Instr.ikDrd 0 0 0 2).wf = false := by decide
theorem test_wf_descriptorFetched : (Instr.descriptorFetched 0 (List.replicate 65 0) true).wf = false := by decide
theorem test_wf_granuleArrived : (Instr.granuleArrived 0 0 (List.replicate 65 0) true).wf = false := by decide
theorem test_wf_registerWrite_wide : (Instr.registerWrite 8 true 0x100000000).wf = true := by decide

/-! Ikiva words written out from Tables 13.1 to 13.11: OP in bits 31 to 25 and the fields of its format below. -/

-- Table 13.4, format A: OP 0x00, rd 3, rs1 1, rs2 2, FN 0x001
theorem test_word_sub : decodeIkiva 0 0b0000000_00011_00001_00010_0000000001 0 = some (.ikSub 0 3 1 2) := by decide +kernel
-- R531: the word of zeros is ILLEGAL
theorem test_word_zero : decodeIkiva 0 0 0 = none := by decide +kernel
-- R531: CLZ with a nonzero rs2 field
theorem test_word_clz_rs2 : decodeIkiva 0 0b0000000_00011_00001_00010_0000100001 0 = none := by decide +kernel
-- Table 13.5, format I: the spec's own example puts ADDI at 0x0200_0000
theorem test_word_addi : decodeIkiva 0 (0x02000000 + 0b00001_00000_000000000000101) 0 = some (.ikAddi 0 1 0 5) := by decide +kernel
-- SHI selects SRA by IMM15[14:13] = 2, amount 63
theorem test_word_shi : decodeIkiva 0 0b0000101_00001_00010_10_0000000_111111 0 = some (.ikShi 0 1 2 2 63) := by decide +kernel
-- format IL: rd 5, and the literal word that follows
theorem test_word_litl : decodeIkiva 0 0b0001001_00101_00000000000000000000 0xFFFFFFFF = some (.ikLitl 0 5 0xFFFFFFFF) := by
  decide +kernel
-- Table 13.6, format L: LD g4, 8(g2) and SD g4, -8(g2)
theorem test_word_ld : decodeIkiva 0 0b0010110_00100_00010_000000000001000 0 = some (.ikLd 0 4 2 8) := by decide +kernel
theorem test_word_sd : decodeIkiva 0 0b0011011_00100_00010_111111111111000 0 = some (.ikSd 0 4 2 0x7FF8) := by decide +kernel
-- Table 13.7, format M: MACQ a1, g1, g2, the unused as field zero
theorem test_word_macq : decodeIkiva 0 0b0100000_001_000_00001_00010_000001001 0 = some (.ikMacq 0 1 1 2) := by decide +kernel
-- Table 13.8, format C: BEQ g1, g2, -2 words
theorem test_word_beq : decodeIkiva 0 0b0101000_00001_00010_111111111111110 0 = some (.ikBeq 0 1 2 0x7FFE) := by decide +kernel
-- Table 13.9: the words of NOP and RTE as the table gives them
theorem test_word_nop : decodeIkiva 0 0x60000000 0 = some (.ikNop 0) := by decide +kernel
theorem test_word_rte : decodeIkiva 0 0x60000001 0 = some (.ikRte 0) := by decide +kernel
-- Table 13.10, format Q: SEND g1, g2, g3 in MODE 1
theorem test_word_send : decodeIkiva 0 0b0111000_00001_00010_00011_01_00000000 0 = some (.ikSend 0 1 2 3 1) := by decide +kernel
-- Table 13.11: RLIM of rail 7, and GRADE with IMM8[7:3] not zero
theorem test_word_rlim : decodeIkiva 0 0b1000101_00001_00010_00000_00_00000111 0 = some (.ikRlim 0 1 2 7) := by decide +kernel
theorem test_word_grade_imm : decodeIkiva 0 0b1000000_00001_00010_00000_00_00001000 0 = none := by decide +kernel

/-! Witnesses: states and operands that meet the hypotheses of the statements, clause by clause. -/

/-- A die in Run that owns, the rest as at reset. -/
def active : State := { State.reset with tw.role := 3, isl.pkg := 0, isl.target := 0, isl.goal := 0, ph.loadOk := true }

/-- The value of register fields set in a state. -/
def put (s : State) (l : List (Fld × Nat)) : State := l.foldl (fun x e => x.wr e.1 e.2) s

/-- `active` with lane 0 on rail 0 of 100 A, its phase active at 50 A, and the rail as given. -/
def withRail (x : Rail) : State :=
  ((put active [(⟨Reg.PC_LANE_MAP 0, 3, 0, 15⟩, 0), (Reg.PC_PHASE_CFG_RATING 0, 100), (Reg.PC_RAIL_LIMIT_RATING 0, 90)]).setLane 0
    { active := true, amps := 500 }).setRail 0 x

/-- An ISN input at 0.850 V, which reads 50 A. -/
def isn50 : List (BitVec 16) := [8500]

/-- An aligned offset names a register that has no command and no effect of its own. -/
def plainReg (a : Nat) : Bool := match findReg a with
  | some (d, i, _) => writeRoutes.all (fun r => r.1 != d.base) && afterWrites.all (fun r => r.1 != d.base) && !userHeld d.base i
  | none => false

/-- The island that holds the register at an offset. -/
def islandOf (a : Nat) : Nat := match findReg a with
  | some (d, _, _) => d.isl
  | none => 8

theorem test_witness_HostAccessesComplete_write : plainReg Reg.GL_STATUS = true ∧ inAperture Reg.GL_STATUS = false
    ∧ Reaches active (islandOf Reg.GL_STATUS) := by decide +kernel

theorem test_witness_HostAccessesComplete_pair : pairLow (canonAddr (Reg.BG_UNATTR_LO)) = true
    ∧ pairLow (canonAddr Reg.BG_UNATTR_HI) = false ∧ canonAddr Reg.BG_UNATTR_HI = canonAddr Reg.BG_UNATTR_LO + 4
    ∧ (findReg Reg.BG_UNATTR_LO).isSome = true ∧ (findReg Reg.BG_UNATTR_HI).isSome = true ∧ active.noAccess = false
    ∧ active.inReset (islandOf Reg.BG_UNATTR_LO) = false
    ∧ ({ active with ob.pairLatch := [(0, Reg.BG_UNATTR_LO, 9)] } : State).ob.pairLatch.find?
        (fun x => x.1 == 0 && x.2.1 == canonAddr Reg.BG_UNATTR_HI - 4) = some (0, Reg.BG_UNATTR_LO, 9) := by decide +kernel

theorem test_witness_UndefinedOffsetsSetStatus : active.noAccess = false ∧ findReg 0x3FFFFFC = none ∧ inAperture 0x3FFFFFC = false
    ∧ StatusClear active ∧ ¬ StatusClear (active.wr Reg.GL_STATUS_UNMAPPED 1)
    ∧ findReg Reg.GL_STATUS ≠ none ∧ pairLow (canonAddr Reg.GL_STATUS) = false := by decide +kernel

theorem test_witness_PowerAndSupplyEventsComplete : (let s : State := { State.reset with ao.aoUp := false, ao.bootDone := false }
      s.ao.powered = true ∧ s.ao.aoUp = false) ∧ ({ State.reset with ao.bootDone := false } : State).ao.aoUp = true
    ∧ State.reset.isl.pkg ≠ 3 ∧ ({ State.reset with edge.supplyHold := true } : State).edge.supplyHold = true
    ∧ State.reset.edge.supplyHold = false ∧ State.reset.edge.vdd33Low = false ∧ State.reset.edge.pfailPinLow = false
    ∧ (let s : State := { State.reset with isl.coldRel := true, edge.supplyGood := 14 }
      s.isl.coldRel = true ∧ bitOf s.edge.supplyGood 0 = false) := by decide +kernel

theorem test_witness_ClockAndPinEventsComplete : State.reset.th.trip = false ∧ bitOf State.reset.tw.peerFlags 4 = false
    ∧ State.reset.inReset 4 = false ∧ State.reset.inReset 0 = false ∧ active.owner = true ∧ active.fabRuns = true := by decide +kernel

theorem test_witness_ResetCommandsComplete : active.isl.pkg ≠ 3 ∧ ({ active with isl.pkg := 3 } : State).isl.pkg = 3
    ∧ Reaches active 7 ∧ (∀ n < 6, bitsOf (0x5C000000 + 2 ^ n) 31 24 = 0x5C ∧ bitsOf (0x5C000000 + 2 ^ n) 5 0 = 2 ^ n)
    ∧ ((active.wr Reg.SE_STAT_DEBUG_UNLOCKED 1).writeFields Reg.IS_RESET_REQ 0x5C000010).debugOpen = true
    ∧ active.isl.hostDown = false ∧ active.inReset 5 = false ∧ active.edge.refclkOk = true
    ∧ ({ active with isl.hostDown := true } : State).isl.hostDown = true
    ∧ (let s : State := { State.reset with isl.wrPending := true, isl.wrWait := true, isl.releaseQ := [1] }
      s.isl.wrPending = true ∧ s.owner = false ∧ s.isl.wrWait = true ∧ s.isl.releaseQ = 1 :: [] ∧ s.ao.bootDone = true
      ∧ s.edge.supplyHold = false) ∧ (∃ row : Fin 20, 0 ∈ crossingTo (row + 1)) := by decide +kernel

theorem test_witness_PackageAndBootCommandsComplete : Reaches active 7 ∧ bitsOf 0x5C000005 31 24 = 0x5C ∧ bitOf 0x5C000005 2 = true
    ∧ (let s : State := { active with isl.inTrans := true, isl.pkg := 1 }
      s.owner = true ∧ s.isl.inTrans = true ∧ s.isl.pkg = 1 ∧ s.isl.target = 0 ∧ s.isl.goal = 0)
    ∧ (let s : State := { active with isl.inTrans := true, isl.pkg := 2, isl.target := 3 }
      s.owner = true ∧ s.isl.inTrans = true ∧ s.isl.pkg = 2 ∧ s.isl.target = 3 ∧ s.lg.tail = false)
    ∧ (let s : State := { active with isl.inTrans := true, isl.target := 1 }
      s.owner = true ∧ s.isl.inTrans = true ∧ s.isl.pkg = 0 ∧ s.isl.target = 1)
    ∧ (active.wr Reg.IS_WAKE_TIMER_SECONDS 5).rf Reg.IS_WAKE_TIMER_SECONDS ≠ 0
    ∧ (let s : State := { active with isl.saving := 1 }
      bitOf s.isl.saving 0 = true ∧ bitOf s.isl.saveQueued 0 = false)
    ∧ (let s : State := { active with ph.judged := false }
      s.inReset 1 = false ∧ s.ph.judged = false) := by decide +kernel

theorem test_witness_KeyedRequestsNeedKeyAndOneBit : Reaches active 7 ∧ bitsOf 1 31 24 ≠ 0x5C
    ∧ 1 < ((List.range 6).filter (fun n => bitOf 0x5C000003 n)).length := by decide +kernel

theorem test_witness_WarmResetDeferral : State.reset.owner = false ∧ State.reset.isl.wrPending = false
    ∧ State.reset.isl.wrWait = false ∧ State.reset.isl.coldRel = false ∧ State.reset.ao.bootDone = true
    ∧ State.reset.isl.inReset &&& 0x7D ≠ 0x7D ∧ State.reset.isl.pkg ≠ 3 ∧ Reaches State.reset 7
    ∧ bitsOf 0x5C000002 31 24 = 0x5C ∧ bitsOf 0x5C000002 5 0 = 2 := by decide +kernel

theorem test_witness_RefusedResetIsRecorded : Reaches active 7 ∧ bitsOf 0x5C000701 31 24 = 0x5C ∧ bitsOf 0x5C000701 5 0 = 1
    ∧ bitsOf 0x5C000701 10 8 = 7 ∧ active.inReset 1 = false ∧ active.inReset 0 = false ∧ active.owner = true
    ∧ ((withRail { mode := 2 }).writeFields Reg.IS_RESET_REQ 0x5C000101).anyRailOn = true
    ∧ (active.writeFields Reg.IS_RESET_REQ 0x5C000010).debugOpen = false := by decide +kernel

theorem test_witness_AutoRunStart : (let s : State := { active with isl.autoArmed := true, isl.pkg := 2, ax.seqDone := true }
      s.isl.autoArmed = true ∧ s.owner = true ∧ s.isl.pkg = 2 ∧ s.isl.inTrans = false ∧ s.runMissing = none ∧ s.unmet = 0) := by
  decide +kernel

theorem test_witness_RegulationCommandsComplete_cycle : (let s := withRail { mode := 2 }
      s.regOn = true ∧ s.laneRail 0 = some 0 ∧ (s.lane 0).active = true ∧ (s.rail 0).mode ∈ [1, 2] ∧ (s.rail 0).handback = false
      ∧ (s.rail 0).discharge = false)
    ∧ (let s := withRail { mode := 2, discharge := true }
      s.regOn = true ∧ (s.rail 0).mode ≠ 6 ∧ (s.rail 0).discharge = true) := by decide +kernel

theorem test_witness_RegulationCommandsComplete_total : (let w := (put (withRail { mode := 2 }) [(Reg.PC_RAIL_SHED_I_ADD 0, 1)]).sample 0 isn50
      w.regOn = true ∧ (w.rail 0).mode = 2 ∧ (10 * ((w.staying 0).length * w.rf (Reg.PC_RAIL_SHED_I_ADD 0)) : Nat) < (w.rail 0).total)
    ∧ (let w := (((put (withRail { mode := 2 }) [(⟨Reg.PC_LANE_MAP 0, 7, 4, 15⟩, 0), (Reg.PC_RAIL_SHED_I_SHED 0, 90),
          (Reg.PC_RAIL_CFG_MIN_ACTIVE 0, 1)]).setLane 1
          { active := true })).sample 0 isn50
      (w.rail 0).mode = 2 ∧ w.allActive 0 = false ∧ w.rf (Reg.PC_RAIL_CFG_MIN_ACTIVE 0) < (w.staying 0).length
      ∧ (w.rail 0).total < (10 * (((w.staying 0).length - 1) * w.rf (Reg.PC_RAIL_SHED_I_SHED 0)) : Nat))
    ∧ (let w := (put (withRail { mode := 2 }) [(Reg.PC_RAIL_LIMIT_POLICY_LIMIT 0, 20)]).sample 0 isn50
      (w.rail 0).mode ∈ [1, 2, 3, 6] ∧ (10 * (w.limit32 0).1 : Nat) ≤ 32 * (w.rail 0).total ∧ (w.rail 0).limiting = false
      ∧ (w.rail 0).hold = false)
    ∧ (let w := (withRail { mode := 2 }).sample 0 [6100]
      (w.rail 0).mode = 2 ∧ 100 * (w.rail 0).total < (30 * w.derated 0 : Nat) ∧ w.allActive 0 = false)
    ∧ ((withRail { mode := 2, hold := true }).sample 0 isn50 |>.rail 0).hold = true := by decide +kernel

theorem test_witness_RegulationCommandsComplete_burst : (let w := (withRail { mode := 3 }).sample 0 isn50
      w.regOn = true ∧ (let x := w.noteVolts 0 100
      x.owner = true ∧ (x.rail 0).mode = 3 ∧ (60 * x.derated 0 : Nat) < 100 * (x.rail 0).total))
    ∧ (let x := ((withRail { mode := 3, base := { frm := 8000, goal := 8000 } }).sample 0 isn50).noteVolts 0 1000
      (x.rail 0).mode = 3 ∧ 5 * 1000 + 160 < x.setpoint 0)
    ∧ (let x := (((withRail { mode := 3 }).setDom 0 { burstWait := true }).sample 0 isn50).noteVolts 0 1000
      (x.rail 0).mode = 3 ∧ (x.dom 0).burstWait = true)
    ∧ (let w := (withRail { mode := 3, base := { frm := 8000, goal := 8000 } }).noteVolts 0 1000
      (w.rail 0).mode = 3 ∧ 5 * 1000 + 60 ≤ w.setpoint 0) := by decide +kernel

theorem test_witness_RegulationCommandsComplete_rest : (let w := (withRail { mode := 1, base := { frm := 8000, goal := 8000 } }).noteVolts 0 1600
      (w.rail 0).mode = 1 ∧ 5 * 1600 ≤ w.setpoint 0 + 200 ∧ w.setpoint 0 ≤ 5 * 1600 + 200)
    ∧ (let s := (withRail { mode := 2 }).setDom 0 { strobe := true }
      (s.dom 0).strobe = true ∧ (s.rail 0).mode = 2 ∧ (s.rail 0).hold = false ∧ (s.rail 0).handback = false)
    ∧ (withRail {}).laneRail 0 ≠ none ∧ bitOf (withRail {}).ph.segLost 0 = false
    ∧ (let s := withRail { mode := 2, base := { frm := 8000, goal := 8000 } }
      (s.rail 0).mode ∈ [1, 2, 3] ∧ (s.rail 0).avs < s.setpointGoal 0)
    ∧ Reaches active 1 ∧ bitOf 4 2 = true := by decide +kernel

theorem test_witness_PhaseControllerFaultsComplete : (withRail { mode := 1 }).regOn = true ∧ ((withRail { mode := 1 }).rail 0).mode = 1
    ∧ (99 : Nat) < 100 ∧ (4000 : Nat) < 4001
    ∧ (let w := (withRail { mode := 2, base := { frm := 8000, goal := 8000 } }).noteVolts 0 1399
      (w.rail 0).mode = 2 ∧ 5 * 1399 + 1000 < w.setpoint 0)
    ∧ (let w := (withRail { mode := 2, base := { frm := 8000, goal := 8000 } }).noteVolts 0 2000
      (w.rail 0).mode ≠ 0 ∧ (w.rail 0).mode ≠ 5 ∧ w.setpoint 0 + 400 + 50 * w.rf (Reg.PC_RAIL_CFG_OV_MARGIN 0) < 5 * 2000)
    ∧ (let w := (withRail { mode := 2, discharge := true, base := { frm := 8000, goal := 8000 } }).noteVolts 0 1600
      (w.rail 0).discharge = true ∧ 5 * 1600 ≤ w.setpoint 0)
    ∧ (let w := (put (withRail { mode := 2 }) [(Reg.PC_RAIL_LIMIT_POLICY_LIMIT 0, 20)]).sample 0 isn50
      (w.rail 0).mode ≠ 0 ∧ (w.rail 0).mode ≠ 5 ∧ (50 * (w.limit32 0).1 : Nat) < 128 * (w.rail 0).total)
    ∧ (let w := (((put (withRail { mode := 2 }) [(⟨Reg.PC_LANE_MAP 0, 7, 4, 15⟩, 0), (Reg.PC_PHASE_CFG_RATING 1, 100)]).setLane 1
          { active := true }).setLane 0 { active := true, bal := 64 }).sample 0 [10000, 6000]
      w.laneRail 0 = some 0 ∧ (w.lane 0).active = true ∧ (w.lane 0).bal = 64
      ∧ 10 * w.rf (Reg.PC_PHASE_CFG_RATING 0) < 4 * (w.shareErr 0 0).natAbs)
    ∧ bitOf ({ active with ph.locating := 1 } : State).ph.locating 0 = true
    ∧ Reaches active 1 ∧ bitsOf 0x5C000001 31 24 = 0x5C ∧ bitOf 0x5C000001 0 = true
    ∧ (((active.setLane 0 { mark := 1 }).writeFields Reg.PC_PHASE_CLR 0x5C000000).lane 0).mark = 1 := by decide +kernel

theorem test_witness_RegulationFaultHoldsTheRail : ((withRail { mode := 5 }).rail 0).mode = 5
    ∧ (let s := withRail { mode := 6, base := { frm := 8000, goal := 8000 } }
      s.regOn = true ∧ (s.rail 0).mode = 6 ∧ 5 * 1399 + 1000 < s.setpoint 0) := by decide +kernel

/-- A state in which tile 3's endpoint is as given and die 0's port has its traffic on a link that is up. -/
def withEnd (e : Endpoint) : State := ({ active with sl.ports := [(0, { traffic := 1, up := true })] } : State).setEndp 3 e

theorem test_witness_EndpointTransitionsComplete : ((withEnd { st := 1 }).endp 3).st = 1
    ∧ (let e := (withEnd { st := 4, allow := 5 }).endp 3
      e.st = 4 ∧ (5#8).toNat ≤ e.allow ∧ (4#8).toNat < e.allow)
    ∧ (let e := (withEnd { st := 2, out := some { seq := 7 } }).endp 3
      e.st = 2 ∧ e.out = some { seq := 7 } ∧ e.takes 3 0x81 (mkMsg 0x81 0 3 [(3, 1, 7)]) = true
      ∧ mByte (mkMsg 0x81 0 3 [(3, 1, 7)]) 3 = 7 ∧ e.takes 3 0x83 (mkMsg 0x83 0 3 []) = true)
    ∧ (let e := (withEnd { st := 5, heldCode := nakShed }).endp 3
      e.takes 3 0x84 (mkMsg 0x84 0 3 [(4, 1, 0xFF)]) = true ∧ e.st = 5
      ∧ bitOf (mByte (mkMsg 0x84 0 3 [(4, 1, 0xFF)]) 4) (clearsBit e.heldCode) = true ∧ e.heldCode = nakShed)
    ∧ (let e := (withEnd { st := 4 }).endp 3
      e.takes 3 0x85 (mkMsg 0x85 0 3 []) = true ∧ e.takes 3 0x8B (mkMsg 0x8B 0 3 []) = true ∧ e.st ≠ 0)
    ∧ ((withEnd {}).endp 3).st = 0 ∧ (withEnd {}).portUp ((withEnd {}).tileDie 3) = true
    ∧ ((withEnd { st := 3 }).endp 3).st = 3 := by decide +kernel

theorem test_witness_EndpointMessagesComplete : (let e := (withEnd { st := 1, configured := true, caps := 3, sensors := 4 }).endp 3
      e.takes 3 0x86 (mkMsg 0x86 0 3 []) = true
      ∧ e.takes 3 0x87 (mkMsg 0x87 3 0 [(4, 1, 1)]) = true ∧ e.inMask (mkMsg 0x87 3 0 [(4, 1, 1)]) = true
      ∧ e.takes 3 0x88 (mkMsg 0x88 1 0 [(4, 1, 1)]) = true ∧ e.takes 3 0x89 (mkMsg 0x89 0 3 [(4, 1, 1)]) = true
      ∧ bitOf e.caps 0 = true ∧ e.takes 3 0x8A (mkMsg 0x8A 0 3 []) = true ∧ (3 : Fin 4).val < e.sensors
      ∧ mget none e.temps 3 = none ∧ bitOf e.caps 1 = true ∧ e.droopAt = none)
    ∧ (mget {} ((withEnd { backs := [(1, { waits := true })] }).endp 3).backs 1).waits = true
    ∧ ((withEnd {}).port 0).traffic = 1 ∧ ((withEnd {}).port 1).traffic ≠ 1 := by decide +kernel

theorem test_witness_MgrantIsAcceptedByMatch : (let e := (withEnd { st := 2, out := some { grp := 9 } }).endp 3
      e.takes 3 0x82 (mkMsg 0x82 0 3 [(12, 2, 9)]) = true ∧ e.st = 2 ∧ e.out = some { grp := 9 }
      ∧ mPair (mkMsg 0x82 0 3 [(12, 2, 9)]) 12 % 4096 = 9 ∧ mPair (mkMsg 0x82 0 3 [(12, 2, 8)]) 12 % 4096 ≠ 9
      ∧ e.withdrawn = []) := by decide +kernel

theorem test_witness_EndpointEventsNotListed : ((withEnd { st := 5 }).endp 3).st ≠ 1 ∧ ((withEnd { st := 5 }).endp 3).st ≠ 4
    ∧ ((withEnd {}).endp 3).st < 2 ∧ ((withEnd {}).endp 3).out = none ∧ ((withEnd {}).endp 3).withdrawn = [] := by decide +kernel

/-- A state in which link 3 is as given. -/
def withLink (x : Link) : State := active.setLink 3 x

theorem test_witness_SluiceCommandsComplete : (withLink { st := 1 }).inReset 2 = false ∧ ((withLink { st := 1 }).link 3).st = 1
    ∧ (withLink { st := 1 }).edge.refclkOk = true ∧ (put (withLink {}) [(Reg.SL_LINK_CTL_ENABLE, 8)]).linkOn 3 = true
    ∧ ((withLink { st := 2 }).link 3).st = 2 ∧ flitCrcOk 1 = false
    ∧ (∀ ty < 8, 1 ≤ ty → mByte (mkMsg ty 0 3 [(3, 1, 1), (4, 1, 5), (5, 2, 9)]) 0 = ty)
    ∧ (∀ ty ∈ [1, 3, 4, 7], (let m := mkMsg ty 0 3 [(3, 1, 1), (4, 1, 5), (5, 2, 9)]
      let s := withLink { st := 2 }
      (s.link 3).intake.contains m = false ∧ s.sl.held.contains (3, m) = false ∧ (s.link 3).intake.length < 256
      ∧ s.queueLen (mTile m) < 16 ∧ s.ob.halted = false))
    ∧ (withLink { st := 2 }).badBytes (mkMsg 5 0 3 []) = [] ∧ (withLink { st := 2 }).badBytes (mkMsg 6 0 3 []) = []
    ∧ ((withLink { st := 2 }).noteAccept (mkMsg 1 0 3 [(4, 1, 5), (5, 2, 9)])).badBytes (mkMsg 1 0 3 [(4, 1, 5), (5, 2, 9)]) = []
    ∧ ((withLink { st := 2 }).noteAccept (mkMsg 2 0 3 [])).badBytes (mkMsg 2 0 3 []) = []
    ∧ ((withLink { st := 2 }).noteAccept (mkMsg 3 0 3 [(3, 1, 1)])).badBytes (mkMsg 3 0 3 [(3, 1, 1)]) = []
    ∧ ((withLink { st := 2 }).noteAccept (mkMsg 4 0 3 [])).badBytes (mkMsg 4 0 3 []) = []
    ∧ ((withLink { st := 2 }).noteAccept (mkMsg 7 0 3 [])).badBytes (mkMsg 7 0 3 []) = []
    ∧ ((active.setTile 3 { probe := some (1, 2) }).tile 3).probe ≠ none ∧ Reaches active 2 ∧ bitOf 0x1000000 24 = true := by
  decide +kernel

theorem test_witness_SluiceCommandsComplete_held : (let s := active.setTile 3 { isOpen := true, part := 2, held := some {} }
      3 ∈ s.partTiles 2 ∧ (s.tile 3).held ≠ none) := by decide +kernel

theorem test_witness_AdmissionCommandsComplete : active.friRuns = true
    ∧ (let s : State := { active with ad.rounds := [(5, { arrived := [(3, 1)], preds := [(2, 7)] })] }
      (s.round 5).arrived ≠ [] ∧ (∃ e ∈ (s.round 5).preds, e.1 = 2)
      ∧ (put s [(Reg.AD_PB_CFG2_PB_MIN_A 2, 0)]).rf (Reg.AD_PB_CFG2_PB_MIN_A 2) * 1000 ≤ s.parked 5 2 * 4
      ∧ (∀ b ∈ (s.dom 2).boosts, b.grp = 5 → b.withdrawing = true))
    ∧ (∃ b ∈ ((active.setDom 2 { boosts := [{ grp := 5 }] }).dom 2).boosts, b.grp = 5 ∧ b.withdrawing = false ∧ b.released = false)
    ∧ ((active.setDom 2 { step := 1 }).dom 2).step = 1 ∧ ((active.setDom 2 { step := 2 }).dom 2).step = 2
    ∧ (let s := (put ((withRail { limiting := true }).setDom 0 { target := 3 }) [(Reg.AD_GR_CFG_LIMSTEP_EN 0, 1)])
      s.rb (Reg.AD_GR_CFG_LIMSTEP_EN 0) = true ∧ (s.rail 0).limiting = true ∧ 0 < (s.dom 0).target)
    ∧ Reaches active 0 ∧ bitOf 0x80000000 31 = true := by decide +kernel

theorem test_witness_FloodgateFiresOnlyWhenArmed : active.inReset 0 = false
    ∧ (let s := put (withRail { mode := 2 }) [(Reg.AD_FG_CFG_FG_ENABLE 0, 1)]
      (s.rail 0).mode = 2 ∧ s.rb (Reg.AD_FG_CFG_FG_ENABLE 0) = true ∧ (s.rail 0).hold = false ∧ (s.rail 0).handback = false
      ∧ (s.dom 0).strobe = false ∧ (s.rail 0).strobeWaits = false)
    ∧ (withRail { mode := 2, base := .still 7500 }).fgDetects 0 [1500, 1464, 1464] = true
    ∧ (withRail { mode := 2, base := .still 7500 }).fgDetects 0 [1500, 1464, 1465] = false
    ∧ ((active.setDom 0 { strobe := true }).dom 0).strobe = true
    ∧ (let s := withRail { mode := 2, strobeWaits := true }
      (s.rail 0).hold = false ∧ (s.rail 0).strobeWaits = true ∧ s.regOn = true) ∧ State.reset.regOn = false := by decide +kernel

theorem test_witness_AuxiliaryCommandsComplete : Reaches active 1 ∧ bitsOf 0x5C080000 31 24 = 0x5C ∧ bitsOf 0x5C080000 23 16 = 8
    ∧ bitsOf 0x5C040000 23 16 = 4 ∧ (active.writeFields Reg.AX_CTL 0x5C040000).anyRailOn = false
    ∧ bitsOf 0x5C020003 23 16 = 2 ∧ (((active.setAux 3 { st := 5 }).writeFields Reg.AX_CTL 0x5C020003).aux (bitsOf 0x5C020003 4 0)).st = 5
    ∧ bitsOf 0x5C800000 23 16 = 16 * 2 ^ 3
    ∧ (let s := put (active.setAux 3 { st := 1 }) [(Reg.AX_CH_CFG1_DEP0 3, 31), (Reg.AX_CH_CFG1_DEP1 3, 31)]
      (s.aux 3).st = 1 ∧ (s.auxGrp 0).stopped = false ∧ (∀ d ∈ s.auxPreds 3, (s.aux d).st = 4))
    ∧ (let w := (((active.setAux 3 { st := 2 }).agvRead 0 (auxMv 4000)).auxRead 3 (some (auxMv 4000)) none)
      (w.aux 3).st = 2 ∧ w.rf (Reg.AX_CH_CFG2_PG_PCT 3) * auxMv 4000 ≤ 100 * auxMv 4000) := by decide +kernel

theorem test_witness_AuxiliaryCommandsComplete_groups : (let w := active.agvRead 0 (auxMv 0)
      (w.auxGrp 0).sag = false ∧ (w.auxGrp 0).stopped = false ∧ w.sagSpent 0 = false
      ∧ 100 * auxMv 0 < w.rf (Reg.AX_GRP_CFG_SAG_PCT 0) * w.rf (Reg.AX_GRP_CFG_AGV_NOM 0))
    ∧ (let w := (active.setAux 3 { st := 3, paused := 3 * msec }).agvRead 0 (auxMv 0)
      (w.auxGrp 0).stopped = false ∧ w.sagSpent 0 = true)
    ∧ (let w := (active.setAuxGrp 0 { sag := true }).agvRead 0 (auxMv 4095)
      (w.auxGrp 0).sag = true ∧ (w.rf (Reg.AX_GRP_CFG_SAG_PCT 0) + 2) * w.rf (Reg.AX_GRP_CFG_AGV_NOM 0) ≤ 100 * auxMv 4095)
    ∧ (let s := put active [(Reg.AX_GRP_CFG2_GRP_WARN 0, 5), (Reg.AX_CH_CFG0_ISCALE 0, 10)]
      (s.auxGrp 0).stopped = false ∧ s.rf (Reg.AX_GRP_CFG2_GRP_WARN 0) ≤ s.grpAmps 0 [4095])
    ∧ (let w := (active.setAux 3 { st := 6, offAt := some 0 }).auxRead 3 (some (auxMv 0)) none
      (w.aux 3).offAt = some 0 ∧ (w.aux 3).st = 6 ∧ 10 * auxMv 0 < w.rf (Reg.AX_GRP_CFG_AGV_NOM 0)) := by decide +kernel

theorem test_witness_AuxiliaryFaultsComplete : active.inReset 1 = false ∧ ((active.setAux 3 { st := 2 }).aux 3).st = 2
    ∧ (let s := put (active.setAux 3 { st := 4 }) [(Reg.AX_CH_CFG0_ISCALE 3, 10), (Reg.AX_CH_CFG0_RUN_LIM 3, 1)]
      let w := s.auxRead 3 none (some (s.auxMa 3 4095))
      (w.aux 3).st = 4 ∧ (w.auxGrp 0).sag = false ∧ w.rf (Reg.AX_CH_CFG0_RUN_LIM 3) * 500 < s.auxMa 3 4095)
    ∧ (let w := ((active.setAux 3 { st := 4 }).agvRead 0 (auxMv 4095)).auxRead 3 (some (auxMv 0)) none
      (w.aux 3).st = 4 ∧ (w.auxGrp 0).sag = false ∧ 100 * auxMv 0 < (w.rf (Reg.AX_CH_CFG2_PG_PCT 3) - 5) * auxMv 4095) := by decide +kernel

/-- `active` with a module of 4 cells and the reservoir as given. -/
def withRes (x : Reservoir) : State :=
  { put active [(Reg.RV_MOD_CFG0_CELLS, 4), (Reg.RV_MOD_CFG0_IMAX, 10), (Reg.RV_MOD_CFG1_SHUNT, 100)] with rv := x }

theorem test_witness_ReservoirCommandsComplete : State.reset.inReset 1 = false ∧ convOff (withRes {}).rv.mode = true
    ∧ (withRes {}).rvCells ≠ 0
    ∧ (let s := withRes { a := { cells := [1000, 1000, 1000, 1000], stack := 4000 } }
      (∀ k < 4, ((cellMv (([20480, 20480, 20480, 20480] : List (BitVec 16)).getD k 0) : Nat) : Int) = s.rv.a.cell (k + 1))
      ∧ s.rv.a.stack = stackOf 4000 ∧ s.rv.openTaps = 0 ∧ s.owner = true)
    ∧ (let s : State := { withRes {} with cb.shed := true }
      s.shedOn = true ∧ s.rv.shed = false) ∧ (withRes { shed := true }).shedOn = false ∧ (withRes { shed := true }).rv.shed = true
    ∧ ({ State.reset with isl.inReset := 2 } : State).inReset 1 = true ∧ ({ State.reset with isl.inReset := 1 } : State).inReset 0 = true := by
  decide +kernel

theorem test_witness_ReservoirModesAndCausesComplete : (let s := withRes { mode := 3 }
      convOff s.rv.mode = false ∧ 25 * s.rf Reg.RV_MOD_CFG0_IMAX < 2 * (s.rvisDa 100000).natAbs
      ∧ 2 * s.rf Reg.RV_MOD_CFG0_IMAX ≤ (s.rvisDa 100000).natAbs)
    ∧ (let s := withRes { causes := 0x1FF, disOpen := true, preTimeout := true }
      (∀ c ∈ [2, 3, 5, 7, 8], bitOf s.rv.causes c = true) ∧ s.rv.disOpen = true ∧ s.rv.latched = false ∧ s.rv.preTimeout = true)
    ∧ (withRes { mode := 1 }).checkItem = some (0, 0)
    ∧ (let s := withRes { mode := 1, checkClean := 3, therms := [(0, { broken := false }), (1, { broken := false })], a := { cells := [1000, 1000, 1000, 1000], stack := 4000 } }
      s.rv.mode = 1 ∧ s.checkItem = none)
    ∧ (withRes { mode := 3, therms := [(0, { temp := 25, broken := false }), (1, { temp := 25, broken := false })] }).wearOk = true
    ∧ (withRes { mode := 2 }).rv.mode = 2 ∧ Reaches active 1 ∧ bitsOf 0x5C000004 3 0 = 4 ∧ bitsOf 0x5C000004 31 24 = 0x5C := by decide +kernel

theorem test_witness_ThermalCommandsComplete : active.inReset 0 = false ∧ active.owner = true
    ∧ active.present 0x20000 = true ∧ (put active [(Reg.TH_I3C_CFG_ENABLE 0, 1)]).present 0x30000 = true
    ∧ (active.setTile 3 { isOpen := true, sensors := 2 }).present (4 * 3 + 1) = true
    ∧ (let s : State := { active with th.readings := [(0x20000, { seen := true, medAt := some 1240 }), (0x20001, { seen := true, code := 640 }),
        (0x20002, { seen := true, code := 640 })] }
      s.stuckMedian 0x20000 = some 1280 ∧ (s.sensor 0x20000).medAt = some 1240 ∧ s.sensorOk 0x20000 = true ∧ 40 ≤ ((1280 : Int) - 1240).natAbs)
    ∧ (let s : State := { active with th.readings := [(0x20000, { broken := true })] }
      s.present 0x20000 = true ∧ (s.sensor 0x20000).broken = true) := by decide +kernel

theorem test_witness_ThermalCommandsComplete_stop : (let s := active.setZone 0x10 { pinned := true }
      (s.zone 0x10).pinned = true ∧ 4 * (s.dieShare 0).1 ≤ (s.dieShare 0).2)
    ∧ ({ active with th.stop := 2 } : State).th.stop = 2 ∧ ({ active with th.stop := 3 } : State).th.stop = 3
    ∧ ({ active with th.stop := 4 } : State).th.stop = 4
    ∧ (let s : State := { active with th.stop := 1 }
      1 ≤ s.th.stop ∧ s.th.stop ≤ 4 ∧ s.pkgProj.1 = none)
    ∧ Reaches active 7 ∧ Reaches active 0 ∧ bitOf 2 1 = true := by decide +kernel

theorem test_witness_AoTripLatchesAtThresh : active.th.trip = false ∧ active.threshCode ≤ (0x3FE#10).toNat
    ∧ (0#10).toNat < active.threshCode ∧ ({ active with th.trip := true } : State).th.trip = true := by decide +kernel

theorem test_witness_BudgetCommandsComplete : active.friRuns = true
    ∧ (active.measured * 100 ≤ active.bPkg * (100 + active.rf Reg.BG_PKG_CFG3_DUTY_MARGIN)
      ∧ active.bPkg * (100 - active.rf Reg.BG_PKG_CFG3_DUTY_MARGIN) ≤ active.measured * 100)
    ∧ active.inReset 0 = false ∧ Reaches active 0 ∧ bitOf 2 1 = true ∧ bitOf 2 31 = false ∧ bitOf 0x80000000 31 = true
    ∧ (active.writeFields (Reg.BG_PART_CFG1 0) 0).tableBad 0 = none
    ∧ ((put active [(Reg.BG_PART_CFG0_FLOOR 0, 5), (Reg.BG_PART_CFG0_CEILING 0, 4)]).writeFields (Reg.BG_PART_CFG1 0) 0x80000000).tableBad 0
        = some (0, 1, 4)
    ∧ ((active.setTile 3 { held := some {} }).tile 3).held = some {} := by decide +kernel

/-- `active` with queue 25 enabled, of depth 1, read by core 2, and the messages given. -/
def withQueue (l : List QMsg) : State :=
  { put active [(Reg.ME_QCFG_ENABLE 25, 1), (Reg.ME_QCFG_READER 25, 2), (Reg.ME_QCFG_DEPTH 25, 1), (Reg.ME_QCFG_DISPATCH 25, 0)] with me.queues := [(25, l)] }

theorem test_witness_MessageEngineCommandsComplete : Reaches active 3 ∧ (withQueue [{}]).rb (Reg.ME_QCFG_DISPATCH 25) = false
    ∧ (withQueue [{}]).qReader 25 = 2 ∧ (withQueue [{}]).qMsgs 25 = {} :: [] ∧ (withQueue []).qMsgs 25 = []
    ∧ (let s : State := { put active [(Reg.ME_GRP0_KIND 7, 2), (Reg.ME_GRP1_TIMEOUT 7, 1)] with me.rounds := [(7, { arrivals := 1 })] }
      s.rf (Reg.ME_GRP0_KIND 7) = 2 ∧ 0 < (mget ({} : Round) s.me.rounds 7).arrivals ∧ s.rf (Reg.ME_GRP1_TIMEOUT 7) ≠ 0)
    ∧ (let s : State := { put (withQueue []) [(Reg.ME_GRP0_TARGET 7, 25)] with me.rounds := [(7, { results := [({}, 1, 99)] })] }
      (mget ({} : Round) s.me.rounds 7).results = [({}, 1, 99)]
      ∧ (sendTo 25 0x40 && s.rb (Reg.ME_QCFG_ENABLE 25) && s.qAccepts 25 false && s.qReady 25) = true ∧ s.rf (Reg.ME_GRP0_TARGET 7) = 25)
    ∧ (sendTo 20 0x40 && active.rb (Reg.ME_QCFG_ENABLE 20) && active.qAccepts 20 false && active.qReady 20) = false := by decide +kernel

theorem test_witness_RefusedPopRemovesNothing : Reaches active 3
    ∧ (put (withQueue [{}]) [(Reg.ME_QCFG_DISPATCH 25, 1)]).rb (Reg.ME_QCFG_DISPATCH 25) = true ∧ (withQueue [{}]).qReader 25 ≠ 8 := by
  decide +kernel

/-- The bytes of a Vexurn frame, with its FCS. -/
def frame (ty cls dst src : Nat) (body : List Nat) : List Byte :=
  let head := [0x03, 0, 0, 0, 0x88, 0xB5, 0, 0, 0, 0, 0, 0, 0x88, 0xB5, 1, ty, cls, 9] ++ leBytes 4 dst ++ leBytes 4 src
    ++ leBytes 2 body.length ++ [0, 0]
  let l := head ++ body ++ List.replicate (30 - body.length) 0
  (l ++ leBytes 4 (crc32 l)).map (fun b => BitVec.ofNat 8 b)

/-- A node of Catchment 1, group 1, member 5, whose port 0 is as given. -/
def node (x : VxPort) : State :=
  (put { active with fuse.ident := 77 } [(Reg.VX_PROV2_CG_PROV, 1), (Reg.VX_PROV_CATCH, 1), (Reg.VX_PROV_GROUP, 1),
    (Reg.VX_ADDR_ADDRESS, 0x1008005), (Reg.VX_PORT_CFG_ENABLE 0, 1)]).setVp 0 x

/-- A FULL neighbour of the same group. -/
def full : VxPort := { link := 2, nbr := 3, nbId := 78, nbAddr := 0x1008006 }

/-- A frame of a type arrives good. -/
def good (s : State) (l : List Byte) (ty : Nat) : Bool :=
  s.fabRuns && (s.vp 0).link == 2 && !vxBad (vxFrame l) && (vxFrame l).ty.toNat == ty

theorem test_witness_FabricCommandsComplete_ports : (node {}).fabRuns = true ∧ (node {}).rb (Reg.VX_PORT_CFG_ENABLE 0) = true
    ∧ (node {}).edge.vxrefOk = true ∧ ((node {}).vp 0).link ≠ 2 ∧ (node {}).inReset 4 = false ∧ ((node full).vp 0).link ≠ 0
    ∧ (put (node full) [(Reg.VX_PORT_CFG_MODE 0, 1)]).rb (Reg.VX_PORT_CFG_MODE 0) = true ∧ ((node full).vp 0).nbr ≠ 0
    ∧ (node {}).rb (Reg.VX_PORT_CFG_MODE 0) = false := by decide +kernel

theorem test_witness_FabricCommandsComplete_frames :
    ( let s := put (node { link := 2 }) [(Reg.VX_PROV2_CG_PROV, 0)]
      good s (frame 0x01 9 0xFFFFFFFF 0 (leBytes 8 78)) 1 = true ∧ s.groupBase = none ∧ (s.vp 0).nbr = 0)
    ∧ vxBad (vxFrame (frame 0x01 8 0 0 [])) = true
    ∧ good (node full) (frame 0x02 9 0xFFFFFFFF 0 [1, 0]) 2 = true
    ∧ good (node full) (frame 0x03 9 0xFFFFFFFF 0 [1, 0]) 3 = true
    ∧ ({ node full with fb.parent := some 0, fb.xseq := 1 } : State).fb.parent = some 0
    ∧ (let l := frame 0x04 0x12 0xFFFFFFFF 0 (leBytes 8 78 ++ leBytes 4 0x1008006 ++ leBytes 4 1 ++ [0, 0, 0, 0, 0, 0, 0, 0, 0])
      let s := node full
      good s l 4 = true ∧ 2 ≤ (s.vp 0).nbr ∧ fbody (vxFrame l) 0 8 ≠ s.myId ∧ s.sameGroup (s.lsaOf (vxFrame l)).address = true
      ∧ s.fb.lsas = []) := by decide +kernel

theorem test_witness_FabricCommandsComplete_routed :
    ( let l := frame 0x05 0x0A 0xFFFFFFFF 0 (leBytes 4 0x1010006 ++ leBytes 4 1 ++ [0, 0, 0, 0, 0, 0])
      let s := node { link := 2, nbr := 3, nbId := 78, nbAddr := 0x1010006 }
      good s l 5 = true ∧ s.full 0 = true ∧ (vxFrame l).cls = 0x0A ∧ s.fb.sums = [] ∧ fbody (vxFrame l) 0 4 ≠ s.myAddr
      ∧ s.sameGroup (s.vp 0).nbAddr = false ∧ fbody (vxFrame l) 12 2 ≤ 4096 ∧ s.border = true ∧ s.myAddr ≠ 0)
    ∧ good (node full) (frame 0x06 4 0x1008005 0x1008006 []) 6 = true ∧ (node full).full 0 = true
    ∧ (vxFrame (frame 0x06 4 0x1008005 0x1008006 [])).dst.toNat = (node full).myAddr
    ∧ (vxFrame (frame 0x06 4 0x1008007 0x1008006 [])).dst.toNat ≠ (node full).myAddr
    ∧ (let l := frame 0x07 4 0x1008005 0x1008006 [0, 0, 5, 0, 6]
      let s := put (node full) [(Reg.VX_REP1_VALID 3, 1), (Reg.VX_REP0_ADDRESS 3, 0x1008006), (Reg.VX_REP1_QUEUE 3, 5)]
      good s l 7 = true ∧ s.rb Reg.VX_NOTICE_Q_VALID = false ∧ s.repNaming (vxFrame l).src.toNat (fbody (vxFrame l) 2 2 % 4096) = [3]) := by
  decide +kernel

theorem test_witness_FabricCommandsComplete_rest : (5 : Nat) ≠ (node full).myId ∧ (put (node full) [(Reg.VX_ADDR_ADDRESS, 0)]).myAddr = 0
    ∧ (let s : State := { node full with fb.parent := some 0 }
      s.fb.parent = some 0 ∧ s.fb.holdover = false)
    ∧ ({ node full with fb.ppsValid := true } : State).fb.ppsValid = true
    ∧ Reaches (node full) 4 ∧ keyOk 0x5C000001 = true ∧ bitOf 0x5C000001 0 = true ∧ (node full).isCroot = false
    ∧ ({ node full with fb.croot := 77 } : State).isCroot = true ∧ (node full).fb.ppsValid = false ∧ bitOf 2 1 = true := by decide +kernel

theorem test_witness_CatchmentCommandsComplete_inject : Reaches (node full) 4 ∧ keyOk 0x5C000101 = true ∧ bitOf 0x5C000101 0 = true
    ∧ bitsOf 0x5C000101 9 8 = 1 ∧ (node full).myAddr ≠ 0
    ∧ (let s := put (node full) [(Reg.VX_CEIL_SET_CEIL, 1000), (Reg.VX_ORPH_SET_ORPH_TOTAL, 999)]
      0 < s.rf Reg.VX_ORPH_SET_ORPH_TOTAL ∧ s.rf Reg.VX_ORPH_SET_ORPH_TOTAL < s.rf Reg.VX_CEIL_SET_CEIL)
    ∧ ¬ (0 < (node full).rf Reg.VX_ORPH_SET_ORPH_TOTAL ∧ (node full).rf Reg.VX_ORPH_SET_ORPH_TOTAL < (node full).rf Reg.VX_CEIL_SET_CEIL) := by
  decide +kernel

theorem test_witness_CatchmentCommandsComplete_frames : (node full).catchPorts.contains 0 = true
    ∧ good (node full) (frame 0x20 0x1A 0xFFFFFFFF 0 (leBytes 8 78 ++ leBytes 4 1 ++ leBytes 8 9)) 0x20 = true
    ∧ (node full).rf Reg.VX_CVER_VERSION < fbody (vxFrame (frame 0x20 0x1A 0xFFFFFFFF 0 (leBytes 8 78 ++ leBytes 4 1 ++ leBytes 8 9))) 8 4
    ∧ good (node full) (frame 0x21 0x0A 0xFFFFFFFF 0 (List.replicate 20 0)) 0x21 = true ∧ ((node full).child 0).reports = false
    ∧ good (node full) (frame 0x22 0x0A 0xFFFFFFFF 0 (List.replicate 16 0)) 0x22 = true
    ∧ (let l := frame 0x23 0x18 0xFFFFFFFF 0 (leBytes 8 78 ++ leBytes 4 11 ++ [0, 0, 0, 0])
      good (node full) l 0x23 = true ∧ 1 < (vxFrame l).ttl.toNat ∧ (node full).cb.shed = false ∧ (node full).now < (node full).now + fbody (vxFrame l) 8 4 * 1000 - 10000) := by
  decide +kernel

theorem test_witness_CatchmentCommandsComplete_timers : (let s : State := { node full with fb.parent := some 0, fb.chops := 63 }
      s.fb.parent = some 0 ∧ 1 ≤ s.fb.chops ∧ s.fb.chops ≤ 63 ∧ s.catchPorts.contains 0 = true)
    ∧ (let s : State := { node full with fb.chops := 0 }
      s.fb.chops = 0 ∧ s.rf Reg.VX_CVER_VERSION = 0 ∧ s.cb.rootMaj = false)
    ∧ (let s : State := { node full with cb.children := [(0, { reports := true })] }
      (s.child 0).reports = true ∧ (s.child 0).heldDown = false)
    ∧ (({ node full with cb.children := [(0, { heldDown := true })] } : State).child 0).heldDown = true
    ∧ ({ node full with cb.copies := [([0], ({} : VxOut))] } : State).cb.copies = ([0], {}) :: []
    ∧ ({ node full with tw.linkUp := true } : State).tw.linkUp = true ∧ (node full).owner = true
    ∧ ({ State.reset with tw.linkUp := true } : State).owner = false
    ∧ (let s : State := { node full with cb.orphan := false, cb.allotAt := some 3 }
      s.inReset 4 = false ∧ s.owner = true ∧ s.cb.orphan = false ∧ s.cb.allotAt = some 3)
    ∧ ({ node full with edge.shedIn := true } : State).edge.shedIn = true ∧ (node full).edge.shedIn = false := by decide +kernel

theorem test_witness_TwinCommandsComplete_claims : (let s : State := { State.reset with tw.role := 2, ph.loadOk := true }
      s.tw.role = 2 ∧ s.eligible = true ∧ s.tw.claim = 0 ∧ s.ob.halted = false)
    ∧ ({ State.reset with tw.claim := 1, tw.attempts := 6 } : State).tw.attempts + 1 ≠ 8
    ∧ ({ State.reset with tw.claim := 1, tw.attempts := 7 } : State).tw.attempts + 1 = 8
    ∧ (let s : State := { State.reset with tw.claim := 1, ph.loadOk := true }
      s.tw.claim = 1 ∧ s.suppliesOk = true ∧ s.eligible = true)
    ∧ ({ State.reset with tw.claim := 2 } : State).tw.claim = 2 ∧ active.tw.role = 3 ∧ ({ State.reset with tw.role := 4 } : State).tw.role = 4 := by
  decide +kernel

theorem test_witness_TwinCommandsComplete_link : (let s : State := { active with tw.linkUp := true }
      s.twnRuns = true ∧ s.tw.role = 3)
    ∧ (let l := List.replicate 24 0
      let b := l ++ leBytes 4 (crc32 l)
      b.length = 28 ∧ crc32 (b.take (b.length - 4)) = ofLe (b.drop (b.length - 4)))
    ∧ (let s : State := { State.reset with tw.linkUp := true, tw.inStep := true }
      s.tw.role ≠ 3 ∧ s.tw.inStep = true ∧ s.twnRuns = true)
    ∧ Reaches active 6 ∧ keyOk 0x5C000001 = true ∧ bitsOf 0x5C000001 1 0 = 1 ∧ active.tw.handover = 0 ∧ active.handBad = some 0
    ∧ ({ active with tw.linkUp := true, tw.peerFlags := 0x24 } : State).handBad = none ∧ bitsOf 0x5C000002 1 0 = 2
    ∧ ({ active with tw.handover := 1 } : State).tw.handover = 1
    ∧ (let s : State := { State.reset with tw.linkUp := true }
      s.tw.linkUp = true ∧ s.tw.role ≠ 3 ∧ s.tw.inStep = false)
    ∧ State.reset.inReset 6 = false ∧ State.reset.ob.halted = false ∧ State.reset.tw.linkUp = false
    ∧ (let s : State := { State.reset with ob.halted := true, ph.loadOk := true }
      s.ob.halted = true ∧ s.tw.role ≠ 3 ∧ s.eligible = true) := by decide +kernel

theorem test_witness_LedgerCommandsComplete : active.raised = [] ∧ (∀ p < 4, ({ active with lg.pass := p } : State).lg.pass = p)
    ∧ active.lg.clear = 0 ∧ active.lg.tail = false ∧ ({ active with lg.scanning := true } : State).lg.scanning = true
    ∧ Reaches active 7 ∧ keyOk 0x5C000002 = true ∧ bitsOf 0x5C000002 3 1 = 1 ∧ bitsOf 0x5C000004 3 1 = 2 ∧ bitsOf 0x5C000008 3 1 = 4
    ∧ (0 : Fin 1025).val ≠ 1024 ∧ Reaches active 5
    ∧ (let s : State := { active with lg.filling := true }
      s.lg.filling = true ∧ s.inReset 5 = false)
    ∧ ({ active with lg.stSince := true } : State).lg.stSince = true ∧ ({ active with lg.scanning := false } : State).lg.scanning = false := by
  decide +kernel

/-- A record of a code on its way to an `active` Ledger that has scanned the flash. -/
def withRecord (code : Nat) : State := { active with raised := [⟨4, code, none, 0, 0, 0, 0, 8⟩], lg.scanning := false }

theorem test_witness_RecordsAreAdmitted : (let s := withRecord 0xB021
      s.raised = ⟨4, 0xB021, none, 0, 0, 0, 0, 8⟩ :: [] ∧ s.lg.scanning = false ∧ ({ s with raised := [] } : State).trigMatch 0xB021 = false
      ∧ (({ s with raised := [] } : State).stampRec ⟨4, 0xB021, none, 0, 0, 0, 0, 8⟩).level < 4
      ∧ 0 < s.rf Reg.LG_RL_DEF_BURST ∧ s.unflCount < 221
      ∧ (List.range 1024).find? (fun i => s.rb (Reg.LG_RL0_VALID i) && s.rf (Reg.LG_RL0_CODE i) == 0xB021) = none)
    ∧ (let s := put (withRecord 0xB021) [(Reg.LG_RL_DEF_BURST, 0)]
      s.rf Reg.LG_RL_DEF_BURST ≤ mget 0 s.lg.used 0xB021)
    ∧ (0xF000 ≤ (({ withRecord 0xF003 with raised := [] } : State).stampRec ⟨4, 0xF003, none, 0, 0, 0, 0, 8⟩).code)
    ∧ 221 ≤ ({ withRecord 0xB021 with lg.buf := List.replicate 221 {} } : State).unflCount := by decide +kernel

theorem test_witness_SecurityCommandsComplete : Reaches active 5 ∧ keyOk 0x5C000004 = true ∧ bitsOf 0x5C000004 3 1 = 2
    ∧ (let s : State := { active with se.loaded := some (0, 5, 0), se.counter := 4 }
      s.se.loaded = some (0, 5, 0) ∧ s.se.counter < 5 ∧ s.se.commit = none)
    ∧ bitsOf 0x5C000002 3 1 = 1 ∧ active.se.update = none ∧ active.se.verify = none ∧ bitsOf 0x5C000008 3 1 = 4
    ∧ (put active [(Reg.SE_SLOT_RESULT_A, 1)]).rf (if bitsOf 0x5C000000 8 8 = 0 then Reg.SE_SLOT_RESULT_A else Reg.SE_SLOT_RESULT_B) = 1
    ∧ bitsOf 0x5C005001 2 0 = 1 ∧ bitsOf 0x5C005001 14 12 ∈ [1, 3, 4, 5]
    ∧ ({ active with se.chal := some {} } : State).se.chal = some {} ∧ ({} : Challenge).resp = none
    ∧ bitsOf 0x5C000002 2 0 = 2 ∧ bitsOf 0x5C000004 2 0 = 4 ∧ bitOf 0x5C000002 1 = true ∧ bitOf 0x8000 15 = true ∧ active.se.mbox = false
    ∧ ({ active with se.mbox := true } : State).se.mbox = true ∧ active.inReset 5 = false := by decide +kernel

-- an image or a response that passes rests on Config's signature check, which has no value here
theorem test_witness_SecurityCommandsComplete_ends : ({ active with se.commit := some 5 } : State).se.commit = some 5
    ∧ (let s : State := { active with se.verify := some 0 }
      s.se.verify = some 0 ∧ (s.imgBad 0).isSome = true)
    ∧ (let l : List Nat := [0]
      let c : Challenge := { resp := some l }
      ({ active with se.chal := some c } : State).se.chal = some c ∧ active.respBad c l = (some 6, 0))
    ∧ (let s : State := { active with se.update := some 3 }
      s.se.update = some 3 ∧ s.lg.tail = false)
    ∧ (put active [(Reg.SE_STAT_PROV_OPEN, 1)]).rb Reg.SE_STAT_PROV_OPEN = true := by decide +kernel

theorem test_witness_ObservationCommandsComplete : Reaches active 5 ∧ (∀ n < 6, bitsOf (0x5C000000 + 2 ^ n) 5 0 = 2 ^ n)
    ∧ active.rb Reg.OB_STAT_ENABLED = false ∧ keyOk 0x5C000001 = true ∧ bitsOf 0x5C000001 1 0 = 1 ∧ bitsOf 0x5C000002 1 0 = 2
    ∧ active.ob.halted = false ∧ ({ active with ob.halted := true } : State).ob.halted = true
    ∧ (let s := put active [(Reg.OB_TRIG_CFG2_TRIGIN_EN, 1), (Reg.OB_STAT_ARMED, 1)]
      s.rb Reg.OB_TRIG_CFG2_TRIGIN_EN = true ∧ s.rb Reg.OB_STAT_ARMED = true ∧ s.rb Reg.OB_TRIG_CFG2_HALT = false
      ∧ s.rb Reg.OB_NOTIFY_VALID = false)
    ∧ (let s := put active [(Reg.SE_STAT_DEBUG_UNLOCKED, 1)]
      s.debugOpen = true ∧ s.isl.pkg ≠ 3) ∧ active.debugOpen = false
    ∧ (put active [(Reg.OB_HALT_CFG_HALT_MAX, 1)]).rf Reg.OB_HALT_CFG_HALT_MAX ≠ 0
    ∧ active.inReset 2 = false ∧ ((active.setLink 3 { msFull := true }).link 3).msFull = true := by decide +kernel

/-- `active` in which ring 0 has the turn with 1000 ns of it and a descriptor whose one command has the bytes given. -/
def withCmd (bytes : List Nat) : State :=
  ({ active with cf.turn := some (0, 1000) } : State).setRing 0 { desc := some { cmds := [{ bytes := bytes }] } }

/-- The command of `withCmd bytes` may start, as `Starts` asks it. -/
def starts (bytes : List Nat) : Bool :=
  decide (Starts (withCmd bytes) (bytes.getD 0 0) 0 1000 { cmds := [{ bytes := bytes }] } 0 { bytes := bytes })

theorem test_witness_FrontEndCommandsComplete_starts : (∀ ty < 9, 1 ≤ ty → starts [ty, 1] = true)
    ∧ (put active [(Reg.CF_RING_CFG_OWNER 0, 5)]).ringOwner 0 ≠ 0 ∧ active.ringOwner 0 = 0 ∧ ({ bytes := [1] } : CfCmd).le 9 1 = 0
    ∧ ({ bytes := [6, 1, 0, 0, 0, 0, 0, 0, 3] } : CfCmd).le 8 1 = 3
    ∧ ({ bytes := List.replicate 18 0 ++ [0xFF, 0xFF] } : CfCmd).le 18 2 = 0xFFFF
    ∧ ((List.range 8).find? (fun k => (put active [(⟨Reg.IK_DUTY1, 19, 16, 15⟩, 3)]).holdsDuty k 12)) = some 3
    ∧ (let s := put active [(Reg.CF_HANDLE0_KIND 1, 1), (Reg.CF_HANDLE0_SIZE 1, 8), (Reg.CF_HANDLE0_KIND 2, 2), (Reg.CF_HANDLE0_SIZE 2, 8)]
      s.hCheck 0 1 1 64 = 0 ∧ s.hCheck 0 2 2 64 = 0) := by decide +kernel

theorem test_witness_FrontEndCommandsComplete_regs : Reaches active 3 ∧ bitOf 2 1 = true ∧ keyOk 0x5C000002 = true
    ∧ bitsOf 0x5C000002 1 0 = 2 ∧ bitsOf 0x5C000001 1 0 = 1 ∧ active.owner = true ∧ State.reset.owner = false ∧ bitOf 0x80000000 31 = true
    ∧ (put active [(Reg.CF_RING_CFG_ENABLE 0, 1)]).rb (Reg.CF_RING_CFG_ENABLE 0) = true ∧ Reaches State.reset 3 ∧ Reaches active 5
    ∧ active.polRuns = true ∧ active.isl.hostDown = false ∧ active.cf.turn = none
    ∧ (withCmd [7, 1]).turnOrder.find? (withCmd [7, 1]).turnDue = some 0 := by decide +kernel

theorem test_witness_FrontEndCommandsComplete_fetches :
    (let a : FeAcc := { issued := true }
      let s : State := { active.setRing 0 { desc := some { chained := 1 } } with fl.fe := [a] }
      (s.ring 0).desc = some { chained := 1 } ∧ s.fl.fe.find? (fun a => a.ring == 0 && a.kind == 0 && a.issued) = some a)
    ∧ descBad (arrivedBytes ([1, 0, 0, 0, 16] ++ List.replicate 59 0) 64) = none
    ∧ (let a : FeAcc := { kind := 1, issued := true }
      ({ active with fl.fe := [a] } : State).fl.fe.find? (fun a => a.ring == 0 && a.kind == 1 && a.issued) = some a)
    ∧ (let s := active.setFch 2 { st := 1, load := some (0, 1, 5), len := 8, done := 8 }
      (s.fch 2).load = some (0, 1, 5) ∧ (s.fch 2).complete = true)
    ∧ ({ active with cf.waiting := [(4, { ring := 0, cmd := 1 })] } : State).cf.waiting.find? (fun e => e.2.ring == 0 && e.2.cmd == 1)
        = some (4, { ring := 0, cmd := 1 }) := by decide +kernel

theorem test_witness_FlumeCommandsComplete : Reaches active 3 ∧ keyOk 0x5C000001 = true ∧ bitsOf 0x5C000001 2 0 = 1
    ∧ (let s := put active [(Reg.FL_CH_LEN_LEN 8, 1048576)]
      8 ≤ (8 : Fin 16).val ∧ (s.fch 8).st ≠ 1 ∧ (s.fch 8).st ≠ 2 ∧ 0 < s.rf (Reg.FL_CH_LEN_LEN 8) ∧ s.rf (Reg.FL_CH_LEN_LEN 8) % 8 = 0
      ∧ 8 * s.rf (Reg.FL_CH_TSRAM_OFFSET 8) + s.rf (Reg.FL_CH_LEN_LEN 8) ≤ 1048576)
    ∧ active.rf (Reg.FL_CH_LEN_LEN 8) = 0 ∧ bitsOf 0x5C000002 2 0 = 2 ∧ bitsOf 0x5C000004 2 0 = 4
    ∧ ((active.setFch 8 { st := 2 }).fch 8).st = 2 ∧ active.rb (Reg.FL_CTX0_ENABLE 64) = false ∧ bitOf 2 1 = true
    ∧ active.inReset 3 = false
    ∧ (let s := active.setFch 8 { st := 1, issued := 1 }
      (s.fch 8).st = 1 ∧ 0 < (s.fch 8).issued ∧ (s.fch 8).written ≤ 0 ∧ (s.fch 8).arrived = [] ∧ (s.fch 8).walk = none
      ∧ (s.fch 8).toHost = false ∧ s.polRuns = true)
    ∧ ((active.setFch 8 { walk := some {} }).fch 8).walk.isSome = true ∧ ((active.setFch 5 { st := 2 }).fch 5).st = 2 := by decide +kernel

/-- `active` with core 2 as given. -/
def withCore (k : IkCore) : State := { active with ik.cores := [(2, k)] }

theorem test_witness_CoreControlCommandsComplete : (let s := withCore { running := true, level := 2, cntU := 65536 }
      s.coreLive 2 = true ∧ (s.core 2).level = 2 ∧ s.rf Reg.IK_BUDGET_BUDGET_U < (s.core 2).cntU)
    ∧ (let s := withCore { running := true, cntN := 65536 }
      (s.core 2).level < 2 ∧ (s.core 2).atWait = false ∧ s.rf Reg.IK_BUDGET_BUDGET_N < (s.core 2).cntN)
    ∧ (let s := withCore { restartDue := true }
      (s.core 2).restartDue = true ∧ s.owner = true ∧ s.polRuns = true ∧ (s.core 2).running = false)
    ∧ Reaches active 3 ∧ bitsOf 1 15 0 ≠ 0 ∧ keyOk 1 = false ∧ keyOk 0x5C000004 = true ∧ bitsOf 0x5C000004 17 8 = 0
    ∧ bitsOf 0x5C000004 7 0 ≠ 0 ∧ bitsOf 0x20000 15 0 = 0 ∧ bitOf 0x20000 17 = true
    ∧ active.largestWcet false ≤ clampN 1000 65535 0 ∧ active.largestWcet true ≤ clampN 1000 65535 0
    ∧ (let s := withCore { loaded := true, threadWcet := 1001 }
      clampN 1000 65535 1000 < s.largestWcet false ∧ s.largestWcet true ≤ clampN 1000 65535 1000)
    ∧ active.inReset 3 = false ∧ active.edge.flashOk = true ∧ active.ik.check = 0 ∧ active.ik.cores = []
    ∧ (let s : State := { active with isl.retries := [(0, 3, [1, 2])] }
      s.isl.retries = [(0, 3, [1, 2])] ∧ s.inReset 0 = false) := by decide +kernel

theorem test_witness_CoreFaultsResetTheCore : (let s := withCore { running := true, textLen := 4 }
      s.canIssue 2 = true ∧ (s.core 2).pc < (s.core 2).textLen ∧ (s.core 2).launchId = none ∧ (s.core 2).level = 0)
    ∧ ((withCore { running := true, textLen := 4, level := 2 }).core 2).level = 2 := by decide +kernel

/-- A core at a wait point with a message in queue 5, which it reads and which dispatches it by its handler 0. -/
def dispatching (urgent : Nat) (k : IkCore) : State :=
  { put (withCore { k with handlers := [(8, 7, 100)] }) [(Reg.ME_QCFG_ENABLE 5, 1), (Reg.ME_QCFG_READER 5, 2), (Reg.ME_QCFG_DISPATCH 5, 1),
    (Reg.ME_QCFG_URGENT 5, urgent), (Reg.ME_QCFG_HANDLER 5, 0)] with me.queues := [(5, [{}])] }

theorem test_witness_HandlersEnterAndReturn : (let s := withCore { running := true, textLen := 8 }
      s.coreLive 2 = true ∧ (s.core 2).waiting = false ∧ (s.core 2).pc < (s.core 2).textLen ∧ (s.core 2).level < 2)
    ∧ (let s := dispatching 0 { running := true, waiting := true }
      s.coreLive 2 = true ∧ s.qMsgs 5 = {} :: [] ∧ (s.core 2).handlers[s.rf (Reg.ME_QCFG_HANDLER 5)]? = some (8, 7, 100)
      ∧ bitOf 7 0 = true ∧ (s.core 2).atWait = true ∧ s.dispatchable 2 true = [] ∧ s.bestPrio (s.dispatchable 2 false) = some 5
      ∧ bitOf 7 1 = true)
    ∧ (let s := dispatching 1 { running := true, level := 1 }
      s.coreLive 2 = true ∧ (s.core 2).level < 2 ∧ s.bestPrio (s.dispatchable 2 true) = some 5 ∧ bitOf 7 2 = true)
    ∧ (let s := withCore { running := true, textLen := 8, level := 1 }
      (s.core 2).level = 1 ∧ (s.core 2).launchId = none)
    ∧ (let s := withCore { running := true, textLen := 8, level := 2 }
      (s.core 2).level = 2 ∧ s.dispatchable 2 true = []) := by decide +kernel

theorem test_witness_HandlersEnterAndReturn_wait : (let s : State := { put (withCore { running := true, waiting := true, textLen := 8 })
          [(Reg.ME_QCFG_ENABLE 5, 1), (Reg.ME_QCFG_READER 5, 2), (Reg.ME_QCFG_DISPATCH 5, 0), (Reg.ME_SEL_Q_V1 8 0, 1),
            (Reg.ME_SEL_Q_Q1 8 0, 5)] with me.queues := [(5, [{}])] }
      s.coreLive 2 = true ∧ (s.core 2).waiting = true ∧ s.dispatchable 2 true = [] ∧ s.dispatchable 2 false = []
      ∧ s.selChoose 2 (s.core 2).qsel = some (1, 5) ∧ (s.core 2).pc + 4 < (s.core 2).textLen)
    := by decide +kernel

/-- A core of `active` that runs inside a text of 64 bytes, its g registers as given. -/
def running (g : List (Nat × DWord)) : State := withCore { running := true, textLen := 64, bankN := { g := g } }

theorem test_witness_Ready : Ready (running []) 2 4 ∧ Ready (running []) 2 8 ∧ (running []).canIssue 2 = true := by decide +kernel

theorem test_witness_IntegerOperations : ¬ ((1 : Fin 32) = 0 ∧ (0 : Fin 32) = 0 ∧ (0 : Fin 32) = 0) := by decide

theorem test_witness_DivisionResults : (((running [(1, 0x8000000000000000), (2, 0xFFFFFFFFFFFFFFFF)]).core 2).g 1) = 0x8000000000000000
    ∧ (((running [(1, 0x8000000000000000), (2, 0xFFFFFFFFFFFFFFFF)]).core 2).g 2) = 0xFFFFFFFFFFFFFFFF
    ∧ (((running []).core 2).g 2) = 0 := by decide +kernel

theorem test_witness_LoadsAndStores : Ready (running [(1, 0x100000)]) 2 4 ∧ Readable (dataAddr (running [(1, 0x100000)]) 2 1 0)
    ∧ Writable (dataAddr (running [(1, 0x10FFFF8)]) 2 1 0) ∧ dataAddr (running [(1, 0x10FFFF8)]) 2 1 0 % 8 = 0
    ∧ ¬ Readable (dataAddr (running [(1, 0x120100)]) 2 1 0) ∧ dataAddr (running [(1, 0x100004)]) 2 1 0 % 8 ≠ 0
    ∧ (0x10000 ≤ dataAddr (running [(1, 0x120000)]) 2 1 0 ∧ dataAddr (running [(1, 0x120000)]) 2 1 0 < 0x120100) := by decide +kernel

theorem test_witness_ControlTransfers : (running []).canIssue 2 = true ∧ ((running []).core 2).pc < ((running []).core 2).textLen
    ∧ ((withCore { running := true, textLen := 4 }).core 2).textLen ≤ ((withCore { running := true, textLen := 4 }).core 2).pc + 4 := by
  decide +kernel

theorem test_witness_SpecialRegisters : ((running []).core 2).level = 0 ∧ 10 ≤ (31 : Fin 32).val ∧ (3 : Fin 32) ≠ 2 ∧ (3 : Fin 32) ≠ 6 := by
  decide +kernel

theorem test_witness_DatagramResults : (let s := { withQueue [] with ik.cores := (running [(1, 25)]).ik.cores }
      Ready s 2 4 ∧ ((s.core 2).g 1).toNat % 2 ^ 16 = 25 ∧ s.rb (Reg.ME_QCFG_ENABLE 25) = true ∧ s.rf (Reg.ME_QCFG_ACCEPT 25) ≠ 1
      ∧ s.qLen 25 < s.qDepth 25)
    ∧ (let s := withQueue (List.replicate 8 {})
      s.qDepth 25 ≤ s.qLen 25)
    ∧ ¬ (active.rb (Reg.ME_QCFG_ENABLE 20) = true) ∧ 2 ^ 32 ≤ (((running [(1, 0x100000000)]).core 2).g 1).toNat
    ∧ (29 : Nat) < (30 : Fin 32).val := by decide +kernel

theorem test_witness_QueueInstructionsComplete : (((running [(1, 8191)]).core 2).g 1).toNat % 2 ^ 16 ≤ 8191
    ∧ (4 : Fin 32).val ∈ [4, 8, 12, 16, 20, 24, 28] ∧ ¬ (5 : Fin 32).val ∈ [4, 8, 12, 16, 20, 24, 28] := by decide +kernel

theorem test_witness_DeviceWritesNeedTheirDuty : (running []).holdsDuty 2 0 = false
    ∧ ((put (running []) [(⟨Reg.IK_DUTY0, 3, 0, 15⟩, 2)]).holdsDuty 2 0) = true := by decide +kernel

theorem test_witness_LogevAndDrd : (((running [(1, 0x39800)]).core 2).g 1).toNat < 2 ^ 24
    ∧ 0x9800 ≤ (((running [(1, 0x39800)]).core 2).g 1).toNat % 2 ^ 16 ∧ (((running [(1, 0x39FFE)]).core 2).g 1).toNat % 2 ^ 16 < 0x9FFF
    ∧ ((running []).raised.filter (fun r => r.core == 2)).length < 8
    ∧ 8 ≤ (({ running [] with raised := List.replicate 8 ⟨3, 0x9800, none, 0, 0, 0, 0, 2⟩ } : State).raised.filter (fun r => r.core == 2)).length
    ∧ findReg 0x3FFFFFC = none ∧ (findReg Reg.GL_STATUS).isSome = true ∧ Reg.BG_UNATTR_LO % 8 = 0 := by decide +kernel

theorem test_witness_StepRunsTheFrontCommand : ({ State.reset with pending := [.zoneTick, .stepTick] } : State).pending = .zoneTick :: [.stepTick]
    ∧ State.reset.pending = [] := by decide

theorem test_witness_ByteMemoriesStayCanonical : CanonicalBytes { State.reset with ik.table := [(3, 1), (9, 255)] } := by
  refine ⟨by decide, fun c => ?_⟩
  simp [State.core, State.reset, mget, Memory.wf, mwf]

theorem test_witness_IkivaWordsRoundTrip : (encodeIkiva (.ikSub 0 3 1 2)).isSome = true ∧ (Instr.ikSub 0 3 1 2).wf = true := by decide +kernel

/-! What single commands do, on small states. -/

-- Table 13.4: DIV truncates toward zero
theorem test_div_truncates : (match exec (.ikDiv 2 3 1 2) (running [(1, -7#64), (2, 2)]) with
    | .next t => (t.core 2).g 3 == -3#64
    | _ => false) = true := by decide +kernel

-- the example of R542: core 3 issuing LD to table SRAM at cyc = 1,000 takes 5 cycles
theorem test_table_cycles : dataCycles { active with ik.cyc := 1000 } 3 0x1000000 = 5 := by decide +kernel

-- the step takes the front of the queue and keeps the rest
theorem test_step_takes_front : (match step { State.reset with pending := [.zoneTick, .xt32Return] } with
    | .next t => decide (t.pending = [.xt32Return])
    | _ => false) = true := by decide +kernel

-- R21, R22: an undefined offset sets UNMAPPED and captures it
theorem test_unmapped_write : (match exec (.unmappedWrite 0x3FFFFFC 5) active with
    | .next t => t.rf Reg.GL_STATUS_UNMAPPED == 1 && t.rf Reg.GL_ERR_OFFSET_OFFSET == 0x3FFFFFC
    | _ => false) = true := by decide +kernel

end Sys2Proof.Tests
end

section
/-! The loads and stores of the policy cores: Table 12.3's regions, the bytes read, and the bytes written. -/

namespace Sys2Proof.Machine
open Sys2Proof

/-! Bytes of a memory. -/

theorem writeBytes_succ (m : List Host.Cell) (a n v : Nat) :
    writeBytes m a (n + 1) v = mput (0 : Byte) (writeBytes m a n v) (a + n) (BitVec.ofNat 8 (v / 256 ^ n)) := by
  simp [writeBytes, List.range_succ]

/-- Writing bytes leaves each of them at its place, the lowest first (R3). -/
theorem mget_writeBytes_in (m : List Host.Cell) (a v : Nat) {n k : Nat} (h : k < n) :
    mget (0 : Byte) (writeBytes m a n v) (a + k) = BitVec.ofNat 8 (v / 256 ^ k) := by
  induction n with
  | zero => omega
  | succ n ih =>
    rw [writeBytes_succ]
    by_cases hk : k = n
    · rw [hk, mget_mput_self]
    · rw [mget_mput_ne _ _ _ (by omega), ih (by omega)]

/-- Byte `k` of a word is its bits 8k + 7 to 8k. -/
theorem ofNat_toNat_div_eq_extractLsb' (x : DWord) (k : Nat) : BitVec.ofNat 8 (x.toNat / 256 ^ k) = x.extractLsb' (8 * k) 8 := by
  have hp : 2 ^ (8 * k) = 256 ^ k := Nat.pow_mul 2 8 k
  rw [BitVec.extractLsb', Nat.shiftRight_eq_div_pow, hp]

/-- The number that one byte spells (R3). -/
theorem ofLe_byte (y : Byte) : ofLe [y.toNat] = y.toNat := by
  simp only [ofLe, Nat.mul_zero, Nat.add_zero]
  exact Nat.mod_eq_of_lt y.isLt

/-- The number that bytes spell is that of the bytes joined, the first one lowest (R3). -/
theorem ofLe_cons_byte {w : Nat} {x : BitVec w} (y : Byte) {l : List Nat} (h : ofLe l = x.toNat) :
    ofLe (y.toNat :: l) = (x ++ y).toNat := by
  rw [BitVec.toNat_append, Nat.shiftLeft_eq, Nat.mul_comm, ← Nat.two_pow_add_eq_or_of_lt y.isLt, ofLe, h, Nat.mod_eq_of_lt y.isLt]
  omega

theorem signedOf_toNat {w : Nat} (x : BitVec w) (hw : 0 < w) : signedOf w x.toNat = x.toInt := by
  have hp : 2 ^ w = 2 * 2 ^ (w - 1) := (Nat.pow_pred_mul hw).symm.trans (Nat.mul_comm _ _)
  simp only [signedOf, BitVec.toInt_eq_toNat_cond, Nat.mod_eq_of_lt x.isLt]
  split <;> split <;> omega

/-- What a load extends is the value its bytes spell, by sign (Table 13.6). -/
theorem ofInt_signedOf_toNat {w : Nat} (x : BitVec w) (hw : 0 < w) : BitVec.ofInt 64 (signedOf w x.toNat) = x.signExtend 64 := by
  rw [signedOf_toNat x hw]
  rfl

/-! The core's address map (Table 12.3). -/

theorem region_data {a : Nat} (h : 0x100000 ≤ a ∧ a < 0x120000) : region a = 1 := by
  unfold region
  rw [if_neg (by omega), if_pos h]

theorem region_launch {a : Nat} (h : 0x120000 ≤ a ∧ a < 0x120100) : region a = 2 := by
  unfold region
  rw [if_neg (by omega), if_neg (by omega), if_pos h]

theorem region_table {a : Nat} (h : 0x1000000 ≤ a ∧ a < 0x1100000) : region a = 3 := by
  unfold region
  rw [if_neg (by omega), if_neg (by omega), if_neg (by omega), if_pos h]

theorem readable_cases {a : Nat} (h : Readable a) :
    (0x100000 ≤ a ∧ a < 0x120000) ∨ (0x120000 ≤ a ∧ a < 0x120100) ∨ (0x1000000 ≤ a ∧ a < 0x1100000) := by
  unfold Readable at h
  omega

theorem readable_of_writable {a : Nat} (h : Writable a) : Readable a := by
  unfold Readable
  unfold Writable at h
  omega

theorem loadExc_none {a n : Nat} (h : Readable a) (ha : a % n = 0) : loadExc a n = none := by
  unfold loadExc
  rw [if_pos]
  refine ⟨ha, ?_⟩
  rcases readable_cases h with h | h | h
  · exact .inl (region_data h)
  · exact .inr (.inl (region_launch h))
  · exact .inr (.inr (region_table h))

theorem storeExc_none {a n : Nat} (h : Writable a) (ha : a % n = 0) : storeExc a n = none := by
  unfold storeExc
  rcases h with h | h
  · simp [ha, region_data h]
  · simp [ha, region_table h]

/-- The wheel's latency of the model is that of R502. -/
theorem wheel_eq (c t : Nat) : (c + 8 - t % 8) % 8 = (((c : Int) - t) % 8).toNat := by omega

theorem accessCycles_eq (s : State) (c : Nat) {a : Nat} (h : Readable a) : accessCycles c s.ik.cyc a = dataCycles s c a := by
  unfold accessCycles dataCycles
  rcases readable_cases h with h | h | h
  · rw [region_data h, if_neg (by omega), if_pos (by omega)]
  · rw [region_launch h, if_neg (by omega), if_pos (by omega)]
  · rw [region_table h, if_pos rfl, if_neg (by omega), wheel_eq]

/-- An aligned access ends at or before a boundary that it starts below. -/
theorem aligned_end_le {a n m : Nat} (ha : a % n = 0) (hm : n ∣ m) (h : a < m) : a + n ≤ m := by
  have : n ≤ m - a := Nat.le_of_dvd (by omega) (Nat.dvd_sub hm (Nat.dvd_of_mod_eq_zero ha))
  omega

/-- An aligned access stays inside its region. -/
theorem access_inside {a n : Nat} (hn : n ∣ 256) (ha : a % n = 0) :
    (a < 0x120000 → a + n ≤ 0x120000) ∧ (a < 0x120100 → a + n ≤ 0x120100) :=
  ⟨aligned_end_le ha (Nat.dvd_trans hn ⟨0x1200, rfl⟩), aligned_end_le ha (Nat.dvd_trans hn ⟨0x1201, rfl⟩)⟩

theorem coreByte_data {s : State} {c a : Nat} (h : a < 0x120000) : coreByte s c a = mget 0 (s.core c).data a := by
  rw [coreByte, if_pos h]

theorem coreByte_launch {s : State} {c a : Nat} (h : 0x120000 ≤ a) (h' : a < 0x1000000) :
    coreByte s c a = mget 0 (s.core c).launch a := by
  rw [coreByte, if_neg (by omega), if_pos h']

theorem coreByte_table {s : State} {c a : Nat} (h : 0x1000000 ≤ a) : coreByte s c a = mget 0 s.ik.table (a - 0x1000000) := by
  rw [coreByte, if_neg (by omega), if_neg (by omega)]

/-- What a core holds at an address depends on its memories and the table SRAM only. -/
theorem coreByte_congr {s t : State} {c : Nat} (hd : (t.core c).data = (s.core c).data) (hl : (t.core c).launch = (s.core c).launch)
    (ht : t.ik.table = s.ik.table) (a : Nat) : coreByte t c a = coreByte s c a := by
  unfold coreByte
  rw [hd, hl, ht]

@[simp] theorem movedTo_table (s : State) (c cyc pc : Nat) : (s.movedTo c cyc pc).ik.table = s.ik.table := by
  obtain ⟨l, hl⟩ := movedTo_eq s c cyc pc
  rw [hl]

@[simp] theorem coreByte_movedTo (s : State) (c cyc pc a : Nat) : coreByte (s.movedTo c cyc pc) c a = coreByte s c a :=
  coreByte_congr (by rw [movedTo_core]; rfl) (by rw [movedTo_core]; rfl) (movedTo_table s c cyc pc) a

theorem readBytes_congr {m : List Host.Cell} {a n : Nat} {f : Nat → Byte} (h : ∀ i < n, mget 0 m (a + i) = f i) :
    readBytes m a n = ofLe ((List.range n).map (fun i => (f i).toNat)) := by
  unfold readBytes
  congr 1
  exact List.map_congr_left (fun i hi => by rw [h i (List.mem_range.mp hi)])

/-- A read of an aligned readable address gives the number its bytes spell (R3). -/
theorem coreRead_eq (s : State) (c : Nat) {a n : Nat} (hn : n ∣ 256) (h : Readable a) (ha : a % n = 0) :
    s.coreRead c a n = ofLe ((List.range n).map (fun i => (coreByte s c (a + i)).toNat)) := by
  obtain ⟨h1, h2⟩ := access_inside hn ha
  unfold State.coreRead
  rcases readable_cases h with h | h | h
  · rw [region_data h, if_pos rfl]
    exact readBytes_congr (fun i hi => (coreByte_data (by omega)).symm)
  · rw [region_launch h, if_neg (by decide), if_pos rfl]
    exact readBytes_congr (fun i hi => (coreByte_launch (by omega) (by omega)).symm)
  · rw [region_table h, if_neg (by decide), if_neg (by decide)]
    refine readBytes_congr (fun i hi => ?_)
    rw [coreByte_table (by omega), Nat.sub_add_comm h.1]

/-! Loads. -/

/-- The value a load leaves in rt, of the number its bytes spell (Table 13.6). -/
def extended (n : Nat) (sgn : Bool) (v : Nat) : DWord := if sgn then BitVec.ofInt 64 (signedOf (8 * n) v) else BitVec.ofNat 64 v

/-- A load that raises no exception only writes rt. -/
theorem load_eq_issueReg {s : State} {c : Nat} (hr : Ready s c 4) (rt rb : Fin 32) (off : BitVec 15) {n : Nat} (sgn : Bool) (hn : n ∣ 256)
    (h : Readable (dataAddr s c rb off)) (ha : dataAddr s c rb off % n = 0) :
    s.load c rt rb off n sgn = s.issueReg c (dataCycles s c (dataAddr s c rb off)) none (fun k => k.setG rt
      (extended n sgn (ofLe ((List.range n).map (fun i => (coreByte s c (dataAddr s c rb off + i)).toNat))))) := by
  have hx : effAddr (s.core c) rb off = dataAddr s c rb off := rfl
  simp only [State.load, State.issueReg, hx, loadExc_none h ha, accessCycles_eq s c h]
  rw [issue_ready hr, issue_ready hr, coreRead_eq _ _ hn h ha]
  simp only [coreByte_movedTo, extended]

/-- A load whose value is that of a row of Table 13.6 completes with it. -/
theorem loadsTo_of {i : Instr} {s : State} {c : Fin 8} {n : Nat} {rt rb : Fin 32} {off : BitVec 15} {sgn : Bool} {v : DWord} (hn : n ∣ 256)
    (he : exec i s = s.ran c (s.load c rt rb off n sgn))
    (hv : extended n sgn (ofLe ((List.range n).map (fun i => (coreByte s c (dataAddr s c rb off + i)).toNat))) = v) :
    LoadsTo i s c n rt rb off v := by
  intro hr h ha
  rw [load_eq_issueReg hr rt rb off sgn hn h ha] at he
  exact writesG_of hr he hv

theorem extended_sign {n v : Nat} {x : BitVec (8 * n)} (hn : 0 < n) (h : v = x.toNat) : extended n true v = x.signExtend 64 := by
  rw [h]
  exact ofInt_signedOf_toNat x (by omega)

theorem extended_zero {n v : Nat} {x : BitVec (8 * n)} (h : v = x.toNat) : extended n false v = x.zeroExtend 64 := by
  rw [h]
  exact BitVec.ofNat_toNat 64 x

theorem ofLe_two (b : Nat → Byte) : ofLe ((List.range 2).map (fun i => (b i).toNat)) = (b 1 ++ b 0).toNat :=
  ofLe_cons_byte _ (ofLe_byte _)

theorem ofLe_four (b : Nat → Byte) : ofLe ((List.range 4).map (fun i => (b i).toNat)) = (b 3 ++ b 2 ++ b 1 ++ b 0).toNat :=
  ofLe_cons_byte _ (ofLe_cons_byte _ (ofLe_two (fun i => b (i + 2))))

theorem ofLe_eight (b : Nat → Byte) : ofLe ((List.range 8).map (fun i => (b i).toNat))
    = (b 7 ++ b 6 ++ b 5 ++ b 4 ++ b 3 ++ b 2 ++ b 1 ++ b 0).toNat :=
  ofLe_cons_byte _ (ofLe_cons_byte _ (ofLe_cons_byte _ (ofLe_cons_byte _ (ofLe_four (fun i => b (i + 4))))))

/-- Settles O34: each row of Table 13.6 by the number that its bytes spell. -/
theorem loadsReturnTheBytes : Obligations.LoadsReturnTheBytes := by
  intro s c rt rb off b
  refine ⟨?lb, ?lbu, ?lh, ?lhu, ?lw, ?lwu, ?ld⟩
  case lb => exact loadsTo_of (by decide) rfl (extended_sign (n := 1) (by decide) (ofLe_byte _))
  case lbu => exact loadsTo_of (by decide) rfl (extended_zero (n := 1) (ofLe_byte _))
  case lh => exact loadsTo_of (by decide) rfl (extended_sign (n := 2) (by decide) (ofLe_two b))
  case lhu => exact loadsTo_of (by decide) rfl (extended_zero (n := 2) (ofLe_two b))
  case lw => exact loadsTo_of (by decide) rfl (extended_sign (n := 4) (by decide) (ofLe_four b))
  case lwu => exact loadsTo_of (by decide) rfl (extended_zero (n := 4) (ofLe_four b))
  case ld => exact loadsTo_of (by decide) rfl ((extended_zero (n := 8) (ofLe_eight b)).trans (BitVec.setWidth_eq _))

end Sys2Proof.Machine
end

section
namespace Sys2Proof.Machine
open Sys2Proof

/-! Stores. -/

/-- A store changes the table SRAM and the cores only. -/
theorem coreWrite_eq (s : State) (c a n v : Nat) :
    ∃ l m, s.coreWrite c a n v = { s with ik := { s.ik with cores := l, table := m } } := by
  unfold State.coreWrite
  split
  · exact ⟨_, s.ik.table, rfl⟩
  · exact ⟨s.ik.cores, _, rfl⟩

theorem coreWrite_core_ne (s : State) {c d : Nat} (a n v : Nat) (h : d ≠ c) : (s.coreWrite c a n v).core d = s.core d := by
  unfold State.coreWrite
  split
  · exact core_setCore_ne s _ h
  · rfl

/-- Of its core, a store changes the data SRAM only. -/
theorem coreWrite_core (s : State) (c a n v : Nat) :
    (s.coreWrite c a n v).core c = { s.core c with data := ((s.coreWrite c a n v).core c).data } := by
  unfold State.coreWrite
  split
  · rw [core_setCore_self]
  · rfl

theorem coreWrite_data (s : State) (c n v : Nat) {a : Nat} (h : 0x100000 ≤ a ∧ a < 0x120000) :
    s.coreWrite c a n v = s.setCore c { s.core c with data := writeBytes (s.core c).data a n v } := by
  rw [State.coreWrite, if_pos (region_data h)]

theorem coreWrite_table (s : State) (c n v : Nat) {a : Nat} (h : 0x1000000 ≤ a ∧ a < 0x1100000) :
    s.coreWrite c a n v = { s with ik.table := writeBytes s.ik.table (a - 0x1000000) n v } := by
  rw [State.coreWrite, if_neg (by rw [region_table h]; decide)]

/-- A store of data SRAM leaves its bytes in the core's data SRAM. -/
theorem coreByte_coreWrite_data {s : State} {c a n v b : Nat} (h : 0x100000 ≤ a ∧ a < 0x120000) :
    coreByte (s.coreWrite c a n v) c b = if b < 0x120000 then mget 0 (writeBytes (s.core c).data a n v) b else coreByte s c b := by
  rw [coreWrite_data s c n v h]
  unfold coreByte
  rw [core_setCore_self]
  split <;> rfl

/-- A store of table SRAM leaves its bytes in the table SRAM. -/
theorem coreByte_coreWrite_table {s : State} {c a n v b : Nat} (h : 0x1000000 ≤ a ∧ a < 0x1100000) :
    coreByte (s.coreWrite c a n v) c b
      = if 0x1000000 ≤ b then mget 0 (writeBytes s.ik.table (a - 0x1000000) n v) (b - 0x1000000) else coreByte s c b := by
  rw [coreWrite_table s c n v h]
  split
  case isTrue hb => rw [coreByte_table hb]
  case isFalse hb =>
    unfold coreByte
    rw [if_pos (Nat.lt_of_not_le hb), if_pos (Nat.lt_of_not_le hb)]
    rfl

/-- An aligned store leaves its bytes at its address, the lowest first. -/
theorem coreByte_coreWrite_in (s : State) (c v : Nat) {a n k : Nat} (hn : n ∣ 256) (h : Writable a) (ha : a % n = 0) (hk : k < n) :
    coreByte (s.coreWrite c a n v) c (a + k) = BitVec.ofNat 8 (v / 256 ^ k) := by
  obtain ⟨hin, -⟩ := access_inside hn ha
  rcases h with h | h
  · rw [coreByte_coreWrite_data h, if_pos (by omega)]
    exact mget_writeBytes_in _ a v hk
  · rw [coreByte_coreWrite_table h, if_pos (by omega), Nat.sub_add_comm h.1]
    exact mget_writeBytes_in _ _ v hk

/-- A store leaves every other byte of its core's map alone. -/
theorem coreByte_coreWrite_out (s : State) (c v : Nat) {a n b : Nat} (h : Writable a) (hb : b < a ∨ a + n ≤ b) :
    coreByte (s.coreWrite c a n v) c b = coreByte s c b := by
  rcases h with h | h
  · rw [coreByte_coreWrite_data h]
    split
    case isTrue hd => rw [mget_writeBytes_out _ _ _ _ hb, coreByte_data hd]
    case isFalse => rfl
  · rw [coreByte_coreWrite_table h]
    split
    case isTrue hd => rw [mget_writeBytes_out _ _ _ _ (by omega), coreByte_table hd]
    case isFalse => rfl

/-- A store keeps the frame of an instruction. -/
theorem coreMoved_coreWrite (s : State) (c cyc pc a n v : Nat) : CoreMoved s ((s.movedTo c cyc pc).coreWrite c a n v) c cyc pc := by
  obtain ⟨l, hl⟩ := movedTo_eq s c cyc pc
  obtain ⟨l', m, hw⟩ := coreWrite_eq (s.movedTo c cyc pc) c a n v
  have hc := coreWrite_core (s.movedTo c cyc pc) c a n v
  rw [movedTo_core] at hc
  refine ⟨?_, ?_, fun d hd => ?_, ?_, ?_, ?_⟩
  · rw [hw, hl]
  · rw [hw, hl]
  · rw [coreWrite_core_ne _ _ _ _ hd, movedTo_core_ne _ _ _ hd]
  · rw [hc]
    rfl
  · rw [hc]
    split <;> rfl
  · rw [hc]
    rfl

/-- A store that raises no exception writes its core's memories after its cycles and its move of pc. -/
theorem store_eq_coreWrite {s : State} {c : Nat} (hr : Ready s c 4) (rt rb : Fin 32) (off : BitVec 15) {n : Nat}
    (h : Writable (dataAddr s c rb off)) (ha : dataAddr s c rb off % n = 0) :
    s.store c rt rb off n = (s.movedTo c (dataCycles s c (dataAddr s c rb off)) ((s.core c).pc + 4)).coreWrite c
      (dataAddr s c rb off) n ((s.core c).g rt).toNat := by
  have hx : effAddr (s.core c) rb off = dataAddr s c rb off := rfl
  simp only [State.store, hx, storeExc_none h ha, accessCycles_eq s c (readable_of_writable h)]
  rw [issue_ready hr, movedTo_core, moved_g]

/-- An aligned store of a writable address completes (R542, R543). -/
theorem storesAt_of {i : Instr} {s : State} {c : Fin 8} {n : Nat} {rt rb : Fin 32} {off : BitVec 15} (hn : n ∣ 256)
    (he : exec i s = s.ran c (s.store c rt rb off n)) : StoresAt i s c n rt rb off := by
  intro hr h ha
  rw [store_eq_coreWrite hr rt rb off h ha] at he
  have hc := coreWrite_core (s.movedTo c (dataCycles s c (dataAddr s c rb off)) ((s.core c).pc + 4)) c (dataAddr s c rb off) n
    ((s.core c).g rt).toNat
  rw [movedTo_core] at hc
  refine ⟨_, he.trans (ran_same ?_), coreMoved_coreWrite _ _ _ _ _ _ _, fun r => ?_, fun j => ?_, ?_, ?_, fun k hk => ?_, fun b hb => ?_⟩
  case refine_6 => rw [coreByte_coreWrite_in _ _ _ hn h ha hk, ofNat_toNat_div_eq_extractLsb']
  case refine_7 => rw [coreByte_coreWrite_out _ _ _ h hb, coreByte_movedTo]
  all_goals
    rw [hc]
    rfl

/-- Settles O35: one lemma for every width that divides the regions' ends. -/
theorem storesChangeOnlyTheirBytes : Obligations.StoresChangeOnlyTheirBytes := by
  intro s c rt rb off
  exact ⟨storesAt_of (by decide) rfl, storesAt_of (by decide) rfl, storesAt_of (by decide) rfl, storesAt_of (by decide) rfl⟩

end Sys2Proof.Machine
end

section
/-! Host accesses by address (chapter 0 and Table 24.2): the accesses that are served, and those that cannot be. -/

namespace Sys2Proof.Machine
open Sys2Proof

/-- An access to an island out of reset that no Halt Sweep stops is served. -/
theorem serveIn_write {s : State} {isl : Nat} (h : Reaches s isl) : s.serveIn isl true = (true, s) := by
  obtain ⟨-, hr, hh⟩ := h
  cases hx : s.ob.halted <;> simp_all [State.serveIn]

theorem serveIn_read {s : State} {isl : Nat} (h : s.inReset isl = false) : s.serveIn isl false = (true, s) := by
  simp [State.serveIn, h]

/-- A register write without a command or an effect of its own gives the fields the write (R18). -/
theorem hostWrite32_plain {s : State} {a v : Nat} {d : RDesc} {ix j : Nat} (ha : inAperture a = false) (hf : findReg a = some (d, ix, j))
    (hw : ∀ r ∈ writeRoutes, r.1 ≠ d.base) (hp : ∀ r ∈ afterWrites, r.1 ≠ d.base) (hu : userHeld d.base ix = false)
    (hs : Reaches s d.isl) : s.hostWrite32 a v = s.writeFields a v := by
  have h1 : writeRoutes.find? (fun r => r.1 == d.base) = none := List.find?_eq_none.mpr (fun r hr => by simpa using hw r hr)
  have h2 : afterWrites.find? (fun r => r.1 == d.base) = none := List.find?_eq_none.mpr (fun r hr => by simpa using hp r hr)
  simp [State.hostWrite32, hs.1, ha, hf, h1, h2, hu, serveIn_write hs]

/-- A read of a register in an island out of reset returns what the register reads (R14). -/
theorem hostRead32_reg {s : State} {a : Nat} {d : RDesc} {ix j : Nat} (hn : s.noAccess = false) (ha : inAperture a = false)
    (hf : findReg a = some (d, ix, j)) (hp : d.base ≠ Reg.ME_POP 0) (hl : d.base ≠ Reg.ME_LATCH 0 0) (hr : s.inReset d.isl = false) :
    s.hostRead32 a = (s.pairRead a).2.reply a (s.pairRead a).1 := by
  simp [State.hostRead32, hn, ha, hf, hp, hl, serveIn_read hr]

/-- An aligned 32-bit access is one of its width. -/
theorem hostLoad_narrow (s : State) {a : Nat} (h : a % 4 = 0) : s.hostLoad a false = s.hostRead32 a := by
  simp [State.hostLoad, h]

theorem hostStore_narrow (s : State) {a : Nat} (h : a % 4 = 0) (v : Nat) : s.hostStore a false v = (s.hostWrite32 a v).usedAt s a := by
  simp [State.hostStore, h]

/-- A read of the low word of a pair latches the high word. -/
theorem pairRead_low {s : State} {a : Nat} (h : pairLow (canonAddr a) = true) :
    s.pairRead a = (s.readWord (canonAddr a), { s with ob.pairLatch :=
      (s.ob.pairLatch.filter (fun e => !(e.1 == 0 && e.2.1 == canonAddr a))) ++ [(0, canonAddr a, s.readWord (canonAddr a + 4))] }) := by
  simp [State.pairRead, h]

/-- A read of the high word of a pair takes its latched word. -/
theorem pairRead_high {s : State} {a : Nat} {e : Nat × Nat × Nat} (h : pairLow (canonAddr a) = false) (h4 : 4 ≤ canonAddr a)
    (hl : pairLow (canonAddr a - 4) = true) (he : s.ob.pairLatch.find? (fun x => x.1 == 0 && x.2.1 == canonAddr a - 4) = some e) :
    s.pairRead a = (e.2.2, { s with ob.pairLatch := s.ob.pairLatch.filter (fun x => !(x.1 == 0 && x.2.1 == canonAddr a - 4)) }) := by
  simp [State.pairRead, h, h4, hl, he]

/-- Settles O1: the access is served, so it is the fields' write or the pair's read. -/
theorem hostAccessesComplete : Obligations.HostAccessesComplete := by
  intro s a
  refine ⟨fun v d ix j h4 ha hf hw hp hu hs => ?write, fun d ix j h4 ha hf hp hl hn hr hlow => ?low,
    fun d ix j e h4 ha hf hp hl hn hr hhigh hge hlow he => ?high⟩
  case write =>
    change Host.Outcome.next (s.hostStore a.toNat false v.toNat) = _
    rw [hostStore_narrow s h4, hostWrite32_plain ha hf hw hp hu hs]
  case low =>
    refine ⟨s.hostLoad a.toNat false, rfl, ?_⟩
    rw [hostLoad_narrow s h4, hostRead32_reg hn ha hf hp hl hr, pairRead_low hlow]
    exact ⟨rfl, rfl, List.mem_append_right _ List.mem_cons_self⟩
  case high =>
    refine ⟨s.hostLoad a.toNat false, rfl, ?_⟩
    rw [hostLoad_narrow s h4, hostRead32_reg hn ha hf hp hl hr, pairRead_high hhigh hge hlow he]
    refine ⟨rfl, rfl, fun x hx ⟨hhost, haddr⟩ => ?_⟩
    have hkept := (List.mem_filter.mp hx).2
    simp [hhost, haddr] at hkept

end Sys2Proof.Machine
end

section
namespace Sys2Proof.Machine
open Sys2Proof

/-! Accesses that cannot be served (R21 to R25). -/

theorem glClean_iff (s : State) : s.glClean = true ↔ StatusClear s := by
  simp [State.glClean, StatusClear, and_assoc]

/-- From `s` to `t` an access at offset `a` sets the bit `f` of GL_STATUS, captures its offset while every bit of GL_STATUS reads 0, and
changes no other register field (R25). -/
def CapturedAs (s t : State) (f : Fld) (a : Nat) : Prop :=
  t.rf f = 1 ∧ (StatusClear s → t.rf Reg.GL_ERR_OFFSET_OFFSET = a)
    ∧ (¬ StatusClear s → t.rf Reg.GL_ERR_OFFSET_OFFSET = s.rf Reg.GL_ERR_OFFSET_OFFSET)
    ∧ ∀ g : Fld, g.key ≠ f.key → g.key ≠ Reg.GL_ERR_OFFSET_OFFSET.key → t.rf g = s.rf g

/-- GL_ERR_OFFSET holds every offset of the window. -/
theorem rf_wr_errOffset (s : State) (a : BitVec 26) : (s.wr Reg.GL_ERR_OFFSET_OFFSET a.toNat).rf Reg.GL_ERR_OFFSET_OFFSET = a.toNat := by
  rw [State.rf_wr_self]
  exact Nat.mod_eq_of_lt a.isLt

theorem glErr_captures (s : State) {f : Fld} (a : BitVec 26) (hf : f.hi = f.lo) (hk : f.key ≠ Reg.GL_ERR_OFFSET_OFFSET.key) :
    CapturedAs s (s.glErr f a.toNat) f a.toNat := by
  refine ⟨?_, fun hc => ?_, fun hc => ?_, fun g hg ho => ?_⟩
  · rw [State.glErr, State.rf_wr_self]
    exact Nat.mod_eq_of_lt (Nat.one_lt_two_pow (by omega))
  · rw [State.glErr, if_pos ((glClean_iff s).mpr hc), State.rf_wr_ne _ _ hk, rf_wr_errOffset]
  · rw [State.glErr, if_neg (fun h => hc ((glClean_iff s).mp h)), State.rf_wr_ne _ _ hk]
  · rw [State.glErr, State.rf_wr_ne _ _ hg.symm]
    split
    · rw [State.rf_wr_ne _ _ ho.symm]
    · rfl

/-- The offset that an access used is what it has captured already. -/
theorem usedAt_captures {s t : State} {f : Fld} {a : BitVec 26} (hk : f.key ≠ Reg.GL_ERR_OFFSET_OFFSET.key)
    (h : CapturedAs s t f a.toNat) : CapturedAs s (t.usedAt s a.toNat) f a.toNat := by
  unfold State.usedAt
  split
  case isFalse => exact h
  case isTrue hcond =>
    obtain ⟨hbit, -, -, hothers⟩ := h
    have hclean : StatusClear s := (glClean_iff s).mp (by simp_all)
    refine ⟨?_, fun _ => rf_wr_errOffset t a, fun hc => absurd hclean hc, fun g hg ho => ?_⟩
    · rw [State.rf_wr_ne _ _ hk.symm, hbit]
    · rw [State.rf_wr_ne _ _ ho.symm, hothers g hg ho]

theorem glErr_frame (s : State) (f : Fld) (a : Nat) : s.glErr f a = { s with regs := (s.glErr f a).regs } := by
  unfold State.glErr
  split <;> rfl

theorem usedAt_frame {s t : State} (a : Nat) (h : t = { s with regs := t.regs }) :
    t.usedAt s a = { s with regs := (t.usedAt s a).regs } := by
  rw [h]
  unfold State.usedAt
  split <;> rfl

/-- A read that cannot be served returns 0 and leaves the register fields as R25 gives them. -/
theorem refusedRead {i : Instr} {s : State} {f : Fld} {a : BitVec 26} (hf : f.hi = f.lo) (hk : f.key ≠ Reg.GL_ERR_OFFSET_OFFSET.key)
    (he : exec i s = .next ((s.glErr f a.toNat).reply a.toNat 0)) :
    Yields i s (fun t => CapturedAs s t f a.toNat
      ∧ t = { s with regs := t.regs, outbox := (s.out (.readData a.toNat 0)).outbox }) := by
  refine ⟨_, he, glErr_captures s a hf hk, ?_⟩
  rw [glErr_frame]
  rfl

/-- A write that cannot be served is discarded and leaves the register fields as R25 gives them. -/
theorem refusedWrite {i : Instr} {s : State} {f : Fld} {a : BitVec 26} (hf : f.hi = f.lo) (hk : f.key ≠ Reg.GL_ERR_OFFSET_OFFSET.key)
    (he : exec i s = .next (s.glErr f a.toNat) ∨ exec i s = .next ((s.glErr f a.toNat).usedAt s a.toNat)) :
    Yields i s (fun t => CapturedAs s t f a.toNat ∧ t = { s with regs := t.regs }) := by
  have hc := glErr_captures s a hf hk
  rcases he with he | he
  · exact ⟨_, he, hc, glErr_frame s f a.toNat⟩
  · exact ⟨_, he, usedAt_captures hk hc, usedAt_frame a.toNat (glErr_frame s f a.toNat)⟩

/-- A 32-bit read of an offset that no register and no aperture has (R21). -/
theorem hostLoad_unmapped {s : State} {a : Nat} (hn : s.noAccess = false) (h4 : a % 4 = 0) (ha : inAperture a = false)
    (hf : findReg a = none) : s.hostLoad a false = (s.glErr Reg.GL_STATUS_UNMAPPED a).reply a 0 := by
  simp [hostLoad_narrow s h4, State.hostRead32, hn, ha, hf]

/-- A 32-bit write of an offset that no register and no aperture has (R22). -/
theorem hostStore_unmapped {s : State} {a : Nat} (hn : s.noAccess = false) (h4 : a % 4 = 0) (ha : inAperture a = false)
    (hf : findReg a = none) (v : Nat) : s.hostStore a false v = (s.glErr Reg.GL_STATUS_UNMAPPED a).usedAt s a := by
  simp [hostStore_narrow s h4, State.hostWrite32, hn, ha, hf]

/-- A 64-bit access at an offset that takes none: not aligned, or a register that is no low word of a pair, no CURSOR and no window of a
pop (R23). -/
def TakesNoPair (a : Nat) : Prop :=
  a % 8 ≠ 0 ∨ (inAperture a = false ∧ findReg a ≠ none ∧ canonAddr a ≠ Reg.LG_CURSOR_LO ∧ pairLow (canonAddr a) = false
    ∧ ∀ d ix j, findReg a = some (d, ix, j) → d.base ≠ Reg.ME_POP 0)

theorem misaligned_served {s : State} (hn : s.noAccess = false) (a : Nat) : s.misaligned a = s.glErr Reg.GL_STATUS_MISALIGNED a := by
  simp [State.misaligned, hn]

theorem hostLoad_narrow_misaligned {s : State} {a : Nat} (hn : s.noAccess = false) (h4 : a % 4 ≠ 0) :
    s.hostLoad a false = (s.glErr Reg.GL_STATUS_MISALIGNED a).reply a 0 := by
  simp [State.hostLoad, h4, hn, misaligned_served]

theorem hostStore_narrow_misaligned {s : State} {a : Nat} (hn : s.noAccess = false) (h4 : a % 4 ≠ 0) (v : Nat) :
    s.hostStore a false v = (s.glErr Reg.GL_STATUS_MISALIGNED a).usedAt s a := by
  simp [State.hostStore, h4, hn, misaligned_served]

theorem hostRead64_misaligned {s : State} {a : Nat} (hn : s.noAccess = false) (h : TakesNoPair a) (h8 : a % 8 = 0) :
    s.hostRead64 a = (s.glErr Reg.GL_STATUS_MISALIGNED a).reply a 0 := by
  obtain h | ⟨hap, hreg, -, hlow, hpop⟩ := h
  · exact absurd h8 h
  · obtain ⟨⟨d, ix, j⟩, hf⟩ := Option.ne_none_iff_exists'.mp hreg
    simp [State.hostRead64, hn, hap, hf, hpop d ix j hf, hlow, misaligned_served hn]

theorem hostWrite64_misaligned {s : State} {a : Nat} (hn : s.noAccess = false) (h : TakesNoPair a) (h8 : a % 8 = 0) (v : Nat) :
    s.hostWrite64 a v = s.glErr Reg.GL_STATUS_MISALIGNED a := by
  obtain h | ⟨hap, -, hcur, hlow, -⟩ := h
  · exact absurd h8 h
  · simp [State.hostWrite64, hap, hcur, hlow, misaligned_served hn]

theorem hostLoad_wide_misaligned {s : State} {a : Nat} (hn : s.noAccess = false) (h : TakesNoPair a) :
    s.hostLoad a true = (s.glErr Reg.GL_STATUS_MISALIGNED a).reply a 0 := by
  by_cases h8 : a % 8 = 0
  · simp [State.hostLoad, h8, hostRead64_misaligned hn h h8]
  · simp [State.hostLoad, h8, hn, misaligned_served]

theorem hostStore_wide_misaligned {s : State} {a : Nat} (hn : s.noAccess = false) (h : TakesNoPair a) (v : Nat) :
    s.hostStore a true v = (s.glErr Reg.GL_STATUS_MISALIGNED a).usedAt s a := by
  by_cases h8 : a % 8 = 0
  · simp [State.hostStore, h8, hostWrite64_misaligned hn h h8]
  · simp [State.hostStore, h8, hn, misaligned_served]

/-- The sizes and offsets that R23 names, by the width of the access: a byte or a half word, a word, or a double word. -/
theorem misaligned_cases {a : Nat} {sz : Fin 4} (h : sz.val < 2 ∨ a % 2 ^ sz.val ≠ 0 ∨ (sz.val = 3 ∧ inAperture a = false
      ∧ findReg a ≠ none ∧ canonAddr a ≠ Reg.LG_CURSOR_LO ∧ pairLow (canonAddr a) = false
      ∧ ∀ d ix j, findReg a = some (d, ix, j) → d.base ≠ Reg.ME_POP 0)) :
    sz.val < 2 ∨ (sz = 2 ∧ a % 4 ≠ 0) ∨ (sz = 3 ∧ TakesNoPair a) := by
  obtain h | h | ⟨h3, hp⟩ := h
  · exact .inl h
  · match sz, h with
    | 0, _ => exact .inl (by decide)
    | 1, _ => exact .inl (by decide)
    | 2, h => exact .inr (.inl ⟨rfl, h⟩)
    | 3, h => exact .inr (.inr ⟨rfl, .inl h⟩)
  · exact .inr (.inr ⟨Fin.ext h3, .inr hp⟩)

/-- A misaligned read is answered as one of an undefined offset, with MISALIGNED (R23). -/
theorem exec_misaligned_read {s : State} {a : BitVec 26} {sz : Fin 4} (v : DWord) (hn : s.noAccess = false)
    (h : sz.val < 2 ∨ (sz = 2 ∧ a.toNat % 4 ≠ 0) ∨ (sz = 3 ∧ TakesNoPair a.toNat)) :
    exec (.misalignedAccess a sz false v) s = .next ((s.glErr Reg.GL_STATUS_MISALIGNED a.toNat).reply a.toNat 0) := by
  change execMisalignedAccess a sz false v s = _
  obtain h | ⟨rfl, h⟩ | ⟨rfl, h⟩ := h
  · simp [execMisalignedAccess, h, hn, misaligned_served]
  · exact congrArg _ (hostLoad_narrow_misaligned hn h)
  · exact congrArg _ (hostLoad_wide_misaligned hn h)

/-- A misaligned write is discarded as one of an undefined offset, with MISALIGNED (R23). -/
theorem exec_misaligned_write {s : State} {a : BitVec 26} {sz : Fin 4} (v : DWord) (hn : s.noAccess = false)
    (h : sz.val < 2 ∨ (sz = 2 ∧ a.toNat % 4 ≠ 0) ∨ (sz = 3 ∧ TakesNoPair a.toNat)) :
    exec (.misalignedAccess a sz true v) s = .next (s.glErr Reg.GL_STATUS_MISALIGNED a.toNat)
      ∨ exec (.misalignedAccess a sz true v) s = .next ((s.glErr Reg.GL_STATUS_MISALIGNED a.toNat).usedAt s a.toNat) := by
  change execMisalignedAccess a sz true v s = _ ∨ execMisalignedAccess a sz true v s = _
  obtain h | ⟨rfl, h⟩ | ⟨rfl, h⟩ := h
  · exact .inl (by simp [execMisalignedAccess, h, misaligned_served hn])
  · exact .inr (congrArg _ (hostStore_narrow_misaligned hn h v.toNat))
  · exact .inr (congrArg _ (hostStore_wide_misaligned hn h v.toNat))

/-- Settles O2: every access refused is `State.glErr` of its bit, with the reply of a read. -/
theorem undefinedOffsetsSetStatus : Obligations.UndefinedOffsetsSetStatus := by
  intro s a hn
  refine ⟨fun h4 ha hf => ⟨?read, fun v => ?write⟩, fun sz v h => ⟨?misread, ?miswrite⟩⟩
  case read => exact refusedRead rfl (by decide) (congrArg _ (hostLoad_unmapped hn h4 ha hf))
  case write => exact refusedWrite rfl (by decide) (.inr (congrArg _ (hostStore_unmapped hn h4 ha hf v.toNat)))
  case misread => exact refusedRead rfl (by decide) (exec_misaligned_read v hn (misaligned_cases h))
  case miswrite => exact refusedWrite rfl (by decide) (exec_misaligned_write v hn (misaligned_cases h))

/-- Settles O59: no store lists an entry at reset, so every field and every byte reads its default. -/
theorem resetValues : Obligations.ResetValues := by
  refine ⟨State.reset_rf, rfl, rfl, ⟨rfl, rfl, rfl, rfl⟩, fun n => ⟨rfl, rfl, rfl, rfl⟩, rfl, rfl, rfl, rfl, rfl, rfl, rfl, rfl,
    ⟨rfl, fun c => ⟨rfl, rfl⟩⟩, fun c a => ?_⟩
  unfold coreByte
  split
  · rfl
  · split <;> rfl

end Sys2Proof.Machine
end

section
/-! The die's edge through a release of ownership: none of the operations of the units that it runs touches the signals and supplies. -/

namespace Sys2Proof.Machine
open Sys2Proof

variable {α : Type}

/-- What no pass of a fold changes, the fold keeps. -/
theorem foldl_keeps {β : Type} (g : State → β) (l : List α) (f : State → α → State) (h : ∀ x a, g (f x a) = g x) (s : State) :
    g (l.foldl f s) = g s := by
  induction l generalizing s with
  | nil => rfl
  | cons a t ih => rw [List.foldl_cons, ih, h]

theorem foldl_edge (l : List α) (f : State → α → State) (h : ∀ x a, (f x a).edge = x.edge) (s : State) : (l.foldl f s).edge = s.edge :=
  foldl_keeps State.edge l f h s

@[simp] theorem foldl_out_edge (l : List α) (o : α → Out) (s : State) : (l.foldl (fun x a => x.out (o a)) s).edge = s.edge :=
  foldl_edge l _ (fun x a => State.out_edge x (o a)) s

theorem upto_edge (s : State) (n : Nat) (f : Nat → State → State) (h : ∀ i x, (f i x).edge = x.edge) : (s.upto n f).edge = s.edge :=
  foldl_edge _ _ (fun x i => h i x) s

/-! Changes of one part of a unit. -/

@[simp] theorem setCore_edge (s : State) (c : Nat) (k : IkCore) : (s.setCore c k).edge = s.edge := rfl
@[simp] theorem setFch_edge (s : State) (n : Nat) (c : FlCh) : (s.setFch n c).edge = s.edge := rfl
@[simp] theorem setRing_edge (s : State) (r : Nat) (x : CfRing) : (s.setRing r x).edge = s.edge := rfl
@[simp] theorem setDesc_edge (s : State) (r : Nat) (d : Option CfDesc) : (s.setDesc r d).edge = s.edge := rfl
@[simp] theorem setLane_edge (s : State) (n : Nat) (x : Phase) : (s.setLane n x).edge = s.edge := rfl
@[simp] theorem setRail_edge (s : State) (r : Nat) (x : Rail) : (s.setRail r x).edge = s.edge := rfl
@[simp] theorem setDom_edge (s : State) (d : Nat) (x : Dom) : (s.setDom d x).edge = s.edge := rfl
@[simp] theorem setLink_edge (s : State) (n : Nat) (x : Link) : (s.setLink n x).edge = s.edge := rfl
@[simp] theorem setVp_edge (s : State) (p : Nat) (x : VxPort) : (s.setVp p x).edge = s.edge := rfl
@[simp] theorem setDone_edge (s : State) (n d : Nat) : (s.setDone n d).edge = s.edge := rfl
@[simp] theorem setBit_edge (s : State) (f : Fld) (n : Nat) : (s.setBit f n).edge = s.edge := rfl
@[simp] theorem satAdd_edge (s : State) (f : Fld) (n : Nat) : (s.satAdd f n).edge = s.edge := rfl
@[simp] theorem fePut_edge (s : State) (a : FeAcc) : (s.fePut a).edge = s.edge := rfl
@[simp] theorem feSwap_edge (s : State) (a : FeAcc) (b : Option FeAcc) : (s.feSwap a b).edge = s.edge := rfl
@[simp] theorem tlbUse_edge (s : State) (e : Tlb) : (s.tlbUse e).edge = s.edge := rfl
@[simp] theorem ringErr_edge (s : State) (r st : Nat) (i : Option Nat) : (s.ringErr r st i).edge = s.edge := rfl
@[simp] theorem descFetch_edge (s : State) (r loc chained : Nat) : (s.descFetch r loc chained).edge = s.edge := rfl
@[simp] theorem meTakeover_edge (s : State) : s.meTakeover.edge = s.edge := rfl
@[simp] theorem clearFields_edge (s : State) (cls : Nat) (hit : Nat → Bool) : (s.clearFields cls hit).edge = s.edge := rfl
@[simp] theorem chalStat_edge (s : State) (pend result : Nat) : (s.chalStat pend result).edge = s.edge := rfl
@[simp] theorem walkStart_edge (s : State) (user ctx a : Nat) (write : Bool) : (s.walkStart user ctx a write).2.edge = s.edge := rfl

@[simp] theorem setRole_edge (s : State) (into : Nat) : (s.setRole into).edge = s.edge := by
  unfold State.setRole
  split <;> rfl

@[simp] theorem roleSettle_edge (s : State) : s.roleSettle.edge = s.edge := by
  unfold State.roleSettle
  repeat' split
  all_goals simp

/-! Lanes, legs and pins. -/

@[simp] theorem drive_edge (s : State) (n : Nat) (v : Pin) : (s.drive n v).edge = s.edge := by
  unfold State.drive
  split <;> rfl

@[simp] theorem rvPin_edge (s : State) (n : Nat) (v : Pin) : (s.rvPin n v).edge = s.edge := by
  unfold State.rvPin
  split <;> rfl

@[simp] theorem rvBleed_edge (s : State) (m : Nat) : (s.rvBleed m).edge = s.edge := by
  unfold State.rvBleed
  split <;> rfl

@[simp] theorem rvPinsOff_edge (s : State) : s.rvPinsOff.edge = s.edge := by
  unfold State.rvPinsOff
  simp only [rvBleed_edge]
  split <;> simp [upto_edge]

@[simp] theorem lanesOff_edge (s : State) : s.lanesOff.edge = s.edge := by
  unfold State.lanesOff
  rw [upto_edge, State.out_edge, rvPinsOff_edge, foldl_edge]
  · intro x n
    split <;> simp
  · intro r x
    dsimp only
    split <;> rfl

/-! Messages, events and notices. -/

@[simp] theorem obsAdd_edge (s : State) (n : Nat) : (s.obsAdd n).edge = s.edge := rfl

@[simp] theorem count_edge (s : State) (src : Nat) (t : ObsTags) : (s.count src t).edge = s.edge := by
  unfold State.count
  split
  · refine upto_edge _ _ _ (fun g x => ?_)
    repeat' split
    all_goals simp
  · rfl

@[simp] theorem qAccept_edge (s : State) (q : Nat) (m : QMsg) : (s.qAccept q m).edge = s.edge := by
  simp [State.qAccept]

@[simp] theorem qDrop_edge (s : State) (q source : Nat) (chan : Bool) : (s.qDrop q source chan).edge = s.edge := by
  unfold State.qDrop
  simp only [count_edge, State.emit_edge]
  repeat' split
  all_goals simp

@[simp] theorem sendQueue_edge (s : State) (q : Nat) (m : QMsg) : (s.sendQueue q m).2.edge = s.edge := by
  unfold State.sendQueue
  repeat' split
  all_goals simp

@[simp] theorem polFell_edge (s : State) (f : Fld) : (s.polFell f).edge = s.edge := by
  unfold State.polFell
  split <;> rfl

@[simp] theorem hwDeliver_edge (s : State) (code p0 p1 p2 : Nat) : (s.hwDeliver code p0 p1 p2).edge = s.edge := by
  unfold State.hwDeliver
  dsimp only
  split <;> simp

@[simp] theorem hwEvent_edge (s : State) (bit : Option Nat) (code p0 p1 p2 : Nat) : (s.hwEvent bit code p0 p1 p2).edge = s.edge := by
  unfold State.hwEvent
  dsimp only
  repeat' split
  all_goals simp

@[simp] theorem emitHw_edge (s : State) (bit : Option Nat) (src code p0 p1 p2 p3 : Nat) :
    (s.emitHw bit src code p0 p1 p2 p3).edge = s.edge := by
  simp [State.emitHw]

@[simp] theorem notice_edge (s : State) (code rseq : Nat) : (s.notice code rseq).edge = s.edge := by
  unfold State.notice
  dsimp only
  repeat' split
  all_goals simp

@[simp] theorem raiseVec_edge (s : State) (v : Nat) : (s.raiseVec v).edge = s.edge := by
  unfold State.raiseVec
  repeat' split
  all_goals rfl

@[simp] theorem egressPut_edge (s : State) (p : Nat) (o : VxOut) : (s.egressPut p o).edge = s.edge := by
  unfold State.egressPut
  dsimp only
  repeat' split
  all_goals simp

@[simp] theorem vxSend_edge (s : State) (ports : List Nat) (ty cls dst : Nat) (body : List Nat) :
    (s.vxSend ports ty cls dst body).edge = s.edge := by
  unfold State.vxSend
  dsimp only
  split
  · rfl
  · rw [foldl_edge _ _ (fun x p => egressPut_edge x p _)]

@[simp] theorem sendRemote_edge (s : State) (e tag : Nat) (p0 p1 p2 : DWord) : (s.sendRemote e tag p0 p1 p2).2.edge = s.edge := by
  unfold State.sendRemote
  dsimp only
  repeat' split
  all_goals simp

/-! The front end's descriptors and accesses. -/

@[simp] theorem ringStop_edge (s : State) (r st : Nat) (i : Option Nat) : (s.ringStop r st i).edge = s.edge := by
  unfold State.ringStop
  dsimp only
  split <;> simp

@[simp] theorem cfPrefetch_edge (s : State) : s.cfPrefetch.edge = s.edge := by
  unfold State.cfPrefetch
  repeat' split
  all_goals simp

@[simp] theorem descFinish_edge (s : State) (r : Nat) : (s.descFinish r).edge = s.edge := by
  unfold State.descFinish
  dsimp only
  repeat' split
  all_goals simp

@[simp] theorem ringXlate_edge (s : State) (r : Nat) : (s.ringXlate r).edge = s.edge := by
  unfold State.ringXlate
  dsimp only
  repeat' split
  all_goals simp

@[simp] theorem descSignal_edge (s : State) (r : Nat) : (s.descSignal r).edge = s.edge := by
  unfold State.descSignal
  dsimp only
  repeat' split
  all_goals simp

@[simp] theorem descCheck_edge (s : State) (r : Nat) : (s.descCheck r).edge = s.edge := by
  unfold State.descCheck
  dsimp only
  repeat' split
  all_goals simp

@[simp] theorem cmdDone_edge (s : State) (r i st : Nat) : (s.cmdDone r i st).edge = s.edge := by
  unfold State.cmdDone
  repeat' split
  all_goals simp

@[simp] theorem faultInfo_edge (s : State) (level : Option Nat) (write walk : Bool) : (s.faultInfo level write walk).2.edge = s.edge := by
  unfold State.faultInfo
  cases level <;> simp

@[simp] theorem flogPost_edge (s : State) (ch kind : Nat) (l : List Nat) : (s.flogPost ch kind l).edge = s.edge := by
  unfold State.flogPost
  repeat' split
  all_goals simp

@[simp] theorem faultTail_edge (s : State) (ch kind ctx : Nat) (l : List Nat) (log : Bool) :
    (s.faultTail ch kind ctx l log).edge = s.edge := by
  unfold State.faultTail
  cases log <;> simp

@[simp] theorem feFaultRegs_edge (s : State) (l : List Nat) : (s.feFaultRegs l).edge = s.edge :=
  upto_edge _ _ _ (fun _ _ => rfl)

@[simp] theorem feFailed_edge (s : State) (a : FeAcc) (kind : Nat) : (s.feFailed a kind).edge = s.edge := by
  unfold State.feFailed
  repeat' split
  all_goals simp

@[simp] theorem feFault_edge (s : State) (a : FeAcc) (kind addr : Nat) (level : Option Nat) (walk : Bool) :
    (s.feFault a kind addr level walk).edge = s.edge := by
  simp [State.feFault]

@[simp] theorem feWritten_edge (s : State) (a : FeAcc) : (s.feWritten a).edge = s.edge := by
  unfold State.feWritten
  split <;> simp

@[simp] theorem feIssue_edge (s : State) (a : FeAcc) (o : Nat) : (s.feIssue a o).edge = s.edge := by
  unfold State.feIssue
  split <;> simp

@[simp] theorem translate_edge (s : State) (ctx a : Nat) (write : Bool) : (s.translate ctx a write).2.edge = s.edge := by
  unfold State.translate
  repeat' split
  all_goals simp

theorem edge_of_translate {s t : State} {ctx a : Nat} {write : Bool} {r : Trans} (h : s.translate ctx a write = (r, t)) :
    t.edge = s.edge := by
  rw [← translate_edge s ctx a write, h]

@[simp] theorem fePump_edge (n : Nat) (s : State) : (fePump n s).edge = s.edge := by
  induction n generalizing s with
  | zero => rfl
  | succ n ih =>
    unfold fePump
    dsimp only
    repeat' split
    case isTrue => rfl
    case h_1 => rfl
    case h_1 kind lv t h => simp [ih, edge_of_translate h]
    case h_2 t h => simp [ih, edge_of_translate h]
    case h_3 o t h => simp [ih, edge_of_translate h]

/-! The channels of Flume. -/

@[simp] theorem chStart_edge (s : State) (n : Nat) (c : FlCh) : (s.chStart n c).edge = s.edge := by
  unfold State.chStart
  dsimp only
  split <;> simp

@[simp] theorem loadAssign_edge (s : State) : s.loadAssign.edge = s.edge := by
  unfold State.loadAssign
  dsimp only
  repeat' split
  all_goals simp

@[simp] theorem loadAll_edge (s : State) : s.loadAll.edge = s.edge := foldl_edge _ _ (fun x _ => loadAssign_edge x) s

@[simp] theorem loadAbort_edge (s : State) (n cause : Nat) : (s.loadAbort n cause).edge = s.edge := by
  unfold State.loadAbort
  dsimp only
  split <;> simp

@[simp] theorem chFault_edge (s : State) (n k kind addr : Nat) (level : Option Nat) (walk : Bool) :
    (s.chFault n k kind addr level walk).edge = s.edge := by
  unfold State.chFault
  dsimp only
  rw [faultTail_edge, upto_edge _ _ _ (fun _ _ => State.wr_edge _ _ _), setFch_edge, faultInfo_edge]

@[simp] theorem chTake_edge (s : State) (n : Nat) : (s.chTake n).edge = s.edge := by
  unfold State.chTake
  dsimp only
  split
  · rw [chFault_edge]
  · split
    case h_1 kind lv t h =>
      rw [chFault_edge]
      exact (edge_of_translate h :)
    case h_2 t h => exact (edge_of_translate h :)
    case h_3 o t h =>
      have ht : t.edge = s.edge := (edge_of_translate h :)
      split
      · split <;> simp [ht]
      · split
        case h_1 kind lv u hu => simp [edge_of_translate hu, ht]
        case h_2 u hu => simp [edge_of_translate hu, ht]
        case h_3 o2 u hu => split <;> simp [edge_of_translate hu, ht]

@[simp] theorem chPump_edge (n : Nat) (s : State) : (chPump n s).edge = s.edge := by
  induction n generalizing s with
  | zero => rfl
  | succ n ih =>
    unfold chPump
    repeat' split
    all_goals simp [ih]

@[simp] theorem flPump_edge (s : State) : s.flPump.edge = s.edge := chPump_edge _ s

@[simp] theorem cfSettle_edge (s : State) : s.cfSettle.edge = s.edge := by
  simp [State.cfSettle]

@[simp] theorem streamFrom_edge (s : State) (n : Nat) : (s.streamFrom n).2.edge = s.edge := by
  unfold State.streamFrom
  dsimp only
  repeat' split
  all_goals simp

@[simp] theorem streamPump_edge (s : State) : s.streamPump.edge = s.edge := by
  unfold State.streamPump
  dsimp only
  repeat' split
  all_goals simp

@[simp] theorem streamDone_edge (s : State) : s.streamDone.edge = s.edge := by
  simp [State.streamDone]

@[simp] theorem expDone_edge (s : State) : s.expDone.edge = s.edge := by
  unfold State.expDone
  dsimp only
  repeat' split
  all_goals simp

/-- The parts of a granule leave one after another. -/
theorem foldl_pair_edge {β : Type} (l : List α) (f : State × β → α → State × β) (h : ∀ y a, (f y a).1.edge = y.1.edge)
    (y : State × β) : (l.foldl f y).1.edge = y.1.edge := by
  induction l generalizing y with
  | nil => rfl
  | cons a t ih => rw [List.foldl_cons, ih, h]

@[simp] theorem chWrite_edge (s : State) (n k : Nat) (bytes : List Nat) : (s.chWrite n k bytes).edge = s.edge := by
  unfold State.chWrite
  dsimp only
  rw [setDone_edge]
  split
  · rw [setFch_edge, foldl_pair_edge]
    intro y p
    rfl
  · rfl

@[simp] theorem chDrain_edge (n f : Nat) (s : State) : (chDrain n f s).edge = s.edge := by
  induction f generalizing s with
  | zero => rfl
  | succ f ih =>
    unfold chDrain
    dsimp only
    split
    · rfl
    · simp [ih]

@[simp] theorem chSettle_edge (s : State) (n : Nat) : (s.chSettle n).edge = s.edge := by
  unfold State.chSettle
  dsimp only
  repeat' split
  all_goals simp

@[simp] theorem holdZero_edge (s : State) : s.holdZero.edge = s.edge := by
  unfold State.holdZero
  split
  · rfl
  · refine upto_edge _ _ _ (fun n x => ?_)
    split <;> simp

@[simp] theorem flSettle_edge (s : State) : s.flSettle.edge = s.edge := by
  simp [State.flSettle, upto_edge]

/-! The Standby of a die that has released ownership. -/

@[simp] theorem enterFloor_edge (s : State) (c cause : Nat) : (s.enterFloor c cause).edge = s.edge := by
  unfold State.enterFloor
  dsimp only
  repeat' split
  all_goals simp

@[simp] theorem stopCore_edge (s : State) (c cause : Nat) : (s.stopCore c cause).edge = s.edge := by
  unfold State.stopCore
  split <;> simp

@[simp] theorem flStop_edge (s : State) (cause : Nat) : (s.flStop cause).edge = s.edge := by
  unfold State.flStop
  dsimp only
  rw [upto_edge]
  intro n x
  split <;> simp

@[simp] theorem provClose_edge (s : State) : s.provClose.edge = s.edge := by
  unfold State.provClose
  split <;> rfl

@[simp] theorem debugRelock_edge (s : State) (cause : Nat) : (s.debugRelock cause).edge = s.edge := by
  unfold State.debugRelock
  split <;> rfl

@[simp] theorem chalRecord_edge (s : State) (purpose reason key : Nat) : (s.chalRecord purpose reason key).edge = s.edge := by
  unfold State.chalRecord
  split <;> simp

/-- What a takeover ends in the security engine. -/
@[simp] theorem seReset_takeover_edge (s : State) : (s.seReset true true true false false).edge = s.edge := by
  have h : (s.debugRelock 1).provClose.edge = s.edge := by simp
  simp only [State.seReset, if_true, Bool.false_eq_true, if_false]
  split
  · split <;> simp
  · exact h

@[simp] theorem seResetEnd_edge (s : State) : s.seResetEnd.edge = s.edge := by
  unfold State.seResetEnd
  split <;> simp

@[simp] theorem ttClear_edge (s : State) : s.ttClear.edge = s.edge := by
  simp [State.ttClear]

@[simp] theorem cfQuiesce_edge (s : State) (cause : Nat) : (s.cfQuiesce cause).edge = s.edge := by
  unfold State.cfQuiesce
  dsimp only
  rw [State.emit_edge, State.wr_edge, upto_edge _ _ _ (fun _ _ => State.wr_edge _ _ _)]
  split
  · rw [foldl_edge]
    intro x e
    repeat' split
    all_goals simp
  · rfl

@[simp] theorem standDown_edge (s : State) : s.standDown.edge = s.edge := by
  unfold State.standDown
  dsimp only
  rw [State.wr_edge, ttClear_edge, flStop_edge, cfQuiesce_edge, upto_edge]
  intro c x
  split <;> simp

/-- A release of ownership lets go of OWN_N, and leaves every other signal and supply of the die's edge as it was (R710). -/
theorem ownRelease_edge (s : State) (cause : Nat) :
    (s.ownRelease cause).edge = { s.edge with ownPinLow := (s.ownRelease cause).edge.ownPinLow } := by
  unfold State.ownRelease
  split
  · rfl
  · dsimp only
    rw [flSettle_edge, standDown_edge, upto_edge _ _ _ (fun _ _ => setLink_edge _ _ _), State.emit_edge, setRole_edge, lanesOff_edge]

end Sys2Proof.Machine
end

section
/-! Power, cold start and the supplies (Tables 2.8 and 3.4). -/

namespace Sys2Proof.Machine
open Sys2Proof

theorem setRole_isl (s : State) (into : Nat) : (s.setRole into).isl = s.isl := by
  unfold State.setRole
  split <;> rfl

/-- Settling the role touches the role and its record only. -/
theorem roleSettle_isl (s : State) : s.roleSettle.isl = s.isl := by
  unfold State.roleSettle
  repeat' split
  all_goals simp [setRole_isl]

theorem setRole_ao (s : State) (into : Nat) : (s.setRole into).ao = s.ao := by
  unfold State.setRole
  split <;> rfl

theorem roleSettle_ao (s : State) : s.roleSettle.ao = s.ao := by
  unfold State.roleSettle
  repeat' split
  all_goals simp [setRole_ao]

/-- What a merge of two stores lists comes from one of them. -/
theorem mem_mergeKeys {new old : List (Nat × Nat)} {e : Nat × Nat} (h : e ∈ mergeKeys new old) : e ∈ new ∨ e ∈ old := by
  unfold mergeKeys at h
  induction new generalizing old with
  | nil => exact .inr h
  | cons x t ih =>
    rcases ih h with h | h
    · exact .inl (List.mem_cons_of_mem _ h)
    · rcases mem_mins h with rfl | h
      · exact .inl List.mem_cons_self
      · exact .inr h

/-- A field that a reset class cleared and did not keep is not listed after it. -/
theorem kept_of_mem_clearFields {s : State} {cls : Nat} {e : Nat × Nat} (h : e ∈ (s.clearFields cls (fun _ => true)).regs) :
    (keyKept e.1).1 &&& cls ≠ 0 := by
  simpa using (List.mem_filter.mp h).2

/-- The fields of a state whose reservoir's Persistent fields have been restored. -/
theorem mem_rvRestore {s : State} {e : Nat × Nat} (h : e ∈ s.rvRestore.regs) :
    e ∈ s.regs ∨ (blkHolds 3 (e.1 / 32) = true ∧ keyClass e.1 = 3) := by
  rcases mem_mergeKeys h with h | h
  · exact .inr (by simpa using (List.mem_filter.mp h).2)
  · exact .inl (List.mem_filter.mp h).1

/-- Power-off keeps no register field but those that a cold start keeps and the reservoir's endurance (R10, Table 3.8). -/
theorem mem_powerOff {s : State} {e : Nat × Nat} (h : e ∈ s.powerOff.regs) :
    (keyKept e.1).1 &&& 128 ≠ 0 ∨ (blkHolds 3 (e.1 / 32) = true ∧ keyClass e.1 = 3) :=
  (mem_rvRestore h).imp_left kept_of_mem_clearFields

/-- IS_LAST_RESET gives the class of the reset noted last (Table 3.4). -/
theorem noteReset_class (s : State) (cls isl cause : Nat) : (s.noteReset cls isl cause).rf Reg.IS_LAST_RESET_CLASS = cls % 2 ^ 4 := by
  unfold State.noteReset
  rw [State.rf_wr_ne _ _ (by decide), State.rf_wr_ne _ _ (by decide), State.rf_wr_self]
  rfl

theorem reloadAll_keeps {β : Type} (g : State → β) (h : ∀ x n, g (State.reloadConfig x n) = g x) (s : State) : g s.reloadAll = g s :=
  foldl_keeps g _ _ h s

/-- After the steps that AO itself takes, the boot changes register fields and raises records, and nothing else but the draws they take
(R839). -/
theorem bootDone_keeps {β : Type} (g : State → β) (hreload : ∀ x n, g (State.reloadConfig x n) = g x)
    (hwr : ∀ x f v, g (State.wr x f v) = g x) (hemit : ∀ x src code p0 p1 p2 p3, g (State.emit x src code p0 p1 p2 p3) = g x)
    (hdraw : ∀ x k, g (State.draw x k).2 = g x) {s : State} (ok : Bool) (hu : s.ao.aoUp = true) (hb : s.ao.bootDone = false) :
    g (s.bootDone ok) = g { s with
      ao.bootDone := true, edge.flashOk := ok, th.nextThresh := none
      ao.meterUj := if ok then s.ao.ckMeter else 0, ao.opNs := if ok then s.ao.ckOpSec * second else 0 } := by
  unfold State.bootDone
  rw [if_neg (by simp [hu, hb])]
  dsimp only
  repeat' split
  all_goals simp only [State.flashRecord, hwr, hemit, hdraw, reloadAll_keeps g hreload]

/-- An excursion of the supplies ends with every island in reset (R107, R134). -/
theorem supplyDrop_facts (s : State) :
    s.supplyDrop.isl.inReset = 0x7F ∧ s.supplyDrop.isl.releaseQ = [] ∧ s.supplyDrop.edge.supplyHold = true := by
  unfold State.supplyDrop
  rw [roleSettle_isl, roleSettle_edge]
  exact ⟨rfl, rfl, rfl⟩

theorem supplyFell_facts {s : State} {n : Nat} (h : s.isl.pkg ≠ 3 ∨ 3 ≤ n) :
    (s.supplyFell n).isl.inReset = 0x7F ∧ (s.supplyFell n).isl.releaseQ = [] ∧ (s.supplyFell n).edge.supplyHold = true := by
  have h1 : ¬ (s.isl.pkg = 3 ∧ s.isl.tripped = false ∧ n < 3) := by omega
  have h2 : ¬ (s.isl.pkg = 3 ∧ n < 3) := by omega
  simp only [State.supplyFell, if_neg h1, if_neg h2]
  exact supplyDrop_facts _

/-- Settles O3: power-off by what its stores list after it, the boot and the falls by what they keep, the rest by their definitions. -/
theorem powerAndSupplyEventsComplete : Obligations.PowerAndSupplyEventsComplete := by
  intro s
  refine ⟨?powerOff, fun r test => ?coldStart, fun hp hu => ?aoRelease, fun ok hu hb => ?bootDone, fun n hn => ?fell, ?high, fun hh => ?back,
    fun hh hl => ?good, fun hp => ?low, ?below, fun n hc hg => ?late⟩
  case powerOff => exact ⟨_, rfl, rfl, rfl, rfl, rfl, rfl, rfl, rfl, fun e he => mem_powerOff he⟩
  case coldStart =>
    refine ⟨_, rfl, rfl, rfl, rfl, rfl, rfl, rfl, ?_, ?_, rfl⟩
    · exact noteReset_class _ _ _ _
    · exact State.rf_wr_self _ _ _
  case aoRelease =>
    change Host.Outcome.next s.aoRelease = _
    simp [State.aoRelease, hp, hu]
  case bootDone =>
    have h := bootDone_keeps (fun x => (x.ao, x.edge, x.isl)) (fun _ _ => rfl) (fun _ _ _ => rfl) (fun _ _ _ _ _ _ _ => rfl)
      (fun _ _ => rfl) ok hu hb
    obtain ⟨hao, hedge, hisl⟩ : _ ∧ _ ∧ _ := by simpa only [Prod.mk.injEq] using h
    refine ⟨_, rfl, ?_⟩
    dsimp only
    rw [roleSettle_ao, roleSettle_edge, roleSettle_isl, hao, hedge, hisl]
    exact ⟨rfl, rfl, rfl, rfl, rfl⟩
  case fell => exact ⟨_, rfl, supplyFell_facts (.inl hn)⟩
  case high => exact ⟨_, rfl, supplyFell_facts (.inr (Nat.le_refl 3))⟩
  case back =>
    change Host.Outcome.next s.supplyBack.roleSettle = _
    simp [State.supplyBack, hh]
  case good =>
    change Host.Outcome.next s.supplyBack.roleSettle = _
    simp [State.supplyBack, hh, hl]
  case low =>
    change execVdd33AoLow s = _
    simp [execVdd33AoLow, hp]
  case below =>
    refine ⟨_, rfl, ?_⟩
    dsimp only
    rw [roleSettle_edge]
    refine ⟨rfl, ?_⟩
    rw [ownRelease_edge, setBit_edge]
  case late =>
    change execSuppliesLate n s = _
    simp [execSuppliesLate, hc, hg]

end Sys2Proof.Machine
end

section
/-! The faults of the policy cores (R516, R517): what they leave of the cores, of the table SRAM and of the registers. -/

namespace Sys2Proof.Machine
open Sys2Proof

/-! Operations that change one core. -/

/-- From `s` to `t` core `c` changes as `f` says, and every other core and the table SRAM stay. -/
def CoreChanges (s t : State) (c : Nat) (f : IkCore → IkCore) : Prop :=
  t.core c = f (s.core c) ∧ (∀ d, d ≠ c → t.core d = s.core d) ∧ t.ik.table = s.ik.table

theorem coreChanges_setCore (s : State) (c : Nat) (f : IkCore → IkCore) : CoreChanges s (s.setCore c (f (s.core c))) c f :=
  ⟨core_setCore_self _ _ _, fun _ hd => core_setCore_ne _ _ hd, rfl⟩

/-- Only the policy cores count for a change of one. -/
theorem CoreChanges.congr {s s' t t' : State} {c : Nat} {f : IkCore → IkCore} (h : CoreChanges s t c f) (hs : s'.ik = s.ik)
    (ht : t'.ik = t.ik) : CoreChanges s' t' c f := by
  unfold CoreChanges State.core at *
  rwa [hs, ht]

theorem CoreChanges.trans {s t u : State} {c : Nat} {f f' : IkCore → IkCore} (h : CoreChanges s t c f) (h' : CoreChanges t u c f') :
    CoreChanges s u c (fun k => f' (f k)) := by
  obtain ⟨hcore, hother, htable⟩ := h
  obtain ⟨hcore', hother', htable'⟩ := h'
  exact ⟨hcore'.trans (congrArg f' hcore), fun d hd => (hother' d hd).trans (hother d hd), htable'.trans htable⟩

/-! The delivery of a hardware event, and the closing of channels: what they cannot change. -/

/-- A view of the state that sees nothing of what the message engine does with a hardware event: the engine itself, the observation
counters, the draws, the records, and the fields in which a drop is noted (R466, R490). -/
structure EventBlind {β : Type} (g : State → β) : Prop where
  me : ∀ (s : State) m, g { s with me := m } = g s
  ob : ∀ (s : State) o, g { s with ob := o } = g s
  free : ∀ (s : State) n, g { s with free := n } = g s
  raised : ∀ (s : State) l, g { s with raised := l } = g s
  drop : ∀ (s : State) v, g (s.wr Reg.ME_FELL_DROP v) = g s
  drops : ∀ (s : State) q v, g (s.wr (Reg.ME_QDROP_DROPS q) v) = g s
  evtLost : ∀ (s : State) v, g (s.wr Reg.ME_FELL_EVT_LOST v) = g s

namespace EventBlind

variable {β : Type} {g : State → β}

theorem emit (hg : EventBlind g) (s : State) (src code p0 p1 p2 p3 : Nat) : g (s.emit src code p0 p1 p2 p3) = g s := hg.raised s _

theorem count (hg : EventBlind g) (s : State) (src : Nat) (t : ObsTags) : g (s.count src t) = g s := by
  have hadd (x : State) (n : Nat) : g (x.obsAdd n) = g x := hg.ob x _
  have hdraw (x : State) (k : Nat) : g (x.draw k).2 = g x := hg.free x _
  unfold State.count
  split
  · refine foldl_keeps g _ _ (fun x i => ?_) s
    dsimp only
    split
    · split
      · exact hadd _ _
      · exact (hadd _ _).trans (hdraw _ _)
    · rfl
  · rfl

theorem qAccept (hg : EventBlind g) (s : State) (q : Nat) (m : QMsg) : g (s.qAccept q m) = g s :=
  (hg.count _ _ _).trans (hg.me s _)

theorem qDrop (hg : EventBlind g) (s : State) (q source : Nat) (chan : Bool) : g (s.qDrop q source chan) = g s := by
  have hnoted (v w : Nat) : g ((s.wr Reg.ME_FELL_DROP v).wr (Reg.ME_QDROP_DROPS q) w) = g s := (hg.drops _ _ _).trans (hg.drop _ _)
  unfold State.qDrop
  dsimp only
  rw [hg.count, hg.emit]
  cases hr : s.inReset 3
  · cases chan
    · exact (hg.me _ _).trans (hnoted _ _)
    · exact hnoted _ _
  · cases chan <;> rfl

theorem polFell_evtLost (hg : EventBlind g) (s : State) : g (s.polFell Reg.ME_FELL_EVT_LOST) = g s := by
  unfold State.polFell
  split
  · rfl
  · exact hg.evtLost s _

theorem hwDeliver (hg : EventBlind g) (s : State) (code p0 p1 p2 : Nat) : g (s.hwDeliver code p0 p1 p2) = g s := by
  unfold State.hwDeliver
  dsimp only
  split
  · exact hg.qAccept _ _ _
  · rw [hg.emit, hg.me, hg.polFell_evtLost, hg.qDrop]

/-- A view that gives the same on both branches does not depend on the choice. -/
theorem ite_keeps {p : Prop} [Decidable p] {x y : State} {v : β} (hx : g x = v) (hy : g y = v) : g (if p then x else y) = v := by
  by_cases hp : p
  · rwa [if_pos hp]
  · rwa [if_neg hp]

theorem hwEvent (hg : EventBlind g) (s : State) (bit : Option Nat) (code p0 p1 p2 : Nat) : g (s.hwEvent bit code p0 p1 p2) = g s :=
  ite_keeps rfl (ite_keeps (hg.me _ _) (hg.hwDeliver _ _ _ _ _))

theorem emitHw (hg : EventBlind g) (s : State) (bit : Option Nat) (src code p0 p1 p2 p3 : Nat) :
    g (s.emitHw bit src code p0 p1 p2 p3) = g s :=
  (hg.hwEvent _ _ _ _ _ _).trans (hg.emit _ _ _ _ _ _ _)

theorem chanDrained (hg : EventBlind g) (s : State) (c : Nat) : g (s.chanDrained c) = g s := by
  unfold State.chanDrained
  dsimp only
  split
  · exact hg.me s _
  · rfl

theorem closeAll (hg : EventBlind g) (s : State) (owner : Nat) : g (s.closeAll owner) = g s := by
  refine foldl_keeps g _ _ (fun x c => ?_) s
  unfold State.chanClose
  dsimp only
  split
  · rfl
  · exact (hg.chanDrained _ _).trans (hg.me x _)

end EventBlind

theorem eventBlind_ik : EventBlind State.ik :=
  ⟨fun _ _ => rfl, fun _ _ => rfl, fun _ _ => rfl, fun _ _ => rfl, fun _ _ => rfl, fun _ _ _ => rfl, fun _ _ => rfl⟩

/-- A field in which the message engine notes no drop. -/
def NotesNoDrop (f : Fld) : Prop :=
  Reg.ME_FELL_DROP.key ≠ f.key ∧ Reg.ME_FELL_EVT_LOST.key ≠ f.key ∧ ∀ q, (Reg.ME_QDROP_DROPS q).key ≠ f.key

theorem eventBlind_rf {f : Fld} (hf : NotesNoDrop f) : EventBlind (fun s => s.rf f) := by
  obtain ⟨hdrop, hlost, hdrops⟩ := hf
  exact ⟨fun _ _ => rfl, fun _ _ => rfl, fun _ _ => rfl, fun _ _ => rfl, fun _ _ => State.rf_wr_ne _ _ hdrop,
    fun _ q _ => State.rf_wr_ne _ _ (hdrops q), fun _ _ => State.rf_wr_ne _ _ hlost⟩

/-! The reset of a core, and its autonomous floor. -/

/-- A core after a reset (R516). -/
def IkCore.wiped (k : IkCore) : IkCore := { k with
  bankN := {}, bankU := {}, qsel := 0, level := 0, waiting := false, running := false
  cntN := 0, cntU := 0, launchId := none, launch := [] }

theorem resetCore_changes (s : State) (c : Nat) : CoreChanges s (s.resetCore c) c IkCore.wiped :=
  (coreChanges_setCore s c _).congr rfl (eventBlind_ik.closeAll _ c)

theorem resetCore_rf {f : Fld} (hf : NotesNoDrop f) (s : State) (c : Nat) : (s.resetCore c).rf f = s.rf f :=
  (eventBlind_rf hf).closeAll _ c

/-- A core that its autonomous floor governs (R37). -/
def IkCore.floored (k : IkCore) : IkCore := { k with floor := true, floorTold := true }

/-- The autonomous floor governs core `c`, and the registers say so (Table 12.8). -/
def State.floorNoted (s : State) (c cause : Nat) : State :=
  let s1 := (s.setCore c (s.core c).floored).wr (Reg.IK_CORE_STAT_LAST_CAUSE c) cause
  if cause = 6 then s1 else s1.setBit Reg.GL_AUTONOMY_CORE_FELL c

/-- An entry to the autonomous floor is its note and at most one hardware event. -/
theorem EventBlind.enterFloor {β : Type} {g : State → β} (hg : EventBlind g) (s : State) (c cause : Nat) :
    g (s.enterFloor c cause) = g (s.floorNoted c cause) := by
  unfold State.enterFloor
  dsimp only
  split
  · rfl
  · exact hg.emitHw _ _ _ _ _ _ _ _

theorem enterFloor_changes (s : State) (c cause : Nat) : CoreChanges s (s.enterFloor c cause) c IkCore.floored := by
  have hnoted : (s.floorNoted c cause).ik = (s.setCore c (s.core c).floored).ik := by
    unfold State.floorNoted
    dsimp only
    split <;> rfl
  exact (coreChanges_setCore s c _).congr rfl ((eventBlind_ik.enterFloor s c cause).trans hnoted)

/-- The field is none of those that a core's entry to the autonomous floor writes (R37, Table 12.8). -/
def OffFloor (f : Fld) (c : Nat) : Prop :=
  NotesNoDrop f ∧ (Reg.IK_CORE_STAT_LAST_CAUSE c).key ≠ f.key ∧ Reg.GL_AUTONOMY_CORE_FELL.key ≠ f.key

theorem enterFloor_rf {f : Fld} {c : Nat} (hf : OffFloor f c) (s : State) (cause : Nat) : (s.enterFloor c cause).rf f = s.rf f := by
  obtain ⟨hdrop, hcause, hfell⟩ := hf
  have hwr (k : IkCore) : ((s.setCore c k).wr (Reg.IK_CORE_STAT_LAST_CAUSE c) cause).rf f = s.rf f := State.rf_wr_ne _ _ hcause
  refine ((eventBlind_rf hdrop).enterFloor s c cause).trans ?_
  unfold State.floorNoted
  dsimp only
  split
  · exact hwr _
  · exact (State.rf_wr_ne _ _ hfell).trans (hwr _)

/-! A fault of a core. -/

/-- The core is held after the fault: it is the third in a second, or PARITY (R517). -/
def State.holdsAfter (s : State) (c code : Nat) : Bool := decide (2 ≤ s.recentFaults c) || code == 8

/-- The times of faults that a core keeps with one more (R517). -/
def State.faultTimes (s : State) (c : Nat) : List Nat := (s.core c).faultAt.filter (fun t => decide (s.now < t + second)) ++ [s.now]

theorem faultTimes_length (s : State) (c : Nat) : (s.faultTimes c).length = s.recentFaults c + 1 := List.length_append

/-- A core that keeps the times of its faults, and is held or due to restart (R516, R517). -/
def IkCore.faulted (k : IkCore) (times : List Nat) (hold : Bool) : IkCore := { k with faultAt := times, held := hold, restartDue := !hold }

/-- An exception of core `c` as IK_CORE_FAULT, IK_FELL and its record note it (Tables 12.20 and 12.21). -/
def State.faultNoted (s : State) (c code : Nat) : State :=
  let k := s.core c
  let thread := k.level == 0
  (((((s.wr (Reg.IK_CORE_FAULT_HANDLER c) (if thread then 0 else k.handlerIdx)).wr (Reg.IK_CORE_FAULT_THREAD c)
    (b01 thread)).wr (Reg.IK_CORE_FAULT_CODE c) code).wr (Reg.IK_CORE_FAULT_PC c) k.pc).setBit Reg.IK_FELL_EXCEPT c).emit 3 0x9002 c code k.pc

theorem faultNoted_ik (s : State) (c code : Nat) : (s.faultNoted c code).ik = s.ik := by
  simp [State.faultNoted, State.setBit]

/-- Core `c` after an exception that is noted: it is reset, its fault kept, and its floor entered (R516, R517). -/
def State.faultActs (s : State) (c : Nat) (times : List Nat) (hold : Bool) : State :=
  let r := s.resetCore c
  (r.setCore c ((r.core c).faulted times hold)).enterFloor c 2

/-- The steps of an exception, with the record of a core that is held (Table 12.15). -/
theorem coreFault_steps (s : State) (c : Nat) {code : Nat} (hcode : code ≠ 0) :
    let t := (s.faultNoted c code).faultActs c (s.faultTimes c) (s.holdsAfter c code)
    s.coreFault c code = if s.holdsAfter c code then t.emit 3 0x9004 c 2 (s.faultTimes c).length else t := by
  have hhold : (decide (3 ≤ (s.faultTimes c).length) || code == 8) = s.holdsAfter c code := by
    rw [faultTimes_length, State.holdsAfter, decide_eq_decide.mpr Nat.succ_le_succ_iff]
  rw [← hhold]
  unfold State.coreFault
  simp only [if_neg hcode]
  rfl

theorem faultActs_changes (s : State) (c : Nat) (times : List Nat) (hold : Bool) :
    CoreChanges s (s.faultActs c times hold) c (fun k => (k.wiped.faulted times hold).floored) :=
  ((resetCore_changes s c).trans (coreChanges_setCore _ c (fun k => k.faulted times hold))).trans (enterFloor_changes _ c 2)

theorem faultActs_rf {f : Fld} {c : Nat} (hf : OffFloor f c) (s : State) (times : List Nat) (hold : Bool) :
    (s.faultActs c times hold).rf f = s.rf f :=
  (enterFloor_rf hf _ 2).trans (resetCore_rf hf.left s c)

theorem EventBlind.coreFault {β : Type} {g : State → β} (hg : EventBlind g) (s : State) (c : Nat) {code : Nat} (hcode : code ≠ 0) :
    g (s.coreFault c code) = g ((s.faultNoted c code).faultActs c (s.faultTimes c) (s.holdsAfter c code)) := by
  rw [coreFault_steps s c hcode]
  split
  · exact hg.emit _ _ _ _ _ _ _
  · rfl

/-- What an exception leaves of the cores and of the table SRAM. -/
theorem coreFault_changes (s : State) (c : Nat) {code : Nat} (hcode : code ≠ 0) :
    CoreChanges s (s.coreFault c code) c (fun k => (k.wiped.faulted (s.faultTimes c) (s.holdsAfter c code)).floored) :=
  (faultActs_changes _ c _ _).congr (faultNoted_ik s c code).symm (eventBlind_ik.coreFault s c hcode)

/-- What an exception leaves of the fields that its core's floor does not write. -/
theorem coreFault_rf {f : Fld} {c code : Nat} (hf : OffFloor f c) (hcode : code ≠ 0) (s : State) :
    (s.coreFault c code).rf f = (s.faultNoted c code).rf f :=
  ((eventBlind_rf hf.left).coreFault s c hcode).trans (faultActs_rf hf _ _ _)

/-! The fields in which a fault is noted. -/

theorem key_ne_of_addr_ne {f g : Fld} (hf : f.lo < 32) (hg : g.lo < 32) (h : f.addr ≠ g.addr) : f.key ≠ g.key := by
  unfold Fld.key
  omega

/-- The fields of IK_CORE_FAULT and IK_FELL are in no register that an entry to the autonomous floor writes. -/
theorem offFloor_of_addr {f : Fld} {c : Nat} (hlo : f.lo < 32) (h : f.addr = Reg.IK_CORE_FAULT c ∨ f.addr = Reg.IK_FELL) : OffFloor f c := by
  unfold Reg.IK_CORE_FAULT Reg.IK_FELL at h
  have hfell : Reg.ME_FELL ≠ f.addr := by
    unfold Reg.ME_FELL
    omega
  have hdrops (q : Nat) : Reg.ME_QDROP q ≠ f.addr := by
    unfold Reg.ME_QDROP
    omega
  have hstat : Reg.IK_CORE_STAT c ≠ f.addr := by
    unfold Reg.IK_CORE_STAT
    omega
  have hauto : Reg.GL_AUTONOMY ≠ f.addr := by
    unfold Reg.GL_AUTONOMY
    omega
  exact ⟨⟨key_ne_of_addr_ne (by decide) hlo hfell, key_ne_of_addr_ne (by decide) hlo hfell,
      fun q => key_ne_of_addr_ne (by simp [Reg.ME_QDROP_DROPS]) hlo (hdrops q)⟩,
    key_ne_of_addr_ne (by simp [Reg.IK_CORE_STAT_LAST_CAUSE]) hlo hstat, key_ne_of_addr_ne (by decide) hlo hauto⟩

/-- IK_FELL.EXCEPT is in another register than IK_CORE_FAULT. -/
theorem rf_setBit_except {f : Fld} {c : Nat} (hlo : f.lo < 32) (h : f.addr = Reg.IK_CORE_FAULT c) (s : State) (n : Nat) :
    (s.setBit Reg.IK_FELL_EXCEPT n).rf f = s.rf f := by
  refine State.rf_wr_ne _ _ (key_ne_of_addr_ne (by decide) hlo ?_)
  rw [h]
  unfold Reg.IK_CORE_FAULT
  change 0x300034 ≠ _
  omega

theorem coreFault_code (s : State) (c : Nat) {code : Nat} (hcode : code ≠ 0) :
    (s.coreFault c code).rf (Reg.IK_CORE_FAULT_CODE c) = code % 2 ^ 4 := by
  have hlo : (Reg.IK_CORE_FAULT_CODE c).lo < 32 := by simp [Reg.IK_CORE_FAULT_CODE]
  have hpc : (Reg.IK_CORE_FAULT_PC c).key ≠ (Reg.IK_CORE_FAULT_CODE c).key := by
    simp [Fld.key, Reg.IK_CORE_FAULT_PC, Reg.IK_CORE_FAULT_CODE]
  rw [coreFault_rf (offFloor_of_addr hlo (.inl rfl)) hcode, State.faultNoted, State.rf_emit, rf_setBit_except hlo rfl, State.rf_wr_ne _ _ hpc,
    State.rf_wr_self]
  rfl

theorem coreFault_pc (s : State) (c : Nat) {code : Nat} (hcode : code ≠ 0) :
    (s.coreFault c code).rf (Reg.IK_CORE_FAULT_PC c) = (s.core c).pc % 2 ^ 16 := by
  have hlo : (Reg.IK_CORE_FAULT_PC c).lo < 32 := by simp [Reg.IK_CORE_FAULT_PC]
  rw [coreFault_rf (offFloor_of_addr hlo (.inl rfl)) hcode, State.faultNoted, State.rf_emit, rf_setBit_except hlo rfl, State.rf_wr_self]
  rfl

theorem bitOf_eq_testBit (v n : Nat) : bitOf v n = v.testBit n := by
  rw [Nat.testBit_eq_decide_div_mod_eq]
  rfl

/-- A bit that was set and fits its field reads 1. -/
theorem bitOf_rf_setBit (s : State) {f : Fld} {n : Nat} (h : n < f.hi + 1 - f.lo) : bitOf ((s.setBit f n).rf f) n = true := by
  rw [State.setBit, State.rf_wr_self, bitOf_eq_testBit, Nat.testBit_mod_two_pow]
  simp [h, Nat.testBit_two_pow_self]

theorem coreFault_except (s : State) (c : Fin 8) {code : Nat} (hcode : code ≠ 0) :
    bitOf ((s.coreFault c code).rf Reg.IK_FELL_EXCEPT) c = true := by
  rw [coreFault_rf (offFloor_of_addr (by decide) (.inr rfl)) hcode]
  exact bitOf_rf_setBit _ c.isLt

/-! The instructions that trap by the level they run at. -/

theorem execIkRte_thread {s : State} {c : Fin 8} (h : s.canIssue c = true) (hpc : (s.core c).pc < (s.core c).textLen)
    (hl : (s.core c).level = 0) : Excepts (.ikRte c) s c 7 := by
  change execIkRte c s = _
  simp [execIkRte, h, Nat.not_le.mpr hpc, hl]

theorem execIkWaitq_urgent {s : State} {c : Fin 8} (rd : Fin 32) (h : s.canIssue c = true)
    (hpc : (s.core c).pc < (s.core c).textLen) (hl : (s.core c).level = 2) : Excepts (.ikWaitq c rd) s c 6 := by
  change execIkWaitq c rd s = _
  simp [execIkWaitq, h, Nat.not_le.mpr hpc, hl]

/-- Settles O41: both instructions end in a fault of the core, whose code is neither that of an overrun nor PARITY; what it leaves of the
cores is one change of core `c`, and what it leaves of the registers its note. -/
theorem coreFaultsResetTheCore : Obligations.CoreFaultsResetTheCore := by
  intro s c rd hissue hpc hlaunch recent i code hi
  have hexc : Excepts i s c code ∧ (code = 6 ∨ code = 7) := by
    rcases hi with ⟨rfl, rfl, hl⟩ | ⟨rfl, rfl, hl⟩
    · exact ⟨execIkRte_thread hissue hpc hl, .inr rfl⟩
    · exact ⟨execIkWaitq_urgent rd hissue hpc hl, .inl rfl⟩
  obtain ⟨hexec, hcode⟩ := hexc
  have h0 : code ≠ 0 := by omega
  have hhold : s.holdsAfter c code = decide (2 ≤ recent) := by
    have h8 : (code == 8) = false := beq_false_of_ne (by omega)
    rw [State.holdsAfter, h8, Bool.or_false]
    rfl
  obtain ⟨hcore, hother, htable⟩ := coreFault_changes s c h0
  refine ⟨s.coreFault c code, hexec.trans (ran_same ?_), ?_⟩
  · rw [hcore, hlaunch]
    rfl
  · dsimp only
    rw [hcore, coreFault_pc s c h0, coreFault_code s c h0, hhold, Nat.mod_eq_of_lt (by omega)]
    refine ⟨rfl, rfl, rfl, rfl, rfl, rfl, rfl, rfl, rfl, htable, hother, rfl, rfl, coreFault_except s c h0, ?_, rfl⟩
    change (!decide (2 ≤ recent)) = decide (recent < 2)
    rw [← decide_not, decide_eq_decide.mpr Nat.not_le]

end Sys2Proof.Machine
end

section
/-! The clocks and the pins of the die's edge (Table 2.8). -/

namespace Sys2Proof.Machine
open Sys2Proof

/-! Operations over the parts of a unit, in ascending order. -/

theorem upto_succ (s : State) (n : Nat) (f : Nat → State → State) : s.upto (n + 1) f = f n (s.upto n f) := by
  simp [State.upto, List.range_succ]

/-- Passes that each change the part of their own index by `upd`, and keep the frame `R`, change every part of an index below `n` once
and leave the others. -/
theorem upto_parts {β : Type} {part : State → Nat → β} {R : State → Prop} {f : Nat → State → State} {upd : Nat → β → β}
    (hframe : ∀ p x, R x → R (f p x)) (hself : ∀ p x, R x → part (f p x) p = upd p (part x p))
    (hother : ∀ p q x, q ≠ p → part (f p x) q = part x q) {s : State} (hs : R s) (n : Nat) :
    R (s.upto n f) ∧ (∀ p < n, part (s.upto n f) p = upd p (part s p)) ∧ ∀ p, n ≤ p → part (s.upto n f) p = part s p := by
  induction n with
  | zero => exact ⟨hs, fun p hp => absurd hp (Nat.not_lt_zero p), fun _ _ => rfl⟩
  | succ n ih =>
    obtain ⟨hr, hbelow, habove⟩ := ih
    rw [upto_succ]
    refine ⟨hframe n _ hr, fun p hp => ?_, fun p hp => ?_⟩
    · obtain hlt | rfl := Nat.lt_succ_iff_lt_or_eq.mp hp
      · rw [hother n p _ (Nat.ne_of_lt hlt), hbelow p hlt]
      · rw [hself p _ hr, habove p (Nat.le_refl p)]
    · rw [hother n p _ (Nat.ne_of_gt hp), habove p (Nat.le_of_succ_le hp)]

@[simp] theorem dom_setDom_self (s : State) (d : Nat) (x : Dom) : (s.setDom d x).dom d = x := mget_mput_self _ _ _ _

theorem dom_setDom_ne (s : State) {d e : Nat} (x : Dom) (h : e ≠ d) : (s.setDom d x).dom e = s.dom e := mget_mput_ne _ _ _ h.symm

@[simp] theorem vp_setVp_self (s : State) (p : Nat) (x : VxPort) : (s.setVp p x).vp p = x := mget_mput_self _ _ _ _

theorem vp_setVp_ne (s : State) {p q : Nat} (x : VxPort) (h : q ≠ p) : (s.setVp p x).vp q = s.vp q := mget_mput_ne _ _ _ h.symm

/-! A pulse on DROOP_N (R67, R302). -/

/-- The compute die `n` has an open tile of domain `d`. -/
def State.dieHasDom (s : State) (n d : Nat) : Bool := (s.linkTiles n).any (fun t => (s.tile t).dom == d)

/-- A droop of die `n` as domain `d` takes it: a backoff of 1 at least where the domain has a tile on that die (R302). -/
def State.droopDom (s : State) (n d : Nat) (x : Dom) : Dom := if s.dieHasDom n d then { x with backoff := max x.backoff 1 } else x

/-- What a pulse does in FRI, a domain after another. -/
def State.droopPass (n d : Nat) (x : State) : State :=
  if x.dieHasDom n d then x.setDom d { x.dom d with backoff := max (x.dom d).backoff 1 } else x

theorem execDroopNPulse_running {s : State} (n : Fin 16) (h : s.inReset 0 = false) :
    exec (.droopNPulse n) s = .next (({ s with edge.droopAt := mput 0 s.edge.droopAt n.val s.now } : State).upto 8 (State.droopPass n)) := by
  change execDroopNPulse n s = _
  unfold execDroopNPulse
  rw [h]
  rfl

/-- A pulse changes nothing but the admission state. -/
theorem droopPass_keeps {β : Type} {g : State → β} (hg : ∀ x a, g { x with ad := a } = g x) (n d : Nat) (x : State) :
    g (State.droopPass n d x) = g x := by
  unfold State.droopPass
  split
  · exact hg _ _
  · rfl

theorem droopPass_dieHasDom (n d m e : Nat) (x : State) : (State.droopPass n d x).dieHasDom m e = x.dieHasDom m e :=
  droopPass_keeps (g := fun y => y.dieHasDom m e) (fun _ _ => rfl) n d x

theorem droopPass_self (n d : Nat) (x : State) : (State.droopPass n d x).dom d = x.droopDom n d (x.dom d) := by
  unfold State.droopPass State.droopDom
  split
  · exact dom_setDom_self _ _ _
  · rfl

theorem droopPass_other (n d e : Nat) (x : State) (h : e ≠ d) : (State.droopPass n d x).dom e = x.dom e := by
  unfold State.droopPass
  split
  · exact dom_setDom_ne _ _ h
  · rfl

theorem droop_keeps {β : Type} {g : State → β} (hg : ∀ x a, g { x with ad := a } = g x) (n : Nat) (s : State) :
    g (s.upto 8 (State.droopPass n)) = g s :=
  foldl_keeps g _ _ (fun x d => droopPass_keeps hg n d x) s

/-- Each domain with a tile on the die takes the pulse once. -/
theorem droop_dom (s : State) (n : Nat) {d : Nat} (hd : d < 8) :
    (s.upto 8 (State.droopPass n)).dom d = s.droopDom n d (s.dom d) := by
  obtain ⟨-, hdoms, -⟩ := upto_parts (part := State.dom) (R := fun x => ∀ e, x.dieHasDom n e = s.dieHasDom n e) (upd := s.droopDom n)
    (fun e x h e' => (droopPass_dieHasDom n e n e' x).trans (h e'))
    (fun e x h => by rw [droopPass_self, State.droopDom, State.droopDom, h e])
    (fun e e' x h => droopPass_other n e e' x h) (fun _ => rfl) 8
  exact hdoms d hd

/-! The return of VXREF (Table 2.8). -/

/-- A port that was down for want of VXREF trains again when it is enabled. -/
def State.retrained (s : State) (p : Nat) (x : VxPort) : VxPort :=
  if s.rb (Reg.VX_PORT_CFG_ENABLE p) && x.link == 3 then { x with link := 1 } else x

/-- What the return does in FAB, a port after another. -/
def State.retrainPass (p : Nat) (x : State) : State :=
  if x.rb (Reg.VX_PORT_CFG_ENABLE p) && (x.vp p).link == 3 then x.setVp p { x.vp p with link := 1 } else x

theorem execVxrefReturn_running {s : State} (h : s.inReset 4 = false) :
    exec .vxrefReturn s = .next (({ s with edge.vxrefOk := true } : State).upto 6 State.retrainPass) := by
  change execVxrefReturn s = _
  unfold execVxrefReturn
  rw [h]
  rfl

/-- The return changes nothing but FAB, once the signal is back. -/
theorem retrainPass_keeps {β : Type} {g : State → β} (hg : ∀ x f, g { x with fb := f } = g x) (p : Nat) (x : State) :
    g (State.retrainPass p x) = g x := by
  unfold State.retrainPass
  split
  · exact hg _ _
  · rfl

theorem retrainPass_self (p : Nat) (x : State) : (State.retrainPass p x).vp p = x.retrained p (x.vp p) := by
  unfold State.retrainPass State.retrained
  split
  · exact vp_setVp_self _ _ _
  · rfl

theorem retrainPass_other (p q : Nat) (x : State) (h : q ≠ p) : (State.retrainPass p x).vp q = x.vp q := by
  unfold State.retrainPass
  split
  · exact vp_setVp_ne _ _ h
  · rfl

theorem retrain_edge (s : State) : (s.upto 6 State.retrainPass).edge = s.edge :=
  upto_edge s 6 _ (fun p x => retrainPass_keeps (fun _ _ => rfl) p x)

/-- Each port takes the return once. -/
theorem retrain_vp (s : State) {p : Nat} (hp : p < 6) : (s.upto 6 State.retrainPass).vp p = s.retrained p (s.vp p) := by
  obtain ⟨-, hports, -⟩ := upto_parts (part := State.vp)
    (R := fun x => ∀ q, x.rb (Reg.VX_PORT_CFG_ENABLE q) = s.rb (Reg.VX_PORT_CFG_ENABLE q)) (upd := s.retrained)
    (fun q x h q' => (retrainPass_keeps (g := fun y => y.rb (Reg.VX_PORT_CFG_ENABLE q')) (fun _ _ => rfl) q x).trans (h q'))
    (fun q x h => by rw [retrainPass_self, State.retrained, State.retrained, h q])
    (fun q q' x h => retrainPass_other q q' x h) (fun _ => rfl) 6
  exact hports p hp

theorem retrained_link (s : State) (p : Nat) (x : VxPort) :
    (s.retrained p x).link = if s.rb (Reg.VX_PORT_CFG_ENABLE p) = true ∧ x.link = 3 then 1 else x.link := by
  unfold State.retrained
  simp only [Bool.and_eq_true, beq_iff_eq]
  split <;> rfl

/-! The other signals. -/

/-- GL_CLOCK.CLK_FELL holds the crystal's bit with those it held (Table 2.8). -/
theorem clkFell_setBit_crystal (s : State) :
    (s.setBit Reg.GL_CLOCK_CLK_FELL 2).rf Reg.GL_CLOCK_CLK_FELL = s.rf Reg.GL_CLOCK_CLK_FELL % 8 ||| 4 := by
  rw [State.setBit, State.rf_wr_self]
  exact Nat.or_mod_two_pow (n := 3)

theorem extTrip_set (s : State) : (s.wr Reg.GL_EDGE_EXT_TRIP 1).rf Reg.GL_EDGE_EXT_TRIP = 1 := State.rf_wr_self _ _ _

theorem execExternalTrip_unlatched {s : State} (ht : s.th.trip = false) (hp : bitOf s.tw.peerFlags 4 = false) :
    exec (.externalTrip true) s =
      .next ((({ s with edge.tripPinLow := true } : State).wr Reg.GL_EDGE_EXT_TRIP 1).emit 7 0x0024) := by
  change execExternalTrip s true = _
  simp [execExternalTrip, ht, hp]

/-- Settles O4: the passes over domains and ports by what each leaves of its own and of the others, the rest by their definitions. -/
theorem clockAndPinEventsComplete : Obligations.ClockAndPinEventsComplete := by
  intro s
  refine ⟨?refLoss, rfl, ?crystalLoss, rfl, rfl, fun ht hp => ?trip, rfl, fun h => ?vxLoss, fun h => ?vxReturn, fun high h => ?shed,
    fun n h => ?droop, fun ho hf => ?pps⟩
  case refLoss =>
    rintro w rfl
    rfl
  case crystalLoss => exact ⟨_, rfl, rfl, clkFell_setBit_crystal _, rfl, rfl⟩
  case trip => exact ⟨_, execExternalTrip_unlatched ht hp, rfl, extTrip_set _, rfl, rfl⟩
  case vxLoss =>
    refine ⟨_, ?_, rfl⟩
    change execVxrefLoss s = _
    unfold execVxrefLoss
    rw [h]
    rfl
  case vxReturn =>
    refine ⟨_, execVxrefReturn_running h, retrain_edge _, fun p hp => ?_⟩
    rw [retrain_vp _ hp]
    exact retrained_link _ _ _
  case shed =>
    change execShedInChange high s = _
    simp [execShedInChange, h]
  case droop =>
    refine ⟨_, execDroopNPulse_running n h, ?_, droop_keeps (fun _ _ => rfl) n _, fun d hd => droop_dom _ n hd⟩
    rw [droop_keeps (g := State.edge) (fun _ _ => rfl)]
    exact mget_mput_self _ _ _ _
  case pps =>
    change execPpsOutSecond s = _
    simp [execPpsOutSecond, ho, hf]

end Sys2Proof.Machine
end

section
/-! Keyed writes of the host, and the requests of IS_RESET_REQ (Tables 0.6, 3.12 and 24.2). -/

namespace Sys2Proof.Machine
open Sys2Proof

/-! Writes that reach a register, and writes that do not. -/

/-- The island that holds the register at `a` (Table 24.4). -/
def holderOf (a : Nat) : Option Nat := (findReg a).map (fun r => r.1.isl)

/-- A register whose island the host reaches takes a write (Table 24.2). -/
theorem serve_write {s : State} {a isl : Nat} (ha : holderOf a = some isl) (h : Reaches s isl) : s.serve a true = (true, s) := by
  obtain ⟨⟨d, i, j⟩, hf, rfl⟩ := Option.map_eq_some_iff.mp ha
  simp [State.serve, h.1, hf, serveIn_write h]

/-- An access to a register whose island is in reset is absent (Table 3.3). -/
theorem serve_absent {s : State} {a isl : Nat} (ha : holderOf a = some isl) (hn : s.noAccess = false) (hr : s.inReset isl = true)
    (change : Bool) : s.serve a change = (false, s.absent isl) := by
  obtain ⟨⟨d, i, j⟩, hf, rfl⟩ := Option.map_eq_some_iff.mp ha
  simp [State.serve, hn, hf, State.serveIn, hr]

theorem absent_isl (s : State) (isl : Nat) : (s.absent isl).isl = s.isl := by
  unfold State.absent
  split <;> rfl

theorem keyOk_iff (v : Nat) : keyOk v = true ↔ bitsOf v 31 24 = 0x5C := by
  simp [keyOk]

/-- A write with the key takes the fields and then acts. -/
theorem keyedWrite_served {s : State} {a isl v : Nat} (ha : holderOf a = some isl) (h : Reaches s isl) (hkey : bitsOf v 31 24 = 0x5C)
    (act : State → State) : s.keyedWrite a v act = act (s.writeFields a v) := by
  simp [State.keyedWrite, serve_write ha h, (keyOk_iff v).mpr hkey]

/-! The requests of IS_RESET_REQ (R143), which HST holds (Table 24.1). -/

theorem resetReq_holder : holderOf Reg.IS_RESET_REQ = some 5 := by decide +kernel

/-- What the request bit `k` of a write of IS_RESET_REQ asks for (Table 3.12). -/
def State.resetRequest (s : State) (v : Nat) (k : Fin 6) : State :=
  match k with
  | 0 => s.islandAsk (bitsOf v 10 8)
  | 1 => s.wrRequest 2
  | 2 => s.hostReset 2
  | 3 => s.frReset 2
  | 4 => if s.debugOpen then s.debugReset 2 else s.resetRefused 5 0
  | 5 => { s with isl.wrPending := false }

theorem bitOf_single {v i : Nat} {k : Fin 6} (h : bitsOf v 5 0 = 2 ^ k.val) (hi : i < 6) : bitOf v i = decide (i = k.val) := by
  have hmod : v % 2 ^ 6 = 2 ^ k.val := by simpa [bitsOf] using h
  have hbit : (v % 2 ^ 6).testBit i = v.testBit i := by rw [Nat.testBit_mod_two_pow, decide_eq_true hi, Bool.true_and]
  rw [bitOf_eq_testBit, ← hbit, hmod, Nat.testBit_two_pow, decide_eq_decide]
  exact eq_comm

/-- A write that sets one request bit runs that request and no other. -/
theorem resetAct_single {v : Nat} {k : Fin 6} (h : bitsOf v 5 0 = 2 ^ k.val) (s : State) : s.resetAct v = s.resetRequest v k := by
  have hbit (i : Nat) (hi : i < 6) : bitOf v i = decide (i = k.val) := bitOf_single h hi
  unfold State.resetAct
  rw [hbit 0 (by decide), hbit 1 (by decide), hbit 2 (by decide), hbit 3 (by decide), hbit 4 (by decide), hbit 5 (by decide)]
  match k with
  | 0 | 1 | 2 | 3 | 4 | 5 => rfl

theorem requests_single {v : Nat} {k : Fin 6} (h : bitsOf v 5 0 = 2 ^ k.val) :
    ((List.range 6).filter (fun i => bitOf v i)).length ≤ 1 := by
  rw [List.filter_congr (fun i hi => bitOf_single h (List.mem_range.mp hi))]
  clear h
  revert k
  decide

/-- With HST reached, a keyed write with one request bit takes the write and runs that request. -/
theorem resetReq_single {s : State} {v : Nat} (k : Fin 6) (hs : Reaches s 5) (hkey : bitsOf v 31 24 = 0x5C)
    (h : bitsOf v 5 0 = 2 ^ k.val) : s.resetReq v = (s.writeFields Reg.IS_RESET_REQ v).resetRequest v k := by
  rw [← resetAct_single h]
  simp [State.resetReq, serve_write resetReq_holder hs, (keyOk_iff v).mpr hkey, requests_single h]

/-- With HST in reset, a write of IS_RESET_REQ asks for nothing: the access is absent. -/
theorem resetReq_absent {s : State} (hn : s.noAccess = false) (hr : s.inReset 5 = true) (v : Nat) : s.resetReq v = s.absent 5 := by
  simp [State.resetReq, serve_absent resetReq_holder hn hr]

/-! Reaching AO is not reaching IS_RESET_REQ. -/

/-- A die with HST alone in reset and a warm reset deferred. -/
def hstHeld : State := { State.reset with isl.inReset := 0x20, isl.wrPending := true }

/-- CANCEL_WR with its key. -/
def cancelWord : Word := 0x5C000020

theorem hstHeld_reaches_ao : Reaches hstHeld 7 := by decide

theorem hstHeld_cancel : exec (.cancelWr cancelWord) hstHeld = .next (hstHeld.absent 5) :=
  congrArg _ (resetReq_absent (by decide) (by decide) _)

/-- Refutes O5: its clause on IS_RESET_REQ asks only that the host reach AO, and HST holds the register. With HST in reset the write of
CANCEL_WR is absent and the deferred warm reset stays pending, where the statement clears it. -/
theorem not_resetCommandsComplete : ¬ Obligations.ResetCommandsComplete := by
  intro h
  obtain ⟨-, -, -, hrequests, -⟩ := h hstHeld
  obtain ⟨-, -, -, -, -, hcancel⟩ := hrequests cancelWord hstHeld_reaches_ao (by decide)
  have heq := Host.Outcome.next.inj (hstHeld_cancel.symm.trans (hcancel (by decide)))
  have hpending : (hstHeld.absent 5).isl.wrPending = false := congrArg (fun t => t.isl.wrPending) heq
  rw [absent_isl] at hpending
  exact Bool.noConfusion hpending

end Sys2Proof.Machine
end

section
/-! The phase controller's faults and their clears (R158, R191 to R197, R202). -/

namespace Sys2Proof.Machine
open Sys2Proof

/-! Readings leave the ownership of the die. -/

@[simp] theorem setLane_owner (s : State) (n : Nat) (x : Phase) : (s.setLane n x).owner = s.owner := rfl
@[simp] theorem setRail_owner (s : State) (r : Nat) (x : Rail) : (s.setRail r x).owner = s.owner := rfl

@[simp] theorem drive_owner (s : State) (n : Nat) (v : Pin) : (s.drive n v).owner = s.owner := by
  unfold State.drive
  split <;> rfl

theorem each_drive_owner (s : State) (l : List Nat) (v : Pin) : (s.each l (fun n x => x.drive n v)).owner = s.owner :=
  foldl_keeps State.owner _ _ (fun x n => drive_owner x n v) s

theorem sample_owner (s : State) (r : Nat) (isn : List (BitVec 16)) : (s.sample r isn).owner = s.owner := by
  have hread (l : List (Nat × BitVec 16)) :
      (l.foldl (fun x e => x.setLane e.1 { x.lane e.1 with amps := isnAmps e.2.toNat }) s).owner = s.owner :=
    foldl_keeps State.owner l _ (fun x e => setLane_owner x e.1 _) s
  unfold State.sample State.noteTotal
  dsimp only
  repeat' split
  all_goals simp only [each_drive_owner, setRail_owner, hread]

theorem noteVolts_owner (s : State) (r raw : Nat) : (s.noteVolts r raw).owner = s.owner := by
  unfold State.noteVolts
  dsimp only
  split
  · rw [each_drive_owner, setRail_owner]
  · rfl

/-! What follows from a reading with REG out of reset on the owner (R54). -/

theorem regOn_iff (s : State) : s.regOn = true ↔ s.inReset 1 = false ∧ s.owner = true := by
  simp [State.regOn]

theorem onSample_acts {s : State} (h : s.regOn = true) (r : Nat) (isn : List (BitVec 16)) (act : State → State) :
    s.onSample r isn act = act (s.sample r isn) := by
  obtain ⟨hr, ho⟩ := (regOn_iff s).mp h
  simp [State.onSample, State.acted, hr, sample_owner, ho]

theorem onVolts_acts {s : State} (h : s.regOn = true) (r raw : Nat) (act : State → State) :
    s.onVolts r raw act = act (s.noteVolts r raw) := by
  obtain ⟨hr, ho⟩ := (regOn_iff s).mp h
  simp [State.onVolts, State.acted, hr, noteVolts_owner, ho]

/-! The registers of the clears. -/

theorem railCtl_holder (r : Fin 8) : holderOf (Reg.PC_RAIL_CTL r) = some 1 := by
  revert r
  decide +kernel

theorem phaseClr_holder : holderOf Reg.PC_PHASE_CLR = some 1 := by decide +kernel

/-- Settles O12: a reading acts on the owner with REG out of reset, and each command's rule is its branch; the clears are keyed writes that
REG's registers take. -/
theorem phaseControllerFaultsComplete : Obligations.PhaseControllerFaultsComplete := by
  intro s r hon
  obtain ⟨hr1, -⟩ := (regOn_iff s).mp hon
  refine ⟨fun hm => ?timeout, fun raw h0 h5 hraw => ?sense, fun raw => ⟨fun hm hv => ?under, fun h0 h5 hv => ?overvolt, fun hd hv => ?discharged⟩,
    fun isn h0 h5 hi => ?gross, fun n isn hl ha hb he => ?imbalance, fun n isn hi => ?phaseSense, fun g l still hg => ?located,
    fun seg ok => ?stuck, fun g => ?suspect, fun v hs hkey => ⟨fun hbit => ?clear, fun hmark => ?phaseClear⟩⟩
  case timeout =>
    change execSsTimeout r s = _
    simp [execSsTimeout, hon, hm]
  case sense =>
    change execVsnSenseFault r raw s = _
    simp [execVsnSenseFault, hon, h0, h5, hraw]
  case under =>
    change execRailUndervoltage r raw s = _
    rw [execRailUndervoltage, onVolts_acts hon]
    exact congrArg _ (if_pos ⟨hm, hv⟩)
  case overvolt =>
    change execRailOvervoltage r raw s = _
    rw [execRailOvervoltage, onVolts_acts hon]
    exact congrArg _ (if_pos ⟨h0, h5, hv⟩)
  case discharged =>
    change execOvDischargeDone r raw s = _
    rw [execOvDischargeDone, onVolts_acts hon]
    exact congrArg _ (if_pos ⟨hd, hv⟩)
  case gross =>
    change execRailGrossOvercurrent r isn s = _
    rw [execRailGrossOvercurrent, onSample_acts hon]
    exact congrArg _ (if_pos ⟨h0, h5, hi⟩)
  case imbalance =>
    change execPhaseImbalance n isn s = _
    simp only [execPhaseImbalance, hl, onSample_acts hon]
    exact congrArg _ (if_pos (by simp [ha, hb, he]))
  case phaseSense =>
    change execPhaseSenseFault n isn s = _
    simp [execPhaseSenseFault, hon, hi]
  case located =>
    change execGroupLocationDone g l still s = _
    simp [execGroupLocationDone, hon, hg]
  case stuck =>
    change execPmbusSegmentStuck seg ok s = _
    simp [execPmbusSegmentStuck, hon]
  case suspect =>
    change execPsfltAssert g s = _
    simp [execPsfltAssert, hr1]
  case clear =>
    change execClearFault r v s = _
    rw [execClearFault, keyedWrite_served (railCtl_holder r) hs hkey]
    exact congrArg _ (if_pos hbit)
  case phaseClear =>
    change execPhaseClr v s = _
    simp only [execPhaseClr, keyedWrite_served phaseClr_holder hs hkey]
    exact congrArg _ (if_pos hmark)

end Sys2Proof.Machine
end

section
/-! The reset and package commands while HST, which holds their registers, is in reset (R129, R143, Tables 3.3 and 24.1), and the count of
power cycles (R140). -/

namespace Sys2Proof.Machine
open Sys2Proof

/-! With HST in reset, no request reaches IS_RESET_REQ or IS_PKG_CMD. -/

theorem pkgCmd_holder : holderOf Reg.IS_PKG_CMD = some 5 := by decide +kernel

/-- A keyed write of a register whose island is in reset does nothing: the access is absent. -/
theorem keyedWrite_absent {s : State} {a isl : Nat} (ha : holderOf a = some isl) (hn : s.noAccess = false) (hr : s.inReset isl = true)
    (v : Nat) (act : State → State) : s.keyedWrite a v act = s.absent isl := by
  simp [State.keyedWrite, serve_absent ha hn hr]

/-- An absent access refuses no request. -/
theorem absent_refused (s : State) (isl : Nat) :
    (s.absent isl).rf Reg.IS_RESET_STATUS_REFUSED = s.rf Reg.IS_RESET_STATUS_REFUSED := by
  unfold State.absent
  split
  · rfl
  · rw [State.rf_wr_ne _ _ (by decide), State.rf_wr_ne _ _ (by decide)]

/-- A request that was refused shows it in IS_RESET_STATUS. -/
theorem refuse_refused (s : State) : s.refuse.rf Reg.IS_RESET_STATUS_REFUSED = 1 := State.rf_wr_self _ _ _

/-- A die after reset with HST alone in reset, and no warm reset asked for. -/
def hstDown : State := { State.reset with isl.inReset := 0x20 }

theorem hstDown_reaches_ao : Reaches hstDown 7 := by decide

theorem hstDown_resetReq (v : Nat) : hstDown.resetReq v = hstDown.absent 5 := resetReq_absent (by decide) (by decide) v

theorem hstDown_pkgCmdGo (v : Word) : exec (.pkgCmdGo v) hstDown = .next (hstDown.absent 5) :=
  congrArg _ (keyedWrite_absent pkgCmd_holder (by decide) (by decide) _ _)

/-- The absent access on `hstDown` leaves REFUSED clear, so it does not answer a state where REFUSED is set. -/
theorem hstDown_absent_ne {t : State} (h : t.rf Reg.IS_RESET_STATUS_REFUSED = 1) :
    (Host.Outcome.next (hstDown.absent 5) : Res) ≠ .next t := by
  intro heq
  rw [← Host.Outcome.next.inj heq, absent_refused] at h
  exact absurd h (by decide)

/-- Refutes O7: the host reaches AO, but HST holds IS_RESET_REQ. With HST in reset a RESET_REQ_WR without the key is absent and leaves
REFUSED clear, where the statement sets it. -/
theorem not_keyedRequestsNeedKeyAndOneBit : ¬ Obligations.KeyedRequestsNeedKeyAndOneBit := by
  intro h
  obtain ⟨hkeyless, -⟩ := h hstDown hstDown_reaches_ao
  have hexec : exec (.resetReqWr 2) hstDown = .next (hstDown.absent 5) := congrArg _ (hstDown_resetReq _)
  exact hstDown_absent_ne (refuse_refused hstDown) (hexec.symm.trans (hkeyless 2 .resetReqWr (by simp) (.inl (by decide))))

/-- Refutes O8: the host reaches AO, but HST holds IS_RESET_REQ. On a die that does not own, with HST in reset, a keyed IS_RESET_REQ.WR is
absent and no wait begins, where the statement begins one. -/
theorem not_warmResetDeferral : ¬ Obligations.WarmResetDeferral := by
  intro h
  obtain ⟨-, hwrite⟩ := h hstDown (by decide) rfl rfl rfl rfl (by decide)
  obtain ⟨t, hexec, hisl⟩ := hwrite 0x5C000002 hstDown_reaches_ao (by decide) (by decide)
  have ht : hstDown.absent 5 = t := (hstDown_resetReq _).symm.trans (Host.Outcome.next.inj hexec)
  have hwait : (hstDown.absent 5).isl.wrWait = true := by rw [ht, hisl]
  rw [absent_isl] at hwait
  exact Bool.noConfusion hwait

/-- Refutes O9: the host reaches AO, but HST holds IS_RESET_REQ. With HST in reset a keyed island reset that names AO is absent and leaves
REFUSED clear, where the statement sets it. -/
theorem not_refusedResetIsRecorded : ¬ Obligations.RefusedResetIsRecorded := by
  intro h
  obtain ⟨hisland, -⟩ := h hstDown 0x5C000701 hstDown_reaches_ao (by decide)
  obtain ⟨hao, -⟩ := hisland (by decide)
  have hexec : exec (.resetReqIr 0x5C000701) hstDown = .next (hstDown.absent 5) := congrArg _ (hstDown_resetReq _)
  refine hstDown_absent_ne ?_ (hexec.symm.trans (hao (by decide)))
  rw [State.rf_emit]
  exact refuse_refused _

/-- On a die that does not own, a package command that its register took is refused (R136). -/
theorem hstDown_pkgCommand_refused :
    ((hstDown.writeFields Reg.IS_PKG_CMD 0x5C000004).pkgCommand 0 0).rf Reg.IS_RESET_STATUS_REFUSED = 1 := by decide +kernel

/-- Refutes O6: its clause on PKG_CMD_GO asks only that the host reach AO, and HST holds IS_PKG_CMD. With HST in reset on a die that does not
own, the command is absent and leaves REFUSED clear, where the statement gives the command to the package, which refuses it. -/
theorem not_packageAndBootCommandsComplete : ¬ Obligations.PackageAndBootCommandsComplete := by
  intro h
  obtain ⟨hcommand, -⟩ := h hstDown
  exact hstDown_absent_ne hstDown_pkgCommand_refused
    ((hstDown_pkgCmdGo _).symm.trans (hcommand 0x5C000004 hstDown_reaches_ao (by decide) (by decide)))

/-! The power cycle. -/

/-- AO of a powered die leaves reset once, and counts the power cycle then (R140). -/
theorem aoRelease_counts {s : State} (hp : s.ao.powered = true) (hu : s.ao.aoUp = false) : s.aoRelease =
    { s with ao.aoUp := true, ao.powerCycles := s.ao.ckCycles + 1, ao.ckCycles := s.ao.ckCycles + 1 } := by
  simp [State.aoRelease, hp, hu]

/-- Settles O10: a cold start leaves AO powered and in reset, with the checkpointed count and no record; AO's release counts from it. -/
theorem powerCycleCountIncreases : Obligations.PowerCycleCountIncreases := by
  intro s r test
  refine ⟨s.coldStart r test, rfl, (s.coldStart r test).aoRelease, rfl, ?_⟩
  rw [aoRelease_counts rfl rfl]
  exact ⟨rfl, rfl, rfl, rfl⟩

end Sys2Proof.Machine
end

section
/-! The regulation fault state of a rail (R191, R193): what it leaves of the rail and of its lanes. -/

namespace Sys2Proof.Machine
open Sys2Proof

/-! Reading a lane and a rail after a change of one. -/

@[simp] theorem lane_setLane_self (s : State) (n : Nat) (x : Phase) : (s.setLane n x).lane n = x := mget_mput_self _ _ _ _

theorem lane_setLane_ne (s : State) {n m : Nat} (x : Phase) (h : m ≠ n) : (s.setLane n x).lane m = s.lane m :=
  mget_mput_ne _ _ _ h.symm

@[simp] theorem rail_setRail_self (s : State) (r : Nat) (x : Rail) : (s.setRail r x).rail r = x := mget_mput_self _ _ _ _

@[simp] theorem rail_setLane (s : State) (n r : Nat) (x : Phase) : (s.setLane n x).rail r = s.rail r := rfl

@[simp] theorem lane_out (s : State) (o : Out) (n : Nat) : (s.out o).lane n = s.lane n := rfl

/-- The owner drives a lane to the level, whatever it stood at (R31, R68). -/
theorem lane_drive_self {s : State} (ho : s.owner = true) (n : Nat) (v : Pin) :
    (s.drive n v).lane n = { s.lane n with pin := v } := by
  unfold State.drive
  split
  · next h =>
    have hpin : (s.lane n).pin = v := by simpa [ho] using h
    rw [← hpin]
  · rw [lane_out, lane_setLane_self]

theorem lane_drive_ne (s : State) {n m : Nat} (v : Pin) (h : m ≠ n) : (s.drive n v).lane m = s.lane m := by
  unfold State.drive
  split
  · rfl
  · rw [lane_out, lane_setLane_ne _ _ h]

/-- A view of the state that does not see the lanes' phases and the outputs keeps what it sees when a lane is driven. -/
theorem drive_keeps {β : Type} {g : State → β} (hlane : ∀ s n x, g (State.setLane s n x) = g s) (hout : ∀ s o, g (State.out s o) = g s)
    (s : State) (n : Nat) (v : Pin) : g (s.drive n v) = g s := by
  unfold State.drive
  split
  · rfl
  · rw [hout, hlane]

/-! The lanes of a rail. -/

@[simp] theorem mem_mapped (s : State) (r n : Nat) : n ∈ s.mapped r ↔ n < 256 ∧ s.laneRail n = some r := by
  simp [State.mapped]

/-- A set of ISN samples touches the lanes, the rail and the outputs only. -/
theorem sample_keeps {β : Type} {g : State → β} (hlane : ∀ s n x, g (State.setLane s n x) = g s)
    (hrail : ∀ s r x, g (State.setRail s r x) = g s) (hout : ∀ s o, g (State.out s o) = g s) (s : State) (r : Nat)
    (isn : List (BitVec 16)) : g (s.sample r isn) = g s := by
  have hdrive (x : State) (l : List Nat) : g (x.each l (fun n y => y.drive n .hiZ)) = g x :=
    foldl_keeps g _ _ (fun y n => drive_keeps hlane hout y n _) x
  have hread (l : List (Nat × BitVec 16)) :
      g (l.foldl (fun (x : State) e => x.setLane e.1 { x.lane e.1 with amps := isnAmps e.2.toNat }) s) = g s :=
    foldl_keeps g l _ (fun x e => hlane x e.1 _) s
  unfold State.sample State.noteTotal
  dsimp only
  repeat' split
  all_goals simp only [hdrive, hrail, hread]

theorem sample_laneRail (s : State) (r : Nat) (isn : List (BitVec 16)) : (s.sample r isn).laneRail = s.laneRail :=
  sample_keeps (fun _ _ _ => rfl) (fun _ _ _ => rfl) (fun _ _ => rfl) s r isn

/-! Taking lanes out of switching. -/

theorem turnOff_cons (s : State) (a : Nat) (l : List Nat) : s.turnOff (a :: l) = (s.turnOff [a]).turnOff l := rfl

theorem turnOff_keeps {β : Type} {g : State → β} (hlane : ∀ s n x, g (State.setLane s n x) = g s)
    (hout : ∀ s o, g (State.out s o) = g s) (s : State) (l : List Nat) : g (s.turnOff l) = g s :=
  foldl_keeps g _ _ (fun x n => (drive_keeps hlane hout _ n _).trans (hlane x n _)) s

theorem turnOff_owner (s : State) (l : List Nat) : (s.turnOff l).owner = s.owner :=
  turnOff_keeps (fun _ _ _ => rfl) (fun _ _ => rfl) s l

theorem turnOff_rail (s : State) (l : List Nat) : (s.turnOff l).rail = s.rail :=
  turnOff_keeps (fun _ _ _ => rfl) (fun _ _ => rfl) s l

theorem lane_turnOff_notMem {s : State} {l : List Nat} {n : Nat} (h : n ∉ l) : (s.turnOff l).lane n = s.lane n := by
  induction l generalizing s with
  | nil => rfl
  | cons a l ih =>
    obtain ⟨ha, hl⟩ := not_or.mp (mt List.mem_cons.mpr h)
    rw [turnOff_cons, ih hl]
    exact (lane_drive_ne _ _ ha).trans (lane_setLane_ne _ _ ha)

/-- A phase that does not switch, its lane at high impedance. -/
def Phase.Released (p : Phase) : Prop := p.active = false ∧ p.pin = .hiZ

theorem turnOff_one_released {s : State} (ho : s.owner = true) (n : Nat) : ((s.turnOff [n]).lane n).Released := by
  have hlane : (s.turnOff [n]).lane n
      = { s.lane n with active := false, rampUp := 0, rampDown := 0, limLow := false, pin := .hiZ } :=
    (lane_drive_self ((setLane_owner _ _ _).trans ho) n .hiZ).trans (by rw [lane_setLane_self])
  rw [hlane]
  exact ⟨rfl, rfl⟩

/-- The owner releases every lane of the list: a later pass either releases the lane again or leaves it. -/
theorem turnOff_released {s : State} (ho : s.owner = true) {l : List Nat} {n : Nat} (h : n ∈ l) : ((s.turnOff l).lane n).Released := by
  induction l generalizing s with
  | nil => exact absurd h List.not_mem_nil
  | cons a l ih =>
    rw [turnOff_cons]
    by_cases hl : n ∈ l
    · exact ih ((turnOff_owner s [a]).trans ho) hl
    · obtain rfl : n = a := (List.mem_cons.mp h).resolve_right hl
      rw [lane_turnOff_notMem hl]
      exact turnOff_one_released ho n

/-! What a regulation fault does beyond its rail: the refusals and the CLAMP lines leave the phase controller as it is. -/

theorem eventBlind_ph : EventBlind State.ph :=
  ⟨fun _ _ => rfl, fun _ _ => rfl, fun _ _ => rfl, fun _ _ => rfl, fun _ _ => rfl, fun _ _ _ => rfl, fun _ _ => rfl⟩

theorem putFlits_ph (s : State) (n : Nat) (f : FlitLink × List (List Nat)) : (s.putFlits n f).ph = s.ph :=
  foldl_keeps State.ph f.2 _ (fun x l => State.out_ph x (.sluice n l)) _

theorem nak_ph (s : State) (n t seq code echo detail : Nat) : (s.nak n t seq code echo detail).ph = s.ph := by
  unfold State.nak State.sendTileOn State.sendLink
  split
  · exact putFlits_ph _ _ _
  · rfl

theorem putTile_ph (s : State) (t : Nat) (x : Tile) : (s.putTile t x).ph = s.ph := rfl

theorem dropIntent_ph (s : State) (t seq : Nat) : (s.dropIntent t seq).ph = s.ph := by
  unfold State.dropIntent
  dsimp only
  rw [putTile_ph]
  split
  · split <;> rfl
  · rfl

theorem refuseBudget_ph (s : State) (t : Nat) (p : Pend) (code : Nat) : (s.refuseBudget t p code).ph = s.ph := by
  unfold State.refuseBudget
  dsimp only
  rw [putTile_ph, eventBlind_ph.count, State.emit_ph, nak_ph]

theorem refuseListed_ph (s : State) (l : List Nat) : (s.refuseListed l).ph = s.ph :=
  foldl_keeps State.ph _ _ (fun x t => foldl_keeps State.ph _ _
    (fun y q => (refuseBudget_ph _ t q _).trans (dropIntent_ph y t q.seq)) x) s

theorem clampAll_ph (s : State) : s.clampAll.ph = s.ph := by
  refine foldl_keeps State.ph _ _ (fun x n => ?_) s
  dsimp only
  repeat' split
  all_goals rfl

/-- The record of a rail in the regulation fault state (R193). -/
def Rail.faulted (x : Rail) : Rail := { x with
  mode := 5, powerGood := false, hold := false, handback := false, strobeWaits := false, limiting := false
  discharge := false, base := {} }

theorem regFault_ph {s : State} {r : Nat} (h : (s.rail r).mode ≠ 5) (cause v : Nat) :
    (s.regFault r cause v).ph = ((s.setRail r (s.rail r).faulted).releaseLanes r).ph := by
  unfold State.regFault
  rw [if_neg h]
  dsimp only
  rw [clampAll_ph, refuseListed_ph]
  rfl

/-- Rail `r` is in the regulation fault state, and every lane that `s` maps to it is released (R193). -/
def HeldOff (s : State) (r : Nat) (t : State) : Prop :=
  (t.rail r).mode = 5 ∧ (t.rail r).powerGood = false ∧ (t.rail r).hold = false ∧ (t.rail r).handback = false
    ∧ (t.rail r).discharge = false ∧ ∀ n < 256, s.laneRail n = some r → (t.lane n).active = false ∧ (t.lane n).pin = .hiZ

/-- What R191 puts in the regulation fault state is held off, under any mapping that is the one in force. -/
theorem regFault_heldOff {s w : State} {r : Nat} (ho : w.owner = true) (hmap : w.laneRail = s.laneRail) (h : (w.rail r).mode ≠ 5)
    (cause v : Nat) : HeldOff s r (w.regFault r cause v) := by
  have hph := regFault_ph h cause v
  have hrail : (w.regFault r cause v).rail r = (w.rail r).faulted := by
    rw [State.rail, hph]
    exact (congrFun (turnOff_rail _ _) r).trans (rail_setRail_self _ _ _)
  rw [HeldOff, hrail]
  refine ⟨rfl, rfl, rfl, rfl, rfl, fun n hn hl => ?_⟩
  have hlane : (w.regFault r cause v).lane n = ((w.setRail r (w.rail r).faulted).releaseLanes r).lane n := by
    rw [State.lane, hph]
    rfl
  rw [hlane]
  exact turnOff_released (s := w.setRail r (w.rail r).faulted) ho ((mem_mapped _ r n).mpr ⟨hn, (congrFun hmap n).trans hl⟩)

/-- A command that puts a rail in the regulation fault state yields one in which the rail is held off. -/
theorem yields_heldOff {c : Instr} {s w : State} {r cause v : Nat} (he : exec c s = .next (w.regFault r cause v)) (ho : w.owner = true)
    (hmap : w.laneRail = s.laneRail) (h : (w.rail r).mode ≠ 5) : Yields c s (HeldOff s r) :=
  ⟨_, he, regFault_heldOff ho hmap h cause v⟩

/-! The readings before the fault. -/

@[simp] theorem setpoint_sensed (s : State) (r v : Nat) :
    (s.setRail r { s.rail r with sensed := v }).setpoint r = s.setpoint r := by
  unfold State.setpoint
  rw [rail_setRail_self]
  rfl

/-- A sensed voltage that ends no burst pulse is only noted (R173). -/
theorem noteVolts_of_not_ends {s : State} {r raw : Nat} (h : ¬ ((s.rail r).mode = 3 ∧ s.setpoint r + 60 ≤ 5 * raw)) :
    s.noteVolts r raw = s.setRail r { s.rail r with sensed := 5 * raw } := by
  unfold State.noteVolts
  dsimp only
  rw [setpoint_sensed, if_neg h]

/-- Settles O13: each condition of R191 runs `regFault`, whose release of the lanes nothing after it touches; in mode 5 no condition is
met. -/
theorem regulationFaultHoldsTheRail : Obligations.RegulationFaultHoldsTheRail := by
  intro s r hon
  obtain ⟨-, ho⟩ := (regOn_iff s).mp hon
  obtain ⟨htimeout, hsense, hvolts, hgross, -⟩ := phaseControllerFaultsComplete s r hon
  refine ⟨fun hm => ?timeout, fun raw h0 h5 hraw => ?sense, fun raw hm hv => ?under, fun raw h5 hd hv => ?discharged,
    fun isn h0 h5 hi => ?gross, fun hm => ⟨?timeoutKept, fun raw => ?senseKept⟩⟩
  case timeout => exact yields_heldOff (htimeout hm) ho rfl (by omega)
  case sense => exact yields_heldOff (hsense raw h0 h5 hraw) ho rfl h5
  case under =>
    obtain ⟨hunder, -, -⟩ := hvolts raw
    rw [noteVolts_of_not_ends (by omega), rail_setRail_self, setpoint_sensed] at hunder
    refine yields_heldOff (hunder hm hv) ho rfl ?_
    rw [rail_setRail_self]
    dsimp only
    omega
  case discharged =>
    obtain ⟨-, -, hdone⟩ := hvolts raw
    rw [noteVolts_of_not_ends (by omega), rail_setRail_self, setpoint_sensed] at hdone
    refine yields_heldOff (hdone hd hv) ho rfl ?_
    rwa [rail_setRail_self]
  case gross =>
    exact yields_heldOff (hgross isn h0 h5 hi) ((sample_owner s r isn).trans ho) (sample_laneRail s r isn) h5
  case timeoutKept =>
    change execSsTimeout r s = _
    simp [execSsTimeout, hm]
  case senseKept =>
    change execVsnSenseFault r raw s = _
    simp [execVsnSenseFault, hm]

end Sys2Proof.Machine
end

section
/-! The regulation commands of the phase controller (R145, R151, R159, R160, R166, R170 to R180, R189). -/

namespace Sys2Proof.Machine
open Sys2Proof

/-! Rules of the operations they run. -/

/-- Only a rail in soft-stop settles (R171). -/
theorem stopSettle_of_ne {s : State} {r : Nat} (h : (s.rail r).mode ≠ 6) : s.stopSettle r = s := if_neg (fun hs => h hs.1)

/-- A rail with no limiting and no hold whose total reaches the limit in force is limited, and the record says so (R166). -/
theorem limitReached_begins {s : State} {r : Nat} (hm : (s.rail r).mode ∈ [1, 2, 3, 6])
    (ht : (10 * (s.limit32 r).1 : Nat) ≤ 32 * (s.rail r).total) (hl : (s.rail r).limiting = false) (hh : (s.rail r).hold = false) :
    s.limitReached r
      = (s.setRail r { s.rail r with limiting := true }).emit 1 0x2011 r ((s.limit32 r).1 / 32) (s.limit32 r).2 := by
  unfold State.limitReached
  dsimp only
  rw [if_pos ⟨by simpa using hm, ht⟩, hl, hh]
  rfl

/-- Writing the target over AVSBus leaves the rail in its mode. -/
theorem avsWrite_mode (s : State) (r : Nat) : ((s.avsWrite r).rail r).mode = (s.rail r).mode := by
  unfold State.avsWrite
  split
  · have hrail := foldl_keeps (fun x => x.rail r) (s.mapped r)
      (fun x n => x.out (.avs (n / 64) n ((s.setpointGoal r + 9) / 10))) (fun _ _ => rfl)
      (s.setRail r { s.rail r with avs := s.setpointGoal r })
    have hmode := congrArg Rail.mode (hrail.trans (rail_setRail_self _ _ _))
    exact hmode
  · rfl

/-- With REG out of reset on the owner, a cycle of a phase on a rail outside soft-stop is what the rail's state asks for, and the reading
is taken first (R151, R179, R192). -/
theorem execSwitchingCycle_on {s : State} (hon : s.regOn = true) {n : Fin 256} {r : Nat} (hl : s.laneRail n = some r)
    (h6 : (s.rail r).mode ≠ 6) (e : BitVec 12) (busv isn : BitVec 16) :
    let s0 := s.setLane n { s.lane n with amps := isnAmps isn.toNat }
    execSwitchingCycle n e busv isn s = .next (
      if (s.rail r).discharge then s0.dischargeCycle r n isn
      else if !(s.lane n).active || (s.rail r).handback || !((s.rail r).mode == 1 || (s.rail r).mode == 2 || (s.rail r).mode == 6) then s0
      else if (s.rail r).hold then s0.holdCycle r n isn
      else s0.switchCycle r n (signedOf 12 e.toNat) (busvMv busv.toNat) isn) := by
  obtain ⟨hr, -⟩ := (regOn_iff s).mp hon
  intro s0
  have hsettle : s0.stopSettle r = s0 := stopSettle_of_ne h6
  have hactive : (s0.lane n).active = (s.lane n).active := (congrArg Phase.active (lane_setLane_self s n _)).trans rfl
  have hrail : s0.rail r = s.rail r := rfl
  simp only [execSwitchingCycle, hl, hr, hon, Bool.false_eq_true, if_false, Bool.not_true]
  rw [hsettle, hactive, hrail]

theorem profileCtl_holder : holderOf Reg.PC_PROFILE_CTL = some 1 := by decide +kernel

/-- A write that its register takes gives the fields the write and then acts. -/
theorem hostWrite_served {s : State} {a isl : Nat} (ha : holderOf a = some isl) (h : Reaches s isl) (v : Nat) (after : State → State) :
    s.hostWrite a v after = after (s.writeFields a v) := by
  simp [State.hostWrite, serve_write ha h]

/-- What makes BURST_EXIT leave burst mode: a total above 6 % of the derated rating, a voltage too low, or a command (R175). -/
theorem execBurstExit_leaves {s : State} {r : Fin 8} {cause : Fin 4} {isn : List (BitVec 16)} {raw : BitVec 12} (hs : s.regOn = true)
    (hw : (s.sample r isn).regOn = true) {x : State} (hx : (s.sample r isn).noteVolts r raw.toNat = x) (hm : (x.rail r).mode = 3)
    (hit : (cause = 2 ∧ (60 * x.derated r : Nat) < 100 * (x.rail r).total) ∨ (cause = 3 ∧ 5 * raw.toNat + 160 < x.setpoint r)
      ∨ (cause.val < 2 ∧ (x.dom r).burstWait = true)) :
    execBurstExit r cause isn raw s = .next (x.burstLeave r) := by
  subst hx
  rw [execBurstExit, onSample_acts hs, onVolts_acts hw]
  refine congrArg _ (if_pos ⟨hm, ?_⟩)
  rcases hit with ⟨rfl, htotal⟩ | ⟨rfl, hvolts⟩ | ⟨hcommand, hwait⟩
  · exact decide_eq_true htotal
  · exact decide_eq_true hvolts
  · obtain rfl | rfl : cause = 0 ∨ cause = 1 := by omega
    · exact hwait
    · exact hwait

/-- Settles O11: a reading acts on the owner with REG out of reset, and each command's rule is its branch; PROFILE_SAVE is a write that REG's
register takes. -/
theorem regulationCommandsComplete : Obligations.RegulationCommandsComplete := by
  intro s r hon
  refine ⟨fun n e busv isn hl => ⟨fun ha hm hb hd => ?cycle, fun hm hd => ?discharging⟩,
    fun isn => ⟨fun hm ht => ?add, fun hm hall hmin ht => ?shed, fun hm ht hl hh => ?limit, fun hm ht hall => ?burstEntry,
      fun hh => ?holdEnd, fun raw cause hw hx hm hit => ?burstExit⟩,
    fun raw => ⟨fun hm hhi hlo => ?powerGood, fun hm hv => ?burstPulse⟩, fun hs hm hh hb => ?strobe, fun n ack hl => ?deadLane,
    fun k ack => ?deadPair, fun seg l alert hlost => ?poll, fun hm hlt => ?avs, fun v hs hsave => ?save⟩
  case cycle =>
    have h12 : (s.rail r).mode = 1 ∨ (s.rail r).mode = 2 := by simpa using hm
    have h6 : (s.rail r).mode ≠ 6 := by omega
    have hmode : ((s.rail r).mode == 1 || (s.rail r).mode == 2 || (s.rail r).mode == 6) = true := by
      rcases h12 with h | h <;> simp [h]
    refine (execSwitchingCycle_on hon hl h6 e busv isn).trans ?_
    rw [hd, ha, hb, hmode]
    rfl
  case discharging =>
    refine (execSwitchingCycle_on hon hl hm e busv isn).trans ?_
    rw [hd]
    rfl
  case add =>
    change execPhaseAdd r isn s = _
    rw [execPhaseAdd, onSample_acts hon]
    exact congrArg _ (if_pos ⟨.inl hm, ht⟩)
  case shed =>
    change execPhaseShed r isn s = _
    rw [execPhaseShed, onSample_acts hon]
    exact congrArg _ (if_pos ⟨.inl hm, hall, hmin, ht⟩)
  case limit =>
    change execRailCurrentLimit r isn s = _
    rw [execRailCurrentLimit, onSample_acts hon]
    exact congrArg _ (limitReached_begins hm ht hl hh)
  case burstEntry =>
    change execBurstEntry r isn s = _
    rw [execBurstEntry, onSample_acts hon]
    exact congrArg _ (if_pos ⟨hm, ht, hall⟩)
  case holdEnd =>
    change execFloodgateHoldEnd r isn s = _
    rw [execFloodgateHoldEnd, onSample_acts hon]
    exact congrArg _ (if_pos hh)
  case burstExit => exact execBurstExit_leaves hon hw rfl hm hit
  case powerGood =>
    change execRailPowerGood r raw s = _
    simp only [execRailPowerGood, onVolts_acts hon]
    exact congrArg _ (if_pos ⟨hm, hhi, hlo⟩)
  case burstPulse =>
    change execBurstPulse r raw s = _
    rw [execBurstPulse, onVolts_acts hon]
    exact congrArg _ (if_pos ⟨hm, hv⟩)
  case strobe =>
    change execFloodgateStrobe r s = _
    simp [execFloodgateStrobe, hon, hs, hm, hh, hb]
  case deadLane =>
    have hlane : ¬ 256 ≤ (n.castLE (by decide) : Fin 264).val := Nat.not_le.mpr n.isLt
    change execDeadTimeChange (n.castLE _) ack s = _
    rw [execDeadTimeChange, if_neg (by simp [hon]), if_neg hlane]
    exact congrArg _ (if_neg hl)
  case deadPair =>
    change execDeadTimeChange ⟨256 + k, _⟩ ack s = _
    simp [execDeadTimeChange, hon]
  case poll =>
    change execPmbusPollRound seg l s alert = _
    simp [execPmbusPollRound, hon, hlost]
  case avs =>
    obtain ⟨-, ho⟩ := (regOn_iff s).mp hon
    have h123 : (s.rail r).mode = 1 ∨ (s.rail r).mode = 2 ∨ (s.rail r).mode = 3 := by simpa using hm
    obtain ⟨h0, h5, h6⟩ : (s.rail r).mode ≠ 0 ∧ (s.rail r).mode ≠ 5 ∧ (s.rail r).mode ≠ 6 := by omega
    have hsettle : (s.avsWrite r).stopSettle r = s.avsWrite r := stopSettle_of_ne (by rwa [avsWrite_mode])
    change execAvsWrite r s = _
    simp only [execAvsWrite, hsettle]
    rw [if_pos (by simp [hon, h0, h5, hlt]), State.avsWrite, if_pos ho]
  case save =>
    change execProfileSave v s = _
    rw [execProfileSave, hostWrite_served profileCtl_holder hs]
    exact congrArg _ (if_pos hsave)

end Sys2Proof.Machine
end

section
/-! The tile endpoint (chapter 5): what it keeps of itself and of the others when it changes and when it sends, and each message that it
accepts. -/

namespace Sys2Proof.Machine
open Sys2Proof

/-! Reading an endpoint and a die port after a change of one. -/

@[simp] theorem endp_setEndp_self (s : State) (t : Nat) (e : Endpoint) : (s.setEndp t e).endp t = e := mget_mput_self _ _ _ _

theorem endp_setEndp_ne (s : State) {t u : Nat} (e : Endpoint) (h : u ≠ t) : (s.setEndp t e).endp u = s.endp u :=
  mget_mput_ne _ _ _ h.symm

@[simp] theorem port_setPort_self (s : State) (n : Nat) (p : DiePort) : (s.setPort n p).port n = p := mget_mput_self _ _ _ _

theorem port_setPort_ne (s : State) {n k : Nat} (p : DiePort) (h : k ≠ n) : (s.setPort n p).port k = s.port k :=
  mget_mput_ne _ _ _ h.symm

theorem endp_congr {s s' : State} (h : s'.sl.ends = s.sl.ends) (u : Nat) : s'.endp u = s.endp u := by
  rw [State.endp, h, State.endp]

/-! A die port sends flits without a change of any endpoint. -/

theorem putDie_ends (s : State) (n : Nat) (other : Bool) (r : DiePort × List (List Nat)) :
    (s.putDie n other r).sl.ends = s.sl.ends :=
  foldl_keeps (fun x => x.sl.ends) r.2 (fun x f => x.outEnd (.dieFlit n other f)) (fun _ _ => rfl) _

theorem portServe_ends (s : State) (n : Nat) : (s.portServe n).sl.ends = s.sl.ends := putDie_ends s n _ _

theorem upQueue_ends (s : State) (t : Nat) (m : Msg) :
    (s.upQueue t m).sl.ends = (s.setEndp t { s.endp t with sent := mput 0 (s.endp t).sent (mByte m 0) m }).sl.ends := by
  unfold State.upQueue
  dsimp only
  split <;> rfl

/-- Sending a message leaves every part of an endpoint but the note of what it sent last (R236). -/
theorem endp_upQueue_keeps {β : Type} {g : Endpoint → β} (hg : ∀ e l, g { e with sent := l } = g e) (s : State) (t : Nat) (m : Msg)
    (u : Nat) : g ((s.upQueue t m).endp u) = g (s.endp u) := by
  rw [endp_congr (upQueue_ends s t m)]
  by_cases h : u = t
  · rw [h, endp_setEndp_self, hg]
  · rw [endp_setEndp_ne _ _ h]

theorem endp_upSend_keeps {β : Type} {g : Endpoint → β} (hg : ∀ e l, g { e with sent := l } = g e) (s : State) (t : Nat) (m : Msg)
    (u : Nat) : g ((s.upSend t m).endp u) = g (s.endp u) :=
  (congrArg g (endp_congr (portServe_ends _ _) u)).trans (endp_upQueue_keeps hg s t m u)

theorem endp_upSend_ne (s : State) {t u : Nat} (m : Msg) (h : u ≠ t) : (s.upSend t m).endp u = s.endp u := by
  refine (endp_congr (portServe_ends _ _) u).trans ?_
  rw [endp_congr (upQueue_ends s t m), endp_setEndp_ne _ _ h]

/-! The two ways in which Table 5.6 changes a state: the endpoint of one tile, and that with a message upstream. -/

/-- Tile `t`'s endpoint is `e` in `x`, and every other is as in `s`. -/
def Becomes (s x : State) (t : Nat) (e : Endpoint) : Prop := x.endp t = e ∧ ∀ u, u ≠ t → x.endp u = s.endp u

theorem becomes_setEndp (s : State) (t : Nat) (e : Endpoint) : Becomes s (s.setEndp t e) t e :=
  ⟨endp_setEndp_self s t e, fun _ h => endp_setEndp_ne s e h⟩

theorem yields_becomes {c : Instr} {s : State} {t : Nat} {e : Endpoint} (h : exec c s = .next (s.setEndp t e)) :
    Yields c s (fun x => Becomes s x t e) := ⟨_, h, becomes_setEndp s t e⟩

/-- Tile `t`'s endpoint takes `e` and sends `m` through its die port, and the endpoint of no other tile changes (R206, R249). -/
def Sends (s x : State) (t : Nat) (e : Endpoint) (m : Msg) : Prop :=
  x = (s.setEndp t e).upSend t m
    ∧ (x.endp t).st = e.st ∧ (x.endp t).allow = e.allow ∧ (x.endp t).out = e.out ∧ (x.endp t).seq = e.seq
    ∧ ∀ u, u ≠ t → x.endp u = s.endp u

theorem sends_upSend (s : State) (t : Nat) (e : Endpoint) (m : Msg) : Sends s ((s.setEndp t e).upSend t m) t e m := by
  have hself {β : Type} (g : Endpoint → β) (hg : ∀ e l, g { e with sent := l } = g e) :
      g (((s.setEndp t e).upSend t m).endp t) = g e :=
    (endp_upSend_keeps hg _ t m t).trans (congrArg g (endp_setEndp_self s t e))
  refine ⟨rfl, hself Endpoint.st (fun _ _ => rfl), hself Endpoint.allow (fun _ _ => rfl), hself Endpoint.out (fun _ _ => rfl),
    hself Endpoint.seq (fun _ _ => rfl), fun u h => ?_⟩
  rw [endp_upSend_ne _ m h, endp_setEndp_ne s e h]

theorem yields_sends {c : Instr} {s : State} {t : Nat} {e : Endpoint} {m : Msg} (h : exec c s = .next ((s.setEndp t e).upSend t m)) :
    Yields c s (fun x => Sends s x t e m) := ⟨_, h, sends_upSend s t e m⟩

/-! The messages that a tile accepts (Tables 5.2 and 5.3). -/

theorem type_of_takes {e : Endpoint} {t ty : Nat} {m : Msg} (h : e.takes t ty m = true) : mByte m 0 = ty :=
  eq_of_beq (Bool.and_eq_true_iff.mp h).1

theorem endIn_taken {s : State} {t ty : Nat} {m : Msg} (h : (s.endp t).takes t ty m = true) : s.endIn t ty m = s.endTake t m :=
  if_pos h

/-- A message leaves the state as it is where its acceptance would. -/
theorem endIn_discards {s : State} {t ty : Nat} {m : Msg} (h : (s.endp t).takes t ty m = true → s.endIn t ty m = s) :
    s.endIn t ty m = s := by
  by_cases ht : (s.endp t).takes t ty m = true
  · exact h ht
  · exact if_neg ht

section
variable {s : State} {t : Nat} {m : Msg}

theorem endIn_grant (h : (s.endp t).takes t 0x81 m = true) : s.endIn t 0x81 m = s.grantIn t m := by
  simp only [endIn_taken h, State.endTake, type_of_takes h]

theorem endIn_mgrant (h : (s.endp t).takes t 0x82 m = true) : s.endIn t 0x82 m = s.mgrantIn t m := by
  simp only [endIn_taken h, State.endTake, type_of_takes h]

theorem endIn_nak (h : (s.endp t).takes t 0x83 m = true) : s.endIn t 0x83 m = s.nakIn t m := by
  simp only [endIn_taken h, State.endTake, type_of_takes h]

theorem endIn_budget (h : (s.endp t).takes t 0x84 m = true) :
    s.endIn t 0x84 m = if (s.endp t).st == 5 && bitOf (mByte m 4) (clearsBit (s.endp t).heldCode) then
      s.setEndp t { s.endp t with st := restState (s.endp t).allow, heldCode := 0 } else s := by
  simp only [endIn_taken h, State.endTake, type_of_takes h]

theorem endIn_config (h : (s.endp t).takes t 0x85 m = true) :
    s.endIn t 0x85 m = if (s.endp t).st != 0 || s.portUp (s.tileDie t) then s.setEndp t ((s.endp t).config (s.tileDie t) m) else s := by
  simp only [endIn_taken h, State.endTake, type_of_takes h]

theorem endIn_close (h : (s.endp t).takes t 0x8B m = true) :
    s.endIn t 0x8B m = if (s.endp t).st != 0 then s.setEndp t (s.endp t).clamped else s := by
  simp only [endIn_taken h, State.endTake, type_of_takes h]

end

/-! What answers an INTENT. -/

/-- Without an outstanding INTENT that waits, and without a withdrawn one, GRANT finds nothing to answer (R222, R225). -/
theorem grantIn_unasked {s : State} {t : Nat} (m : Msg) (ho : (s.endp t).out = none) (hw : (s.endp t).withdrawn = []) :
    s.grantIn t m = s := by
  simp [State.grantIn, ho, hw]

/-- GRANT with the SEQ of the outstanding INTENT (R222, R223). -/
theorem grantIn_asked {s : State} {t : Nat} {m : Msg} {p : Pend} (ho : (s.endp t).out = some p) (hst : (s.endp t).st = 2)
    (hq : p.seq = mByte m 3) : s.grantIn t m = s.granted t p (mByte m 4) (mByte m 9) (mPair m 10) := by
  rw [State.grantIn, ho]
  exact if_pos ⟨hst, hq⟩

/-- MGRANT with the BARRIER_GRP of the outstanding INTENT (R224). -/
theorem mgrantIn_matched {s : State} {t : Nat} {m : Msg} {p : Pend} (ho : (s.endp t).out = some p) (hst : (s.endp t).st = 2)
    (hg : p.grp = mPair m 12 % 4096) :
    s.mgrantIn t m = s.granted t p (if mByte m 4 = 0 then p.cls else min p.cls (mByte m 4)) (mByte m 9) (mPair m 10) := by
  rw [State.mgrantIn, ho]
  exact if_pos ⟨hst, hg⟩

/-- MGRANT that matches neither the outstanding INTENT nor a withdrawn one (R224, R225). -/
theorem mgrantIn_unmatched {s : State} {t : Nat} {m : Msg}
    (hn : (s.endp t).st ≠ 2 ∨ ∀ p, (s.endp t).out = some p → p.grp ≠ mPair m 12 % 4096)
    (hw : ∀ w ∈ (s.endp t).withdrawn, w.2 ≠ mPair m 12 % 4096) : s.mgrantIn t m = s := by
  have hlate : (s.endp t).withdrawn.find? (fun w => w.2 == mPair m 12 % 4096) = none :=
    List.find?_eq_none.mpr (fun w h => by simpa using hw w h)
  rw [State.mgrantIn, hlate]
  cases ho : (s.endp t).out with
  | none => rfl
  | some p => exact if_neg (fun h => hn.elim (fun hst => hst h.1) (fun hg => hg p ho h.2))

/-- A valid GRADE of a grant sets the clock only (R241, R242). -/
theorem withGrade_keeps {β : Type} {g : Endpoint → β} (hg : ∀ e grade freq gated, g { e with grade, freq, gated } = g e)
    (e : Endpoint) (grade freq : Nat) : g (e.withGrade grade freq) = g e := by
  unfold Endpoint.withGrade
  split
  · exact hg e _ _ _
  · exact hg e e.grade e.freq false

/-- An INTENT that is no renewal of an expired lease is granted: the tile ramps to the class (R223, R226, R231). -/
theorem granted_ramps {s : State} {t : Nat} {p : Pend} (hr : ¬ (p.renew = true ∧ (s.endp t).allow = 0)) (cls grade freq : Nat) :
    let e := (s.granted t p cls grade freq).endp t
    e.st = 3 ∧ e.out = none ∧ e.lastSeq = p.seq ∧ e.allow = cls := by
  have hg : s.granted t p cls grade freq = s.setEndp t ({ (s.endp t).answered.unback 1 with
      st := 3, out := none, allow := cls, rampFrom := (s.endp t).allow, lease := p.lease, leaseAt := s.now
      lastSeq := p.seq }.withGrade grade freq) := if_neg (by simpa using hr)
  rw [hg, endp_setEndp_self]
  exact ⟨withGrade_keeps (g := Endpoint.st) (fun _ _ _ _ => rfl) _ _ _, withGrade_keeps (g := Endpoint.out) (fun _ _ _ _ => rfl) _ _ _,
    withGrade_keeps (g := Endpoint.lastSeq) (fun _ _ _ _ => rfl) _ _ _, withGrade_keeps (g := Endpoint.allow) (fun _ _ _ _ => rfl) _ _ _⟩

/-- Settles O16: MGRANT answers the INTENT it matches, and else falls to the withdrawn ones, of which none matches. -/
theorem mgrantIsAcceptedByMatch : Obligations.MgrantIsAcceptedByMatch := by
  intro s t m ht
  have hexec : exec (.mgrantReceived t m) s = .next (s.mgrantIn t m) := congrArg Host.Outcome.next (endIn_mgrant ht)
  refine ⟨fun p hst ho hg hr => ?matched, fun hn hw => ?unmatched⟩
  case matched =>
    rw [mgrantIn_matched ho hst hg] at hexec
    exact ⟨_, hexec, granted_ramps hr _ _ _⟩
  case unmatched => rw [hexec, mgrantIn_unmatched hn hw]

/-- Settles O17: each event's condition on the state fails; a message changes nothing whether the tile accepts it or not. -/
theorem endpointEventsNotListedAreDiscarded : Obligations.EndpointEventsNotListedAreDiscarded := by
  intro s t m cls lease grp layer arr op e
  refine ⟨fun h1 h4 => ?needs, fun h4 => ⟨?renew, ?less⟩, fun h2 => ?withdraws, fun h3 => ?ramp, fun hlt => ?lease,
    fun h5 => ⟨?held, ?budget⟩, fun h0 => ?openRetry, fun h0 => ?close, fun ho hw => ?grant⟩ <;> refine congrArg Host.Outcome.next ?_
  case needs => exact if_neg (fun h => h.elim h1 h4)
  case renew => exact if_neg (fun h => h4 h.1)
  case less => exact if_neg (fun h => h4 h.1)
  case withdraws =>
    cases (s.endp t).out with
    | none => rfl
    | some p => exact if_neg h2
  case ramp => exact if_neg h3
  case lease => exact if_neg (Nat.not_le.mpr hlt)
  case held => exact if_neg (fun h => h5 h.1)
  case budget => exact endIn_discards (fun ht => (endIn_budget ht).trans (if_neg (by simpa using fun h => absurd h h5)))
  case openRetry => exact if_neg (fun h => h0 h.1)
  case close => exact endIn_discards (fun ht => (endIn_close ht).trans (if_neg (by simpa using h0)))
  case grant => exact endIn_discards (fun ht => (endIn_grant ht).trans (grantIn_unasked m ho hw))

end Sys2Proof.Machine
end

section
/-! The transitions of Table 5.6, each of a state that the table lists. -/

namespace Sys2Proof.Machine
open Sys2Proof

/-- CONFIG opens a clamped endpoint, as IDLE with SEQ 0, empty slots and no allowance (R222, R223, R242). -/
theorem config_opens {e : Endpoint} (n : Nat) (m : Msg) (h : e.st = 0) :
    let o := e.config n m
    o.st = 1 ∧ o.seq = 0 ∧ o.slots = [] ∧ o.allow = 0 ∧ o.floor = mByte m 4 ∧ o.freq = mPair m 10 % 4096 := by
  simp [Endpoint.config, h, Endpoint.clamped]

/-- Settles O14: each event's condition on the state holds, and what it changes is the tile's endpoint, alone or with a message. -/
theorem endpointTransitionsComplete : Obligations.EndpointTransitionsComplete := by
  intro s t e becomes sends
  refine ⟨fun cls lease arr grp op layer h14 => ?needs, fun cls lease h4 hle => ?renew, fun cls h4 hlt => ?less,
    fun p ho h2 => ?withdraws, fun m => ⟨fun p ht ho h2 hq => ?grant, fun ht => ?nak, fun ht h5 hclears => ?budget, fun ht h0 => ?config,
      fun ht h0 hup => ?configOpens, fun ht h0 => ?close⟩,
    fun h5 hcode => ?heldWait, fun h3 => ?ramp, fun h2 => ?lease⟩
  case needs => exact yields_sends (congrArg Host.Outcome.next (if_pos h14))
  case renew => exact yields_sends (congrArg Host.Outcome.next (if_pos ⟨h4, hle⟩))
  case less => exact yields_sends (congrArg Host.Outcome.next (if_pos ⟨h4, hlt⟩))
  case withdraws =>
    refine yields_sends ?_
    change execTileWithdraws t s = _
    rw [execTileWithdraws, ho]
    exact congrArg _ (if_pos h2)
  case grant => exact congrArg Host.Outcome.next ((endIn_grant ht).trans (grantIn_asked ho h2 hq))
  case nak => exact congrArg Host.Outcome.next (endIn_nak ht)
  case budget =>
    exact yields_becomes (congrArg Host.Outcome.next ((endIn_budget ht).trans (if_pos (by simpa using ⟨h5, hclears⟩))))
  case config =>
    have htaken : s.endIn t 0x85 m = s.setEndp t (e.config (s.tileDie t) m) :=
      (endIn_config ht).trans (if_pos (by simpa using .inl h0))
    exact yields_becomes (congrArg Host.Outcome.next (htaken.trans (congrArg (s.setEndp t) (if_neg h0))))
  case configOpens =>
    refine ⟨_, congrArg Host.Outcome.next ((endIn_config ht).trans (if_pos (by simp [hup]))), ?_⟩
    obtain ⟨hself, hothers⟩ := becomes_setEndp s t (e.config (s.tileDie t) m)
    obtain ⟨hst, hseq, hslots, hallow, hfloor, hfreq⟩ := config_opens (s.tileDie t) m h0
    rw [hself]
    exact ⟨hst, hseq, hslots, hallow, hfloor, hfreq, hothers⟩
  case close => exact yields_becomes (congrArg Host.Outcome.next ((endIn_close ht).trans (if_pos (by simpa using h0))))
  case heldWait => exact yields_becomes (congrArg Host.Outcome.next (if_pos ⟨h5, hcode⟩))
  case ramp => exact yields_becomes (congrArg Host.Outcome.next (if_pos h3))
  case lease => exact yields_becomes (congrArg Host.Outcome.next (if_pos h2))

end Sys2Proof.Machine
end

section
/-! The other messages of a tile endpoint, its reports, and the events of a die port (R218, R236 to R251). -/

namespace Sys2Proof.Machine
open Sys2Proof

/-! The messages that change the tile's settings, and the PROBE (R218, R241 to R243). -/

section
variable {s : State} {t : Nat} {m : Msg}

theorem endIn_group (h : (s.endp t).takes t 0x86 m = true) :
    s.endIn t 0x86 m = s.setEndp t { s.endp t with
      slots := (s.endp t).slots.filter (fun y => y.1 != mByte m 4 % 4)
        ++ if bitOf (mPair m 5) 15 then [(mByte m 4 % 4, mPair m 5 % 4096)] else [] } := by
  simp only [endIn_taken h, State.endTake, type_of_takes h]
  split <;> simp

theorem endIn_fstep (h : (s.endp t).takes t 0x87 m = true) (hmask : (s.endp t).inMask m = true) :
    s.endIn t 0x87 m = s.setEndp t (if mPair m 6 % 4096 = 0 then { s.endp t with gated := true }
      else { s.endp t with grade := mByte m 5 % 32, freq := mPair m 6 % 4096, gated := false }) := by
  simp only [endIn_taken h, State.endTake, type_of_takes h, hmask, if_true]

theorem endIn_pause (h : (s.endp t).takes t 0x88 m = true) (hmask : (s.endp t).inMask m = true) :
    s.endIn t 0x88 m = s.setEndp t { s.endp t with pause := mByte m 5 % 16 } := by
  simp only [endIn_taken h, State.endTake, type_of_takes h, hmask, if_true]

theorem endIn_refresh (h : (s.endp t).takes t 0x89 m = true) (hmask : (s.endp t).inMask m = true)
    (hmem : bitOf (s.endp t).caps 0 = true) :
    s.endIn t 0x89 m = s.setEndp t { s.endp t with refresh := min 2 (mByte m 5 % 4) } := by
  simp only [endIn_taken h, State.endTake, type_of_takes h, hmask, hmem, Bool.and_self, if_true]

theorem endIn_probe (h : (s.endp t).takes t 0x8A m = true) :
    s.endIn t 0x8A m = s.upSend t (upMsg 7 t [(4, 1, mByte m 4),
      (5, 8, 2 ^ 64 - 1 - ofLe ((List.range 8).map (fun k => mByte m (5 + k))))]) := by
  simp only [endIn_taken h, State.endTake, type_of_takes h]

end

theorem yields_endp {c : Instr} {s : State} {t : Nat} {e : Endpoint} (h : exec c s = .next (s.setEndp t e)) :
    Yields c s (fun x => x.endp t = e) := ⟨_, h, endp_setEndp_self s t e⟩

/-! The loss of a link (R247, R248). -/

/-- A change of every endpoint of a list gives those of the list what the change gives any endpoint. -/
theorem each_setEndp_mem {P : Endpoint → Prop} {f : Endpoint → Endpoint} (hf : ∀ e, P (f e)) {l : List Nat} {s : State} {u : Nat}
    (h : u ∈ l ∨ P (s.endp u)) : P ((s.each l (fun t x => x.setEndp t (f (x.endp t)))).endp u) := by
  induction l generalizing s with
  | nil => exact h.resolve_left List.not_mem_nil
  | cons a l ih =>
    refine ih (s := s.setEndp a (f (s.endp a))) ?_
    by_cases hu : u = a
    · rw [hu, endp_setEndp_self]
      exact .inr (hf _)
    · rw [endp_setEndp_ne _ _ hu]
      exact h.imp_left (fun hmem => (List.mem_cons.mp hmem).resolve_left hu)

/-- At floor class: closed, with no allowance, no INTENT outstanding and no pause duty (R247). -/
def Endpoint.AtFloor (e : Endpoint) : Prop := e.st = 0 ∧ e.allow = 0 ∧ e.out = none ∧ e.pause = 0

/-- What the loss of the traffic link makes of an endpoint (R247, R248). -/
def Endpoint.unlinked (e : Endpoint) : Endpoint := { e.clamped with pause := 0 }

theorem unlinked_atFloor (e : Endpoint) : e.unlinked.AtFloor := ⟨rfl, rfl, rfl, rfl⟩

/-- The loss of the traffic link reaches every tile of the die (R247, R248). -/
theorem portLoss_traffic {s : State} {n : Nat} {other : Bool} (h : (s.port n).traffic = if other then 2 else 1) {u : Nat}
    (hu : u ∈ s.dieTiles n) : ((s.portLoss n other).endp u).AtFloor := by
  unfold State.portLoss
  dsimp only
  rw [if_pos h]
  exact each_setEndp_mem (f := Endpoint.unlinked) unlinked_atFloor (.inl hu)

/-- The loss of the other link changes nothing for the tiles (R247). -/
theorem portLoss_idle {s : State} {n : Nat} {other : Bool} (h : (s.port n).traffic ≠ if other then 2 else 1) :
    (s.portLoss n other).sl.ends = s.sl.ends := by
  unfold State.portLoss
  dsimp only
  rw [if_neg h]
  rfl

/-! SYNC (R249 to R251). -/

@[simp] theorem setFlit_traffic (p : DiePort) (other : Bool) (l : FlitLink) : (p.setFlit other l).traffic = p.traffic := by
  cases other <;> rfl

theorem moved_traffic (p : DiePort) (other : Bool) : (p.moved other).traffic = if other then 2 else 1 := by
  simp [DiePort.moved, apply_ite DiePort.traffic]

theorem serve_traffic (k : Nat) (p : DiePort) : (DiePort.serve k p).1.traffic = p.traffic := by
  induction k generalizing p with
  | zero => rfl
  | succ k ih =>
    unfold DiePort.serve
    dsimp only
    split
    · rfl
    · rw [ih, setFlit_traffic]

theorem putDie_port (s : State) (n : Nat) (other : Bool) (r : DiePort × List (List Nat)) : (s.putDie n other r).port n = r.1 :=
  (foldl_keeps (fun x => x.port n) r.2 (fun x f => x.outEnd (.dieFlit n other f)) (fun _ _ => rfl) _).trans (port_setPort_self s n r.1)

/-- Serving the port leaves its traffic on its link. -/
theorem portServe_traffic (s : State) (n : Nat) : ((s.portServe n).port n).traffic = (s.port n).traffic :=
  (congrArg DiePort.traffic (putDie_port s n _ _)).trans (serve_traffic 64 _)

/-- A message that waits at its port leaves the traffic of every port on its link. -/
theorem upQueue_traffic (s : State) (t : Nat) (m : Msg) (n : Nat) : ((s.upQueue t m).port n).traffic = (s.port n).traffic := by
  unfold State.upQueue
  dsimp only
  split
  · by_cases h : n = s.tileDie t
    · rw [h, port_setPort_self]
    · rw [port_setPort_ne _ _ h]
      rfl
  · rfl

/-- What no message in the queue changes, the answers of a die's tiles to SYNC leave as it is (R251). -/
theorem syncAnswers_keep {β : Type} {g : State → β} (hg : ∀ x t m, g (State.upQueue x t m) = g x) (l : List Nat) (s : State) :
    g (s.each l (fun t x => (x.syncMsgs t).foldl (fun y m => y.upQueue t m) x)) = g s :=
  foldl_keeps g l _ (fun x t => foldl_keeps g (x.syncMsgs t) _ (fun y m => hg y t m) x) s

theorem syncIn_traffic (s : State) (n : Nat) (other : Bool) : ((s.syncIn n other).port n).traffic = if other then 2 else 1 := by
  unfold State.syncIn
  dsimp only
  rw [portServe_traffic, syncAnswers_keep (g := fun x => (x.port n).traffic) (fun x t m => upQueue_traffic x t m n), putDie_port,
    setFlit_traffic, moved_traffic]

/-- SYNC leaves every part of an endpoint but the note of what it sent last. -/
theorem endp_syncIn_keeps {β : Type} {g : Endpoint → β} (hg : ∀ e l, g { e with sent := l } = g e) (s : State) (n : Nat)
    (other : Bool) (u : Nat) : g ((s.syncIn n other).endp u) = g (s.endp u) := by
  unfold State.syncIn
  dsimp only
  rw [endp_congr (portServe_ends _ _), syncAnswers_keep (g := fun x => g (x.endp u)) (fun x t m => endp_upQueue_keeps hg x t m u),
    endp_congr (putDie_ends _ _ _ _)]

/-! The reports (R239, R240). -/

/-- A periodic report of a sensor that the tile has, 8 us or more after its last, is sent (R239). -/
theorem execTempReport_periodic {s : State} {t : Fin 16384} {j : Fin 4} (hj : j.val < (s.endp t).sensors)
    (hr : ∀ r, mget none (s.endp t).temps j = some r → r.1 + 8 * usec ≤ s.now) (valid : Bool) (mdeg : Word) :
    execTempReport t j valid mdeg false s = .next ((s.setEndp t { s.endp t with
        temps := mput none (s.endp t).temps j (some (s.now, if valid then some mdeg.toInt else none)) }).upSend t
      (upMsg 5 t [(4, 2, if valid then tempEncode mdeg.toInt else 0x3FF), (6, 1, j), (7, 1, 0)])) := by
  have hsensor : decide ((s.endp t).sensors ≤ j.val) = false := decide_eq_false (Nat.not_le.mpr hj)
  unfold execTempReport
  dsimp only
  rw [hsensor]
  cases hlast : mget none (s.endp t).temps j with
  | none => rfl
  | some r =>
    have hlate := hr r hlast
    exact congrArg _ (if_neg (by simpa using hlate))

/-- A DROOP with a count, 16 us or more after the last, is sent by a tile with a droop reporter (R240). -/
theorem execDroopReport_due {s : State} {t : Fin 16384} {count : Byte} (hcap : bitOf (s.endp t).caps 1 = true) (hc : count ≠ 0)
    (hd : ∀ d, (s.endp t).droopAt = some d → d + 16 * usec ≤ s.now) (longest : BitVec 16) :
    execDroopReport t count longest s = .next ((s.setEndp t { s.endp t with droopAt := some s.now }).upSend t
      (upMsg 6 t [(4, 1, count.toNat), (5, 2, longest.toNat)])) := by
  have hcount : (count != 0) = true := bne_iff_ne.mpr hc
  unfold execDroopReport
  dsimp only
  rw [hcap, hcount]
  cases hlast : (s.endp t).droopAt with
  | none => rfl
  | some d =>
    have hlate := hd d hlast
    exact congrArg _ (if_pos (by simpa using hlate))

/-- Settles O15: each message by what its acceptance changes, each report by the branch that sends it, and the port's events by what they
leave of every endpoint of the die. -/
theorem endpointMessagesComplete : Obligations.EndpointMessagesComplete := by
  intro s t e
  refine ⟨fun m => ⟨fun ht => ?group, fun ht hmask => ?fstep, fun ht hmask => ?pause, fun ht hmask hmem => ?refresh,
      fun ht => ?probe⟩,
    fun ty b hb hw => ?backoff, fun h0 hup => ?openRetry, fun j valid mdeg hj hr => ?temp, fun count longest hcap hc hd => ?droop,
    fun n code => ?clamp, fun n other => ?loss, fun n other => ?sync⟩
  case group => exact ⟨_, congrArg Host.Outcome.next (endIn_group ht), rfl⟩
  case fstep => exact yields_endp (congrArg Host.Outcome.next (endIn_fstep ht hmask))
  case pause => exact yields_endp (congrArg Host.Outcome.next (endIn_pause ht hmask))
  case refresh => exact yields_endp (congrArg Host.Outcome.next (endIn_refresh ht hmask hmem))
  case probe => exact congrArg Host.Outcome.next (endIn_probe ht)
  case backoff =>
    subst hb
    exact congrArg Host.Outcome.next (if_pos hw)
  case openRetry => exact congrArg Host.Outcome.next (if_pos ⟨h0, hup⟩)
  case temp => exact execTempReport_periodic hj hr valid mdeg
  case droop => exact execDroopReport_due hcap hc hd longest
  case clamp => exact ⟨_, rfl, congrArg DiePort.clamp (port_setPort_self s n _), fun k hk => port_setPort_ne s _ hk⟩
  case loss => exact ⟨_, rfl, fun h u hu => portLoss_traffic h hu, portLoss_idle⟩
  case sync =>
    exact ⟨_, rfl, syncIn_traffic s n other, fun u => ⟨endp_syncIn_keeps (g := Endpoint.st) (fun _ _ => rfl) s n other u,
      endp_syncIn_keeps (g := Endpoint.allow) (fun _ _ => rfl) s n other u⟩⟩

end Sys2Proof.Machine
end

section
/-! The Sluice on the KG8's side: flits out of order, upstream messages that pass the checks, and the writes of its registers (R208 to
R217, R236, R256). -/

namespace Sys2Proof.Machine
open Sys2Proof

/-! Flits (R211 to R213). -/

/-- A flit with a bad CRC, or out of order and not idle, is discarded: REPLAY is asked for, by one idle flit where it was not asked for
before (R212, R213). -/
theorem recv_discards {l : FlitLink} {f : BitVec 512}
    (h : flitCrcOk f = false ∨ (bitOf (flitByte f 15) 7 = false ∧ flitByte f 15 % 128 ≠ l.rxNext)) :
    l.recv f = { link := { l with askReplay := true }
                 flits := if l.askReplay then [] else [FlitLink.idle { l with askReplay := true }] } :=
  if_pos (by simpa using h)

/-- A discarded flit brings an active link no message and no loss. -/
theorem flitIn_discards {s : State} {n : Nat} {f : BitVec 512} (hr : s.inReset 2 = false) (hst : (s.link n).st = 2)
    (h : flitCrcOk f = false ∨ (bitOf (flitByte f 15) 7 = false ∧ flitByte f 15 % 128 ≠ (s.link n).fl.rxNext)) :
    s.flitIn n f = s.putFlits n ({ (s.link n).fl with askReplay := true },
      if (s.link n).fl.askReplay then [] else [FlitLink.idle { (s.link n).fl with askReplay := true }]) := by
  simp [State.flitIn, hr, hst, recv_discards h]

/-! Upstream messages (R217, R236, R237). -/

section
variable {s : State} {n : Nat} {m : Msg} (hr : s.inReset 2 = false) (hst : (s.link n).st = 2)
  (hin : (s.link n).intake.contains m = false) (hheld : s.sl.held.contains (n, m) = false)
include hr hst hin hheld

/-- A message for an intent queue that finds room, outside a Halt Sweep, and passes the checks is noted as accepted and acts. -/
theorem upJudge_accepts (hlen : (s.link n).intake.length < 256) (hq : s.queueLen (mTile m) < 16) (hh : s.ob.halted = false)
    (hb : (s.noteAccept m).badBytes m = []) (bad act : State → State) :
    s.upJudge n m true bad act = act (s.noteAccept m) := by
  have hfresh : m ∉ (s.link n).intake ∧ (n, m) ∉ s.sl.held := ⟨by simpa using hin, by simpa using hheld⟩
  simp [State.upJudge, hr, hst, hfresh, Nat.not_le.mpr hlen, Nat.not_le.mpr hq, hh, hb]

/-- A message for the report table that passes the checks acts at once (R236). -/
theorem upJudge_reports (hb : s.badBytes m = []) (bad act : State → State) : s.upJudge n m false bad act = act s := by
  have hfresh : m ∉ (s.link n).intake ∧ (n, m) ∉ s.sl.held := ⟨by simpa using hin, by simpa using hheld⟩
  simp [State.upJudge, hr, hst, hfresh, hb]

end

/-! The registers of the Sluice (Tables 5.13 and 24.4). -/

theorem linkCtl_holder : holderOf Reg.SL_LINK_CTL_ENABLE.addr = some 2 := by decide +kernel

theorem slCtl_holder : holderOf Reg.SL_CTL_SAVE.addr = some 2 := by decide +kernel

/-- Settles O18: each command by the branch that its conditions choose, an upstream message by its TYPE once it has passed the checks. -/
theorem sluiceCommandsComplete : Obligations.SluiceCommandsComplete := by
  intro s
  refine ⟨fun n hr => ⟨fun hst => ?trainFail, fun hon hst => ?retry, fun hst hclk => ?active, fun cause => ?loss,
      fun f hst => ⟨rfl, fun hbad => ?discarded⟩⟩,
    fun n f => ⟨rfl, rfl⟩,
    fun n m hr hst hin hheld => ⟨fun hlen hq hh hb => ?queued, fun hb => ?reported⟩,
    fun t => ⟨fun hp => ?probe, rfl⟩, fun n => rfl, fun p hheld => ?budget, fun v hs => ⟨?retrain, fun hsave => ?save⟩⟩
  case trainFail =>
    change execLinkTrainAttemptFail n s = _
    simp [execLinkTrainAttemptFail, hr, hst]
  case retry =>
    change execLinkRetry n s = _
    have hidle : ((s.link n).st == 0 || (s.link n).st == 3) = true := by simpa using hst
    simp [execLinkRetry, hr, hon, hidle]
  case active =>
    change execLinkActive n 0 false s = _
    simp [execLinkActive, hr, hst, hclk]
  case loss =>
    change execLinkLoss n cause s = _
    simp [execLinkLoss, hr]
  case discarded => exact congrArg Host.Outcome.next (flitIn_discards hr hst hbad)
  case queued =>
    have haccepts := upJudge_accepts hr hst hin hheld hlen hq hh hb
    refine ⟨?_, ?_, ?_, ?_, ?_⟩
    all_goals
      refine fun hty => congrArg Host.Outcome.next ?_
      simp only [State.upHandle, hty, State.upReceive, haccepts]
  case reported =>
    have hreports := upJudge_reports hr hst hin hheld hb
    refine ⟨?_, ?_⟩
    all_goals
      refine fun hty => congrArg Host.Outcome.next ?_
      simp only [State.upHandle, hty, State.upReceive, hreports, State.droopIn]
  case probe => exact congrArg Host.Outcome.next (if_pos (Option.isSome_iff_ne_none.mpr hp))
  case budget => exact congrArg Host.Outcome.next (if_pos (by simpa [Option.isSome_iff_ne_none] using hheld))
  case retrain =>
    change execRetrain v s = _
    rw [execRetrain, hostWrite_served linkCtl_holder hs]
  case save =>
    change execProfileSaveSl v s = _
    rw [execProfileSaveSl, hostWrite_served slCtl_holder hs, if_pos hsave]

end Sys2Proof.Machine
end

section
/-! The floodgate: where it is armed, what a fire changes, and the way back from its strobe (R296 to R301, R181). -/

namespace Sys2Proof.Machine
open Sys2Proof

/-! The floodgate's detection (R296, R297). -/

theorem fgArmed_iff (s : State) (r : Nat) :
    s.fgArmed r = true ↔ ((s.rail r).mode = 2 ∨ (s.rail r).mode = 3) ∧ s.rb (Reg.AD_FG_CFG_FG_ENABLE r) = true
      ∧ (s.rail r).hold = false ∧ (s.rail r).handback = false ∧ (s.dom r).strobe = false := by
  simp [State.fgArmed, and_assoc]

/-- The samples `l` make rail `r` fire: it is armed, and the last QUAL of them qualify (R296, R297). -/
abbrev FgFires (s : State) (r : Nat) (l : List Nat) : Prop := s.fgArmed r = true ∧ s.fgDetects r l = true

/-- The fires of a domain in the 100 us up to now, this one the last (R301). -/
def State.fgRecent (s : State) (d : Nat) : List Nat :=
  (s.dom d).fires.filter (fun t => decide (s.now < t + 100 * usec)) ++ [s.now]

/-- What a fire makes of the registers and of the domain, before any record of it: FIRES counts it, BACKOFF is in force, and the owner's
strobe is launched (R296, R297, R300, R301). -/
def State.fgFired (s : State) (r : Nat) (l : List Nat) : State :=
  (s.setDom r { s.dom r with
    fires := s.fgRecent r, backoff := s.rf (Reg.AD_FG_CFG2_BACKOFF r)
    storm := (s.dom r).storm || decide (s.rf (Reg.AD_FG_CFG2_STORM r) ≤ (s.fgRecent r).length)
    strobe := s.owner, fgAt := s.now, deepest := s.fgDeepest r l }).satAdd (Reg.AD_FG_STAT_FIRES r) 1

theorem satU_lt (w n : Nat) : satU w n < 2 ^ w := by
  have hpos : 0 < 2 ^ w := Nat.two_pow_pos w
  unfold satU
  split <;> omega

/-- A field that counts holds the sum, saturated at its width. -/
theorem rf_satAdd_self (s : State) (f : Fld) (n : Nat) : (s.satAdd f n).rf f = satU (f.hi + 1 - f.lo) (s.rf f + n) :=
  (State.rf_wr_self s f _).trans (Nat.mod_eq_of_lt (satU_lt _ _))

theorem fgFired_fires (s : State) (r : Nat) (l : List Nat) : (s.fgFired r l).rf (Reg.AD_FG_STAT_FIRES r) =
    satU (Fld.hi (Reg.AD_FG_STAT_FIRES r) + 1 - Fld.lo (Reg.AD_FG_STAT_FIRES r)) (s.rf (Reg.AD_FG_STAT_FIRES r) + 1) :=
  rf_satAdd_self _ _ _

theorem fgFired_dom (s : State) (r : Nat) (l : List Nat) :
    ((s.fgFired r l).dom r).backoff = s.rf (Reg.AD_FG_CFG2_BACKOFF r) ∧ ((s.fgFired r l).dom r).strobe = s.owner := by
  have hdom : (s.fgFired r l).dom r = _ := dom_setDom_self s r _
  rw [hdom]
  exact ⟨rfl, rfl⟩

theorem floodgateDetect_idle {s : State} {r : Fin 8} {l : List (BitVec 12)} (h : ¬ FgFires s r (l.map (·.toNat))) :
    exec (.floodgateDetect r l) s = .next s := by
  refine congrArg Host.Outcome.next (if_neg fun hc => h ?_)
  obtain ⟨hrest, hdet⟩ := Bool.and_eq_true_iff.mp hc
  exact ⟨(Bool.and_eq_true_iff.mp hrest).2, hdet⟩

/-- Beyond `fgFired` a fire only raises records and, on a die that does not own, notes the undershoot (R296, R297). -/
theorem floodgateDetect_fires {s : State} {r : Fin 8} {l : List (BitVec 12)} (hr : s.inReset 0 = false)
    (h : FgFires s r (l.map (·.toNat))) :
    ∃ t, exec (.floodgateDetect r l) s = .next t ∧ ∀ {β : Type} {g : State → β}, EventBlind g →
      (∀ (x : State) v, g (x.wr (Reg.AD_FG_STAT_LAST_UNDER r) v) = g x) → g t = g (s.fgFired r (l.map (·.toNat))) := by
  have hfires : (!s.inReset 0 && s.fgArmed r && s.fgDetects r (l.map (·.toNat))) = true := by simp [hr, h.1, h.2]
  refine ⟨_, congrArg Host.Outcome.next (if_pos hfires), fun {β g} hg hunder => ?_⟩
  have hstorm (b : Bool) (x : State) : g (if b then x.emitHw (some 2) 0 0x3011 r (s.fgRecent r).length 0 else x) = g x :=
    EventBlind.ite_keeps (hg.emitHw _ _ _ _ _ _ _ _) rfl
  exact EventBlind.ite_keeps (hstorm _ _)
    ((hg.count _ _ _).trans ((hg.emit _ _ _ _ _ _ _).trans ((hunder _ _).trans (hstorm _ _))))

/-! What the message engine does with the records leaves the block as it is. -/

theorem eventBlind_ad : EventBlind State.ad :=
  ⟨fun _ _ => rfl, fun _ _ => rfl, fun _ _ => rfl, fun _ _ => rfl, fun _ _ => rfl, fun _ _ _ => rfl, fun _ _ => rfl⟩

/-- Fields that begin at different bits of their registers are different. -/
theorem key_ne_of_lo_ne {f g : Fld} (hf : f.lo < 32) (hg : g.lo < 32) (h : f.lo ≠ g.lo) : f.key ≠ g.key := by
  unfold Fld.key
  omega

/-- The fields in which drops are noted begin at bit 0 or at bit 3. -/
theorem notesNoDrop_of_lo {f : Fld} (hf : f.lo < 32) (h0 : 0 ≠ f.lo) (h3 : 3 ≠ f.lo) : NotesNoDrop f :=
  ⟨key_ne_of_lo_ne (by decide : 0 < 32) hf h0, key_ne_of_lo_ne (by decide : 3 < 32) hf h3,
    fun _ => key_ne_of_lo_ne (by decide : 0 < 32) hf h0⟩

theorem fgFires_notesNoDrop (r : Nat) : NotesNoDrop (Reg.AD_FG_STAT_FIRES r) :=
  notesNoDrop_of_lo (by decide : 16 < 32) (by decide : 0 ≠ 16) (by decide : 3 ≠ 16)

theorem fgUnder_notesNoDrop (r : Nat) : NotesNoDrop (Reg.AD_FG_STAT_LAST_UNDER r) :=
  notesNoDrop_of_lo (by decide : 8 < 32) (by decide : 0 ≠ 8) (by decide : 3 ≠ 8)

theorem fgHold_ne_fgUnder (r : Nat) : (Reg.AD_FG_STAT_LAST_HOLD r).key ≠ (Reg.AD_FG_STAT_LAST_UNDER r).key :=
  key_ne_of_lo_ne (by decide : 0 < 32) (by decide : 8 < 32) (by decide : 0 ≠ 8)

theorem fgUnder_ne_fgFires (r : Nat) : (Reg.AD_FG_STAT_LAST_UNDER r).key ≠ (Reg.AD_FG_STAT_FIRES r).key :=
  key_ne_of_lo_ne (by decide : 8 < 32) (by decide : 16 < 32) (by decide : 8 ≠ 16)

theorem dom_congr {s t : State} (h : t.ad = s.ad) (d : Nat) : t.dom d = s.dom d := by
  unfold State.dom
  rw [h]

/-! The end of the strobe, and the return to detection (R298, R299, R181). -/

/-- A launched strobe ends with its undershoot noted in LAST_UNDER (R298, Table 6.8). -/
theorem strobeWithdraw_launched {s : State} {r : Fin 8} (l : List (BitVec 12)) (h : (s.dom r).strobe = true) :
    Yields (.strobeWithdraw r l) s (fun t => (t.dom r).strobe = false
      ∧ t.rf (Reg.AD_FG_STAT_LAST_UNDER r) = max (s.dom r).deepest (s.fgDeepest r (l.map (·.toNat)))
        % 2 ^ (Fld.hi (Reg.AD_FG_STAT_LAST_UNDER r) + 1 - Fld.lo (Reg.AD_FG_STAT_LAST_UNDER r))) := by
  refine ⟨_, congrArg Host.Outcome.next (if_pos h), ?_, ?_⟩
  · rw [dom_congr (eventBlind_ad.count _ _ _)]
    exact congrArg Dom.strobe (dom_setDom_self s r { s.dom r with strobe := false })
  · refine ((eventBlind_rf (fgUnder_notesNoDrop r)).count _ _ _).trans ?_
    rw [State.rf_emit, State.rf_wr_ne _ _ (fgHold_ne_fgUnder r), State.rf_wr_self]

/-- FLOODGATE_REARM outside a hold and without a strobe held that REG can begin ends the handback and drops the held strobe. -/
theorem floodgateRearm_ends {s : State} {r : Fin 8} (hh : (s.rail r).hold = false) (hw : ((s.rail r).strobeWaits && s.regOn) = false) :
    exec (.floodgateRearm r) s = .next (s.setRail r { s.rail r with handback := false, strobeWaits := false }) := by
  change execFloodgateRearm r s = _
  simp only [execFloodgateRearm, hh, hw, Bool.false_eq_true, if_false]

/-- Settles O20: detection completes exactly where it is armed and the samples qualify, and what it completes with is `fgFired` but for
records. -/
theorem floodgateFiresOnlyWhenArmed : Obligations.FloodgateFiresOnlyWhenArmed := by
  intro s r l hr
  refine ⟨fun h => ?unarmed, fun hmode hen hhold hback hstrobe hdet => ?fires, strobeWithdraw_launched l,
    fun hhold hwaits => ?rearm, fun hhold hwaits => ⟨fun hon => ?strobes, fun hoff => ?drops⟩⟩
  case unarmed =>
    refine floodgateDetect_idle fun ⟨harmed, hdet⟩ => ?_
    obtain ⟨hmode, hen, hhold, hback, hstrobe⟩ := (fgArmed_iff s r).mp harmed
    simp only [hen, hhold, hback, hstrobe, hdet, Bool.true_eq_false, Bool.false_eq_true, or_false] at h
    exact hmode.elim h.1 h.2
  case fires =>
    obtain ⟨t, ht, hview⟩ := floodgateDetect_fires hr ⟨(fgArmed_iff s r).mpr ⟨hmode, hen, hhold, hback, hstrobe⟩, hdet⟩
    have hdom := dom_congr (hview eventBlind_ad (fun _ _ => rfl)) r
    obtain ⟨hbackoff, hlaunch⟩ := fgFired_dom s r (l.map (·.toNat))
    have hfires := hview (eventBlind_rf (fgFires_notesNoDrop r)) (fun _ _ => State.rf_wr_ne _ _ (fgUnder_ne_fgFires r))
    exact ⟨t, ht, hfires.trans (fgFired_fires s r _), by rw [hdom, hbackoff], by rw [hdom, hlaunch],
      hview eventBlind_ph (fun _ _ => rfl)⟩
  case rearm =>
    refine ⟨_, floodgateRearm_ends hhold (by simp [hwaits]), ?_, rfl⟩
    rw [rail_setRail_self]
    exact congrArg (fun b => { s.rail r with handback := false, strobeWaits := b }) hwaits.symm
  case strobes =>
    change execFloodgateRearm r s = _
    simp [execFloodgateRearm, hhold, hwaits, hon]
  case drops => exact ⟨_, floodgateRearm_ends hhold (by simp [hoff]), rail_setRail_self s r _, rfl⟩

end Sys2Proof.Machine
end

section
/-! Admission's commands: waves, rounds, pre-boost, grades and pause duties (R258 to R295, R301, R306). -/

namespace Sys2Proof.Machine
open Sys2Proof

/-! The predictions of a round (R278). -/

@[simp] theorem round_setRound_self (s : State) (g : Nat) (r : BarRound) : (s.setRound g r).round g = r := mget_mput_self _ _ _ _

/-- PREDICT_TICK computes each prediction again where there is one to compute, and changes nothing else of the round. -/
theorem execPredictTick_runs {s : State} (h : s.friRuns = true) (g : Fin 4095) :
    execPredictTick g s = .next (s.setRound g { s.round g with
      preds := (s.round g).preds.map (fun e => (e.1, (s.predict g e.1).getD e.2)) }) := by
  refine congrArg Host.Outcome.next ((if_pos h).trans ?_)
  refine congrArg (fun l => s.setRound g { s.round g with preds := l }) (List.map_congr_left fun e _ => ?_)
  cases s.predict g e.1 <;> rfl

/-! The pre-boost (R279 to R281). -/

/-- PREBOOST_START finds what it needs: FRI runs, the round is predicted for the domain, the parked current reaches PB_MIN_A, and no boost
of the round stands (R279, R280). -/
theorem preboost_due {s : State} {g d : Nat} (hf : s.friRuns = true) (hp : ∃ e ∈ (s.round g).preds, e.1 = d)
    (hmin : s.rf (Reg.AD_PB_CFG2_PB_MIN_A d) * 1000 ≤ s.parked g d * 4)
    (hb : ∀ b ∈ (s.dom d).boosts, b.grp = g → b.withdrawing = true) :
    (s.friRuns && (s.round g).preds.any (fun e => e.1 == d) && decide (s.rf (Reg.AD_PB_CFG2_PB_MIN_A d) * 1000 ≤ s.parked g d * 4)
      && !(s.dom d).boosts.any (fun b => b.grp == g && !b.withdrawing)) = true := by
  have hpred : (s.round g).preds.any (fun e => e.1 == d) = true := by simpa using hp
  have hnone : (s.dom d).boosts.any (fun b => b.grp == g && !b.withdrawing) = false := by simpa using hb
  rw [hf, hpred, decide_eq_true hmin, hnone]
  rfl

/-- A boost of the round stands unreleased (R281). -/
theorem boost_stands {s : State} {g d : Nat}
    (h : ∃ b ∈ (s.dom d).boosts, b.grp = g ∧ b.withdrawing = false ∧ b.released = false) :
    (s.dom d).boosts.any (fun b => b.grp == g && !b.withdrawing && !b.released) = true := by
  simpa [and_assoc] using h

/-! The registers of Admission, which FRI holds (Tables 6.6, 6.7 and 6.11). -/

theorem gradeReq_holder (d : Fin 8) : holderOf (Reg.AD_GRADE_REQ d) = some 0 := by
  revert d
  decide +kernel

theorem pausePart_holder (n : Fin 8) : holderOf (Reg.AD_PAUSE_PART n) = some 0 := by
  revert n
  decide +kernel

theorem adCtl_holder : holderOf Reg.AD_CTL = some 0 := by decide +kernel

/-- Settles O19: each command by the branch that its conditions choose, and the three writes by the register that takes them. -/
theorem admissionCommandsComplete : Obligations.AdmissionCommandsComplete := by
  intro s
  refine ⟨fun d hf => ?wave, fun g hf ha => ?barrier, fun g hf => ?predict,
    fun g d => ⟨fun hf hp hmin hb => ?boost, fun hb => ?maxhold⟩,
    fun d => ⟨fun hst => ?settled, fun hst => ?fall, fun hst => ?timeout, fun hen hlim ht => ?limit, ?freeze⟩,
    fun v hs => ⟨fun d => ?grade, fun n => ?pause, fun hsave => ?save⟩⟩
  case wave => exact congrArg Host.Outcome.next (if_pos hf)
  case barrier =>
    have hrun : ¬ ((s.round g).arrived.length = 0 ∨ s.friRuns = false) := by simp [hf, ha]
    exact congrArg Host.Outcome.next (if_neg hrun)
  case predict => exact ⟨_, execPredictTick_runs hf g, by rw [round_setRound_self], by rw [round_setRound_self], rfl, rfl⟩
  case boost => exact congrArg Host.Outcome.next (if_pos (preboost_due hf hp hmin hb))
  case maxhold => exact congrArg Host.Outcome.next (if_pos (boost_stands hb))
  case settled => exact congrArg Host.Outcome.next (if_pos hst)
  case fall => exact congrArg Host.Outcome.next (if_pos hst)
  case timeout => exact congrArg Host.Outcome.next (if_pos hst)
  case limit =>
    have hstep : (s.rb (Reg.AD_GR_CFG_LIMSTEP_EN d) && (s.rail d).limiting && decide (0 < (s.dom d).target)) = true := by
      simp [hen, hlim, ht]
    exact congrArg Host.Outcome.next (if_pos hstep)
  case freeze => exact ⟨_, rfl, dom_setDom_self s d _, fun k hk => dom_setDom_ne s _ hk, rfl, rfl, rfl⟩
  case grade => exact congrArg Host.Outcome.next (hostWrite_served (gradeReq_holder d) hs _ _)
  case pause => exact congrArg Host.Outcome.next (hostWrite_served (pausePart_holder n) hs _ _)
  case save => exact congrArg Host.Outcome.next ((hostWrite_served adCtl_holder hs _ _).trans (if_pos hsave))

end Sys2Proof.Machine
end

section
/-! The auxiliary rails: the write of AX_CTL, the commands of the sequence and of the sags, and the faults of the channels (R312 to R336). -/

namespace Sys2Proof.Machine
open Sys2Proof

/-! Channels, and REG out of reset. -/

@[simp] theorem aux_setAux_self (s : State) (n : Nat) (x : AuxCh) : (s.setAux n x).aux n = x := mget_mput_self _ _ _ _

theorem aux_setAux_ne (s : State) {n m : Nat} (x : AuxCh) (h : m ≠ n) : (s.setAux n x).aux m = s.aux m := mget_mput_ne _ _ _ h.symm

theorem axOn_iff (s : State) : s.axOn = true ↔ s.inReset 1 = false := by simp [State.axOn]

/-! A write of AX_CTL with one request bit (Table 7.4). -/

theorem axCtl_holder : holderOf Reg.AX_CTL = some 1 := by decide +kernel

theorem bitOf_bitsOf (v : Nat) {hi lo i : Nat} (h : i < hi + 1 - lo) : bitOf (bitsOf v hi lo) i = bitOf v (lo + i) := by
  rw [bitOf_eq_testBit, bitOf_eq_testBit, bitsOf, Nat.testBit_mod_two_pow, Nat.testBit_div_two_pow, decide_eq_true h, Bool.true_and,
    Nat.add_comm]

/-- Of a field that holds the power of two `k`, the bit `k` alone is set. -/
theorem bitOf_of_field_eq_two_pow {v hi lo k i : Nat} (h : bitsOf v hi lo = 2 ^ k) (hlt : i < hi + 1 - lo) :
    bitOf v (lo + i) = decide (k = i) := by
  rw [← bitOf_bitsOf v hlt, h, bitOf_eq_testBit, Nat.testBit_two_pow]

/-- What the request bit `16 + k` of a write of AX_CTL asks for: bit 16 is no request, and the bits from 20 on are RESTART of a group
(R312, R323, R329, R334). -/
def State.axRequest (s : State) (v k : Nat) : State :=
  match k with
  | 0 => s
  | 1 =>
    let n := bitsOf v 4 0
    if (s.aux n).st == 5 then s.setAux n { s.aux n with st := 1, ready := false } else s
  | 2 => if s.anyRailOn then s.refuse else ({ s with ax.seqDone := false, ax.running := false } : State).auxAllOff
  | 3 => s.auxStart
  | g + 4 => s.auxRestart g

/-- With REG reached, a keyed write of AX_CTL with one request bit takes the write and runs that request. -/
theorem axCtl_single {s : State} {v k : Nat} (hk : k < 8) (hs : Reaches s 1) (hkey : bitsOf v 31 24 = 0x5C)
    (h : bitsOf v 23 16 = 2 ^ k) : s.axCtl v = (s.writeFields Reg.AX_CTL v).axRequest v k := by
  have hbit (i : Nat) (hi : i < 8) : bitOf v (16 + i) = decide (k = i) := bitOf_of_field_eq_two_pow h hi
  rw [State.axCtl, keyedWrite_served axCtl_holder hs hkey]
  simp only [State.upto, List.range_succ, List.range_zero, List.nil_append, List.cons_append, List.foldl_cons, List.foldl_nil,
    hbit 1 (by decide), hbit 2 (by decide), hbit 3 (by decide), hbit 4 (by decide), hbit 5 (by decide), hbit 6 (by decide),
    hbit 7 (by decide)]
  match k with
  | 0 | 1 | 2 | 3 | 4 | 5 | 6 | 7 => simp [State.axRequest]

/-- Settles O21: each request of AX_CTL by the bit that asks for it, and each command by the branch that its conditions choose. -/
theorem auxiliaryCommandsComplete : Obligations.AuxiliaryCommandsComplete := by
  intro s
  refine ⟨fun v hs hkey => ⟨fun h => ?run, fun h hoff => ?stop, fun h hst => ?clear, fun g h => ?restart⟩,
    fun hr => ?commands⟩
  case run => exact congrArg Host.Outcome.next (axCtl_single (k := 3) (by decide) hs hkey h)
  case stop =>
    exact congrArg Host.Outcome.next ((axCtl_single (k := 2) (by decide) hs hkey h).trans (if_neg (by simp [hoff])))
  case clear =>
    exact congrArg Host.Outcome.next ((axCtl_single (k := 1) (by decide) hs hkey h).trans (if_pos (by simp [hst])))
  case restart =>
    have hbits : bitsOf v.toNat 23 16 = 2 ^ (g.val + 4) := by rw [h, Nat.pow_add, Nat.mul_comm]
    exact congrArg Host.Outcome.next (axCtl_single (k := g + 4) (by omega) hs hkey hbits)
  case commands =>
    have hon : s.axOn = true := (axOn_iff s).mpr hr
    refine ⟨fun n hst hstop hpred => ?ready, congrArg Host.Outcome.next (if_pos hon), fun n agv mv hst hpg => ?good,
      fun g a b hstop hlow hspent => ?spent, fun g a b hsag hstop hspent ha hb => ?sagBegin, fun g agv hsag hagv => ?sagEnd,
      fun g hsag => ?sagMax, fun g cs hstop hwarn => ?warn, fun n mv a hoff hst hlow => ?reverse⟩
    case ready =>
      have hwaits : (s.axOn && (s.aux n).st == 1 && !(s.auxGrp (n.val / 6)).stopped
          && (s.auxPreds n).all (fun d => (s.aux d).st == 4)) = true := by simpa [hon, hst, hstop] using hpred
      exact ⟨_, congrArg Host.Outcome.next (if_pos hwaits), aux_setAux_self s n _, fun k hk => aux_setAux_ne s _ hk⟩
    case good => exact congrArg Host.Outcome.next ((if_pos hon).trans (if_pos ⟨hst, hpg⟩))
    case spent =>
      exact congrArg Host.Outcome.next ((if_pos hon).trans ((if_neg (ne_true_of_eq_false hstop)).trans (if_pos ⟨hspent, hlow⟩)))
    case sagBegin =>
      exact congrArg Host.Outcome.next ((if_pos hon).trans ((if_neg (ne_true_of_eq_false hstop)).trans
        ((if_neg fun ⟨h, _⟩ => ne_true_of_eq_false hspent h).trans (if_pos ⟨hsag, ha, hb⟩))))
    case sagEnd => exact congrArg Host.Outcome.next ((if_pos hon).trans (if_pos ⟨hsag, hagv⟩))
    case sagMax => exact congrArg Host.Outcome.next (if_pos (Bool.and_eq_true_iff.mpr ⟨hon, hsag⟩))
    case warn => exact congrArg Host.Outcome.next ((if_pos hon).trans (if_pos ⟨hstop, hwarn⟩))
    case reverse =>
      change execReverseOffStep n mv s = _
      simp only [execReverseOffStep, hon, hoff, if_true]
      exact congrArg Host.Outcome.next (if_pos ⟨hst, .inl hlow⟩)

/-! The faults of a channel (R319 to R323, R336). -/

/-- Settles O22: each fault command faults the channel in the branch that its condition chooses. -/
theorem auxiliaryFaultsComplete : Obligations.AuxiliaryFaultsComplete := by
  intro s n hr
  have hon : s.axOn = true := (axOn_iff s).mpr hr
  refine ⟨fun c => ⟨fun hst => ?timeout, fun hst => ?fast, fun hst hsag hlim => ?overload, fun v h0 h5 hstop hend => ?sense⟩,
    fun agv mv hst hsag hlow => ?undervoltage⟩
  case timeout => exact congrArg Host.Outcome.next (if_pos (by simp [hon, hst]))
  case fast => exact congrArg Host.Outcome.next (if_pos (by simp [hon, hst]))
  case overload => exact congrArg Host.Outcome.next ((if_pos hon).trans (if_pos ⟨hst, hsag, hlim⟩))
  case sense =>
    have hfails : (s.axOn && (s.aux n).st != 0 && (s.aux n).st != 5 && !(s.auxGrp (n.val / 6)).stopped
        && (v == 4095 || c == 4095)) = true := by simpa [hon, h0, h5, hstop] using hend
    exact congrArg Host.Outcome.next (if_pos hfails)
  case undervoltage => exact congrArg Host.Outcome.next ((if_pos hon).trans (if_pos ⟨hst, hsag, hlow⟩))

end Sys2Proof.Machine
end

section
/-! The reservoir: the tick, the readings, the probes and the bleeding (R348 to R376), and the checks, the causes, the endurance events and
the write of RV_CTL (R346 to R383). -/

namespace Sys2Proof.Machine
open Sys2Proof

/-! The bleeding. -/

@[simp] theorem rvBleed_bleeding (s : State) (m : Nat) : (s.rvBleed m).rv.bleeding = m := by
  unfold State.rvBleed
  split
  · assumption
  · rfl

/-- A change of the bleed is seen only by a view that sees the mask or the interface. -/
theorem rvBleed_keeps {β : Type} {g : State → β} (hg : ∀ s m, g (State.out { s with rv.bleeding := m } (.tapBleed m)) = g s)
    (s : State) (m : Nat) : g (s.rvBleed m) = g s := by
  unfold State.rvBleed
  split
  · rfl
  · exact hg s m

/-- BLEED_OFF counts the charge that was bled, and then ends the bleeding (R355, R371). -/
theorem execBleedOff_keeps {β : Type} {g : State → β} (hg : ∀ s m, g (State.out { s with rv.bleeding := m } (.tapBleed m)) = g s)
    (hwear : ∀ s l, g { s with rv.wear := l } = g s) (s : State) :
    ∃ t, exec .bleedOff s = .next t ∧ t.rv.bleeding = 0 ∧ g t = g s := by
  refine ⟨_, rfl, rvBleed_bleeding _ 0, (rvBleed_keeps hg _ 0).trans (foldl_keeps g _ _ (fun x n => ?_) s)⟩
  dsimp only
  split
  · exact hwear x _
  · rfl

/-! The thermistors' store: of CTH_SAMPLE, only the readings themselves reach it. -/

@[simp] theorem rvPin_therms (s : State) (n : Nat) (v : Pin) : (s.rvPin n v).rv.therms = s.rv.therms := by
  unfold State.rvPin
  split <;> rfl

@[simp] theorem rvBleed_therms (s : State) (m : Nat) : (s.rvBleed m).rv.therms = s.rv.therms :=
  rvBleed_keeps (g := fun x => x.rv.therms) (fun _ _ => rfl) s m

theorem upto_therms {f : Nat → State → State} (h : ∀ k x, (f k x).rv.therms = x.rv.therms) (s : State) (n : Nat) :
    (s.upto n f).rv.therms = s.rv.therms :=
  foldl_keeps (fun x => x.rv.therms) _ _ (fun x k => h k x) s

@[simp] theorem foldl_legOut_therms (l : List Nat) (s : State) :
    (l.foldl (fun (x : State) k => x.legOut k) s).rv.therms = s.rv.therms :=
  foldl_keeps (fun x => x.rv.therms) l State.legOut (fun _ _ => rfl) s

@[simp] theorem legsDrive_therms (s : State) : s.legsDrive.rv.therms = s.rv.therms := by
  unfold State.legsDrive
  dsimp only
  split <;> simp [upto_therms]

@[simp] theorem rvMode_therms (s : State) (m : Nat) : (s.rvMode m).rv.therms = s.rv.therms := by
  unfold State.rvMode
  split
  · rfl
  · dsimp only
    split <;> simp

@[simp] theorem rvRun_therms (s : State) : s.rvRun.rv.therms = s.rv.therms := by
  unfold State.rvRun
  split <;> split <;> simp

@[simp] theorem rvSettle_therms (s : State) : s.rvSettle.rv.therms = s.rv.therms := by
  unfold State.rvSettle
  split
  case h_1 => rfl
  case h_4 =>
    split
    · simp
    · split <;> simp
  all_goals split <;> simp

@[simp] theorem rvCause_therms (s : State) (c : Nat) : (s.rvCause c).rv.therms = s.rv.therms := rvSettle_therms _

@[simp] theorem rvClear_therms (s : State) (c : Nat) : (s.rvClear c).rv.therms = s.rv.therms := rvSettle_therms _

@[simp] theorem windowTold_therms (s : State) (which : Nat) (on : Bool) (lo hi : Int) (ch : Option (Int × Int)) :
    (s.windowTold which on lo hi ch).rv.therms = s.rv.therms := by
  have hfell : (if on then s else s.wr Reg.RV_FELL_TEMP 1).rv.therms = s.rv.therms := by split <;> rfl
  unfold State.windowTold
  dsimp only
  split
  · split
    · exact hfell
    · split <;> exact hfell
  · exact hfell

/-! A thermistor takes its reading (R352). -/

theorem thermTake_temp_self (s was : State) (rs : List (Fin 3 × Int)) (j : Nat) :
    (mget ({} : Therm) (s.thermTake was rs j).rv.therms j).temp = (rs.getD j (1, 0)).2 := by
  unfold State.thermTake
  dsimp only
  split
  · split <;> simp
  · simp

theorem thermTake_ne (s was : State) (rs : List (Fin 3 × Int)) {j k : Nat} (h : k ≠ j) :
    mget ({} : Therm) (s.thermTake was rs j).rv.therms k = mget ({} : Therm) s.rv.therms k := by
  unfold State.thermTake
  dsimp only
  split
  · split <;> simp [mget_mput_ne _ _ _ h.symm]
  · simp [mget_mput_ne _ _ _ h.symm]

/-- After each of the thermistors has taken its reading, it holds that reading. -/
theorem upto_thermTake_temp (s was : State) (rs : List (Fin 3 × Int)) {n j : Nat} (h : j < n) :
    (mget ({} : Therm) (s.upto n (fun j x => x.thermTake was rs j)).rv.therms j).temp = (rs.getD j (1, 0)).2 := by
  obtain ⟨-, htaken, -⟩ := upto_parts (part := fun x p => (mget ({} : Therm) x.rv.therms p).temp) (R := fun _ => True)
    (f := fun j x => x.thermTake was rs j) (upd := fun p _ => (rs.getD p (1, 0)).2) (fun _ _ _ => trivial)
    (fun p x _ => thermTake_temp_self x was rs p) (fun p q x hq => congrArg Therm.temp (thermTake_ne x was rs hq)) (s := s) trivial n
  exact htaken j h

/-- CTH_SAMPLE leaves the thermistors as their readings did: the windows and the causes that follow do not touch them. -/
theorem execCthSample_therms {s : State} (hr : s.inReset 1 = false) (vs : List (BitVec 16)) :
    ∃ t, exec (.cthSample vs) s = .next t
      ∧ t.rv.therms = (s.upto 4 (fun j x => x.thermTake s (vs.map cthRead) j)).rv.therms := by
  refine ⟨_, congrArg Host.Outcome.next (if_neg (ne_true_of_eq_false hr)), ?_⟩
  simp only [apply_ite (fun x : State => x.rv.therms), rvCause_therms, rvClear_therms, windowTold_therms, ite_self]

/-! The probe (R357 to R362). -/

/-- A probe that moves no cell finds no open tap. -/
theorem probeTaps_still (s : State) (n : Nat) (ds dst : Int) : s.probeTaps n (fun _ => 0) ds dst = [] := by
  simp [State.probeTaps]

/-- The currents of a probe in progress end (R357). -/
def State.probeEnd (s : State) : State := if s.rv.probing = 0 then s else ({ s with rv.probing := 0 } : State).out (.tapProbe 0)

theorem probeEnd_rv (s : State) : s.probeEnd.rv = { s.rv with probing := 0 } := by
  unfold State.probeEnd
  split
  · next h => rw [← h]
  · rfl

/-- The end of a probe is seen only by a view that sees the probe or the interface. -/
theorem probeEnd_keeps {β : Type} {g : State → β} (hg : ∀ s, g (State.out { s with rv.probing := 0 } (.tapProbe 0)) = g s)
    (s : State) : g s.probeEnd = g s := by
  unfold State.probeEnd
  split
  · rfl
  · exact hg s

/-- READING_B ends a probe in progress, and judges from there. -/
theorem execReadingB_probeEnd (s : State) (cells : List (BitVec 16)) (stk : Nat) :
    exec (.readingB cells stk) s.probeEnd = exec (.readingB cells stk) s := by
  change execReadingB cells stk s.probeEnd = execReadingB cells stk s
  unfold State.probeEnd
  split
  · rfl
  · next h =>
    have hend : (({ s with rv.probing := 0 } : State).out (.tapProbe 0)).rv.probing = 0 := rfl
    unfold execReadingB
    rw [if_neg h, if_pos hend]

/-- A clean probe is noted: nothing moved, and the runs of clean probes are one longer (R361, R362, R378). -/
def State.probeClean (s : State) : State :=
  { s with
    rv.delta := List.replicate s.rvCells 0
    rv.deltaS := 0
    rv.deltaST := 0
    rv.pendTaps := 0
    rv.cleanRun := satU 7 (s.rv.cleanRun + 1)
    rv.senseRun := 0
    rv.checkClean := s.rv.checkClean + 1 }

/-- READING_B, no probe in progress, that reads every cell and the stack as READING_A did, with no tap open, is a clean probe. -/
theorem execReadingB_clean {s : State} (hr : s.inReset 1 = false) (hn : s.rvCells ≠ 0) {cells : List (BitVec 16)} {stk : Nat}
    (hoff : s.rv.probing = 0) (hsame : ∀ k, ((cellMv (cells.getD k 0) : Nat) : Int) = s.rv.a.cell (k + 1))
    (hstk : s.rv.a.stack = stackOf stk) (hopen : s.rv.openTaps = 0) (hprobe : s.owner = true ∨ s.tw.stimAt.isSome = true) :
    exec (.readingB cells stk) s = .next s.probeClean := by
  have hstill : (fun i => ((cellMv (cells.getD (i - 1) 0) : Nat) : Int) - s.rv.a.cell i) = fun _ => 0 :=
    funext fun i => (congrArg (· - s.rv.a.cell i) (hsame (i - 1))).trans (Int.sub_self (s.rv.a.cell i))
  have hsum : (List.replicate s.rvCells (0 : Int)).sum = 0 := List.sum_replicate_int.trans (Int.mul_zero _)
  have hacts : ¬ (s.inReset 1 || s.rvCells == 0 || !(s.owner || s.tw.stimAt.isSome)) = true := by
    rcases hprobe with h | h <;> simp [hr, hn, h]
  change execReadingB cells stk s = _
  unfold execReadingB
  rw [if_pos hoff]
  refine congrArg Host.Outcome.next ((if_neg hacts).trans ?_)
  rw [hstill]
  simp [probeTaps_still, List.map_const', hsum, hstk, hopen, State.probeClean]

/-! The tick. -/

/-- What a tick measures: the bus, and in REG the powers, the stack and the charge (R446, R348). -/
def State.tickMeasured (s : State) (bv : Option (BitVec 16)) (bi conv : Int) (stk : Nat) (ris : Int) : State :=
  let b := s.busReading (bv.map busvOf) (s.busiMa bi)
  b.rvMeasure (s.busiMa bi) conv (stackOf stk) (b.rvisDa ris)

/-- What a tick does with its measurements: REG computes and drives the legs, and FRI, where it is out of reset, takes the allowance
(R342, R348, R421). -/
def State.tickComputed (m : State) : State :=
  let c := m.rvCompute.legsDrive
  if c.inReset 0 then c else c.rgaReturn

/-- With REG out of reset and no cell estimate that stops the converter (R365), RES_TICK measures and computes. -/
theorem execResTick_runs {s : State} (hr : s.inReset 1 = false) {bv : Option (BitVec 16)} {bi conv : Int} {stk : Nat} {ris : Int}
    (hv : convOff (s.tickMeasured bv bi conv stk ris).rv.mode = true ∨ (s.tickMeasured bv bi conv stk ris).rvHigh ≤ 2880) :
    exec (.resTick bv bi conv stk ris) s = .next (s.tickMeasured bv bi conv stk ris).tickComputed := by
  have hstay : ¬ (!convOff (s.tickMeasured bv bi conv stk ris).rv.mode
      && decide (2880 < (s.tickMeasured bv bi conv stk ris).rvHigh)) = true := by
    rcases hv with hv | hv <;> simp [hv]
  exact congrArg Host.Outcome.next ((if_neg (ne_true_of_eq_false hr)).trans (congrArg State.tickComputed (if_neg hstay)))

/-- Settles O23: each command by the branch that its conditions choose; READING_B through the clean probe, and CTH_SAMPLE through the
readings that each thermistor takes. -/
theorem reservoirCommandsComplete : Obligations.ReservoirCommandsComplete := by
  intro s
  refine ⟨fun bv bi conv stk ris => ⟨rfl, fun hr => ?held, fun hr hv => ⟨fun hf => ?tick, fun hf => ?tickFri⟩⟩,
    fun hr hn => ⟨fun cells stk ris => ?readingA, fun cells stk hsame hstk hopen hprobe => ?readingB, fun ho => ?probeOn⟩,
    fun hr vs => ?thermistors, fun hr => ?bleedStart, ?bleedOff, fun hr hon hshed => ?shedBegins, fun hr hon hshed => ?shedEnds⟩
  case held => exact congrArg Host.Outcome.next (if_pos hr)
  case tick => exact (execResTick_runs hr hv).trans (congrArg Host.Outcome.next (if_pos hf))
  case tickFri =>
    exact (execResTick_runs hr hv).trans (congrArg Host.Outcome.next (if_neg (ne_true_of_eq_false hf)))
  case readingA => exact congrArg Host.Outcome.next (if_neg (by simp [hr, hn]))
  case readingB =>
    have hrv := probeEnd_rv s
    have hclean := execReadingB_clean ((probeEnd_keeps (g := fun x => x.inReset 1) (fun _ => rfl) s).trans hr)
      ((probeEnd_keeps (g := fun x => x.rvCells ≠ 0) (fun _ => rfl) s).mpr hn) (congrArg Reservoir.probing hrv) (cells := cells) (stk := stk)
      (by rwa [hrv]) (by rwa [hrv]) (by rwa [hrv])
      ((probeEnd_keeps (g := fun x => x.owner = true ∨ x.tw.stimAt.isSome = true) (fun _ => rfl) s).mpr hprobe)
    have hraised : s.probeEnd.raised = s.raised := probeEnd_keeps (g := State.raised) (fun _ => rfl) s
    refine ⟨_, (execReadingB_probeEnd s cells stk).symm.trans hclean, ?_⟩
    simp [State.probeClean, hrv, hopen, hraised]
  case probeOn => exact congrArg Host.Outcome.next (if_pos (by simp [hr, hn, ho]))
  case thermistors =>
    obtain ⟨t, ht, htherms⟩ := execCthSample_therms hr vs
    exact ⟨t, ht, fun j hj => by rw [htherms, upto_thermTake_temp s s _ hj]⟩
  case bleedStart =>
    exact ⟨_, congrArg Host.Outcome.next (if_neg (ne_true_of_eq_false hr)),
      rvBleed_keeps (g := fun x => x.rv.parity) (fun _ _ => rfl) _ _, rvBleed_keeps (g := fun x => x.rv.periodAt) (fun _ _ => rfl) _ _,
      fun h => (rvBleed_bleeding _ _).trans (if_pos (by simpa using h)), rvBleed_keeps (g := State.regs) (fun _ _ => rfl) _ _⟩
  case bleedOff =>
    obtain ⟨t, ht, hoff, hkept⟩ := execBleedOff_keeps (g := fun x => (x.rv.causes, x.regs)) (fun _ _ => rfl) (fun _ _ => rfl) s
    exact ⟨t, ht, hoff, congrArg Prod.fst hkept, congrArg Prod.snd hkept⟩
  case shedBegins =>
    exact ⟨_, congrArg Host.Outcome.next ((if_neg (ne_true_of_eq_false hr)).trans (if_pos (by simp [hon, hshed]))),
      rfl, rfl, rfl, _, _, rfl⟩
  case shedEnds =>
    exact ⟨_, congrArg Host.Outcome.next ((if_neg (ne_true_of_eq_false hr)).trans
      ((if_neg (by simp [hon])).trans (if_pos (by simp [hon, hshed])))), rfl, rfl⟩

/-! A write of RV_CTL with one request bit (Table 8.11). -/

theorem rvCtl_holder : holderOf Reg.RV_CTL = some 1 := by decide +kernel

/-- What the request bit `k` of a write of RV_CTL asks for (R346, R374, R383). -/
def State.rvRequest (s : State) (k : Nat) : State :=
  match k with
  | 1 => s.recheck
  | 2 => s.newModule
  | 3 => s.saveBlock 3
  | _ => s

/-- With REG reached, a keyed write of RV_CTL with one request bit takes the write and runs that request. -/
theorem rvCtl_single {s : State} {v k : Nat} (hs : Reaches s 1) (hkey : bitsOf v 31 24 = 0x5C) (h : bitsOf v 3 0 = 2 ^ k) :
    s.rvCtl v = (s.writeFields Reg.RV_CTL v).rvRequest k := by
  have hbit (i : Nat) (hi : i < 4) : bitOf v i = decide (k = i) := by
    simpa using bitOf_of_field_eq_two_pow h hi
  rw [State.rvCtl, keyedWrite_served rvCtl_holder hs hkey]
  simp only [hbit 1 (by decide), hbit 2 (by decide), hbit 3 (by decide)]
  match k with
  | 0 | 1 | 2 | 3 | _ + 4 => simp [State.rvRequest]

/-! The checks, the causes and the endurance events (Table 8.2, R369 to R379). -/

/-- A cause that is set passes the first test of its timer. -/
theorem not_bnot_eq_true {b : Bool} (h : b = true) : ¬ (!b) = true := by simp [h]

/-- Settles O24: each command by the branch that its conditions choose, and the requests of RV_CTL by the bit that asks. -/
theorem reservoirModesAndCausesComplete : Obligations.ReservoirModesAndCausesComplete := by
  intro s
  refine ⟨fun ris hon hover => ?overcurrent, fun hc => ?check, fun hc hopen => ?temp, fun hc hfree => ?fault, fun hc => ?taps,
    fun hc htimeout => ?precharge, fun hm => ⟨fun p hp => ?checkFails, fun hp => ?checkPasses⟩, fun hm hlow => ?prechargeDone,
    fun hm => ?prechargeTimeout, fun step dv hwear himax hda => ?esrSample, fun hn hr => ?esrUnmeasured, fun hr => ?checkpoint,
    fun v hs hkey => ⟨fun h => ?newModule, fun h => ?recheck, fun h => ?save⟩⟩
  case overcurrent => exact congrArg Host.Outcome.next (if_neg (by simpa [hon] using hover))
  case check => exact congrArg Host.Outcome.next (if_neg (not_bnot_eq_true hc))
  case temp => exact congrArg Host.Outcome.next ((if_neg (not_bnot_eq_true hc)).trans (if_pos hopen))
  case fault => exact congrArg Host.Outcome.next ((if_neg (not_bnot_eq_true hc)).trans (if_neg (ne_true_of_eq_false hfree)))
  case taps => exact congrArg Host.Outcome.next (if_neg (not_bnot_eq_true hc))
  case precharge => exact congrArg Host.Outcome.next ((if_neg (not_bnot_eq_true hc)).trans (if_pos htimeout))
  case checkFails => exact congrArg Host.Outcome.next ((if_neg (not_not_intro hm)).trans (by rw [hp]))
  case checkPasses => exact congrArg Host.Outcome.next ((if_neg (not_not_intro hm)).trans (by rw [hp]))
  case prechargeDone => exact congrArg Host.Outcome.next (if_pos ⟨hm, hlow⟩)
  case prechargeTimeout => exact congrArg Host.Outcome.next (if_pos hm)
  case esrSample => exact congrArg Host.Outcome.next (if_pos (by simp [hwear, himax, hda]))
  case esrUnmeasured => exact congrArg Host.Outcome.next (if_neg (by simp [hn, hr]))
  case checkpoint => exact congrArg Host.Outcome.next (if_neg (ne_true_of_eq_false hr))
  case newModule => exact congrArg Host.Outcome.next (rvCtl_single (k := 2) hs hkey h)
  case recheck => exact congrArg Host.Outcome.next (rvCtl_single (k := 1) hs hkey h)
  case save => exact congrArg Host.Outcome.next (rvCtl_single (k := 3) hs hkey h)

end Sys2Proof.Machine
end

section
/-! The trip latch and AO's comparison with THRESH (R405, R410, R411, R413). -/

namespace Sys2Proof.Machine
open Sys2Proof

/-! What settling the role can change. -/

/-- Taking a role changes the role and adds records, and nothing else. -/
theorem setRole_eq (s : State) (into : Nat) :
    ∃ role l, s.setRole into = { s with tw.role := role, raised := s.raised ++ l } := by
  unfold State.setRole
  split
  · exact ⟨s.tw.role, [], by rw [List.append_nil]⟩
  · exact ⟨into, _, rfl⟩

/-- Settling the role changes the role and adds records, and nothing else. -/
theorem roleSettle_eq (s : State) : ∃ role l, s.roleSettle = { s with tw.role := role, raised := s.raised ++ l } := by
  have hkept : ∃ role l, s = { s with tw.role := role, raised := s.raised ++ l } :=
    ⟨s.tw.role, [], by rw [List.append_nil]⟩
  unfold State.roleSettle
  split
  · split
    · exact setRole_eq s 2
    · exact hkept
  · split
    · exact setRole_eq s 2
    · exact hkept
  · split
    · exact hkept
    · exact setRole_eq s 1
  · exact hkept

/-! The trip latch. -/

@[simp] theorem p32_zero : p32 0 = 0 := rfl

/-- The state with the latch set and TH_TRIP_STAT written: any stop and any transition has ended, and the package is in Keep (tripped)
(R405, R410, Table 3.6). -/
def State.latched (s : State) (cause zone temp : Nat) : State :=
  ((({ s with
    th.trip := true, th.stop := if cause = 2 then 5 else 0, isl.tripped := true, isl.inTrans := false, isl.frozen := true
    isl.pkg := 3, isl.target := 3, isl.goal := 3 } : State).wr Reg.TH_TRIP_STAT_ZONE zone).wr Reg.TH_TRIP_STAT_TEMP temp).wr
      Reg.TH_TRIP_STAT_CAUSE cause

/-- A latch that is set stays as it is, with its cause (R413). -/
theorem tripLatch_of_trip {s : State} (h : s.th.trip = true) (cause zone temp : Nat) : s.tripLatch cause zone temp = s :=
  if_pos h

/-- A latch that is not set is set, and recorded with 0x6002; then a change of the package is recorded and the role settles. -/
theorem tripLatch_eq {s : State} (h : s.th.trip = false) (cause zone temp : Nat) :
    ∃ role l, s.tripLatch cause zone temp =
      { s.latched cause zone temp with
        tw.role := role
        raised := s.raised ++ ⟨7, 0x6002, none, p32 cause, p32 zone, p32 temp, 0, 8⟩ :: l } := by
  unfold State.tripLatch
  rw [if_neg (ne_true_of_eq_false h)]
  dsimp only
  split
  · obtain ⟨role, l, hsettle⟩ := roleSettle_eq ((s.latched cause zone temp).emit 7 0x6002 cause zone temp)
    exact ⟨role, l, hsettle.trans (by simp [State.latched])⟩
  · obtain ⟨role, l, hsettle⟩ := roleSettle_eq (((s.latched cause zone temp).emit 7 0x6002 cause zone temp).emit 7 0x1010 s.isl.pkg 3 6)
    exact ⟨role, ⟨7, 0x1010, none, p32 s.isl.pkg, p32 3, p32 6, 0, 8⟩ :: l, hsettle.trans (by simp [State.latched])⟩

theorem latched_cause (s : State) (cause zone temp : Nat) :
    (s.latched cause zone temp).rf Reg.TH_TRIP_STAT_CAUSE = cause % 2 ^ 3 := State.rf_wr_self _ _ _

theorem latched_temp (s : State) (cause zone temp : Nat) :
    (s.latched cause zone temp).rf Reg.TH_TRIP_STAT_TEMP = temp % 2 ^ 10 := by
  rw [State.latched, State.rf_wr_ne _ _ (by decide), State.rf_wr_self]
  rfl

/-- AO compares a valid reading with THRESH, whatever the state of FRI (R411). -/
theorem execAoTripCompare_at {s : State} (j : Fin 16) {v : BitVec 10} (h : s.threshCode ≤ v.toNat) :
    exec (.aoTripCompare j true v) s = .next (s.tripLatch 4 0x20 v.toNat) :=
  congrArg Host.Outcome.next (if_pos (by simpa using h))

/-- AO leaves a reading that is not valid, or below THRESH (R411). -/
theorem execAoTripCompare_passes {s : State} (j : Fin 16) {ok : Bool} {v : BitVec 10} (h : ok = false ∨ v.toNat < s.threshCode) :
    exec (.aoTripCompare j ok v) s = .next s :=
  congrArg Host.Outcome.next (if_neg (by rcases h with h | h <;> simp [h]))

/-- Settles O26: a reading at or above THRESH sets the latch where it is not set, through `tripLatch_eq`, and any other leaves the state. -/
theorem aoTripLatchesAtThresh : Obligations.AoTripLatchesAtThresh := by
  intro s j v
  refine ⟨fun hclear hhot => ?latches, fun hlow => execAoTripCompare_passes j (.inr hlow), execAoTripCompare_passes j (.inl rfl),
    fun htrip => ?kept⟩
  case latches =>
    obtain ⟨role, l, hlatch⟩ := tripLatch_eq hclear 4 0x20 v.toNat
    refine ⟨_, (execAoTripCompare_at j hhot).trans (congrArg Host.Outcome.next hlatch), rfl, latched_cause s 4 0x20 v.toNat, ?_,
      rfl, rfl, rfl, List.mem_append_right _ List.mem_cons_self⟩
    exact (latched_temp s 4 0x20 v.toNat).trans (Nat.mod_eq_of_lt v.isLt)
  case kept =>
    obtain hlow | hhot := Nat.lt_or_ge v.toNat s.threshCode
    · exact execAoTripCompare_passes j (.inr hlow)
    · exact (execAoTripCompare_at j hhot).trans (congrArg Host.Outcome.next (tripLatch_of_trip htrip 4 0x20 v.toNat))

end Sys2Proof.Machine
end

section
/-! The thermal commands: the sensors' readings, the ticks, the orderly stop and the thermal registers (R386 to R408, R413, R419). -/

namespace Sys2Proof.Machine
open Sys2Proof

/-! Sensors. -/

theorem thOn_iff (s : State) : s.thOn = true ↔ s.inReset 0 = false := by simp [State.thOn]

theorem thOwn_iff (s : State) : s.thOwn = true ↔ s.inReset 0 = false ∧ s.owner = true := by simp [State.thOwn, thOn_iff]

@[simp] theorem sensor_setSensor_self (s : State) (k : Nat) (r : Reading) : (s.setSensor k r).sensor k = r := mget_mput_self _ _ _ _

@[simp] theorem setSensor_regs (s : State) (k : Nat) (r : Reading) : (s.setSensor k r).regs = s.regs := rfl
@[simp] theorem setSensor_raised (s : State) (k : Nat) (r : Reading) : (s.setSensor k r).raised = s.raised := rfl

@[simp] theorem emit_sensor (s : State) (src code p0 p1 p2 p3 k : Nat) : (s.emit src code p0 p1 p2 p3).sensor k = s.sensor k := rfl

/-- The code of sensor `k` of a class. -/
abbrev sensorCode (cls : Fin 4) (k : BitVec 16) : Nat := cls.val * 0x10000 + k.toNat

/-- Neither a tile sensor nor a governor sensor has anything put out for its reading. -/
theorem senseOut_of_ne (s : State) {cls : Nat} (h1 : cls ≠ 1) (h3 : cls ≠ 3) (i : Nat) : s.senseOut cls i = s := by
  simp [State.senseOut, h1, h3]

/-- A present sensor's reading is judged with the code that its class gives (R87, R88, R389). -/
theorem execSensorReading_present {s : State} {cls : Fin 4} {k : BitVec 16} (hr : s.inReset 0 = false)
    (hp : s.present (sensorCode cls k) = true) (ho : cls.val = 3 → s.owner = true) (ok : Bool) (v : BitVec 17) :
    exec (.sensorReading cls k ok v) s = .next (
      if cls.val = 1 then (s.senseOut 1 k.toNat).sensorRead (sensorCode cls k) (ok && (s.tdCode k.toNat v.toNat).isSome)
        ((s.tdCode k.toNat v.toNat).getD 0x3FF)
      else if cls.val = 3 then (s.senseOut 3 k.toNat).sensorRead (sensorCode cls k) ok (s.i3cCode k.toNat (v.toNat % 65536))
      else s.sensorRead (sensorCode cls k) ok (v.toNat % 1024)) := by
  have hacts : (!s.thOn || !s.present (sensorCode cls k) || (cls == 3 && !s.owner)) = false := by
    rw [(thOn_iff s).mpr hr, hp]
    by_cases h : cls = 3
    · simp [ho (congrArg Fin.val h)]
    · simp [h]
  change execSensorReading cls k ok v s = _
  simp only [execSensorReading, hacts, Bool.false_eq_true, if_false]
  split
  case h_1 h1 => rw [if_pos h1, sensorCode, h1]
  case h_2 h3 => rw [if_neg (by omega), if_pos h3, sensorCode, h3]
  case h_3 h1 h3 => rw [if_neg h1, if_neg h3, senseOut_of_ne s h1 h3]

/-- READING_STUCK breaks a usable reading whose neighbours' median has moved by 5 degrees (R389). -/
theorem execReadingStuck_moved {s : State} {cls : Fin 4} {k : BitVec 16} {a b : Nat} (hr : s.inReset 0 = false)
    (ha : s.stuckMedian (sensorCode cls k) = some a) (hb : (s.sensor (sensorCode cls k)).medAt = some b)
    (hok : s.sensorOk (sensorCode cls k) = true) (hm : 40 ≤ ((a : Int) - b).natAbs) :
    exec (.readingStuck cls k) s = .next (s.breakSensor (sensorCode cls k) 1) := by
  change execReadingStuck cls k s = _
  simp only [execReadingStuck, ha, hb]
  exact congrArg Host.Outcome.next (if_pos (by simp [(thOn_iff s).mpr hr, hok, hm]))

/-- The sensor's reading returned to use (R391). -/
def State.restoreSensor (s : State) (n : Nat) : State := s.setSensor n { s.sensor n with broken := false, cause := 0 }

/-- READING_RESTORED returns a present broken reading to use, and the owner records it (R391). -/
theorem execReadingRestored_broken {s : State} {cls : Fin 4} {k : BitVec 16} (hr : s.inReset 0 = false)
    (hp : s.present (sensorCode cls k) = true) (hb : (s.sensor (sensorCode cls k)).broken = true) :
    exec (.readingRestored cls k) s = .next (
      if s.owner then (s.restoreSensor (sensorCode cls k)).emit 0 0x6011 (sensorCode cls k) 0 (s.sensor (sensorCode cls k)).code
      else s.restoreSensor (sensorCode cls k)) :=
  congrArg Host.Outcome.next (if_pos (by rw [(thOn_iff s).mpr hr, hp, hb]; rfl))

/-! The orderly stop. -/

/-- With no zone in Vermilion nothing is projected: the stop goes on (R405). -/
theorem execOrderlyStopRecompute_none {s : State} (hown : s.thOwn = true) (h1 : 1 ≤ s.th.stop) (h4 : s.th.stop ≤ 4)
    (hp : s.pkgProj.1 = none) : exec .orderlyStopRecompute s = .next { s.pkgProj.2 with th.proj := none } := by
  refine congrArg Host.Outcome.next ((if_pos (by simp [hown, h1, h4])).trans ?_)
  rw [show s.pkgProj = (none, s.pkgProj.2) from Prod.ext hp rfl]

/-! The thermal registers (Tables 9.9 and 24.4): AO holds TH_TRIP, and FRI holds TH_CTL. -/

theorem thTrip_holder : holderOf Reg.TH_TRIP_THRESH.addr = some 7 := by decide +kernel

theorem thCtl_holder : holderOf Reg.TH_CTL_SAVE.addr = some 0 := by decide +kernel

/-- Settles O25: each command by the branch that its conditions choose, and the two writes by the island that holds their register. -/
theorem thermalCommandsComplete : Obligations.ThermalCommandsComplete := by
  intro s
  refine ⟨fun hr => ⟨fun cls k v ok hp ho => execSensorReading_present hr hp ho ok v, fun t j hp => ?silent,
      fun cls k => ⟨fun a b ha hb hok hm => execReadingStuck_moved hr ha hb hok hm, fun hp hb => ?restored⟩⟩,
    fun hr ho => ?owner, fun v => ⟨fun hs => ?thresh, fun hs hsave => ?save⟩⟩
  case silent => exact congrArg Host.Outcome.next (if_pos (by simp [(thOn_iff s).mpr hr, hp]))
  case restored =>
    refine ⟨_, execReadingRestored_broken hr hp hb, ?_⟩
    cases ho : s.owner <;> simp [State.restoreSensor]
  case owner =>
    have hown : s.thOwn = true := (thOwn_iff s).mpr ⟨hr, ho⟩
    refine ⟨congrArg Host.Outcome.next (if_pos hown), congrArg Host.Outcome.next (if_pos hown), fun n hpin hshare => ?unpinned,
      fun hst => ?drain, fun hst => ?flush, fun hst => ?grade0, fun h1 h4 hp => execOrderlyStopRecompute_none hown h1 h4 hp⟩
    case unpinned => exact congrArg Host.Outcome.next (if_pos (by simp [hown, hpin, hshare]))
    case drain => exact congrArg Host.Outcome.next (if_pos (by simp [hown, hst]))
    case flush => exact congrArg Host.Outcome.next (if_pos (by simp [hown, hst]))
    case grade0 => exact congrArg Host.Outcome.next (if_pos (by simp [hown, hst]))
  case thresh => exact congrArg Host.Outcome.next (hostWrite_served thTrip_holder hs _ _)
  case save => exact congrArg Host.Outcome.next ((hostWrite_served thCtl_holder hs _ _).trans (if_pos hsave))

end Sys2Proof.Machine
end

section
/-! The commands of the package budget and the partitions (R427, R430, R431, R445, R447, R449, R452, R872, Tables 10.6 and 10.8). -/

namespace Sys2Proof.Machine
open Sys2Proof

/-! A pair of registers that holds a value of 64 bits, the low word in the one and the high word in the other. -/

/-- The pair `lo`, `hi` takes the value `n`. -/
def State.wrPair (s : State) (lo hi : Fld) (n : Nat) : State := (s.wr lo (loWord n)).wr hi (hiWord n)

/-- `lo` and `hi` are whole registers of 32 bits, and not the same one. -/
abbrev WordPair (lo hi : Fld) : Prop := lo.hi + 1 - lo.lo = 32 ∧ hi.hi + 1 - hi.lo = 32 ∧ lo.key ≠ hi.key

theorem rf_wrPair_lo (s : State) {lo hi : Fld} (h : WordPair lo hi) (n : Nat) : (s.wrPair lo hi n).rf lo = loWord n := by
  obtain ⟨hlo, -, hkey⟩ := h
  rw [State.wrPair, State.rf_wr_ne _ _ hkey.symm, State.rf_wr_self, hlo]
  exact Nat.mod_mod _ _

theorem rf_wrPair_hi (s : State) {lo hi : Fld} (h : WordPair lo hi) (n : Nat) : (s.wrPair lo hi n).rf hi = hiWord n := by
  obtain ⟨-, hhi, -⟩ := h
  rw [State.wrPair, State.rf_wr_self, hhi]
  exact Nat.mod_mod _ _

/-- A write of a pair leaves every field of another key alone. -/
theorem rf_wrPair_ne (s : State) {lo hi f : Fld} (n : Nat) (hlo : lo.key ≠ f.key) (hhi : hi.key ≠ f.key) :
    (s.wrPair lo hi n).rf f = s.rf f := by
  rw [State.wrPair, State.rf_wr_ne _ _ hhi, State.rf_wr_ne _ _ hlo]

/-- The two words of a value of 64 bits give it back. -/
theorem loWord_add_hiWord {n : Nat} (h : n < 2 ^ 64) : loWord n + 2 ^ 32 * hiWord n = n := by
  unfold loWord hiWord
  omega

theorem codeOf_lt (w : Nat) (x : Int) : codeOf w x < 2 ^ w := by
  have hpos : (0 : Int) < ((2 ^ w : Nat) : Int) := Int.natCast_pos.mpr (Nat.two_pow_pos w)
  have hlt := Int.emod_lt_of_pos x hpos
  unfold codeOf
  omega

/-! The registers of the budget, which FRI holds (Tables 10.8, 10.10, 10.11, 10.13 and 24.4). -/

theorem bgCtl_holder : holderOf Reg.BG_CTL = some 0 := by decide +kernel

/-- The word `hi` of the configuration of partition `p`. -/
abbrev partCfg (p : Fin 64) (hi : Bool) : Nat := if hi then Reg.BG_PART_CFG1 p else Reg.BG_PART_CFG0 p

theorem partCfg_holder (p : Fin 64) (hi : Bool) : holderOf (partCfg p hi) = some 0 := by
  revert p hi
  decide +kernel

theorem unattr_pair : WordPair Reg.BG_UNATTR_LO_UNATTR Reg.BG_UNATTR_HI_UNATTR := by decide

theorem partEstLo_key (p : Nat) : (Reg.BG_PART_EST_LO_EST p).key = 12713984 + 256 * p := by
  simp only [Fld.key, Reg.BG_PART_EST_LO_EST, Reg.BG_PART_EST_LO]
  omega

theorem partEstHi_key (p : Nat) : (Reg.BG_PART_EST_HI_EST p).key = 12714112 + 256 * p := by
  simp only [Fld.key, Reg.BG_PART_EST_HI_EST, Reg.BG_PART_EST_HI]
  omega

theorem partEst_pair (p : Nat) : WordPair (Reg.BG_PART_EST_LO_EST p) (Reg.BG_PART_EST_HI_EST p) :=
  ⟨rfl, rfl, by rw [partEstLo_key, partEstHi_key]; omega⟩

theorem unattr_key_lt (p : Nat) : Reg.BG_UNATTR_LO_UNATTR.key < (Reg.BG_PART_EST_LO_EST p).key
    ∧ Reg.BG_UNATTR_HI_UNATTR.key < (Reg.BG_PART_EST_LO_EST p).key
    ∧ (Reg.BG_PART_EST_LO_EST p).key < (Reg.BG_PART_EST_HI_EST p).key := by
  rw [partEstLo_key, partEstHi_key]
  have hlo : Reg.BG_UNATTR_LO_UNATTR.key = 12584704 := rfl
  have hhi : Reg.BG_UNATTR_HI_UNATTR.key = 12584832 := rfl
  omega

/-- The estimate of partition `p` as the registers hold it, the low word first. -/
def State.estWords (s : State) (p : Nat) : Nat × Nat := (s.rf (Reg.BG_PART_EST_LO_EST p), s.rf (Reg.BG_PART_EST_HI_EST p))

/-- The registers of the estimate of partition `p` take the value `n`. -/
def State.wrEst (s : State) (p n : Nat) : State := s.wrPair (Reg.BG_PART_EST_LO_EST p) (Reg.BG_PART_EST_HI_EST p) n

/-- BG_UNATTR takes the value `n`. -/
def State.wrUnattr (s : State) (n : Nat) : State := s.wrPair Reg.BG_UNATTR_LO_UNATTR Reg.BG_UNATTR_HI_UNATTR n

theorem wrUnattr_bg (s : State) (n : Nat) : (s.wrUnattr n).bg = s.bg := rfl

theorem estWords_wrEst_self (s : State) (p n : Nat) : (s.wrEst p n).estWords p = (loWord n, hiWord n) :=
  Prod.ext (rf_wrPair_lo s (partEst_pair p) n) (rf_wrPair_hi s (partEst_pair p) n)

theorem estWords_wrEst_ne (s : State) {p q : Nat} (n : Nat) (h : q ≠ p) : (s.wrEst p n).estWords q = s.estWords q := by
  refine Prod.ext (rf_wrPair_ne s n ?_ ?_) (rf_wrPair_ne s n ?_ ?_)
  all_goals
    simp only [partEstLo_key, partEstHi_key]
    omega

/-- BG_UNATTR is apart from the estimates. -/
theorem estWords_wrUnattr (s : State) (n p : Nat) : (s.wrUnattr n).estWords p = s.estWords p := by
  obtain ⟨hlo, hhi, hest⟩ := unattr_key_lt p
  exact Prod.ext (rf_wrPair_ne s n (Nat.ne_of_lt hlo) (Nat.ne_of_lt hhi))
    (rf_wrPair_ne s n (Nat.ne_of_lt (Nat.lt_trans hlo hest)) (Nat.ne_of_lt (Nat.lt_trans hhi hest)))

/-- Reading the two words of BG_UNATTR together gives the value written. -/
theorem unattr_wrUnattr (s : State) {n : Nat} (h : n < 2 ^ 64) :
    (s.wrUnattr n).rf Reg.BG_UNATTR_LO_UNATTR + 2 ^ 32 * (s.wrUnattr n).rf Reg.BG_UNATTR_HI_UNATTR = n := by
  rw [State.wrUnattr, rf_wrPair_lo s unattr_pair, rf_wrPair_hi s unattr_pair, loWord_add_hiWord h]

/-! ESTIMATE_TICK (R447). -/

/-- What 10 us add to the estimate of partition `p`, in picojoules: the floor classes of its tiles, and their reservations less the
pause duty in force. -/
def State.estAdd (s : State) (p : Nat) : Nat :=
  ((s.partTiles p).map (fun t => s.value (s.tile t).floor (s.tile t).dom
    + s.value (s.tile t).resv (s.tile t).dom * (16 - s.tileDuty t) / 16)).sum * 1000 / s.rf Reg.BG_PKG_CFG_EFF

/-- Partition `p`'s estimate grows by `add p`, in the store and in the registers. -/
def State.estGrow (s : State) (add : Nat → Nat) (p : Nat) : State :=
  ({ s with bg.est := mput 0 s.bg.est p (mget 0 s.bg.est p + add p) } : State).wrEst p ((mget 0 s.bg.est p + add p) / 1000000)

/-- Every partition's estimate grows by its 10 us. -/
def State.estimated (s : State) : State := s.upto 64 (fun p x => x.estGrow s.estAdd p)

/-- What the meter counted since the last clear beyond the sum of the estimates, as the 64 bits of BG_UNATTR. -/
def State.unattr (s : State) : Nat :=
  codeOf 64 (((s.ao.meterUj : Int) - s.bg.meterAt) - ((s.bg.est.map (fun e => e.2 / 1000000)).sum : Nat))

theorem unattr_lt (s : State) : s.unattr < 2 ^ 64 := codeOf_lt 64 _

/-- What the growth of one estimate does not change, the growth of them all does not. -/
theorem estimated_keeps {β : Type} (g : State → β) (hg : ∀ x add p, g (State.estGrow x add p) = g x) (s : State) :
    g s.estimated = g s :=
  foldl_keeps g (List.range 64) (fun x p => x.estGrow s.estAdd p) (fun x p => hg x s.estAdd p) s

/-- With FRI out of reset, ESTIMATE_TICK lets each estimate grow and then writes BG_UNATTR. -/
theorem execEstimateTick_grows {s : State} (hr : s.inReset 0 = false) :
    exec .estimateTick s = .next (s.estimated.wrUnattr s.estimated.unattr) := by
  change execEstimateTick s = _
  simp only [execEstimateTick, hr, Bool.false_eq_true, if_false, State.wrUnattr, State.wrPair, State.unattr, State.estimated,
    State.estGrow, State.wrEst, State.estAdd]

/-! EST_CLEAR (R449), and the write of BG_CTL. -/

theorem noteProv_ao (s : State) (f : Fld) : (s.noteProv f).ao = s.ao := by
  unfold State.noteProv
  split <;> rfl

theorem fieldSet_ao (s : State) (a i j : Nat) (f : FDesc) (w : Nat) : (s.fieldSet a i j f w).ao = s.ao := by
  unfold State.fieldSet
  dsimp only
  split
  · exact noteProv_ao _ _
  · rfl

theorem glErrs_ao (s was : State) (ga : Nat) (errs : List Fld) : (s.glErrs was ga errs).ao = s.ao := by
  refine (foldl_keeps State.ao errs (fun x f => x.wr f 1) (fun _ _ => rfl) _).trans ?_
  split <;> rfl

/-- The host's write of a register leaves AO's own state, the meter in it, alone. -/
theorem writeFields_ao (s : State) (ga v : Nat) : (s.writeFields ga v).ao = s.ao := by
  unfold State.writeFields
  split
  case h_1 => rfl
  case h_2 d i j _ =>
    dsimp only
    rw [glErrs_ao]
    refine List.foldlRecOn (motive := fun (x : State × List Fld) => x.1.ao = s.ao) _ _ rfl fun x hx f _ => ?_
    dsimp only
    split
    · exact (fieldSet_ao _ _ _ _ _ _).trans hx
    · exact hx

/-- The registers of every estimate take the value `n`. -/
def State.wrEsts (s : State) (n : Nat) : State := s.upto 64 (fun p x => x.wrEst p n)

/-- Writes of the estimates' registers leave the block's own store alone. -/
theorem wrEsts_bg (s : State) (n : Nat) : (s.wrEsts n).bg = s.bg :=
  foldl_keeps State.bg (List.range 64) (fun x p => x.wrEst p n) (fun _ _ => rfl) s

theorem wrEsts_estWords (s : State) (n : Nat) {p : Nat} (h : p < 64) : (s.wrEsts n).estWords p = (loWord n, hiWord n) := by
  obtain ⟨-, hwritten, -⟩ := upto_parts (part := State.estWords) (R := fun _ => True) (f := fun p x => x.wrEst p n)
    (upd := fun _ _ => (loWord n, hiWord n)) (fun _ _ _ => trivial) (fun p x _ => estWords_wrEst_self x p n)
    (fun p _ x hq => estWords_wrEst_ne x n hq) (s := s) trivial 64
  exact hwritten p h

/-- EST_CLEAR empties the store of the estimates, notes the meter, and writes zero to the registers. -/
theorem estClear_eq (s : State) :
    s.estClear = (({ s with bg.est := [], bg.meterAt := s.ao.meterUj } : State).wrEsts 0).wrUnattr 0 := rfl

theorem estClear_bg (s : State) : s.estClear.bg = { s.bg with est := [], meterAt := s.ao.meterUj } := by
  rw [estClear_eq, wrUnattr_bg, wrEsts_bg]

theorem estClear_unattr (s : State) :
    s.estClear.rf Reg.BG_UNATTR_LO_UNATTR = 0 ∧ s.estClear.rf Reg.BG_UNATTR_HI_UNATTR = 0 := by
  rw [estClear_eq]
  exact ⟨rf_wrPair_lo _ unattr_pair 0, rf_wrPair_hi _ unattr_pair 0⟩

theorem estClear_partEst (s : State) {p : Nat} (h : p < 64) :
    s.estClear.rf (Reg.BG_PART_EST_LO_EST p) = 0 ∧ s.estClear.rf (Reg.BG_PART_EST_HI_EST p) = 0 := by
  have hzero : s.estClear.estWords p = (loWord 0, hiWord 0) := by rw [estClear_eq, estWords_wrUnattr, wrEsts_estWords _ 0 h]
  rw [State.estWords] at hzero
  exact Prod.mk.inj hzero

/-- With FRI's registers reachable, BG_CTL with EST_CLEAR and without SAVE takes the write and clears (R449). -/
theorem execEstClear_served {s : State} (h : Reaches s 0) {v : Word} (hclear : bitOf v.toNat 1 = true) (hsave : bitOf v.toNat 31 = false) :
    exec (.estClear v) s = .next (s.writeFields Reg.BG_CTL v.toNat).estClear := by
  change execEstClear v s = _
  rw [execEstClear, State.bgCtl, hostWrite_served bgCtl_holder h]
  simp [hclear, hsave]

/-- With FRI's registers reachable, BG_CTL with SAVE and without EST_CLEAR takes the write and saves (R452, R872). -/
theorem execBgSave_served {s : State} (h : Reaches s 0) {v : Word} (hclear : bitOf v.toNat 1 = false) (hsave : bitOf v.toNat 31 = true) :
    exec (.bgSave v) s = .next ((s.writeFields Reg.BG_CTL v.toNat).saveBlock 5) := by
  change execBgSave v s = _
  rw [execBgSave, State.bgCtl, hostWrite_served bgCtl_holder h]
  simp [hclear, hsave]

/-! PART_CFG_WRITE (R427, R430). -/

/-- With FRI's registers reachable, the write is a change of the table, and one that is refused has its reserved bits judged. -/
theorem execPartCfgWrite_served {s : State} (h : Reaches s 0) (p : Fin 64) (hi : Bool) (v : Word) :
    exec (.partCfgWrite p hi v) s = .next (
      if (s.tableWrite p (fun x => x.writeFields (partCfg p hi) v.toNat)).1
      then (s.tableWrite p (fun x => x.writeFields (partCfg p hi) v.toNat)).2
      else (s.tableWrite p (fun x => x.writeFields (partCfg p hi) v.toNat)).2.rsvdCheck (partCfg p hi) v.toNat) := by
  change execPartCfgWrite p hi v s = _
  simp only [execPartCfgWrite, serve_write (partCfg_holder p hi) h]

theorem tableWrite_valid {s : State} {p : Nat} {change : State → State} (h : (change s).tableBad p = none) :
    s.tableWrite p change = (true, (change s).allocate) := by
  simp [State.tableWrite, h]

theorem tableWrite_bad {s : State} {p : Nat} {change : State → State} {q : Nat × Nat × Nat} (h : (change s).tableBad p = some q) :
    s.tableWrite p change = (false, (s.wr Reg.BG_FELL_REFUSED 1).emit 0 0x7005 q.1 q.2.1 q.2.2) := by
  simp [State.tableWrite, h]

/-! HELD_ASK_EXPIRY (R431). -/

@[simp] theorem tile_setTile_self (s : State) (t : Nat) (x : Tile) : (s.setTile t x).tile t = x := mget_mput_self _ _ _ _

theorem tile_setTile_ne (s : State) {t u : Nat} (x : Tile) (h : u ≠ t) : (s.setTile t x).tile u = s.tile u := mget_mput_ne _ _ _ h.symm

/-- An ask that is HELD counts no longer. -/
theorem execHeldAskExpiry_held {s : State} {t : Fin 16384} {h : HeldAsk} (hheld : (s.tile t).held = some h) :
    exec (.heldAskExpiry t) s = .next (s.setTile t { s.tile t with held := some { h with counts := false } }) := by
  change execHeldAskExpiry t s = _
  simp only [execHeldAskExpiry, hheld]

/-- Settles O27: each command by the branch that its conditions choose; ESTIMATE_TICK by what the growth of the estimates keeps, EST_CLEAR
by the words that its writes leave, and PART_CFG_WRITE by the verdict on the changed table. -/
theorem budgetCommandsComplete : Obligations.BudgetCommandsComplete := by
  intro s
  refine ⟨fun hf => ?allocation, fun hf hover hunder => ?duty, fun hr => ?estimate, fun hr => ?timeout,
    fun v hs => ⟨fun hclear hsave => ?clear, fun hclear hsave => ?save, fun p hi => ⟨fun hvalid => ?valid, fun q hbad => ?bad⟩⟩,
    fun t h hheld => ?held⟩
  case allocation => exact congrArg Host.Outcome.next (if_pos hf)
  case duty =>
    exact congrArg Host.Outcome.next ((if_neg (by simp [hf])).trans ((if_neg (Nat.not_lt.mpr hover)).trans
      (if_neg (Nat.not_lt.mpr hunder))))
  case estimate =>
    have hkept := estimated_keeps (fun x => (x.sl, x.ad, x.outbox, x.ao, x.bg.meterAt)) (fun _ _ _ => rfl) s
    simp only [Prod.mk.injEq] at hkept
    obtain ⟨hsl, had, hout, hao, hmeter⟩ := hkept
    refine ⟨_, execEstimateTick_grows hr, ?_⟩
    generalize s.estimated = x at hsl had hout hao hmeter
    refine ⟨hsl, had, hout, hao, ?_⟩
    rw [unattr_wrUnattr x (unattr_lt x), wrUnattr_bg, State.unattr, hao, hmeter]
  case timeout => exact congrArg Host.Outcome.next (if_neg (ne_true_of_eq_false hr))
  case clear =>
    have hbg := estClear_bg (s.writeFields Reg.BG_CTL v.toNat)
    rw [writeFields_ao] at hbg
    obtain ⟨hlo, hhi⟩ := estClear_unattr (s.writeFields Reg.BG_CTL v.toNat)
    exact ⟨_, execEstClear_served hs hclear hsave, congrArg Budget.est hbg, congrArg Budget.meterAt hbg, hlo, hhi,
      fun p hp => estClear_partEst _ hp⟩
  case save => exact execBgSave_served hs hclear hsave
  case valid => rw [execPartCfgWrite_served hs, tableWrite_valid hvalid, if_pos rfl]
  case bad => rw [execPartCfgWrite_served hs, tableWrite_bad hbad, if_neg Bool.false_ne_true]
  case held =>
    exact ⟨_, execHeldAskExpiry_held hheld, tile_setTile_self s t _, fun u hu => tile_setTile_ne s _ hu, rfl, rfl⟩

end Sys2Proof.Machine
end

section
/-! The step of the block (Machine/Step.lean). -/

namespace Sys2Proof.Machine
open Sys2Proof
set_option Elab.async false

theorem step_cons {s : State} {c : Instr} {rest : List Instr} (h : s.pending = c :: rest) : step s = exec c (s.withPending rest) := by
  simp only [step, h]

theorem step_nil {s : State} (h : s.pending = []) : step s = .next (idleTick s) := by
  simp only [step, h]

/-- Settles O56: the two cases of the queue. -/
theorem stepRunsTheFrontCommand : Obligations.StepRunsTheFrontCommand :=
  ⟨fun _ _ _ h => step_cons h, fun _ h => step_nil h⟩

end Sys2Proof.Machine
end

section
/-! The words of the Ikiva instructions (R530 to R532): the fields that a word of each format carries, and the round trip. -/

namespace Sys2Proof.Machine
open Sys2Proof
set_option Elab.async false

/-! Formats A and Q (Table 13.1). -/

section
variable {op fn : Nat} (rd r1 r2 : Fin 32) (ho : op < 128) (hf : fn < 1024)
include ho hf

theorem wordA_toNat :
    (wordA op rd r1 r2 fn).toNat = op * 2 ^ 25 + rd.val * 2 ^ 20 + r1.val * 2 ^ 15 + r2.val * 2 ^ 10 + fn := by
  rw [wordA, BitVec.toNat_ofNat]
  omega

theorem wordA_op : (wordA op rd r1 r2 fn).toNat / 2 ^ 25 = op := by
  rw [wordA_toNat rd r1 r2 ho hf]
  omega

theorem wordA_rd : reg5 (wordA op rd r1 r2 fn).toNat 20 = rd := by
  rw [wordA_toNat rd r1 r2 ho hf]
  exact Fin.ext (by simp only [reg5]; omega)

theorem wordA_r1 : reg5 (wordA op rd r1 r2 fn).toNat 15 = r1 := by
  rw [wordA_toNat rd r1 r2 ho hf]
  exact Fin.ext (by simp only [reg5]; omega)

theorem wordA_r2 : reg5 (wordA op rd r1 r2 fn).toNat 10 = r2 := by
  rw [wordA_toNat rd r1 r2 ho hf]
  exact Fin.ext (by simp only [reg5]; omega)

theorem wordA_fn : (wordA op rd r1 r2 fn).toNat % 1024 = fn := by
  rw [wordA_toNat rd r1 r2 ho hf]
  omega

end

/-- Only the word with every field zero is 0 (R531). -/
theorem wordA_zero_iff {fn : Nat} (rd r1 r2 : Fin 32) (hf : fn < 1024) :
    (wordA 0 rd r1 r2 fn).toNat = 0 ↔ rd = 0 ∧ r1 = 0 ∧ r2 = 0 ∧ fn = 0 := by
  rw [wordA_toNat rd r1 r2 (by omega) hf, Fin.ext_iff, Fin.ext_iff, Fin.ext_iff]
  simp only [Fin.val_zero]
  omega

section
variable {op imm : Nat} (rd r1 r2 : Fin 32) (mode : Fin 4) (ho : op < 128) (hi : imm < 256)
include ho hi

theorem wordQ_op : (wordQ op rd r1 r2 mode imm).toNat / 2 ^ 25 = op := wordA_op rd r1 r2 ho (by omega)

theorem wordQ_rd : reg5 (wordQ op rd r1 r2 mode imm).toNat 20 = rd := wordA_rd rd r1 r2 ho (by omega)

theorem wordQ_r1 : reg5 (wordQ op rd r1 r2 mode imm).toNat 15 = r1 := wordA_r1 rd r1 r2 ho (by omega)

theorem wordQ_r2 : reg5 (wordQ op rd r1 r2 mode imm).toNat 10 = r2 := wordA_r2 rd r1 r2 ho (by omega)

theorem wordQ_mode : (wordQ op rd r1 r2 mode imm).toNat / 256 % 4 = mode := by
  rw [wordQ, wordA_toNat rd r1 r2 ho (by omega)]
  omega

theorem wordQ_imm : (wordQ op rd r1 r2 mode imm).toNat % 256 = imm := by
  rw [wordQ, wordA_toNat rd r1 r2 ho (by omega)]
  omega

theorem wordQ_low3 (h : imm < 8) : (wordQ op rd r1 r2 mode imm).toNat % 8 = imm := by
  rw [← Nat.mod_mod_of_dvd _ (show 8 ∣ 256 by decide), wordQ_imm rd r1 r2 mode ho hi, Nat.mod_eq_of_lt h]

theorem wordQ_low2 (h : imm < 4) : (wordQ op rd r1 r2 mode imm).toNat % 4 = imm := by
  rw [← Nat.mod_mod_of_dvd _ (show 4 ∣ 256 by decide), wordQ_imm rd r1 r2 mode ho hi, Nat.mod_eq_of_lt h]

end

/-! Formats I, L, C and IL. -/

section
variable {op imm : Nat} (rd r1 : Fin 32) (ho : op < 128) (hi : imm < 2 ^ 15)
include ho hi

theorem wordI_toNat : (wordI op rd r1 imm).toNat = op * 2 ^ 25 + rd.val * 2 ^ 20 + r1.val * 2 ^ 15 + imm := by
  rw [wordI, BitVec.toNat_ofNat]
  omega

theorem wordI_op : (wordI op rd r1 imm).toNat / 2 ^ 25 = op := by
  rw [wordI_toNat rd r1 ho hi]
  omega

theorem wordI_rd : reg5 (wordI op rd r1 imm).toNat 20 = rd := by
  rw [wordI_toNat rd r1 ho hi]
  exact Fin.ext (by simp only [reg5]; omega)

theorem wordI_r1 : reg5 (wordI op rd r1 imm).toNat 15 = r1 := by
  rw [wordI_toNat rd r1 ho hi]
  exact Fin.ext (by simp only [reg5]; omega)

theorem wordI_low : (wordI op rd r1 imm).toNat % 2 ^ 15 = imm := by
  rw [wordI_toNat rd r1 ho hi]
  omega

end

theorem wordI_imm {op : Nat} (rd r1 : Fin 32) (ho : op < 128) (imm : BitVec 15) : imm15 (wordI op rd r1 imm.toNat).toNat = imm :=
  BitVec.eq_of_toNat_eq (by rw [imm15, BitVec.toNat_ofNat, wordI_low rd r1 ho imm.isLt])

/-- The selection and the amount of SHI (R541). -/
theorem shi_fields (rd r1 : Fin 32) (sel : Fin 4) (amt : Fin 64) :
    let w := (wordI 5 rd r1 (sel.val * 2 ^ 13 + amt.val)).toNat
    fieldOf w 13 2 = sel ∧ fieldOf w 6 7 = 0 ∧ w / 2 ^ 13 % 4 = sel ∧ w % 64 = amt := by
  simp only [fieldOf, wordI_toNat rd r1 (show 5 < 128 by decide) (show sel.val * 2 ^ 13 + amt.val < 2 ^ 15 by omega)]
  omega

/-! Format M. -/

section
variable {fn : Nat} (ad asr : Fin 8) (r1 r2 : Fin 32) (hf : fn < 512)
include hf

theorem wordM_toNat : (wordM ad asr r1 r2 fn).toNat
    = 0x20 * 2 ^ 25 + ad.val * 2 ^ 22 + asr.val * 2 ^ 19 + r1.val * 2 ^ 14 + r2.val * 2 ^ 9 + fn := by
  rw [wordM, BitVec.toNat_ofNat]
  omega

theorem wordM_op : (wordM ad asr r1 r2 fn).toNat / 2 ^ 25 = 0x20 := by
  rw [wordM_toNat ad asr r1 r2 hf]
  omega

theorem wordM_ad : reg3 (wordM ad asr r1 r2 fn).toNat 22 = ad := by
  rw [wordM_toNat ad asr r1 r2 hf]
  exact Fin.ext (by simp only [reg3]; omega)

theorem wordM_asr : reg3 (wordM ad asr r1 r2 fn).toNat 19 = asr := by
  rw [wordM_toNat ad asr r1 r2 hf]
  exact Fin.ext (by simp only [reg3]; omega)

theorem wordM_r1 : reg5 (wordM ad asr r1 r2 fn).toNat 14 = r1 := by
  rw [wordM_toNat ad asr r1 r2 hf]
  exact Fin.ext (by simp only [reg5]; omega)

theorem wordM_r2 : reg5 (wordM ad asr r1 r2 fn).toNat 9 = r2 := by
  rw [wordM_toNat ad asr r1 r2 hf]
  exact Fin.ext (by simp only [reg5]; omega)

theorem wordM_fn : (wordM ad asr r1 r2 fn).toNat % 512 = fn := by
  rw [wordM_toNat ad asr r1 r2 hf]
  omega

end

/-! The round trip. -/



/-- The literal forms have every field zero but rd (R530). -/
theorem wordI_literal {op : Nat} (rd : Fin 32) (ho : op < 128) : (wordI op rd 0 0).toNat % 2 ^ 20 = 0 := by
  rw [wordI_toNat rd 0 ho (by decide)]
  simp only [Fin.val_zero]
  omega

/-- Each instruction by the fields of its table's format; the conditions of R531 on its operands are those of its `wf`. -/
theorem decodeIkiva_encodeIkiva {i : Instr} {w : Word} (h : encodeIkiva i = some w) (hwf : i.wf = true) :
    decodeIkiva (coreOf i) w (literalOf i) = some i := by
  cases i with
  | ikShi c rd r1 sel amt =>
    obtain rfl := Option.some.inj h
    obtain ⟨h1, h2, h3, h4⟩ := shi_fields rd r1 sel amt
    have hsel : sel.val < 3 := by
      have : sel ≠ 3 := bne_iff_ne.mp hwf
      omega
    simp (disch := omega) only [decodeIkiva, wordI_op, wordI_rd, wordI_r1, h1, h2, h3, h4, hsel, onlyIf, decide_true,
      beq_self_eq_true, Bool.and_self, if_true]
    rfl
  | ikAdd c rd r1 r2 =>
    obtain rfl := Option.some.inj h
    simp (disch := omega) only [decodeIkiva, wordA_op, wordA_zero_iff, decodeInt, wordA_rd, wordA_r1, wordA_r2, wordA_fn]
    refine if_neg fun ⟨h1, h2, h3, _⟩ => ?_
    rw [h1, h2, h3] at hwf
    cases hwf
  | ikMfm | ikSend | ikRecv | ikLogev | ikDrd =>
    obtain rfl := Option.some.inj h
    simp (disch := omega) only [decodeIkiva, wordA_op, wordQ_op, decodeSys, decodeQueue, wordA_rd, wordA_r1, wordA_r2, wordA_fn,
      wordQ_rd, wordQ_r1, wordQ_r2, wordQ_mode, wordQ_imm, onlyIf, beq_self_eq_true, Bool.and_self, Bool.true_and, Bool.and_true]
    exact if_pos hwf
  | _ =>
    injection h
    all_goals
      subst_vars
      simp (disch := omega) only [decodeIkiva, wordI_op, wordI_rd, wordI_r1, wordI_imm, wordI_literal,
        wordA_op, wordM_op, wordQ_op, wordA_zero_iff, decodeInt, decodeAcc, decodeSys, decodeQueue, wordA_rd, wordA_r1, wordA_r2, wordA_fn,
        wordM_ad, wordM_asr, wordM_r1, wordM_r2, wordM_fn, wordQ_rd, wordQ_r1, wordQ_r2, wordQ_mode, wordQ_imm, wordQ_low3, wordQ_low2,
        onlyIf, beq_self_eq_true, Bool.and_self, if_true, Nat.reduceEqDiff, and_false, if_false, Fin.isLt, decide_true, Fin.eta]
      rfl

theorem decodeIkiva_zero (c : Fin 8) (lit : Word) : decodeIkiva c 0 lit = none := rfl

/-- Settles O60: each instruction by the fields that its format carries; the word of zeros is the one that OP 0x00 excludes. -/
theorem ikivaWordsRoundTrip : Obligations.IkivaWordsRoundTrip :=
  ⟨fun _ _ h hwf => decodeIkiva_encodeIkiva h hwf, decodeIkiva_zero⟩

end Sys2Proof.Machine
end

section
/-! The arithmetic of the policy cores: what the word operations of Tables 13.4 and 13.5 give as numbers. -/

namespace Sys2Proof.Machine
open Sys2Proof
set_option Elab.async false

/-! Sums, products and shifts on 64 bits. -/

theorem add_eq_ofInt (x y : DWord) : x + y = BitVec.ofInt 64 (x.toInt + y.toInt) := by
  rw [BitVec.ofInt_add, BitVec.ofInt_toInt, BitVec.ofInt_toInt]

theorem sub_eq_ofInt (x y : DWord) : x - y = BitVec.ofInt 64 (x.toInt - y.toInt) := by
  rw [Int.sub_eq_add_neg, BitVec.ofInt_add, BitVec.ofInt_neg, BitVec.ofInt_toInt, BitVec.ofInt_toInt, BitVec.sub_eq_add_neg]

theorem mul_eq_ofInt (x y : DWord) : x * y = BitVec.ofInt 64 (x.toInt * y.toInt) := by
  rw [BitVec.ofInt_mul, BitVec.ofInt_toInt, BitVec.ofInt_toInt]

theorem shiftLeft_eq_ofNat (x : DWord) (k : Nat) : x <<< k = BitVec.ofNat 64 (x.toNat * 2 ^ k) :=
  BitVec.eq_of_toNat_eq (by rw [BitVec.toNat_shiftLeft, BitVec.toNat_ofNat, Nat.shiftLeft_eq])

theorem ushiftRight_eq_ofNat (x : DWord) (k : Nat) : x >>> k = BitVec.ofNat 64 (x.toNat / 2 ^ k) := by
  rw [← Nat.shiftRight_eq_div_pow, ← BitVec.toNat_ushiftRight, BitVec.ofNat_toNat, BitVec.setWidth_eq]

theorem sshiftRight_eq_ofInt {w : Nat} (x : BitVec w) (k : Nat) : x.sshiftRight k = BitVec.ofInt w (x.toInt / 2 ^ k) := by
  rw [BitVec.sshiftRight_eq, Int.shiftRight_eq_div_pow]
  norm_cast

/-- Bits taken from a word are those of its signed value divided. -/
theorem extractLsb'_eq_ofInt {w start len : Nat} (z : BitVec w) (h : start + len ≤ w) :
    z.extractLsb' start len = BitVec.ofInt len (z.toInt / 2 ^ start) := by
  have hw : (2 : Int) ^ w = 2 ^ start * (2 ^ len * 2 ^ (w - (start + len))) := by
    rw [← Int.pow_add, ← Int.pow_add]
    congr 1
    omega
  have hz : (z.toInt / 2 ^ start) % (2 ^ len) = (z.toNat / 2 ^ start : Int) % 2 ^ len := by
    rw [BitVec.toInt_eq_toNat_cond]
    split
    · rfl
    · push_cast
      rw [hw, Int.sub_mul_ediv_left _ _ (by positivity), Int.sub_mul_emod_self_left]
  refine BitVec.eq_of_toNat_eq ?_
  rw [BitVec.extractLsb'_toNat, BitVec.toNat_ofInt]
  push_cast
  rw [hz, Nat.shiftRight_eq_div_pow]
  norm_cast

theorem natAbs_toInt_le (x : DWord) : x.toInt.natAbs ≤ 2 ^ 63 := by
  have h1 := x.toInt_lt
  have h2 := x.le_toInt
  omega

/-- The product of two signed words fits 128 bits. -/
theorem toInt_signExtend_mul (x y : DWord) : (x.signExtend 128 * y.signExtend 128).toInt = x.toInt * y.toInt := by
  rw [BitVec.toInt_mul, BitVec.toInt_signExtend_of_le (by decide), BitVec.toInt_signExtend_of_le (by decide)]
  have h : (x.toInt * y.toInt).natAbs ≤ 2 ^ 63 * 2 ^ 63 := by
    rw [Int.natAbs_mul]
    exact Nat.mul_le_mul (natAbs_toInt_le x) (natAbs_toInt_le y)
  exact Int.bmod_eq_of_le (by omega) (by omega)

theorem mulh_eq (x y : DWord) :
    BitVec.ofInt 64 (x.toInt * y.toInt / 18446744073709551616) = (x.signExtend 128 * y.signExtend 128).extractLsb' 64 64 := by
  rw [extractLsb'_eq_ofInt _ (by decide), toInt_signExtend_mul]
  rfl

theorem mulhu_eq (x y : DWord) :
    BitVec.ofNat 64 (x.toNat * y.toNat / 18446744073709551616) = (x.zeroExtend 128 * y.zeroExtend 128).extractLsb' 64 64 := by
  have h : x.toNat * y.toNat < 2 ^ 64 * 2 ^ 64 := Nat.mul_lt_mul'' x.isLt y.isLt
  refine BitVec.eq_of_toNat_eq ?_
  simp only [BitVec.extractLsb'_toNat, BitVec.toNat_mul, BitVec.toNat_setWidth, BitVec.toNat_ofNat, Nat.shiftRight_eq_div_pow]
  rw [Nat.mod_eq_of_lt (show x.toNat < 2 ^ 128 by omega), Nat.mod_eq_of_lt (show y.toNat < 2 ^ 128 by omega),
    Nat.mod_eq_of_lt (show x.toNat * y.toNat < 2 ^ 128 by omega)]

/-! Minimum and maximum. -/

theorem minS_eq (x y : DWord) : (if y.toInt < x.toInt then y else x) = BitVec.ofInt 64 (min x.toInt y.toInt) := by
  split
  · rw [min_eq_right (by omega), BitVec.ofInt_toInt]
  · rw [min_eq_left (by omega), BitVec.ofInt_toInt]

theorem maxS_eq (x y : DWord) : (if x.toInt < y.toInt then y else x) = BitVec.ofInt 64 (max x.toInt y.toInt) := by
  split
  · rw [max_eq_right (by omega), BitVec.ofInt_toInt]
  · rw [max_eq_left (by omega), BitVec.ofInt_toInt]

theorem minU_eq (x y : DWord) : (if y.toNat < x.toNat then y else x) = BitVec.ofNat 64 (min x.toNat y.toNat) := by
  split
  · rw [min_eq_right (by omega), BitVec.ofNat_toNat, BitVec.setWidth_eq]
  · rw [min_eq_left (by omega), BitVec.ofNat_toNat, BitVec.setWidth_eq]

theorem maxU_eq (x y : DWord) : (if x.toNat < y.toNat then y else x) = BitVec.ofNat 64 (max x.toNat y.toNat) := by
  split
  · rw [max_eq_right (by omega), BitVec.ofNat_toNat, BitVec.setWidth_eq]
  · rw [max_eq_left (by omega), BitVec.ofNat_toNat, BitVec.setWidth_eq]

/-! Comparisons. -/

theorem slt_value (x y : DWord) : (if x.toInt < y.toInt then 1 else 0 : DWord) = if x.slt y then 1 else 0 :=
  if_congr BitVec.slt_iff_toInt_lt.symm rfl rfl

theorem ult_value (x y : DWord) : (if x.toNat < y.toNat then 1 else 0 : DWord) = if x.ult y then 1 else 0 :=
  if_congr (by rw [BitVec.ult, decide_eq_true_eq]) rfl rfl

/-! Leading zeros and ones. -/

/-- The powers of two that bound a number are those of its leading zeros. -/
theorem clzFrom_bounds {n v : Nat} (h : v < 2 ^ n) :
    clzFrom n v ≤ n ∧ v < 2 ^ (n - clzFrom n v) ∧ (clzFrom n v < n → 2 ^ (n - 1 - clzFrom n v) ≤ v) := by
  induction n with
  | zero => exact ⟨le_rfl, h, fun hlt => absurd hlt (Nat.lt_irrefl 0)⟩
  | succ n ih =>
    have hd : v / 2 ^ n < 2 := Nat.div_lt_of_lt_mul (by rwa [← Nat.pow_succ])
    rw [clzFrom]
    by_cases hb : bitOf v n = true
    · rw [if_pos hb]
      rw [bitOf, beq_iff_eq, Nat.mod_eq_of_lt hd] at hb
      exact ⟨by omega, h, fun _ => by simpa using (Nat.le_div_iff_mul_le (by positivity)).mp hb.ge⟩
    · rw [if_neg hb]
      rw [bitOf, beq_iff_eq, Nat.mod_eq_of_lt hd] at hb
      have h0 : v / 2 ^ n = 0 := Nat.lt_one_iff.mp (Nat.lt_of_le_of_ne (Nat.le_of_lt_succ hd) hb)
      obtain ⟨i1, i2, i3⟩ := ih ((Nat.div_eq_zero_iff_lt (by positivity)).mp h0)
      refine ⟨by omega, by rwa [show n + 1 - (1 + clzFrom n v) = n - clzFrom n v by omega], fun hlt => ?_⟩
      rw [show n + 1 - 1 - (1 + clzFrom n v) = n - 1 - clzFrom n v by omega]
      exact i3 (by omega)

theorem bitOf_toNat {w : Nat} (x : BitVec w) (i : Nat) : bitOf x.toNat i = x.getLsbD i := by
  rw [BitVec.getLsbD, Nat.testBit_eq_decide_div_mod_eq]
  rfl

theorem popFrom_eq (v n : Nat) : popFrom n v = ((List.range n).filter (bitOf v)).length := by
  induction n with
  | zero => rfl
  | succ n ih =>
    rw [popFrom, ih, List.range_succ, List.filter_append, List.length_append, Nat.add_comm]
    cases hb : bitOf v n <;> simp [hb, b01]

theorem popc_eq (x : DWord) : popFrom 64 x.toNat = ((List.range 64).filter (fun i => x.getLsbD i)).length := by
  rw [popFrom_eq]
  exact congrArg (fun f => ((List.range 64).filter f).length) (funext (bitOf_toNat x))

/-- Settles O30: each row of Table 13.4 writes rd, and its word operation has the value that the table gives. -/
theorem integerOperations : Obligations.IntegerOperations := by
  intro s c rd r1 r2 hr x y k
  refine ⟨fun h => ?add, ?illegal, ?sub, ?and, ?or, ?xor, ?sll, ?srl, ?sra, ?slt, ?sltu, ?min, ?max, ?minu, ?maxu, ?mul, ?mulh, ?mulhu,
    ⟨clzFrom 64 x.toNat, ?clz⟩, ?popc⟩
  case add => exact writesG_of hr (by change execIkAdd c rd r1 r2 s = _; rw [execIkAdd, if_neg h]) (add_eq_ofInt x y)
  case illegal => exact congrArg (s.ran c) (issue_exc hr.1 (by omega) _ _ _ _)
  case sub => exact writesG_of hr rfl (sub_eq_ofInt x y)
  case and => exact writesG_of hr rfl (by rw [← BitVec.toNat_and, BitVec.ofNat_toNat, BitVec.setWidth_eq]; rfl)
  case or => exact writesG_of hr rfl (by rw [← BitVec.toNat_or, BitVec.ofNat_toNat, BitVec.setWidth_eq]; rfl)
  case xor => exact writesG_of hr rfl (by rw [← BitVec.toNat_xor, BitVec.ofNat_toNat, BitVec.setWidth_eq]; rfl)
  case sll => exact writesG_of hr rfl (shiftLeft_eq_ofNat x k)
  case srl => exact writesG_of hr rfl (ushiftRight_eq_ofNat x k)
  case sra => exact writesG_of hr rfl (sshiftRight_eq_ofInt x k)
  case slt => exact writesG_of hr rfl (slt_value x y)
  case sltu => exact writesG_of hr rfl (ult_value x y)
  case min => exact writesG_of hr rfl (minS_eq x y)
  case max => exact writesG_of hr rfl (maxS_eq x y)
  case minu => exact writesG_of hr rfl (minU_eq x y)
  case maxu => exact writesG_of hr rfl (maxU_eq x y)
  case mul => exact writesG_of hr rfl (mul_eq_ofInt x y)
  case mulh => exact writesG_of hr rfl (mulh_eq x y)
  case mulhu => exact writesG_of hr rfl (mulhu_eq x y)
  case clz =>
    obtain ⟨hle, hlt, hge⟩ := clzFrom_bounds x.isLt
    exact ⟨hle, hlt, hge, writesG_of hr rfl rfl⟩
  case popc => exact writesG_of hr rfl (congrArg (BitVec.ofNat 64) (popc_eq x))

end Sys2Proof.Machine
end

section
/-! Division, comparison, immediates and the accumulators of the policy cores (R538, R540, R541, R544). -/

namespace Sys2Proof.Machine
open Sys2Proof
set_option Elab.async false

/-! Division (R540). -/

theorem natAbs_tmod_lt (x : Int) {y : Int} (hy : y ≠ 0) : (x.tmod y).natAbs < y.natAbs := by
  rw [Int.natAbs_tmod]
  exact Nat.mod_lt _ (Int.natAbs_pos.mpr hy)

theorem tmod_mul_nonneg (x y : Int) : 0 ≤ x.tmod y * x := by
  rcases Int.le_total 0 x with h | h
  · exact Int.mul_nonneg (Int.tmod_nonneg y h) h
  · exact Int.mul_nonneg_of_nonpos_of_nonpos (by
      have := Int.tmod_nonneg y (Int.neg_nonneg.mpr h)
      rw [Int.neg_tmod] at this
      omega) h

/-- Settles O31: the word quotients and remainders are those of the integers where the divisor is not zero. -/
theorem divisionResults : Obligations.DivisionResults := by
  intro s c rd r1 r2 hr x y
  refine ⟨fun hy => ?zero, fun hy => ⟨?signed, ?unsigned⟩, fun hx hy => ?overflow⟩
  case zero =>
    exact ⟨writesG_of hr rfl (if_pos hy), writesG_of hr rfl (if_pos hy), writesG_of hr rfl (if_pos hy), writesG_of hr rfl (if_pos hy)⟩
  case signed =>
    have hy0 : y.toInt ≠ 0 := fun h => hy (BitVec.eq_of_toInt_eq (by simpa using h))
    refine ⟨x.toInt.tdiv y.toInt, x.toInt.tmod y.toInt, ?_, natAbs_tmod_lt _ hy0, tmod_mul_nonneg _ _,
      writesG_of hr rfl (if_neg hy), writesG_of hr rfl (if_neg hy)⟩
    rw [Int.mul_comm, Int.mul_tdiv_add_tmod]
  case unsigned =>
    have hy0 : 0 < y.toNat := Nat.pos_of_ne_zero (fun h => hy (BitVec.eq_of_toNat_eq h))
    refine ⟨x.toNat / y.toNat, x.toNat % y.toNat, ?_, Nat.mod_lt _ hy0, writesG_of hr rfl (if_neg hy), writesG_of hr rfl (if_neg hy)⟩
    rw [Nat.div_add_mod']
  case overflow =>
    exact ⟨writesG_of hr rfl (show divS x y = _ by rw [hx, hy]; decide), writesG_of hr rfl (show remS x y = _ by rw [hx, hy]; decide)⟩

/-! The flags of a comparison (R538). -/

theorem msb_eq_bitOf (x : DWord) : bitOf x.toNat 63 = x.msb := by
  rw [bitOf_toNat, BitVec.msb_eq_getLsbD_last]

/-- The difference of two signed words is that of their 64-bit difference exactly when 64 bits hold it. -/
theorem sub_toInt_ne (x y : DWord) :
    (x.toInt - y.toInt != (x - y).toInt) = decide (x.toInt - y.toInt < -(2 ^ 63) ∨ 2 ^ 63 ≤ x.toInt - y.toInt) := by
  rw [Bool.eq_iff_iff, bne_iff_ne, decide_eq_true_eq, BitVec.toInt_sub]
  have h1 := x.toInt_lt
  have h2 := x.le_toInt
  have h3 := y.toInt_lt
  have h4 := y.le_toInt
  rw [Int.bmod_def]
  norm_num at *
  omega

theorem flagBits : ∀ z n c v t : Bool, BitVec.ofNat 5 (b01 z + 2 * b01 n + 4 * b01 c + 8 * b01 v + 16 * b01 t)
    = BitVec.ofBool t ++ BitVec.ofBool v ++ BitVec.ofBool c ++ BitVec.ofBool n ++ BitVec.ofBool z := by decide

theorem cmpFlags_eq (x y : DWord) (old : BitVec 5) : cmpFlags x y old = BitVec.ofBool (old.getLsbD 4)
    ++ BitVec.ofBool (decide (x.toInt - y.toInt < -(2 ^ 63) ∨ 2 ^ 63 ≤ x.toInt - y.toInt)) ++ BitVec.ofBool (y.ule x)
    ++ BitVec.ofBool ((x - y).msb) ++ BitVec.ofBool (x == y) := by
  have hz : ((x - y) == 0) = (x == y) := by rw [Bool.eq_iff_iff, beq_iff_eq, beq_iff_eq, sub_eq_zero]
  rw [← sub_toInt_ne, ← flagBits, ← hz, ← msb_eq_bitOf, ← bitOf_toNat old]
  rfl

/-- Settles O32: both instructions write the flags of one comparison. -/
theorem compareFlags : Obligations.CompareFlags := by
  intro s c r1 r2 imm hr x z flags
  exact ⟨writesFlags_of hr rfl (cmpFlags_eq _ _ _), writesFlags_of hr rfl (cmpFlags_eq _ _ _)⟩

/-! Immediates (R541). -/

theorem ofInt_toInt_signExtend {w : Nat} (x : BitVec w) (v : Nat) : BitVec.ofInt v x.toInt = x.signExtend v := rfl

theorem addImm_eq (x : DWord) (imm : BitVec 15) : x + imm.signExtend 64 = BitVec.ofInt 64 (x.toInt + imm.toInt) := by
  rw [BitVec.ofInt_add, BitVec.ofInt_toInt, ofInt_toInt_signExtend]

theorem andImm_eq (x : DWord) (imm : BitVec 15) : x &&& imm.zeroExtend 64 = BitVec.ofNat 64 (x.toNat &&& imm.toNat) := by
  rw [BitVec.ofNat_and, BitVec.ofNat_toNat, BitVec.ofNat_toNat, BitVec.setWidth_eq]

theorem orImm_eq (x : DWord) (imm : BitVec 15) : x ||| imm.zeroExtend 64 = BitVec.ofNat 64 (x.toNat ||| imm.toNat) := by
  rw [BitVec.ofNat_or, BitVec.ofNat_toNat, BitVec.ofNat_toNat, BitVec.setWidth_eq]

theorem xorImm_eq (x : DWord) (imm : BitVec 15) : x ^^^ imm.zeroExtend 64 = BitVec.ofNat 64 (x.toNat ^^^ imm.toNat) := by
  rw [BitVec.ofNat_xor, BitVec.ofNat_toNat, BitVec.ofNat_toNat, BitVec.setWidth_eq]

/-- LITH replaces the high word and keeps the low one. -/
theorem lith_eq (x : DWord) (lit : Word) :
    BitVec.ofNat 64 (x.toNat % 4294967296 + 4294967296 * lit.toNat) = (lit ++ x.extractLsb' 0 32 : BitVec (32 + 32)) := by
  refine BitVec.eq_of_toNat_eq ?_
  rw [BitVec.toNat_append, BitVec.extractLsb'_toNat, BitVec.toNat_ofNat, Nat.shiftRight_zero,
    ← Nat.shiftLeft_add_eq_or_of_lt (Nat.mod_lt _ (by decide)), Nat.shiftLeft_eq]
  have := lit.isLt
  omega

/-- An instruction of two words that gives rd a value. -/
theorem writesG_literal {i : Instr} {s : State} {c cyc rd : Nat} {v : DWord} {w : IkCore → DWord} (hr : Ready s c 8)
    (he : exec i s = s.ran c (s.issue c cyc 8 none (fun x => x.setCore c ((x.core c).setG rd (w (x.core c))))))
    (hv : w ((s.core c).moved cyc ((s.core c).pc + 8)) = v) : WritesG i s c cyc 8 rd v := by
  obtain ⟨hmoved, hmem, hid⟩ := coreMoved_setCore cyc ((s.core c).pc + 8) (bankOnly_setG ((s.core c).moved cyc ((s.core c).pc + 8)) rd v)
  rw [issue_ready hr, movedTo_core, hv] at he
  refine ⟨_, he.trans (ran_same ?_), hmoved, hmem, ?_, ?_, ?_, ?_⟩
  · rw [core_setCore_self, hid]
  · intro i
    simp
  · simp
  · simp
  · intro r
    simp only [core_setCore_self, setG_g, moved_g]

/-- Settles O33: each row of Table 13.5 by the value of its word operation. -/
theorem immediateOperations : Obligations.ImmediateOperations := by
  intro s c rd r1 imm amt lit x
  refine ⟨fun hr => ⟨?addi, ?andi, ?ori, ?xori, ?slti, ?sltiu, ?sll, ?srl, ?sra, ?illegal⟩, fun hr => ⟨?litl, ?lith⟩⟩
  case addi => exact writesG_of hr rfl (addImm_eq x imm)
  case andi => exact writesG_of hr rfl (andImm_eq x imm)
  case ori => exact writesG_of hr rfl (orImm_eq x imm)
  case xori => exact writesG_of hr rfl (xorImm_eq x imm)
  case slti => exact writesG_of hr rfl rfl
  case sltiu => exact writesG_of hr rfl (ult_value x (imm.signExtend 64))
  case sll => exact writesG_of hr rfl (shiftLeft_eq_ofNat x amt)
  case srl => exact writesG_of hr rfl (ushiftRight_eq_ofNat x amt)
  case sra => exact writesG_of hr rfl (sshiftRight_eq_ofInt x amt)
  case illegal => exact congrArg (s.ran c) (issue_exc hr.1 (by omega) _ _ _ _)
  case litl => exact writesG_literal (w := fun _ => lit.signExtend 64) hr rfl (ofInt_toInt_signExtend lit 64).symm
  case lith => exact writesG_literal (w := fun k => BitVec.ofNat 64 ((k.g rd).toNat % 4294967296 + 4294967296 * lit.toNat)) hr rfl (lith_eq _ lit)

end Sys2Proof.Machine
end

section
/-! The accumulators and the special registers of the policy cores (R544, R546). -/

namespace Sys2Proof.Machine
open Sys2Proof
set_option Elab.async false

/-! Clamped values (Table 13.7). -/

theorem clampI_eq {lo hi : Int} (h : lo ≤ hi) (x : Int) : clampI lo hi x = max lo (min hi x) := by
  unfold clampI
  split
  · rw [min_eq_right (by omega), max_eq_left (by omega)]
  · split
    · rw [min_eq_left (by omega), max_eq_right h]
    · rw [min_eq_right (by omega), max_eq_right (by omega)]

theorem clampI_ne {lo hi x : Int} (_ : lo ≤ hi) : (clampI lo hi x != x) = true ↔ x < lo ∨ hi < x := by
  rw [bne_iff_ne]
  unfold clampI
  split <;> [skip; split] <;> omega

theorem sat96_value (x : Int) : (sat96 x).1 = near96 x := congrArg (BitVec.ofInt 96) (clampI_eq (by decide) x)

theorem sat96_clamped (x : Int) : (sat96 x).2 = true ↔ Outside 96 x :=
  (clampI_ne (by decide)).trans (or_congr Iff.rfl Int.sub_one_lt_iff)

theorem sat64_value (x : Int) : (sat64 x).1 = BitVec.ofInt 64 (max (-(2 ^ 63)) (min (2 ^ 63 - 1) x)) :=
  congrArg (BitVec.ofInt 64) (clampI_eq (by decide) x)

theorem sat64_clamped (x : Int) : (sat64 x).2 = true ↔ x < -(2 ^ 63) ∨ 2 ^ 63 ≤ x :=
  (clampI_ne (by decide)).trans (or_congr Iff.rfl Int.sub_one_lt_iff)

/-! Products and parts of an accumulator. -/

theorem product32_toInt (x y : DWord) : (product32 x y).toInt = mulq x y := by
  rw [product32, BitVec.toInt_sshiftRight, toInt_signExtend_mul, Int.shiftRight_eq_div_pow]
  rfl

theorem mulq_low (x y : DWord) : BitVec.ofInt 96 (mulq x y) = (product32 x y).extractLsb' 0 96 := by
  rw [extractLsb'_eq_ofInt _ (by decide), product32_toInt, Int.pow_zero, Int.ediv_one]

theorem signExtend_shiftLeft (x : DWord) : x.signExtend 96 <<< 32 = BitVec.ofInt 96 (x.toInt * 2 ^ 32) := by
  rw [BitVec.ofInt_mul, ofInt_toInt_signExtend, BitVec.shiftLeft_eq_mul_twoPow]
  rfl

theorem aldr_eq (x y : DWord) : BitVec.ofNat 96 (x.toNat + 18446744073709551616 * (y.toNat % 4294967296))
    = (y.extractLsb' 0 32 ++ x : BitVec (32 + 64)) := by
  refine BitVec.eq_of_toNat_eq ?_
  rw [BitVec.toNat_append, BitVec.extractLsb'_toNat, BitVec.toNat_ofNat, Nat.shiftRight_zero,
    ← Nat.shiftLeft_add_eq_or_of_lt x.isLt, Nat.shiftLeft_eq]
  have := x.isLt
  omega

theorem ardl_eq (b : BitVec 96) : BitVec.ofNat 64 b.toNat = b.extractLsb' 0 64 := rfl

theorem ardh_eq (b : BitVec 96) : BitVec.ofInt 64 (b.toInt / 18446744073709551616) = (b.extractLsb' 64 32).signExtend 64 := by
  rw [← ofInt_toInt_signExtend, extractLsb'_eq_ofInt _ (by decide), BitVec.toInt_ofInt]
  have h1 := b.toInt_lt
  have h2 := b.le_toInt
  rw [Int.bmod_eq_of_le (by omega) (by omega)]
  rfl

/-- An instruction that gives an accumulator a value that it does not clamp. -/
theorem writesAcc_plain {i : Instr} {s : State} {c cyc ad : Nat} {v : BitVec 96} {w : IkCore → BitVec 96} (hr : Ready s c 4)
    (he : exec i s = s.ran c (s.issueReg c cyc none (fun k => k.setAcc ad (w k))))
    (hv : w ((s.core c).moved cyc ((s.core c).pc + 4)) = v) : WritesAcc i s c cyc ad v False :=
  writesAcc_of (b := fun _ => false) hr he hv (by simp)

/-- An instruction that gives an accumulator the clamp of an exact value. -/
theorem writesAcc_sat {i : Instr} {s : State} {c cyc ad : Nat} {v : Int} {w : IkCore → Int} (hr : Ready s c 4)
    (he : exec i s = s.ran c (s.issueReg c cyc none (fun k => k.setSatAcc ad (sat96 (w k)))))
    (hv : w ((s.core c).moved cyc ((s.core c).pc + 4)) = v) : WritesAcc i s c cyc ad (near96 v) (Outside 96 v) :=
  writesAcc_of (w := fun k => (sat96 (w k)).1) (b := fun k => (sat96 (w k)).2) hr he (by rw [hv, sat96_value]) (by rw [hv, sat96_clamped])

/-- Settles O37: each row of Table 13.7 by the exact value that it clamps or keeps. -/
theorem accumulatorOperations : Obligations.AccumulatorOperations := by
  intro s c ad asr r1 r2 hr x y a b p
  have hp : mulq x y = p.toInt := (product32_toInt x y).symm
  refine ⟨?aclr, ?ald, ?aldi, ?aldr, ?aadd, ?asub, ?amov, ?mulq, ?macq, ?msuq, ?ashr, ?ashl, ?ardl, ?ardh, ?ard⟩
  case aclr => exact writesAcc_plain hr rfl rfl
  case ald => exact writesAcc_plain hr rfl rfl
  case aldi => exact writesAcc_plain hr rfl (signExtend_shiftLeft x)
  case aldr => exact writesAcc_plain hr rfl (aldr_eq x y)
  case aadd => exact writesAcc_sat hr rfl rfl
  case asub => exact writesAcc_sat hr rfl rfl
  case amov => exact writesAcc_plain hr rfl rfl
  case mulq => exact writesAcc_plain hr rfl (mulq_low x y)
  case macq => exact writesAcc_sat hr rfl (congrArg (a.toInt + ·) hp)
  case msuq => exact writesAcc_sat hr rfl (congrArg (a.toInt - ·) hp)
  case ashr => exact writesAcc_plain hr rfl (sshiftRight_eq_ofInt a r1)
  case ashl => exact writesAcc_sat hr rfl rfl
  case ardl => exact writesG_of hr rfl (ardl_eq b)
  case ardh => exact writesG_of hr rfl (ardh_eq b)
  case ard =>
    obtain ⟨t, ht, hmoved, hmem, hcore⟩ := ran_issueReg hr 1 (fun k => (k.setG r1 (sat64 (k.acc asr).toInt).1).sat (sat64 (k.acc asr).toInt).2)
      (bankOnly_sat _ (bankOnly_setG _ _ _))
    refine ⟨t, ht, hmoved, hmem, fun i => ?_, ?_, ?_, fun r => ?_⟩
    · simp [hcore]
    · simp [hcore]
    · simp only [hcore, sat_flags, setG_flags, moved_flags, moved_acc, sat64_clamped]
      split <;> simp [*]
    · simp only [hcore, sat_g, setG_g, moved_acc, moved_g, sat64_value]
      rfl

/-! Special registers (Table 12.2). -/

theorem waiting_of_canIssue {s : State} {c : Nat} (h : s.canIssue c = true) : (s.core c).waiting = false := by
  simp only [State.canIssue, Bool.and_eq_true, Bool.not_eq_true'] at h
  exact h.1.1.2

/-- The cycles left of the budget of the level that runs, of a core that is not at a wait. -/
theorem special_budget {s : State} {c : Nat} (h : (s.core c).waiting = false) :
    s.special c 5 = if (s.core c).level = 2 then s.rf Reg.IK_BUDGET_BUDGET_U - (s.core c).cntU
      else s.rf Reg.IK_BUDGET_BUDGET_N - (s.core c).cntN := by
  simp only [State.special, h, Bool.false_and, Bool.false_eq_true, if_false]

theorem special_unlisted (s : State) (c : Nat) {n : Nat} (h : 10 ≤ n) : s.special c n = 0 := by
  unfold State.special
  split
  case h_11 => rfl
  all_goals exact absurd h (by decide)

theorem bankOnly_qsel (k : IkCore) (q : Nat) : BankOnly k { k with qsel := q } := ⟨rfl, by split <;> rfl, rfl⟩

/-- An instruction that gives qsel a value and changes no other register. -/
theorem writesQsel_of {i : Instr} {s : State} {c q : Nat} {f : IkCore → IkCore} (hr : Ready s c 4)
    (he : exec i s = s.ran c (s.issueReg c 1 none f))
    (hf : f ((s.core c).moved 1 ((s.core c).pc + 4)) = { (s.core c).moved 1 ((s.core c).pc + 4) with qsel := q }) :
    Yields i s (fun t => CoreMoved s t c 1 ((s.core c).pc + 4) ∧ MemKept s t c ∧ GKept s t c ∧ AccKept s t c
      ∧ (t.core c).flags = (s.core c).flags ∧ (t.core c).qsel = q) := by
  obtain ⟨t, ht, hmoved, hmem, hcore⟩ := ran_issueReg hr 1 f (hf ▸ bankOnly_qsel _ q)
  rw [hf] at hcore
  refine ⟨t, he.trans ht, hmoved, hmem, fun r => ?_, fun i => ?_, ?_, ?_⟩ <;> rw [hcore] <;> rfl

/-- Settles O39: each instruction by the special register, message register or immediate that it names. -/
theorem specialRegisters : Obligations.SpecialRegisters := by
  intro s c rd r1 n set hr k x
  have hwait := waiting_of_canIssue hr.1
  refine ⟨fun v hv => ?listed, fun l cause hl hk => ?cause, ?budget, fun hn => ?unlisted, ?qsel, ?flags, fun h2 h6 => ?other, fun i => ?mfm,
    ?set⟩
  case listed =>
    simp only [List.mem_cons, Prod.mk.injEq, List.not_mem_nil, or_false] at hv
    rcases hv with ⟨rfl, rfl⟩ | ⟨rfl, rfl⟩ | ⟨rfl, rfl⟩ | ⟨rfl, rfl⟩ | ⟨rfl, rfl⟩ | ⟨rfl, rfl⟩ | ⟨rfl, rfl⟩ | ⟨rfl, rfl⟩ <;>
      exact writesG_of hr rfl rfl
  case cause =>
    have hc : s.special c 3 = k.hcause := rfl
    refine writesG_of hr rfl (congrArg (BitVec.ofNat 64) (hc.trans ?_))
    simp only [List.mem_cons, Prod.mk.injEq, List.not_mem_nil, or_false] at hl
    rcases hl with ⟨rfl, rfl⟩ | ⟨rfl, rfl⟩ | ⟨rfl, rfl⟩ <;> simp only [IkCore.hcause, hk]
  case budget => exact writesG_of hr rfl (congrArg (BitVec.ofNat 64) (special_budget hwait))
  case unlisted => exact writesG_of hr rfl (congrArg (BitVec.ofNat 64) (special_unlisted s c hn))
  case qsel => exact writesQsel_of hr rfl rfl
  case flags => exact writesFlags_of (w := fun k => BitVec.ofNat 5 (k.g r1).toNat) hr rfl rfl
  case other =>
    refine writesG_of (w := fun _ => 0) hr ?_ rfl
    change execIkMts c n r1 s = _
    rw [execIkMts]
    congr 2
    funext k
    have h2 : n.val ≠ 2 := fun h => h2 (Fin.ext h)
    have h6 : n.val ≠ 6 := fun h => h6 (Fin.ext h)
    exact (if_neg h2).trans (if_neg h6)
  case mfm =>
    split
    · next h =>
      refine writesG_of (w := fun k => k.m i) hr ?_ rfl
      change execIkMfm c rd i s = _
      rw [execIkMfm, if_neg (by omega)]
    · next h =>
      change execIkMfm c rd i s = _
      rw [execIkMfm, if_pos (by omega)]
      exact congrArg (s.ran c) (issue_exc hr.1 (by omega) _ _ _ _)
  case set => exact writesQsel_of hr rfl rfl

end Sys2Proof.Machine
end

section
/-! Data accesses that trap and the control transfers of the policy cores (R542, R545). -/

namespace Sys2Proof.Machine
open Sys2Proof
set_option Elab.async false

theorem coreMoved_pc {s t : State} {c cyc pc : Nat} (h : CoreMoved s t c cyc pc) : (t.core c).pc = pc := by
  obtain ⟨-, -, -, hc, -, -⟩ := h
  exact congrArg IkCore.pc hc

/-! The accesses that Table 12.3 does not permit. -/

theorem region_text {a : Nat} (h : a < 0x10000) : region a = 0 := if_pos h

theorem region_none {a : Nat} (h : ¬ (Readable a ∨ a < 0x10000)) : region a = 4 := by
  unfold region
  simp only [Readable] at h
  rw [if_neg (by omega), if_neg (by omega), if_neg (by omega), if_neg (by omega)]

theorem loadExc_daddr {a n : Nat} (h : ¬ Readable a ∨ a % n ≠ 0) : loadExc a n = some 3 := by
  unfold loadExc
  refine if_neg (fun ⟨ha, hr⟩ => ?_)
  have hn : ¬ Readable a := h.resolve_right (not_not_intro ha)
  by_cases ht : a < 0x10000
  · rw [region_text ht] at hr
    omega
  · rw [region_none (not_or.mpr ⟨hn, ht⟩)] at hr
    omega

theorem storeExc_daddr {a n : Nat} (h : a % n ≠ 0 ∨ ¬ (Writable a ∨ a < 0x10000 ∨ (0x120000 ≤ a ∧ a < 0x120100))) : storeExc a n = some 3 :=
  if_pos (h.imp_right (fun h => region_none (by unfold Readable; unfold Writable at h; omega)))

theorem storeExc_readOnly {a n : Nat} (ha : a % n = 0) (h : a < 0x10000 ∨ (0x120000 ≤ a ∧ a < 0x120100)) : storeExc a n = some 4 := by
  unfold storeExc
  rcases h with h | h
  · simp [ha, region_text h]
  · simp [ha, region_launch h]

/-- A load traps or completes as its address allows. -/
theorem load_outcomes {i : Instr} {s : State} {c : Fin 8} {n : Nat} {rt rb : Fin 32} {off : BitVec 15} {sgn : Bool} (hn : n ∣ 256)
    (he : exec i s = s.ran c (s.load c rt rb off n sgn)) (hi : s.canIssue c = true) (hp : (s.core c).pc < (s.core c).textLen) :
    ((¬ Readable (dataAddr s c rb off) ∨ dataAddr s c rb off % n ≠ 0) → Excepts i s c 3)
      ∧ (Readable (dataAddr s c rb off) → dataAddr s c rb off % n = 0 → (s.core c).pc + 4 < (s.core c).textLen →
        Yields i s (fun t => (t.core c).pc = (s.core c).pc + 4)) := by
  refine ⟨fun h => he.trans (congrArg (s.ran c) ?_), fun h ha hp4 => ?_⟩
  · have hx : loadExc (effAddr (s.core c) rb off) n = some 3 := loadExc_daddr h
    rw [State.load, hx]
    exact issue_exc hi hp _ _ _ _
  · obtain ⟨t, ht, hm, -⟩ := loadsTo_of hn he rfl ⟨hi, hp4⟩ h ha
    exact ⟨t, ht, coreMoved_pc hm⟩

/-- A store traps or completes as its address allows. -/
theorem store_outcomes {i : Instr} {s : State} {c : Fin 8} {n : Nat} {rt rb : Fin 32} {off : BitVec 15} (hn : n ∣ 256)
    (he : exec i s = s.ran c (s.store c rt rb off n)) (hi : s.canIssue c = true) (hp : (s.core c).pc < (s.core c).textLen) :
    let a := dataAddr s c rb off
    ((a % n ≠ 0 ∨ ¬ (Writable a ∨ a < 0x10000 ∨ (0x120000 ≤ a ∧ a < 0x120100))) → Excepts i s c 3)
      ∧ (a % n = 0 → (a < 0x10000 ∨ (0x120000 ≤ a ∧ a < 0x120100)) → Excepts i s c 4)
      ∧ (Writable a → a % n = 0 → (s.core c).pc + 4 < (s.core c).textLen → Yields i s (fun t => (t.core c).pc = (s.core c).pc + 4)) := by
  intro a
  have traps {e : Nat} (hx : storeExc (effAddr (s.core c) rb off) n = some e) : Excepts i s c e := by
    refine he.trans (congrArg (s.ran c) ?_)
    rw [State.store, hx]
    exact issue_exc hi hp _ _ _ _
  refine ⟨fun h => traps (storeExc_daddr h), fun ha h => traps (storeExc_readOnly ha h), fun h ha hp4 => ?_⟩
  obtain ⟨t, ht, hm, -⟩ := storesAt_of hn he ⟨hi, hp4⟩ h ha
  exact ⟨t, ht, coreMoved_pc hm⟩

/-- Settles O36: every load and every store of Table 13.6 by its width. -/
theorem dataAccessExceptions : Obligations.DataAccessExceptions := by
  intro s c rt rb off hi hp a loads stores
  refine ⟨fun e he => ?_, fun e he => ?_⟩
  · simp only [loads, List.mem_cons, List.not_mem_nil, or_false] at he
    rcases he with rfl | rfl | rfl | rfl | rfl | rfl | rfl <;> exact load_outcomes (by dsimp only; decide) rfl hi hp
  · simp only [stores, List.mem_cons, List.not_mem_nil, or_false] at he
    rcases he with rfl | rfl | rfl | rfl <;> exact store_outcomes (by dsimp only; decide) rfl hi hp

/-! Control transfers (R545). -/

theorem spend_core (s : State) (c cyc : Nat) : (s.spend c cyc).core c = (s.core c).moved cyc (s.core c).pc := by
  unfold State.spend IkCore.moved
  simp only [core_setCore_self]
  split <;> simp

theorem setG_withPc (k : IkCore) (r : Nat) (v : DWord) (pc : Nat) : { k.setG r v with pc := pc } = ({ k with pc := pc } : IkCore).setG r v := by
  unfold IkCore.setG IkCore.setBank IkCore.bank
  split
  · rfl
  · split <;> rfl

/-- A core that has spent its cycles and takes its place in one change keeps the frame of an instruction. -/
theorem coreMoved_spend {s : State} {c : Nat} (cyc pc : Nat) {k' : IkCore} (h : BankOnly ((s.core c).moved cyc pc) k') :
    CoreMoved s ((s.spend c cyc).setCore c k') c cyc pc ∧ MemKept s ((s.spend c cyc).setCore c k') c
      ∧ k'.launchId = (s.core c).launchId := by
  obtain ⟨h1, h2, h3⟩ := h
  refine ⟨⟨rfl, rfl, fun d hd => ?_, ?_, ?_, ?_⟩, ⟨?_, rfl⟩, ?_⟩
  · rw [core_setCore_ne _ _ hd, State.spend, core_setCore_ne _ _ hd]
    rfl
  · rw [core_setCore_self, h1]
    rfl
  · rw [core_setCore_self]
    exact h2
  · rw [core_setCore_self]
    exact h3
  · rw [core_setCore_self, h1]
    rfl
  · rw [h1]
    rfl

/-- An instruction that goes on outside the text. -/
theorem jump_out {s : State} {c : Nat} (hi : s.canIssue c = true) (hp : (s.core c).pc < (s.core c).textLen) {b : Bool} {target : Int}
    {f : IkCore → IkCore} (h : (if b then target else ((s.core c).pc : Int) + 4) % 4 ≠ 0 ∨ (if b then target else ((s.core c).pc : Int) + 4) < 0
      ∨ ((s.core c).textLen : Int) ≤ if b then target else ((s.core c).pc : Int) + 4) : s.jump c b target f = s.coreFault c 2 := by
  unfold State.jump
  rw [if_neg (by simp [hi]), if_neg (by omega), if_pos (by omega)]

/-- An instruction that goes on inside the text. -/
theorem jump_in {s : State} {c : Nat} (hi : s.canIssue c = true) (hp : (s.core c).pc < (s.core c).textLen) {b : Bool} {target into : Int}
    {f : IkCore → IkCore} (hb : (if b then target else ((s.core c).pc : Int) + 4) = into) (h4 : into % 4 = 0) (h0 : 0 ≤ into)
    (ht : into < (s.core c).textLen) : s.jump c b target f = (s.spend c 1).setCore c { f ((s.spend c 1).core c) with pc := into.toNat } := by
  unfold State.jump
  simp only [hb]
  rw [if_neg (by simp [hi]), if_neg (by omega), if_neg (by omega)]

/-- A jump or a branch, by the condition that it tests and the register that it links. -/
theorem transfers_of {i : Instr} {s : State} {c : Fin 8} {taken : Prop} {b : Bool} {target : Int} {link : Nat} (hb : b = true ↔ taken)
    (he : exec i s = s.ran c (s.jump c b target (fun k => k.setG link (BitVec.ofNat 64 ((s.core c).pc + 4))))) :
    Transfers i s c taken target link := by
  intro hi hp into hin hout
  have hgoes : (if b then target else ((s.core c).pc : Int) + 4) = into := by
    by_cases h : b = true
    · rw [if_pos h, hin (hb.mp h)]
    · rw [if_neg h, hout (fun ht => h (hb.mpr ht))]
  refine ⟨fun h => ?_, fun h4 h0 ht => ?_⟩
  · rw [← hgoes] at h
    exact he.trans (congrArg (s.ran c) (jump_out hi hp h))
  · obtain ⟨hmoved, hmem, hid⟩ := coreMoved_spend 1 into.toNat
      (bankOnly_setG ((s.core c).moved 1 into.toNat) link (BitVec.ofNat 64 ((s.core c).pc + 4)))
    rw [jump_in hi hp hgoes h4 h0 ht, setG_withPc, spend_core] at he
    refine ⟨_, he.trans (ran_same ?_), hmoved, hmem, fun j => ?_, ?_, ?_, fun r => ?_⟩
    · rw [core_setCore_self]
      exact hid
    all_goals rw [core_setCore_self]
    · exact setG_acc _ _ _ _
    · exact setG_flags _ _ _
    · exact setG_qsel _ _ _
    · exact setG_g _ _ _ _

/-- An instruction that falls through past the text. -/
theorem issue_past {s : State} {c : Nat} (hi : s.canIssue c = true) (hp : (s.core c).pc < (s.core c).textLen) {len : Nat}
    (h : (s.core c).textLen ≤ (s.core c).pc + len) (cyc : Nat) (act : State → State) : s.issue c cyc len none act = s.coreFault c 2 := by
  have h3 : ¬ (s.core c).textLen ≤ (s.core c).pc := by omega
  simp [State.issue, hi, h3, h]

/-- Settles O38: each row of Table 13.8 by its condition and its link; NOP and the literals by where they fall through to. -/
theorem controlTransfers : Obligations.ControlTransfers := by
  intro s c ra rb off lit x y into
  refine ⟨?beq, ?bne, ?blt, ?bge, ?bltu, ?bgeu, ?jal, ?jalr, fun hi hp => ⟨fun h => ?last, fun h => ?nop, fun h => ⟨?litl, ?lith⟩⟩⟩
  case beq => exact transfers_of beq_iff_eq rfl
  case bne => exact transfers_of bne_iff_ne rfl
  case blt => exact transfers_of decide_eq_true_iff rfl
  case bge => exact transfers_of (by rw [Bool.not_eq_true', decide_eq_false_iff_not, not_lt]) rfl
  case bltu => exact transfers_of decide_eq_true_iff rfl
  case bgeu => exact transfers_of (by rw [Bool.not_eq_true', decide_eq_false_iff_not, not_lt]) rfl
  case jal => exact transfers_of (by simp) rfl
  case jalr => exact transfers_of (by simp) rfl
  case last => exact congrArg (s.ran c) (issue_past hi hp h _ _)
  case nop => exact writesG_of (w := fun _ => 0) ⟨hi, h⟩ rfl rfl
  case litl => exact congrArg (s.ran c) (issue_past hi hp h _ _)
  case lith => exact congrArg (s.ran c) (issue_past hi hp h _ _)

end Sys2Proof.Machine
end

section
/-! The instructions of the policy cores that act on the queues, the devices, the records and the registers (R547 to R554). -/

namespace Sys2Proof.Machine
open Sys2Proof
set_option Elab.async false

/-! Instructions that leave a result in rd (R547). -/

/-- A queue instruction inside the text acts after its four cycles. -/
theorem queueOp_ready {s : State} {c : Nat} (hr : Ready s c 4) (rd : Nat) (f : State → Nat × State) :
    s.queueOp c rd none f = ((f (s.movedTo c 4 ((s.core c).pc + 4))).2.setCore c
      (((f (s.movedTo c 4 ((s.core c).pc + 4))).2.core c).setG rd (BitVec.ofNat 64 (f (s.movedTo c 4 ((s.core c).pc + 4))).1))) :=
  issue_ready hr _ _

theorem actsWith_of {i : Instr} {s : State} {c : Nat} {rd : Fin 32} {f g : State → Nat × State} (hr : Ready s c 4)
    (he : exec i s = s.ran c (s.queueOp c rd none f)) (hf : ∀ x, f x = g x) : ActsWith i s c 4 rd g := by
  rw [queueOp_ready hr, hf] at he
  exact he

/-- A queue instruction that is refused before it acts only gives rd its result. -/
theorem writesG_queueOp {i : Instr} {s : State} {c : Nat} {rd : Fin 32} {f : State → Nat × State} {n : Nat} {v : DWord} (hr : Ready s c 4)
    (he : exec i s = s.ran c (s.queueOp c rd none f)) (hf : ∀ x, x.me = s.me → x.regs = s.regs → f x = (n, x)) (hv : BitVec.ofNat 64 n = v) :
    WritesG i s c 4 4 rd v := by
  obtain ⟨l, hl⟩ := movedTo_eq s c 4 ((s.core c).pc + 4)
  have hx := hf (s.movedTo c 4 ((s.core c).pc + 4)) (by rw [hl]) (by rw [hl])
  refine writesG_of (w := fun _ => v) hr (he.trans (congrArg (s.ran c) ?_)) rfl
  rw [queueOp_ready hr, hx, State.issueReg, issue_ready hr]
  simp only [hv]

theorem excepts_queueOp {i : Instr} {s : State} {c rd : Nat} {f : State → Nat × State} {e : Nat} (hr : Ready s c 4)
    (he : exec i s = s.ran c (s.queueOp c rd (some e) f)) : Excepts i s c e :=
  he.trans (congrArg (s.ran c) (issue_exc hr.1 (by omega) _ _ _ _))

/-! SEND (R462 to R466, R548). -/

/-- The message that SEND makes of its registers. -/
def sendMsg (k : IkCore) (c : Nat) (r1 r2 : Nat) : QMsg :=
  { tag := bitsOf (k.g r1).toNat 31 16, source := c, p0 := k.g r2, p1 := k.g (r2 + 1), p2 := k.g (r2 + 2) }

/-- SEND of a legal form, by the two conditions on rs1 and the mode. -/
theorem execIkSend_eq {s : State} {c : Fin 8} {rd r1 r2 : Fin 32} {mode : Fin 4} (hm : mode ≠ 3) (h2 : r2.val ≤ 29) :
    exec (.ikSend c rd r1 r2 mode) s = s.ran c (s.queueOp c rd none (fun x =>
      if ((s.core c).g r1).toNat / 2 ^ 32 ≠ 0 ∨ (mode ≠ 0 ∧ 8191 < ((s.core c).g r1).toNat % 2 ^ 16) then (resBadtag, x)
      else if mode = 0 then x.sendDest c (((s.core c).g r1).toNat % 2 ^ 16) (sendMsg (s.core c) c r1 r2)
      else x.sendChan (((s.core c).g r1).toNat % 2 ^ 16) c (mode == 2) (sendMsg (s.core c) c r1 r2))) := by
  have h : ¬ (mode = 3 ∨ 29 < r2.val) := by
    rintro (h | h)
    · exact hm h
    · omega
  change execIkSend c rd r1 r2 mode s = _
  simp only [execIkSend, if_neg h]
  rfl

theorem send_badtag {s : State} {c : Fin 8} {rd r1 r2 : Fin 32} {mode : Fin 4} (hr : Ready s c 4) (hm : mode ≠ 3) (h2 : r2.val ≤ 29)
    (ha : 2 ^ 32 ≤ ((s.core c).g r1).toNat) : WritesG (.ikSend c rd r1 r2 mode) s c 4 4 rd 7 :=
  writesG_queueOp hr (execIkSend_eq hm h2) (fun _ _ _ => if_pos (.inl (by omega))) rfl

/-- A datagram's instruction sends to its DEST. -/
theorem execIkSend_dest {s : State} {c : Fin 8} {rd r1 r2 : Fin 32} (h2 : r2.val ≤ 29) (ha : ((s.core c).g r1).toNat < 2 ^ 32) :
    exec (.ikSend c rd r1 r2 0) s = s.ran c (s.queueOp c rd none (fun x =>
      x.sendDest c (((s.core c).g r1).toNat % 2 ^ 16) (sendMsg (s.core c) c r1 r2))) := by
  have h : ¬ (((s.core c).g r1).toNat / 2 ^ 32 ≠ 0 ∨ ((0 : Fin 4) ≠ 0 ∧ 8191 < ((s.core c).g r1).toNat % 2 ^ 16)) := by
    rintro (h | h)
    · omega
    · exact h.1 rfl
  rw [execIkSend_eq (by decide) h2]
  simp only [if_neg h, if_true]

theorem execIkSend_chan {s : State} {c : Fin 8} {rd r1 r2 : Fin 32} {mode : Fin 4} (hm : mode = 1 ∨ mode = 2) (h2 : r2.val ≤ 29)
    (ha : ((s.core c).g r1).toNat < 2 ^ 32) (hc : ((s.core c).g r1).toNat % 2 ^ 16 ≤ 8191) :
    exec (.ikSend c rd r1 r2 mode) s = s.ran c (s.queueOp c rd none (fun x =>
      x.sendChan (((s.core c).g r1).toNat % 2 ^ 16) c (mode == 2) (sendMsg (s.core c) c r1 r2))) := by
  have h : ¬ (((s.core c).g r1).toNat / 2 ^ 32 ≠ 0 ∨ (mode ≠ 0 ∧ 8191 < ((s.core c).g r1).toNat % 2 ^ 16)) := by omega
  have h0 : mode ≠ 0 := by
    rintro rfl
    exact absurd hm (by decide)
  rw [execIkSend_eq (by rintro rfl; exact absurd hm (by decide)) h2]
  simp only [if_neg h, if_neg h0]

/-- A DEST of class 0 names a queue. -/
theorem sendDest_queue (x : State) (c : Nat) {q : Nat} (hq : q < 4096) (m : QMsg) : x.sendDest c q m = x.sendQueue q m := by
  have h1 : q / 2 ^ 14 % 4 = 0 := by omega
  have h2 : bitsOf q 13 12 = 0 := by
    unfold bitsOf
    omega
  simp only [State.sendDest, h1, h2, Nat.mod_eq_of_lt hq, ne_eq, not_true_eq_false, if_false, if_true, Nat.zero_ne_one]

/-! The other queue instructions. -/

theorem recv_regs_iff (rd : Fin 32) : rd.val ∈ [4, 8, 12, 16, 20, 24, 28] ↔ ¬ (rd.val = 0 ∨ rd.val % 4 ≠ 0) := by
  simp only [List.mem_cons, List.not_mem_nil, or_false]
  omega

/-- Settles O44: each instruction by the conditions on its operands; what it then does is its queue operation. -/
theorem queueInstructionsComplete : Obligations.QueueInstructionsComplete := by
  intro s c rd r1 r2 mode hr k a m
  refine ⟨fun h2 ha => ⟨?datagram, fun hc hm => ?channel⟩, ?recv, ?chopen, ?chclose⟩
  case datagram => exact actsWith_of hr (execIkSend_dest h2 ha) (fun _ => rfl)
  case channel => exact actsWith_of hr (execIkSend_chan hm h2 ha hc) (fun _ => rfl)
  case recv =>
    rw [if_congr (recv_regs_iff rd) rfl rfl]
    split
    · next h =>
      change execIkRecv c rd r1 s = _
      simp only [execIkRecv, if_neg h]
      rw [issue_ready hr]
    · next h =>
      change execIkRecv c rd r1 s = _
      simp only [execIkRecv, if_pos (not_not.mp h)]
      rw [issue_exc hr.1 (by omega)]
  case chopen =>
    split
    · next h =>
      have h0 : ¬ a / 2 ^ 12 ≠ 0 := by omega
      exact actsWith_of (f := fun x => if a / 2 ^ 12 ≠ 0 then (0xFFFF + 2 ^ 16 * resBadtag, x) else
        ((if (x.chanOpen c c a).1 = resOk then (x.chanOpen c c a).2.1 else 0xFFFF) + 2 ^ 16 * (x.chanOpen c c a).1, (x.chanOpen c c a).2.2))
        hr rfl (fun x => if_neg h0)
    · next h => exact writesG_queueOp (n := 0x7FFFF) hr rfl (fun x _ _ => if_pos (show a / 2 ^ 12 ≠ 0 by omega)) rfl
  case chclose =>
    split
    · next h => exact actsWith_of hr rfl (fun x => if_neg (show ¬ a / 2 ^ 13 ≠ 0 by omega))
    · next h => exact writesG_queueOp (n := 7) hr rfl (fun x _ _ => if_pos (show a / 2 ^ 13 ≠ 0 by omega)) rfl

end Sys2Proof.Machine
end

section
/-! What a datagram leaves in its queue (R462 to R466), the device writes (R552), and LOGEV and DRD (R553, R554). -/

namespace Sys2Proof.Machine
open Sys2Proof
set_option Elab.async false

/-! Results left in rd. -/

/-- An action that leaves the policy cores as they are completes its instruction, which gives rd its result. -/
theorem ran_setG {s y : State} {c cyc pc : Nat} (hy : y.ik = (s.movedTo c cyc pc).ik) (rd : Nat) (v : DWord) :
    let t := y.setCore c ((y.core c).setG rd v)
    s.ran c t = .next t ∧ MemKept s t c ∧ AccKept s t c ∧ ∀ r, (t.core c).g r = if r = rd ∧ r ≠ 0 then v else (s.core c).g r := by
  intro t
  have hc : y.core c = (s.core c).moved cyc pc := by
    rw [State.core, hy]
    exact movedTo_core s c cyc pc
  have ht : t.core c = ((s.core c).moved cyc pc).setG rd v := by rw [core_setCore_self, hc]
  obtain ⟨-, hmem, hid⟩ := coreMoved_setCore cyc pc (bankOnly_setG ((s.core c).moved cyc pc) rd v)
  refine ⟨ran_same (by rw [ht, hid]), ⟨?_, ?_⟩, fun i => ?_, fun r => ?_⟩
  · rw [ht, ← hmem.1, core_setCore_self]
  · exact (congrArg Ikiva.table hy).trans (movedTo_table s c cyc pc)
  · rw [ht]
    simp
  · rw [ht, setG_g, moved_g]

/-! Observed events leave the queues and the registers. -/

/-- A view that sees neither the counters nor the draws sees nothing of a counted event. -/
theorem count_keeps {β : Type} {g : State → β} (hob : ∀ (s : State) o, g { s with ob := o } = g s)
    (hfree : ∀ (s : State) n, g { s with free := n } = g s) (s : State) (src : Nat) (t : ObsTags) : g (s.count src t) = g s := by
  unfold State.count
  split
  · refine foldl_keeps g _ _ (fun x i => ?_) s
    dsimp only
    split
    · split
      · exact hob _ _
      · exact (hob _ _).trans (hfree _ _)
    · rfl
  · rfl

@[simp] theorem count_me (s : State) (src : Nat) (t : ObsTags) : (s.count src t).me = s.me :=
  count_keeps (g := State.me) (fun _ _ => rfl) (fun _ _ => rfl) s src t

@[simp] theorem count_regs (s : State) (src : Nat) (t : ObsTags) : (s.count src t).regs = s.regs :=
  count_keeps (g := State.regs) (fun _ _ => rfl) (fun _ _ => rfl) s src t

theorem qAccept_me (s : State) (q : Nat) (m : QMsg) : (s.qAccept q m).me = { s.me with
    queues := mput [] s.me.queues q (s.qMsgs q ++ [{ m with lost := mget false s.me.lost q }]), lost := mput false s.me.lost q false } :=
  count_me _ _ _

/-- A datagram dropped with POL out of reset leaves the queues, and marks the next one LOST (R466). -/
theorem qDrop_me {s : State} (h : s.inReset 3 = false) (q source : Nat) :
    (s.qDrop q source false).me = { s.me with lost := mput false s.me.lost q true } := by
  simp [State.qDrop, h, State.satAdd]

theorem qDrop_noted {s : State} (h : s.inReset 3 = false) (q source : Nat) : (s.qDrop q source false).rf Reg.ME_FELL_DROP = 1 := by
  have hk : (Reg.ME_QDROP_DROPS q).key ≠ Reg.ME_FELL_DROP.key := by
    simp only [Fld.key, Reg.ME_QDROP_DROPS, Reg.ME_QDROP, Reg.ME_FELL_DROP, Reg.ME_FELL]
    omega
  rw [State.rf, State.qDrop, count_regs]
  simp only [h, Bool.false_eq_true, if_false, Bool.or_self, State.emit_regs]
  exact (State.rf_wr_ne _ _ hk).trans (State.rf_wr_self _ _ _)

/-! A datagram to a queue (R456, R463 to R466). -/

theorem qAccepts_datagram (s : State) (q : Nat) : s.qAccepts q false = true ↔ s.rf (Reg.ME_QCFG_ACCEPT q) ≠ 1 := by
  unfold State.qAccepts
  split <;> simp_all

/-- The queue takes datagrams: it is enabled and not set for channels only (R463, Table 11.11). -/
abbrev TakesDatagrams (s : State) (q : Nat) : Prop := s.rb (Reg.ME_QCFG_ENABLE q) = true ∧ s.rf (Reg.ME_QCFG_ACCEPT q) ≠ 1

theorem sendQueue_reserved {s : State} {q : Nat} {m : QMsg} (hq : q < 16) (hm : m.source < 16) : s.sendQueue q m = (resBadtag, s) := by
  have h : sendTo q m.source = false := by simp [sendTo]; omega
  simp [State.sendQueue, h]

theorem sendQueue_closed {s : State} {q : Nat} {m : QMsg} (hq : 16 ≤ q) (h : ¬ TakesDatagrams s q) : s.sendQueue q m = (resClosed, s) := by
  have hto : sendTo q m.source = true := by simp [sendTo, hq]
  have hno : (!s.rb (Reg.ME_QCFG_ENABLE q) || !s.qAccepts q false) = true := by
    rw [TakesDatagrams, ← qAccepts_datagram] at h
    simpa [Decidable.imp_iff_not_or] using h
  simp only [State.sendQueue, hto, hno, Bool.not_true, Bool.false_eq_true, if_false, if_true]

/-- A datagram to a queue that takes it is appended where there is room, and else dropped. -/
theorem sendQueue_taken {s : State} {q : Nat} {m : QMsg} (hq : 16 ≤ q) (h : TakesDatagrams s q) (hr : s.inReset 3 = false) :
    s.sendQueue q m = if s.qLen q < s.qDepth q then (resOk, s.qAccept q { m with chan := false, cseq := 0, channel := 0xFFFF })
      else (resQfull, s.qDrop q m.source false) := by
  have hto : sendTo q m.source = true := by simp [sendTo, hq]
  have hno : (!s.rb (Reg.ME_QCFG_ENABLE q) || !s.qAccepts q false) = false := by simp [h.1, (qAccepts_datagram s q).mpr h.2]
  have hready : s.qReady q = true ↔ s.qLen q < s.qDepth q := by simp [State.qReady, hr]
  simp only [State.sendQueue, hto, hno, Bool.not_true, Bool.false_eq_true, if_false, hready]

theorem inReset_of_canIssue {s : State} {c : Nat} (h : s.canIssue c = true) : s.inReset 3 = false := by
  simp only [State.canIssue, Bool.and_eq_true, Bool.not_eq_true'] at h
  exact h.2

theorem movedTo_keeps_engine (s : State) (c cyc pc : Nat) : (s.movedTo c cyc pc).me = s.me ∧ (s.movedTo c cyc pc).regs = s.regs
    ∧ (s.movedTo c cyc pc).inReset 3 = s.inReset 3 ∧ (s.movedTo c cyc pc).qLen = s.qLen ∧ (s.movedTo c cyc pc).qDepth = s.qDepth := by
  obtain ⟨l, hl⟩ := movedTo_eq s c cyc pc
  rw [hl]
  exact ⟨rfl, rfl, rfl, rfl, rfl⟩

/-- Settles O43: the instruction sends to its queue, and what the queue does with a datagram turns on whether it takes datagrams and has
room. -/
theorem datagramResults : Obligations.DatagramResults := by
  intro s c rd r1 r2 mode hr a q took
  refine ⟨fun h => ?illegal, fun hm h2 ha => send_badtag hr hm h2 ha, fun h2 ha hq => ?reserved, fun h2 ha hq hlt => ?queue⟩
  case illegal =>
    change execIkSend c rd r1 r2 mode s = _
    simp only [execIkSend, if_pos h, State.queueOp]
    rw [issue_exc hr.1 (by omega)]
  case reserved =>
    have hsend (x : State) : x.sendDest c q (sendMsg (s.core c) c r1 r2) = (resBadtag, x) :=
      (sendDest_queue x c (by omega) _).trans (sendQueue_reserved hq (Nat.lt_trans c.isLt (by decide)))
    exact writesG_queueOp hr (execIkSend_dest h2 ha) (fun x _ _ => hsend x) rfl
  case queue =>
    have hdest (x : State) : x.sendDest c q (sendMsg (s.core c) c r1 r2) = x.sendQueue q (sendMsg (s.core c) c r1 r2) :=
      sendDest_queue x c hlt _
    have he := execIkSend_dest (c := c) (rd := rd) (r1 := r1) h2 ha
    have htag : bitsOf a 31 16 = a / 2 ^ 16 := Nat.mod_eq_of_lt (by omega)
    refine ⟨fun ht hroom => ?accepted, fun ht hfull => ?dropped, fun ht => ?closed⟩
    case closed =>
      refine writesG_queueOp hr he (fun x hme hregs => (hdest x).trans (sendQueue_closed hq ?_)) rfl
      rwa [TakesDatagrams, State.rb, State.rf_congr hregs, State.rf_congr hregs]
    all_goals
      rw [queueOp_ready hr, hdest] at he
      obtain ⟨hme, hregs, hup, hlen, hdepth⟩ := movedTo_keeps_engine s c 4 ((s.core c).pc + 4)
      rw [sendQueue_taken hq (by rwa [TakesDatagrams, State.rb, State.rf_congr hregs, State.rf_congr hregs])
        (hup.trans (inReset_of_canIssue hr.1)), hlen, hdepth] at he
    case accepted =>
      rw [if_pos hroom] at he
      obtain ⟨ht, hmem, hacc, hg⟩ := ran_setG (eventBlind_ik.qAccept (s.movedTo c 4 ((s.core c).pc + 4)) q _) rd (BitVec.ofNat 64 resOk)
      have hqueues := congrArg Engine.queues (qAccept_me (s.movedTo c 4 ((s.core c).pc + 4)) q
        { sendMsg (s.core c) c r1 r2 with chan := false, cseq := 0, channel := 0xFFFF })
      rw [State.qMsgs, hme] at hqueues
      refine ⟨_, he.trans ht, ?_, fun p hp => ?_, hmem, hacc, hg⟩
      · refine (congrArg (mget [] · q) hqueues).trans ((mget_mput_self _ _ _ _).trans ?_)
        rw [← htag]
        rfl
      · exact (congrArg (mget [] · p) hqueues).trans (mget_mput_ne _ _ _ hp.symm)
    case dropped =>
      rw [if_neg (Nat.not_lt.mpr hfull)] at he
      obtain ⟨ht, hmem, hacc, hg⟩ := ran_setG (eventBlind_ik.qDrop (s.movedTo c 4 ((s.core c).pc + 4)) q _ false) rd (BitVec.ofNat 64 resQfull)
      have hup' := hup.trans (inReset_of_canIssue hr.1)
      have hdrop := qDrop_me hup' q c.val
      rw [hme] at hdrop
      have hqueues := congrArg Engine.queues hdrop
      have hlost : _ = mput false s.me.lost q true := congrArg Engine.lost hdrop
      exact ⟨_, he.trans ht, hqueues, (congrArg (mget false · q) hlost).trans (mget_mput_self _ _ _ _), qDrop_noted hup' q c.val, hmem, hacc, hg⟩

/-! Device writes under a duty (R552). -/

/-- A device instruction by its duty and the range of its operands. -/
theorem deviceWrites_of {i : Instr} {s : State} {c : Fin 8} {rd : Fin 32} {duty : Nat} {ok : Bool} {inRange : Prop} {act : State → State}
    (hr : Ready s c 4) (he : exec i s = s.ran c (s.deviceOp c rd duty ok act)) (hok : ok = true ↔ inRange) :
    DeviceWrites i s c rd duty inRange act := by
  refine ⟨fun hd => ?_, fun hd hn => ?_, fun hd hin => ?_⟩
  · refine he.trans (congrArg (s.ran c) ?_)
    rw [State.deviceOp, hd]
    exact issue_exc hr.1 (by omega) _ _ _ _
  · have hno : ok = false := Bool.eq_false_iff.mpr (fun h => hn (hok.mp h))
    refine writesG_of (w := fun _ => 7) hr (he.trans (congrArg (s.ran c) ?_)) rfl
    rw [State.deviceOp, hd, hno]
    rfl
  · refine he.trans (congrArg (s.ran c) ?_)
    rw [State.deviceOp, hd, hok.mpr hin, if_pos rfl, issue_ready hr, movedTo_core]
    rfl

/-- Settles O45: each device instruction has the operation of its duty, and its operands the ranges of Table 13.11. -/
theorem deviceWritesNeedTheirDuty : Obligations.DeviceWritesNeedTheirDuty := by
  intro s c rd r1 r2 d hr x y
  refine ⟨?grade, ?admission, ?barx, ?pause, ?pgrade, ?rlim, ?pstate⟩
  case grade => exact deviceWrites_of hr rfl decide_eq_true_iff
  case admission => exact deviceWrites_of hr rfl (by simp only [Bool.and_eq_true, decide_eq_true_eq, and_assoc]; rfl)
  case barx => exact deviceWrites_of hr rfl (by simp only [Bool.and_eq_true, decide_eq_true_eq]; rfl)
  case pause => exact deviceWrites_of hr rfl (by simp only [Bool.and_eq_true, decide_eq_true_eq]; rfl)
  case pgrade => exact deviceWrites_of hr rfl (by simp only [Bool.and_eq_true, decide_eq_true_eq, and_assoc]; rfl)
  case rlim => exact deviceWrites_of hr rfl decide_eq_true_iff
  case pstate => exact deviceWrites_of hr rfl decide_eq_true_iff

/-! LOGEV and DRD (R553, R554). -/

/-- The result of LOGEV (R519, R553). -/
def State.logevResult (s : State) (c : Fin 8) (r1 : Nat) : Nat :=
  if ((s.core c).g r1).toNat / 2 ^ 24 ≠ 0 then 7 else if decide (8 ≤ (s.raised.filter (fun r => r.core == c.val)).length) then 1 else 0

/-- The record of a LOGEV whose result is 0: 0x9006 stands for a code outside 0x9800 to 0x9FFF. -/
def State.logevRecord (s : State) (c : Fin 8) (r1 r2 : Nat) : Raised :=
  let k := s.core c
  let a := (k.g r1).toNat
  if 0x9800 ≤ a % 2 ^ 16 ∧ a % 2 ^ 16 ≤ 0x9FFF then ⟨3, a % 2 ^ 16, some (bitsOf a 18 16), loWord (k.g r2).toNat, hiWord (k.g r2).toNat,
    loWord (k.g (r2 + 1)).toNat, hiWord (k.g (r2 + 1)).toNat, c⟩
  else ⟨3, 0x9006, none, c, 4, a % 2 ^ 16, 0, c⟩

@[simp] theorem movedTo_raised (s : State) (c cyc pc : Nat) : (s.movedTo c cyc pc).raised = s.raised := by
  obtain ⟨l, hl⟩ := movedTo_eq s c cyc pc
  rw [hl]

@[simp] theorem setCore_raised (s : State) (c : Nat) (k : IkCore) : (s.setCore c k).raised = s.raised := rfl

section
variable {s : State} {c : Fin 8} {rd r1 r2 : Fin 32} (hr : Ready s c 4) (h2 : r2.val ≤ 30)
include hr h2

/-- A LOGEV whose result is not 0 only gives rd its result. -/
theorem logev_refused {n : Nat} {v : DWord} (hn : s.logevResult c r1 = n) (h0 : n ≠ 0) (hv : BitVec.ofNat 64 n = v) :
    WritesG (.ikLogev c rd r1 r2) s c 1 4 rd v := by
  refine writesG_of (w := fun _ => v) hr (?_ : execIkLogev c rd r1 r2 s = _) rfl
  rw [State.logevResult] at hn
  simp only [execIkLogev, if_neg (Nat.not_lt.mpr h2), State.issueReg]
  rw [issue_ready hr, issue_ready hr]
  simp only [movedTo_raised, hn, if_pos h0, hv]

/-- A LOGEV that is not refused, and is no handover, raises its record and gives rd 0. -/
theorem logev_logs (h0 : s.logevResult c r1 = 0) (hcode : ((s.core c).g r1).toNat % 2 ^ 16 ≠ 0x9FFF) :
    Yields (.ikLogev c rd r1 r2) s (fun t => t.raised = s.raised ++ [s.logevRecord c r1 r2] ∧ MemKept s t c ∧ AccKept s t c
      ∧ ∀ r, (t.core c).g r = if r = rd ∧ r ≠ 0 then 0 else (s.core c).g r) := by
  obtain ⟨ht, hmem, hacc, hg⟩ := ran_setG
    (y := { s.movedTo c 1 ((s.core c).pc + 4) with raised := s.raised ++ [s.logevRecord c r1 r2] }) rfl rd 0
  refine ⟨_, (?_ : execIkLogev c rd r1 r2 s = _).trans ht, rfl, hmem, hacc, hg⟩
  rw [State.logevResult] at h0
  simp only [execIkLogev, if_neg (Nat.not_lt.mpr h2), if_neg hcode]
  rw [issue_ready hr]
  simp only [movedTo_raised, h0, ne_eq, not_true_eq_false, if_false, State.logevRecord]
  split <;> simp only [setCore_raised, movedTo_raised] <;> rfl

end

theorem logevResult_reserved {s : State} {c : Fin 8} {r1 : Nat} (h : 2 ^ 24 ≤ ((s.core c).g r1).toNat) : s.logevResult c r1 = 7 :=
  if_pos (by omega)

theorem logevResult_full {s : State} {c : Fin 8} {r1 : Nat} (h : ((s.core c).g r1).toNat < 2 ^ 24) :
    s.logevResult c r1 = if 8 ≤ (s.raised.filter (fun r => r.core == c.val)).length then 1 else 0 := by
  rw [State.logevResult, if_neg (by omega)]
  simp only [decide_eq_true_eq]

theorem loWord_toNat (x : DWord) : loWord x.toNat = (x.extractLsb' 0 32).toNat := by
  rw [BitVec.extractLsb'_toNat, Nat.shiftRight_zero]
  rfl

theorem hiWord_toNat (x : DWord) : hiWord x.toNat = (x.extractLsb' 32 32).toNat := by
  rw [BitVec.extractLsb'_toNat, Nat.shiftRight_eq_div_pow]
  rfl

theorem drdWord_absent {s : State} {a : Nat} (h : findReg a = none) : s.drdWord a = 0 := by
  simp only [State.drdWord, h]

theorem drdWord_found {s : State} {a i j : Nat} {d : RDesc} (h : findReg a = some (d, i, j)) :
    s.drdWord a = if s.inReset d.isl then 0 else s.readWord a := by
  simp only [State.drdWord, h]

/-- DRD of a legal mode and offset gives rd what it reads. -/
theorem drd_reads {s : State} {c : Fin 8} {rd r1 : Fin 32} {mode : Fin 4} {v : DWord} (hr : Ready s c 4) (hm : mode.val < 2)
    (ha : ((s.core c).g r1).toNat < 0x4000000) (h4 : ((s.core c).g r1).toNat % (if mode = 1 then 8 else 4) = 0)
    (hv : BitVec.ofNat 64 (s.drd (mode == 1) ((s.core c).g r1).toNat) = v) : WritesG (.ikDrd c rd r1 mode) s c 96 4 rd v := by
  refine writesG_of (w := fun _ => v) hr (?_ : execIkDrd c rd r1 mode s = _) rfl
  simp only [execIkDrd, if_neg (Nat.not_le.mpr hm), hv]
  rw [if_neg (by omega)]
  rfl

/-- Settles O46: LOGEV by its result and its code, DRD by its mode and its offset. -/
theorem logevAndDrd : Obligations.LogevAndDrd := by
  intro s c rd r1 r2 mode hr k a x y held logs
  have hpc : (s.core c).pc < (s.core c).textLen := by omega
  refine ⟨fun h => ?illegal, fun h2 ha => logev_refused hr h2 (logevResult_reserved ha) (by decide) rfl, fun h2 ha hh => ?full,
    fun h2 ha hh => ⟨fun hlo hhi => ?own, fun hout => ?replaced⟩, fun h => ?mode, fun hm h => ?daddr, fun ha h4 => ⟨fun hf => ?absent,
      fun d i j hf => ?word, fun h8 => ?pair⟩⟩
  case illegal =>
    change execIkLogev c rd r1 r2 s = _
    rw [execIkLogev, if_pos h, issue_exc hr.1 hpc]
  case full => exact logev_refused hr h2 ((logevResult_full ha).trans (if_pos hh)) (by decide) rfl
  case own =>
    have hrec : s.logevRecord c r1 r2 = _ := if_pos ⟨hlo, hhi.le⟩
    have hsev : bitsOf a 18 16 = a / 2 ^ 16 % 8 := rfl
    have hl := logev_logs (rd := rd) hr h2 ((logevResult_full ha).trans (if_neg (Nat.not_le.mpr hh))) (Nat.ne_of_lt hhi)
    rw [hrec, hsev, loWord_toNat, loWord_toNat, hiWord_toNat, hiWord_toNat] at hl
    exact hl
  case replaced =>
    have hrec : s.logevRecord c r1 r2 = _ := if_neg (show ¬ (0x9800 ≤ a % 2 ^ 16 ∧ a % 2 ^ 16 ≤ 0x9FFF) by omega)
    have hl := logev_logs (rd := rd) hr h2 ((logevResult_full ha).trans (if_neg (Nat.not_le.mpr hh))) (show a % 2 ^ 16 ≠ 0x9FFF by omega)
    rw [hrec] at hl
    exact hl
  case mode =>
    change execIkDrd c rd r1 mode s = _
    rw [execIkDrd, if_pos h, issue_exc hr.1 hpc]
  case daddr =>
    change execIkDrd c rd r1 mode s = _
    have hw : 4 * (mode.val + 1) = if mode = 1 then 8 else 4 := by
      split
      · next h1 => rw [h1]; rfl
      · next h1 => omega
    rw [hw] at h
    rw [execIkDrd, if_neg (Nat.not_le.mpr hm), if_pos h, issue_exc hr.1 hpc]
  case absent => exact drd_reads (mode := 0) hr (by decide) ha h4 (congrArg (BitVec.ofNat 64) (drdWord_absent hf))
  case word => exact drd_reads (mode := 0) hr (by decide) ha h4 (congrArg (BitVec.ofNat 64) (drdWord_found hf))
  case pair =>
    refine drd_reads (mode := 1) hr (by decide) ha h8 ((congrArg (BitVec.ofNat 64) (if_neg (by decide))).trans ?_)
    split <;> rfl

end Sys2Proof.Machine
end

section
/-! Registers that the window holds many of (Table 24.4): the row of the table that gives their address. -/

namespace Sys2Proof.Machine
open Sys2Proof
set_option Elab.async false

/-- The offset of the last register of a row from its first. -/
def RDesc.reach (d : RDesc) : Nat := (d.count - 1) * d.stride + (d.count2 - 1) * d.stride2

/-- The row has registers at or between two addresses, or might. -/
def RDesc.meets (lo hi : Nat) (d : RDesc) : Bool := decide (lo ≤ d.base + d.reach) && decide (d.base ≤ hi)

theorem index_within {d : RDesc} {a : Nat} {ij : Nat × Nat} (h : d.index a = some ij) : d.base ≤ a ∧ a ≤ d.base + d.reach := by
  have hsplit (o n : Nat) : o = (if n = 0 then 0 else o / n) * n + if n = 0 then o else o % n := by
    split
    · simp
    · exact (Nat.div_add_mod' o n).symm
  by_cases hlow : a < d.base
  · rw [RDesc.index, if_pos hlow] at h
    exact absurd h (by simp)
  · simp only [RDesc.index, if_neg hlow, Option.ite_none_right_eq_some] at h
    · obtain ⟨⟨h0, hi, hj⟩, -⟩ := h
      have e1 := hsplit (a - d.base) d.stride
      have e2 := hsplit (if d.stride = 0 then a - d.base else (a - d.base) % d.stride) d.stride2
      rw [h0, Nat.add_zero] at e2
      have m1 := Nat.mul_le_mul_right d.stride (Nat.le_sub_one_of_lt hi)
      have m2 := Nat.mul_le_mul_right d.stride2 (Nat.le_sub_one_of_lt hj)
      rw [← e2] at m2
      unfold RDesc.reach
      omega

theorem findIn_mem {l : List RDesc} {a : Nat} {x : RDesc × Nat × Nat} (h : findIn a l = some x) : x.1 ∈ l ∧ ∃ ij, x.1.index a = some ij := by
  induction l with
  | nil => cases h
  | cons e t ih =>
    cases he : e.index a with
    | none =>
      simp only [findIn, he] at h
      exact ⟨List.mem_cons_of_mem _ (ih h).1, (ih h).2⟩
    | some ij =>
      simp only [findIn, he, Option.some.injEq] at h
      subst h
      exact ⟨List.mem_cons_self, ij, he⟩

theorem findIn_isSome {l : List RDesc} {a : Nat} {d : RDesc} {ij : Nat × Nat} (hd : d ∈ l) (h : d.index a = some ij) :
    (findIn a l).isSome = true := by
  induction l with
  | nil => cases hd
  | cons e t ih =>
    cases he : e.index a with
    | none =>
      simp only [findIn, he]
      refine ih (List.mem_of_ne_of_mem ?_ hd)
      rintro rfl
      rw [h] at he
      cases he
    | some ij => simp only [findIn, he, Option.isSome_some]

/-- What a row says of its registers, but for their fields. -/
def RDesc.shape (d : RDesc) : Nat × Nat × Nat × Nat × Nat × Nat := (d.base, d.count, d.stride, d.count2, d.stride2, d.isl)

/-- The register with one index `n` of a row. -/
theorem index_of_shape {d : RDesc} {base count stride isl n : Nat} (h : d.shape = (base, count, stride, 1, 0, isl)) (hs : 0 < stride)
    (hn : n < count) : d.index (base + stride * n) = some (n, 0) := by
  simp only [RDesc.shape, Prod.mk.injEq] at h
  obtain ⟨hbase, hcount, hstride, hcount2, hstride2, hisl⟩ := h
  simp only [RDesc.index, hbase, hcount, hstride, hcount2, hstride2, Nat.add_sub_cancel_left, Nat.mul_div_cancel_left n hs,
    Nat.mul_mod_right, if_neg (Nat.pos_iff_ne_zero.mp hs), if_neg (show ¬ base + stride * n < base by omega), if_true]
  exact if_pos ⟨trivial, hn, Nat.one_pos⟩

/-- A register of a row with one index is held by the island of the rows that share its addresses. -/
theorem holderOf_row {base count stride isl n : Nat} (hs : 0 < stride)
    (hrow : regTable.any (fun d => d.shape == (base, count, stride, 1, 0, isl)) = true)
    (hisl : regTable.all (fun d => !d.meets base (base + stride * (count - 1)) || d.isl == isl) = true)
    (hn : n < count) (hc : ¬ (0x70000 ≤ base + stride * n ∧ base + stride * n < 0x80000)) : holderOf (base + stride * n) = some isl := by
  obtain ⟨d, hd, hshape⟩ := List.any_eq_true.mp hrow
  obtain ⟨x, hx⟩ := Option.isSome_iff_exists.mp (findIn_isSome hd (index_of_shape (beq_iff_eq.mp hshape) hs hn))
  obtain ⟨hmem, ij, hij⟩ := findIn_mem hx
  have hle : stride * n ≤ stride * (count - 1) := Nat.mul_le_mul_left _ (by omega)
  obtain ⟨h1, h2⟩ := index_within hij
  have hm : x.1.meets base (base + stride * (count - 1)) = true := by
    simp only [RDesc.meets, Bool.and_eq_true, decide_eq_true_eq]
    omega
  have hx' := List.all_eq_true.mp hisl x.1 hmem
  rw [hm, Bool.not_true, Bool.false_or, beq_iff_eq] at hx'
  rw [holderOf, findReg, canonAddr, if_neg hc, hx]
  exact congrArg some hx'

theorem qcfg_holder (q : Fin 4096) : holderOf (Reg.ME_QCFG q) = some 3 :=
  holderOf_row (by decide) (by decide +kernel) (by decide +kernel) q.isLt (by omega)

theorem mePop_holder (q : Fin 4096) : holderOf (Reg.ME_POP q) = some 3 :=
  holderOf_row (by decide) (by decide +kernel) (by decide +kernel) q.isLt (by omega)

/-! Pops (R482 to R485). -/

/-- A pop of a reachable window gives the words that it finds, and then lets run what waits. -/
theorem popRead_served {s : State} (h : Reaches s 3) (req : Nat) (q : Fin 4096) (wide : Bool) :
    s.popRead req q wide = ((s.popBy req q).2.launchSweep.flSettle.out (.readData (Reg.ME_POP q) (if wide then
      (s.popBy req q).1.getD 0 0 + 2 ^ 32 * (s.popBy req q).1.getD 1 0 else (s.popBy req q).1.getD 0 0))) := by
  simp only [State.popRead, serve_write (mePop_holder q) h]

theorem popBy_refused {s : State} {req q : Nat} (h : s.rb (Reg.ME_QCFG_DISPATCH q) = true ∨ s.qReader q ≠ req) :
    s.popBy req q = ([], (s.wr Reg.ME_FELL_ACCESS 1).emit 3 0x8007 q req (if s.rb (Reg.ME_QCFG_DISPATCH q) then 1 else 0)) := by
  unfold State.popBy
  by_cases hd : s.rb (Reg.ME_QCFG_DISPATCH q) = true
  · rw [if_pos hd, if_pos hd]
  · rw [if_neg hd, if_neg hd, if_pos (bne_iff_ne.mpr (h.resolve_left hd))]

theorem qPop_empty {s : State} {q : Nat} (h : s.qMsgs q = []) : s.qPop q = (none, s) := by
  simp only [State.qPop, h]

theorem qPop_head {s : State} {q : Nat} {m : QMsg} {rest : List QMsg} (h : s.qMsgs q = m :: rest) : (s.qPop q).1 = some m := by
  simp only [State.qPop, h]

theorem popBy_empty {s : State} {req q : Nat} (hd : s.rb (Reg.ME_QCFG_DISPATCH q) = false) (hq : s.qReader q = req) (h : s.qMsgs q = []) :
    s.popBy req q = ([], s.setLatch req 0 []) := by
  unfold State.popBy
  rw [if_neg (by simp [hd]), if_neg (by simp [hq]), qPop_empty h]

theorem popBy_head {s : State} {req q : Nat} {m : QMsg} {rest : List QMsg} (hd : s.rb (Reg.ME_QCFG_DISPATCH q) = false)
    (hq : s.qReader q = req) (h : s.qMsgs q = m :: rest) : s.popBy req q = (qWords m, (s.qPop q).2.setLatch req q (qWords m).tail) := by
  have hp : s.qPop q = (some m, (s.qPop q).2) := Prod.ext (qPop_head h) rfl
  unfold State.popBy
  rw [if_neg (by simp [hd]), if_neg (by simp [hq]), hp]

/-- Settles O29: both pops are refused alike, and a refused pop only notes it. -/
theorem refusedPopRemovesNothing : Obligations.RefusedPopRemovesNothing := by
  intro s req q hs h w
  refine ⟨rfl, congrArg Host.Outcome.next ?_, congrArg Host.Outcome.next ?_⟩ <;> rw [popRead_served hs, popBy_refused h] <;> rfl

/-! Collect groups (R481). -/

/-- Settles O28: the pops by what the queue holds, the rounds by their conditions, and a retry by whether TARGET has room and how often it
was tried. -/
theorem messageEngineCommandsComplete : Obligations.MessageEngineCommandsComplete := by
  intro s
  refine ⟨fun q v hs => congrArg Host.Outcome.next ?qcfg, fun req q hs hd hq => ⟨fun m rest h => ?head, fun h => ?empty⟩,
    fun g => ?group⟩
  case qcfg => rw [serve_write (qcfg_holder q) hs]
  case head => constructor <;> refine congrArg Host.Outcome.next ?_ <;> rw [popRead_served hs, popBy_head hd hq h] <;> rfl
  case empty => constructor <;> refine congrArg Host.Outcome.next ?_ <;> rw [popRead_served hs, popBy_empty hd hq h] <;> rfl
  case group =>
    intro r
    refine ⟨fun hk ha ht => if_pos ⟨hk, ha, ht⟩, ?_⟩
    intro none0 tgt room
    refine ⟨rfl, fun e he => ?_⟩
    have hone : exec (.collectRetry g) s = .next (none0.collectTry g e) := by
      change Host.Outcome.next (r.results.foldl (fun x e => x.collectTry g e) none0) = _
      rw [he]
      rfl
    have hroom : none0.collectRoom g = room := rfl
    refine ⟨fun h => ?_, fun h hn => ?_, ?_⟩
    · rw [hone, State.collectTry, hroom, h]
      rfl
    · rw [hone, State.collectTry, hroom, h, if_neg (by decide), if_pos (by omega)]
      rfl
    · intro r0 again h hn
      rw [hone, State.collectTry, hroom, h, if_neg (by decide), if_neg (by omega)]

end Sys2Proof.Machine
end

section
/-! The statement on dispatch, WAITQ and RTE: what a pop leaves of the state, and the core after each. -/

namespace Sys2Proof.Machine
open Sys2Proof
set_option Elab.async false

/-- A pop of a queue that holds a message takes its head and changes nothing outside the message engine. -/
theorem qPop_cons {s : State} {q : Nat} {m : QMsg} {rest : List QMsg} (h : s.qMsgs q = m :: rest) :
    ∃ me, s.qPop q = (some m, { s with me := me }) ∧ mget [] me.queues q = rest := by
  simp only [State.qPop, h]
  by_cases hc : (m.channel == 0xFFFF) = true
  · rw [if_pos hc]
    exact ⟨_, rfl, mget_mput_self _ _ _ _⟩
  · rw [if_neg hc]
    unfold State.chanDrained
    dsimp only
    split <;> exact ⟨_, rfl, mget_mput_self _ _ _ _⟩

theorem handlerOk_of {k : IkCore} {h adr flags wcet : Nat} {urgent : Bool} (hh : k.handlers[h]? = some (adr, flags, wcet))
    (hv : bitOf flags 0 = true) (hl : bitOf flags (if urgent then 2 else 1) = true) : k.handlerOk h urgent = true := by
  simp [IkCore.handlerOk, hh, hv, hl]

/-- With no Urgent queue to dispatch, an Urgent dispatch leaves the state as it was. -/
theorem urgentGo_nil {s : State} {c : Nat} (h : s.dispatchable c true = []) : s.urgentGo c = s := by
  rw [State.urgentGo, h]
  rfl

/-- The end of a count writes MAX_N or MAX_U, which begin at bit 16 and at bit 0, and no other field. -/
theorem rf_noteMax (s : State) (c : Nat) {f : Fld} (hf : f.lo < 32) (h0 : 0 ≠ f.lo) (h16 : 16 ≠ f.lo) : (s.noteMax c).rf f = s.rf f := by
  unfold State.noteMax
  dsimp only
  split
  · exact State.rf_wr_ne _ _ (key_ne_of_lo_ne (by decide : 0 < 32) hf h0)
  · exact State.rf_wr_ne _ _ (key_ne_of_lo_ne (by decide : 16 < 32) hf h16)

theorem noteMax_eq (s : State) (c : Nat) : ∃ regs, s.noteMax c = { s with regs := regs } := by
  unfold State.noteMax
  dsimp only
  split <;> exact ⟨_, rfl⟩

/-- Who may be dispatched turns on the queues and on DISPATCH, URGENT and READER. -/
theorem dispatchable_congr {s t : State} (hm : t.me = s.me) (hd : ∀ q, t.rf (Reg.ME_QCFG_DISPATCH q) = s.rf (Reg.ME_QCFG_DISPATCH q))
    (hu : ∀ q, t.rf (Reg.ME_QCFG_URGENT q) = s.rf (Reg.ME_QCFG_URGENT q))
    (hr : ∀ q, t.rf (Reg.ME_QCFG_READER q) = s.rf (Reg.ME_QCFG_READER q))
    (c : Nat) (urgent : Bool) : t.dispatchable c urgent = s.dispatchable c urgent := by
  unfold State.dispatchable State.qLen State.qMsgs State.qReader State.rb
  simp only [hm, hd, hu, hr]

theorem dispatchable_noteMax (s : State) (c d : Nat) (urgent : Bool) : (s.noteMax c).dispatchable d urgent = s.dispatchable d urgent := by
  refine dispatchable_congr ?_ (fun q => ?_) (fun q => ?_) (fun q => ?_) d urgent
  · obtain ⟨l, hl⟩ := noteMax_eq s c
    rw [hl]
  · exact rf_noteMax s c (by decide : 30 < 32) (by decide : 0 ≠ 30) (by decide : 16 ≠ 30)
  · exact rf_noteMax s c (by decide : 29 < 32) (by decide : 0 ≠ 29) (by decide : 16 ≠ 29)
  · exact rf_noteMax s c (by decide : 20 < 32) (by decide : 0 ≠ 20) (by decide : 16 ≠ 20)

theorem canIssue_of_coreLive {s : State} {c : Nat} (hl : s.coreLive c = true) (hw : (s.core c).waiting = false) : s.canIssue c = true := by
  simp only [State.coreLive, State.polRuns, Bool.and_eq_true, Bool.not_eq_true'] at hl
  simp [State.canIssue, hl, hw]

theorem waitq_begins {s : State} {c : Fin 8} (rd : Fin 32) (hi : s.canIssue c = true) (hp : (s.core c).pc < (s.core c).textLen)
    (hlev : (s.core c).level < 2) : Yields (.ikWaitq c rd) s (fun t =>
      (t.core c).waiting = true ∧ (t.core c).waitRd = rd.val ∧ (t.core c).pc = (s.core c).pc ∧ (t.core c).bankN = (s.core c).bankN
        ∧ t.ik.table = s.ik.table) := by
  have htable : (s.noteMax c).ik.table = s.ik.table := by
    obtain ⟨l, hl⟩ := noteMax_eq s c
    rw [hl]
  refine ⟨_, (if_neg (by simp [hi])).trans ((if_neg (by omega)).trans (if_neg (by omega))), ?_⟩
  split <;> rw [core_setCore_self]
  · exact ⟨rfl, rfl, rfl, rfl, htable⟩
  · exact ⟨rfl, rfl, rfl, rfl, rfl⟩

/-- A core whose Normal handler at `adr` begins with message `m` of queue `q`. -/
def IkCore.enteredNormal (k : IkCore) (adr q h : Nat) (m : QMsg) : IkCore :=
  { k with
    npc := k.pc, flagsBack := k.bankN.flags, bankN := { k.bankN with m := msgRegs m }, level := 1, waiting := false
    pc := adr, causeN := causeWord h 1 q, cntN := 4 }

/-- A core whose Urgent handler at `adr` begins with message `m` of queue `q`. -/
def IkCore.enteredUrgent (k : IkCore) (adr q h : Nat) (m : QMsg) : IkCore :=
  { k with
    upc := k.pc, levelBack := k.level, bankU := { k.bankU with m := msgRegs m }, level := 2
    waiting := false, pc := adr, causeU := causeWord h 2 q, cntU := 4 }

theorem dispatchNormal_core (s : State) (c q h : Nat) (m : QMsg) :
    (s.dispatchNormal c q h m).core c = (s.core c).enteredNormal (((s.core c).handlers[h]?).getD (0, 0, 0)).1 q h m :=
  core_setCore_self _ _ _

theorem dispatchUrgent_core (s : State) (c q h : Nat) (m : QMsg) :
    (s.dispatchUrgent c q h m).core c = (s.core c).enteredUrgent (((s.core c).handlers[h]?).getD (0, 0, 0)).1 q h m :=
  core_setCore_self _ _ _

theorem causeWord_normal (q h : Nat) : causeWord h 1 q = q % 4096 + 0x4000 + 0x10000 * h := rfl

theorem causeWord_urgent (q h : Nat) : causeWord h 2 q = q % 4096 + 0x8000 + 0x10000 * h := rfl

/-- A Normal dispatch of a message with no launch behind it begins its handler (R507). -/
theorem normalDispatch_begins {s : State} {c : Fin 8} {q adr flags wcet : Nat} {m : QMsg} {rest : List QMsg} (hl : s.coreLive c = true)
    (hq : s.qMsgs q = m :: rest) (hh : (s.core c).handlers[s.rf (Reg.ME_QCFG_HANDLER q)]? = some (adr, flags, wcet))
    (hv : bitOf flags 0 = true) (ha : (s.core c).atWait = true) (hu : s.dispatchable c true = [])
    (hb : s.bestPrio (s.dispatchable c false) = some q) (hqc : q ≠ c.val) (hn : bitOf flags 1 = true) :
    Yields (.normalDispatch c) s (fun t => (t.core c).level = 1 ∧ (t.core c).pc = adr ∧ (t.core c).npc = (s.core c).pc
      ∧ (t.core c).flagsBack = (s.core c).bankN.flags ∧ (t.core c).bankN = { (s.core c).bankN with m := msgRegs m }
      ∧ (t.core c).bankU = (s.core c).bankU
      ∧ (t.core c).hcause = q % 4096 + 0x4000 + 0x10000 * s.rf (Reg.ME_QCFG_HANDLER q)
      ∧ (t.core c).waiting = false ∧ (t.core c).cntN = 4 ∧ t.ik.cyc = s.ik.cyc + 4 ∧ t.qMsgs q = rest) := by
  obtain ⟨me, hpop, hrest⟩ := qPop_cons hq
  have hok := handlerOk_of (urgent := false) hh hv hn
  have hcond : (s.coreLive c && (s.core c).atWait && (s.dispatchable c true).isEmpty) = true := by simp [hl, ha, hu]
  refine ⟨_, congrArg Host.Outcome.next (if_pos hcond), ?_⟩
  simp only [State.normalGo, hb, hpop, hok, if_true, if_neg hqc]
  have hc : (({ s with me := me } : State).dispatchNormal c q (s.rf (Reg.ME_QCFG_HANDLER q)) m).core c = (s.core c).enteredNormal adr q
      (s.rf (Reg.ME_QCFG_HANDLER q)) m := by
    refine (dispatchNormal_core _ _ _ _ _).trans ?_
    change (s.core c).enteredNormal (((s.core c).handlers[s.rf (Reg.ME_QCFG_HANDLER q)]?).getD (0, 0, 0)).1 _ _ _ = _
    rw [hh]
    rfl
  rw [core_setCore_self, hc]
  exact ⟨rfl, rfl, rfl, rfl, rfl, rfl, causeWord_normal _ _, rfl, rfl, rfl, hrest⟩

/-- An Urgent dispatch below level 2 begins its handler in the Urgent bank (R510). -/
theorem urgentGo_begins {s : State} {c : Fin 8} {q adr flags wcet : Nat} {m : QMsg} {rest : List QMsg}
    (hq : s.qMsgs q = m :: rest) (hh : (s.core c).handlers[s.rf (Reg.ME_QCFG_HANDLER q)]? = some (adr, flags, wcet))
    (hv : bitOf flags 0 = true) (hb : s.bestPrio (s.dispatchable c true) = some q) (hu : bitOf flags 2 = true) :
    ((s.urgentGo c).core c) = (s.core c).enteredUrgent adr q (s.rf (Reg.ME_QCFG_HANDLER q)) m ∧ (s.urgentGo c).ik.cyc = s.ik.cyc + 4
      ∧ (s.urgentGo c).qMsgs q = rest := by
  obtain ⟨me, hpop, hrest⟩ := qPop_cons hq
  have hok := handlerOk_of (urgent := true) hh hv hu
  simp only [State.urgentGo, hb, hpop, hok, if_true]
  refine ⟨(dispatchUrgent_core _ _ _ _ _).trans ?_, rfl, hrest⟩
  change (s.core c).enteredUrgent (((s.core c).handlers[s.rf (Reg.ME_QCFG_HANDLER q)]?).getD (0, 0, 0)).1 _ _ _ = _
  rw [hh]
  rfl

/-- The state that RTE of core `c` leaves, before a dispatch or a launch's completion. -/
def State.returned (s : State) (c : Nat) : State := ((s.spend c 1).noteMax c).setCore c (((s.spend c 1).noteMax c).core c).rte

theorem returned_core (s : State) (c : Nat) : (s.returned c).core c = ((s.core c).moved 1 (s.core c).pc).rte := by
  have hk : ((s.spend c 1).noteMax c).core c = (s.core c).moved 1 (s.core c).pc := by
    obtain ⟨l, hs⟩ := noteMax_eq (s.spend c 1) c
    rw [← spend_core s c 1, hs]
    rfl
  rw [State.returned, core_setCore_self, hk]

theorem returned_cyc (s : State) (c : Nat) : (s.returned c).ik.cyc = s.ik.cyc + 1 := by
  obtain ⟨l, hs⟩ := noteMax_eq (s.spend c 1) c
  rw [State.returned, hs]
  rfl

/-- RTE moves no queue and none of the fields that say whom it dispatches. -/
theorem dispatchable_returned (s : State) (c : Nat) (urgent : Bool) : (s.returned c).dispatchable c urgent = s.dispatchable c urgent :=
  calc (s.returned c).dispatchable c urgent = ((s.spend c 1).noteMax c).dispatchable c urgent := rfl
    _ = (s.spend c 1).dispatchable c urgent := dispatchable_noteMax _ _ _ _
    _ = s.dispatchable c urgent := rfl

/-- RTE of a Normal handler with no launch returns to the thread (R507). -/
theorem rte_normal {s : State} {c : Fin 8} (hi : s.canIssue c = true) (hp : (s.core c).pc < (s.core c).textLen) (hlev : (s.core c).level = 1)
    (hn : (s.core c).launchId = none) : Yields (.ikRte c) s (fun t =>
      (t.core c).level = 0 ∧ (t.core c).pc = (s.core c).npc ∧ (t.core c).flags = (s.core c).flagsBack ∧ t.ik.cyc = s.ik.cyc + 1
        ∧ (∀ r, (t.core c).g r = (s.core c).g r) ∧ (∀ i, (t.core c).acc i = (s.core c).acc i) ∧ (t.core c).data = (s.core c).data) := by
  have he : exec (.ikRte c) s = .next (s.returned c) := by
    refine (if_neg (by simp [hi])).trans ((if_neg (by omega)).trans ((if_neg (by omega)).trans (congrArg Host.Outcome.next
      ((if_neg (by omega)).trans ?_))))
    rw [hn]
    rfl
  refine ⟨_, he, ?_⟩
  dsimp only
  rw [returned_core, returned_cyc]
  simp [IkCore.rte, IkCore.moved, IkCore.flags, IkCore.g, IkCore.acc, IkCore.bank, hlev]

/-- RTE of an Urgent handler returns to what it preempted when nothing waits (R510). -/
theorem rte_urgent {s : State} {c : Fin 8} (hi : s.canIssue c = true) (hp : (s.core c).pc < (s.core c).textLen) (hlev : (s.core c).level = 2)
    (hu : s.dispatchable c true = []) : Yields (.ikRte c) s (fun t =>
      (t.core c).level = (s.core c).levelBack ∧ (t.core c).pc = (s.core c).upc ∧ (t.core c).bankN = (s.core c).bankN
        ∧ (t.core c).bankU = (s.core c).bankU ∧ (t.core c).cntN = (s.core c).cntN ∧ t.ik.cyc = s.ik.cyc + 1) := by
  have he : exec (.ikRte c) s = .next (s.returned c) := by
    refine (if_neg (by simp [hi])).trans ((if_neg (by omega)).trans ((if_neg (by omega)).trans (congrArg Host.Outcome.next
      ((if_pos hlev).trans ?_))))
    exact urgentGo_nil ((dispatchable_returned s c true).trans hu)
  refine ⟨_, he, ?_⟩
  dsimp only
  rw [returned_core, returned_cyc]
  simp [IkCore.rte, IkCore.moved, hlev]

/-- A wait that ends with no dispatch gives rd the queue chosen (R550). -/
theorem waitq_ends {s : State} {c : Fin 8} (n : BitVec 16) {p q : Nat} (hl : s.coreLive c = true) (hw : (s.core c).waiting = true)
    (hu : s.dispatchable c true = []) (hn : (s.core c).level = 0 → s.dispatchable c false = [])
    (hq : s.selChoose c (s.core c).qsel = some (p, q)) (hp : (s.core c).pc + 4 < (s.core c).textLen) : Yields (.waitqComplete c n) s (fun t =>
      (t.core c).waiting = false ∧ (t.core c).pc = (s.core c).pc + 4 ∧ t.ik.cyc = s.ik.cyc + max 4 n.toNat
        ∧ ∀ r, (t.core c).g r = if r = (s.core c).waitRd ∧ r ≠ 0 then BitVec.ofNat 64 q else (s.core c).g r) := by
  have hskip : ¬ (!(s.coreLive c && (s.core c).waiting) || !(s.dispatchable c true).isEmpty
      || ((s.core c).level == 0 && !(s.dispatchable c false).isEmpty)) = true := by
    by_cases h0 : (s.core c).level = 0
    · simp [hl, hw, hu, hn h0]
    · simp [hl, hw, hu, h0]
  have hchoice : exec (.waitqComplete c n) s = _ := if_neg hskip
  rw [hq] at hchoice
  refine ⟨_, hchoice.trans (if_neg (by omega)), ?_⟩
  dsimp only
  rw [core_setCore_self]
  refine ⟨?_, ?_, ?_, fun r => setG_g _ _ _ _⟩
  · rw [(bankOnly_setG _ _ _).1]
  · rw [(bankOnly_setG _ _ _).1]
  · split <;> rfl

/-- Settles O42: a clause for each way in and out of a handler. -/
theorem handlersEnterAndReturn : Obligations.HandlersEnterAndReturn := by
  intro s c rd hl _
  refine ⟨fun hw hp hlev => waitq_begins rd (canIssue_of_coreLive hl hw) hp hlev,
    fun q adr flags wcet m rest hq hh hv => ⟨fun ha hu hb hqc hn => normalDispatch_begins hl hq hh hv ha hu hb hqc hn,
      fun hlev hb hu => ?urgent⟩,
    fun hw hp hlev hn => rte_normal (canIssue_of_coreLive hl hw) hp hlev hn,
    fun hw hp hlev hu => rte_urgent (canIssue_of_coreLive hl hw) hp hlev hu,
    fun n p q hw hu hn hq hp => waitq_ends n hl hw hu hn hq hp⟩
  have hcond : (s.coreLive c && decide ((s.core c).level < 2)) = true := by
    rw [hl, Bool.true_and]
    exact decide_eq_true hlev
  obtain ⟨hcore, hcyc, hrest⟩ := urgentGo_begins hq hh hv hb hu
  refine ⟨_, congrArg Host.Outcome.next (if_pos hcond), ?_⟩
  dsimp only
  rw [hcore]
  exact ⟨rfl, rfl, rfl, rfl, rfl, rfl, causeWord_urgent _ _, rfl, rfl, hcyc, hrest⟩

end Sys2Proof.Machine
end

section
/-! What a host's write of a register changes, and the statement on the control of the cores. -/

namespace Sys2Proof.Machine
open Sys2Proof
set_option Elab.async false

/-! A host's write of a register changes register fields, and notes of locked ones (R18, R24, R790). -/

/-- `t` is `s` but for register fields and the notes of the provisioning window. -/
def FieldsOnly (s t : State) : Prop := ∃ regs keys, t = { s with regs := regs, se.provKeys := keys }

theorem FieldsOnly.refl (s : State) : FieldsOnly s s := ⟨_, _, rfl⟩

theorem FieldsOnly.trans {s t u : State} (h : FieldsOnly s t) (h' : FieldsOnly t u) : FieldsOnly s u := by
  obtain ⟨r, k, rfl⟩ := h
  obtain ⟨r', k', rfl⟩ := h'
  exact ⟨r', k', rfl⟩

theorem fieldsOnly_wr (s : State) (f : Fld) (v : Nat) : FieldsOnly s (s.wr f v) := ⟨_, _, rfl⟩

theorem fieldsOnly_fieldSet (s : State) (a i j : Nat) (f : FDesc) (w : Nat) : FieldsOnly s (s.fieldSet a i j f w) := by
  unfold State.fieldSet State.noteProv
  dsimp only
  split
  · split <;> exact ⟨_, _, rfl⟩
  · exact ⟨_, _, rfl⟩

theorem fieldsOnly_glErrs (s was : State) (ga : Nat) (errs : List Fld) : FieldsOnly s (s.glErrs was ga errs) := by
  have hset (l : List Fld) (x : State) : FieldsOnly x (l.foldl (fun x f => x.wr f 1) x) := by
    induction l generalizing x with
    | nil => exact FieldsOnly.refl x
    | cons f l ih => exact (fieldsOnly_wr x f 1).trans (ih _)
  unfold State.glErrs
  dsimp only
  split
  · exact (fieldsOnly_wr _ _ _).trans (hset _ _)
  · exact hset _ _

theorem fieldsOnly_writeFields (s : State) (ga v : Nat) : FieldsOnly s (s.writeFields ga v) := by
  unfold State.writeFields
  split
  case h_1 => exact FieldsOnly.refl s
  case h_2 d i j _ =>
    refine FieldsOnly.trans ?_ (fieldsOnly_glErrs _ _ _ _)
    refine List.foldlRecOn (motive := fun (x : State × List Fld) => FieldsOnly s x.1) _ _ (FieldsOnly.refl s) fun x hx f _ => ?_
    dsimp only
    split
    · exact hx.trans (fieldsOnly_fieldSet _ _ _ _ _ _)
    · exact hx

theorem writeFields_core (s : State) (ga v c : Nat) : (s.writeFields ga v).core c = s.core c := by
  obtain ⟨r, k, h⟩ := fieldsOnly_writeFields s ga v
  rw [h]
  rfl

theorem writeFields_owner (s : State) (ga v : Nat) : (s.writeFields ga v).owner = s.owner := by
  obtain ⟨r, k, h⟩ := fieldsOnly_writeFields s ga v
  rw [h]
  rfl

/-! Passes over the cores of which none, or one, acts. -/

theorem upto_none {n : Nat} {f : Nat → State → State} (h : ∀ i < n, ∀ x, f i x = x) (s : State) : s.upto n f = s := by
  induction n with
  | zero => rfl
  | succ n ih => rw [upto_succ, ih (fun i hi => h i (Nat.lt_succ_of_lt hi)), h n (Nat.lt_succ_self n)]

theorem upto_one {n c : Nat} {f : Nat → State → State} (hc : c < n) (h : ∀ i < n, i ≠ c → ∀ x, f i x = x) (s : State) :
    s.upto n f = f c s := by
  induction n with
  | zero => cases hc
  | succ n ih =>
    rw [upto_succ]
    by_cases hn : n = c
    · subst hn
      rw [upto_none (fun i hi => h i (Nat.lt_succ_of_lt hi) (Nat.ne_of_lt hi))]
    · rw [ih (by omega) (fun i hi => h i (Nat.lt_succ_of_lt hi)), h n (Nat.lt_succ_self n) hn]

/-! IK_CTL and IK_BUDGET (R517, R523, R529). -/

theorem ikCtl_holder : holderOf Reg.IK_CTL = some 3 := by decide +kernel

theorem ikBudget_holder : holderOf Reg.IK_BUDGET = some 3 := by decide +kernel

/-- Bits 15 to 0 are zero, and so is each of them. -/
theorem bitOf_of_bitsOf_eq_zero {v hi lo : Nat} (h : bitsOf v hi lo = 0) {i : Nat} (h1 : lo ≤ i) (h2 : i ≤ hi) : bitOf v i = false := by
  have h3 := bitOf_bitsOf v (show i - lo < hi + 1 - lo by omega)
  rw [h, Nat.add_sub_cancel' h1] at h3
  rw [← h3]
  simp [bitOf]

/-- The pass of a write of IK_CTL that stops the cores named. -/
def State.ctlStop (s : State) (v : Nat) : State :=
  s.upto 8 (fun c x => if bitOf v c then (x.stopCore c 5).setCore c { (x.stopCore c 5).core c with restartDue := false } else x)

/-- The pass of a write of IK_CTL that starts the cores named. -/
def State.ctlStart (s : State) (v : Nat) : State :=
  s.upto 8 (fun c x => if bitOf v (8 + c) && x.owner && !(x.core c).running then x.startCore c 3 else x)

/-- A write of IK_CTL that may act: its stops, its starts and its save. -/
theorem ikCtl_served {s : State} {v : Nat} (h : Reaches s 3) (hk : bitsOf v 15 0 = 0 ∨ keyOk v = true) : s.ikCtl v =
    (let x := ((s.writeFields Reg.IK_CTL v).ctlStop v).ctlStart v
     let y := if bitOf v 17 then x.saveBlock 6 else x
     if bitsOf v 15 0 = 0 then y else y.lostSweep) := by
  simp only [State.ikCtl, serve_write ikCtl_holder h]
  rw [if_neg (by rcases hk with hk | hk <;> simp [hk])]
  rfl

theorem ikCtl_refused {s : State} {v : Nat} (h : Reaches s 3) (hn : bitsOf v 15 0 ≠ 0) (hk : keyOk v = false) : s.ikCtl v = s.refuse := by
  simp only [State.ikCtl, serve_write ikCtl_holder h]
  exact if_pos ⟨hn, hk⟩

theorem ctlStop_none {v : Nat} (h : ∀ c < 8, bitOf v c = false) (s : State) : s.ctlStop v = s :=
  upto_none (fun c hc x => if_neg (by rw [h c hc]; decide)) s

theorem ctlStart_none {v : Nat} (h : ∀ c < 8, bitOf v (8 + c) = false) (s : State) : s.ctlStart v = s :=
  upto_none (fun c hc x => if_neg (by rw [h c hc]; simp)) s

/-- A start of one core that is stopped, on the die that owns. -/
theorem ctlStart_one {v : Nat} {c : Fin 8} (hv : ∀ i < 8, bitOf v (8 + i) = decide (i = c.val)) {s : State} (ho : s.owner = true)
    (hr : (s.core c).running = false) : s.ctlStart v = s.startCore c 3 := by
  refine (upto_one c.isLt (fun i hi hne x => if_neg ?_) s).trans (if_pos ?_)
  · rw [hv i hi, decide_eq_false hne]
    simp
  · rw [hv c c.isLt, ho, hr]
    simp

/-- The word of a keyed RESTART of core `c` alone. -/
theorem restart_word (c : Fin 8) : let v := (0x5C000000 ||| (1 <<< (8 + c.val)) : Word).toNat
    keyOk v = true ∧ bitOf v 17 = false ∧ bitsOf v 15 0 ≠ 0 ∧ (∀ i < 8, bitOf v i = false)
      ∧ ∀ i < 8, bitOf v (8 + i) = decide (i = c.val) := by
  revert c
  decide

theorem budgetOverrun_stops {s : State} {c : Fin 8} (hl : s.coreLive c = true) (ho : s.overrun c = true) :
    exec (.budgetOverrun c) s = .next (((s.noteMax c).coreFault c 0).lostSweep) :=
  congrArg Host.Outcome.next (if_pos (by rw [hl, ho]; rfl))

theorem overrun_urgent {s : State} {c : Nat} (hlev : (s.core c).level = 2) (h : s.rf Reg.IK_BUDGET_BUDGET_U < (s.core c).cntU) :
    s.overrun c = true :=
  (if_pos hlev).trans (decide_eq_true h)

theorem overrun_normal {s : State} {c : Nat} (hlev : (s.core c).level < 2) (hw : (s.core c).atWait = false)
    (h : s.rf Reg.IK_BUDGET_BUDGET_N < (s.core c).cntN) : s.overrun c = true :=
  (if_neg (by omega)).trans (by rw [hw, decide_eq_true h]; rfl)

/-- A write of IK_BUDGET whose budgets in force hold every loaded WCET is taken (R523). -/
theorem budgetWrite_taken {s : State} {v : Word} (h : Reaches s 3)
    (hn : s.largestWcet false ≤ clampN 1000 65535 (bitsOf v.toNat 31 16))
    (hu : s.largestWcet true ≤ clampN 1000 65535 (bitsOf v.toNat 15 0)) :
    exec (.budgetWrite v) s = .next (s.writeFields Reg.IK_BUDGET v.toNat) := by
  change execBudgetWrite v s = _
  simp only [execBudgetWrite, serve_write ikBudget_holder h, decide_eq_false (Nat.not_lt.mpr hn), decide_eq_false (Nat.not_lt.mpr hu)]
  rfl

/-- A write of IK_BUDGET with a Normal budget below a WCET is refused, and recorded once (R523). -/
theorem budgetWrite_refused {s : State} {v : Word} (h : Reaches s 3)
    (hn : clampN 1000 65535 (bitsOf v.toNat 31 16) < s.largestWcet false) (hu : s.largestWcet true ≤ clampN 1000 65535 (bitsOf v.toNat 15 0)) :
    exec (.budgetWrite v) s = .next ((s.wr Reg.IK_FELL_REFUSED 1).emit 3 0x9008 1 (bitsOf v.toNat 31 16) (s.largestWcet false)) := by
  change execBudgetWrite v s = _
  simp only [execBudgetWrite, serve_write ikBudget_holder h, decide_eq_true hn, decide_eq_false (Nat.not_lt.mpr hu)]
  rfl

/-- Settles O40: the clauses of the cores by their conditions, and the writes by what reaches IK_CTL and IK_BUDGET. -/
theorem coreControlCommandsComplete : Obligations.CoreControlCommandsComplete := by
  intro s c v
  refine ⟨fun hl => ⟨fun h2 hb => budgetOverrun_stops hl (overrun_urgent h2 hb),
    fun h2 hw hb => budgetOverrun_stops hl (overrun_normal h2 hw hb),
    fun e => congrArg Host.Outcome.next (if_pos hl)⟩, fun hd ho hp => congrArg Host.Outcome.next (if_pos (by rw [hd, ho, hp]; rfl)), ?writes,
    fun hr hf hc hk => congrArg Host.Outcome.next (if_neg ?load), fun n kind ops h hr => congrArg Host.Outcome.next ?retry⟩
  case writes =>
    intro h
    dsimp only
    refine ⟨fun hn hk => ⟨congrArg Host.Outcome.next (ikCtl_refused h hn hk), congrArg Host.Outcome.next (ikCtl_refused h hn hk)⟩,
      fun hk h0 hn => congrArg Host.Outcome.next ?stop, fun hv ho hr => congrArg Host.Outcome.next ?restart,
      fun h0 h17 => congrArg Host.Outcome.next ?save, budgetWrite_taken h, fun hn hu => ⟨_, budgetWrite_refused h hn hu, ?_, ?_, ?_, rfl⟩⟩
    case stop =>
      have h8 : ∀ i < 8, bitOf v.toNat (8 + i) = false := fun i hi => bitOf_of_bitsOf_eq_zero h0 (by omega) (by omega)
      have h17 : bitOf v.toNat 17 = false := bitOf_of_bitsOf_eq_zero h0 (by omega) (by omega)
      have hne : bitsOf v.toNat 15 0 ≠ 0 := by
        simp only [bitsOf] at hn ⊢
        omega
      rw [ikCtl_served h (.inr hk), ctlStart_none h8]
      simp only [h17, if_neg hne]
      rfl
    case restart =>
      obtain ⟨hk, h17, hne, hstop, hstart⟩ := restart_word c
      rw [← hv] at hk h17 hne hstop hstart
      rw [ikCtl_served h (.inr hk), ctlStop_none hstop, ctlStart_one hstart ((writeFields_owner _ _ _).trans ho)
        (by rw [writeFields_core]; exact hr)]
      simp only [h17, if_neg hne]
      rfl
    case save =>
      have h8 : ∀ i < 8, bitOf v.toNat i = false := fun i hi => bitOf_of_bitsOf_eq_zero h0 (by omega) (by omega)
      have h16 : ∀ i < 8, bitOf v.toNat (8 + i) = false := fun i hi => bitOf_of_bitsOf_eq_zero h0 (by omega) (by omega)
      rw [ikCtl_served h (.inl h0), ctlStop_none h8, ctlStart_none h16]
      simp only [h17, h0, if_true]
    · exact State.rf_wr_ne s (f := Reg.IK_FELL_REFUSED) 1 (by decide)
    · exact State.rf_wr_ne s (f := Reg.IK_FELL_REFUSED) 1 (by decide)
    · exact State.rf_wr_self s Reg.IK_FELL_REFUSED 1
  case load =>
    have hany : s.ik.cores.any (fun e => e.2.loaded || e.2.refused) = false := by
      simp only [List.any_eq_false, Bool.or_eq_true, not_or, Bool.not_eq_true]
      exact hk
    simp [hr, hf, hc, hany]
  case retry => simp [h, hr]

end Sys2Proof.Machine
end

section
/-! The statement on the admission of records. -/

namespace Sys2Proof.Machine
open Sys2Proof
set_option Elab.async false

/-- The record of handovers dropped, 0x8004, on its way while one drop is counted. -/
def dropsRecord : State :=
  { State.reset with raised := [⟨4, 0x8004, none, 0, 0, 0, 0, 8⟩], lg.scanning := false, me.evtDrops := 1 }

/-- Refutes O52: `kept` leaves every part outside the Ledger as it was, but a record of code 0x8004 that is accepted ends the count of the
handovers it tells of (R735), so with one drop counted the state that is answered has none. -/
theorem not_recordsAreAdmittedSuppressedOrOverflowed : ¬ Obligations.RecordsAreAdmittedSuppressedOrOverflowed := by
  unfold Obligations.RecordsAreAdmittedSuppressedOrOverflowed
  intro h
  obtain ⟨-, hlimited, -⟩ := h dropsRecord ⟨4, 0x8004, none, 0, 0, 0, 0, 8⟩ [] rfl rfl (by decide +kernel)
  have hkept := (hlimited (by decide +kernel) (by decide +kernel)).1 (by decide +kernel)
  have hdrops := congrArg (fun t : State => t.me.evtDrops) (Host.Outcome.next.inj hkept)
  exact absurd hdrops (by decide +kernel)

end Sys2Proof.Machine
end

section
/-! The frame of every operation of the model: the queue of waiting commands stays as it was, and byte memories that are canonical stay
canonical. One lemma per operation, in the order of the model, each from the lemmas of the operations that it runs. -/

namespace Sys2Proof.Machine
open Sys2Proof
set_option Elab.async false

/-- `t` has the queue of `s`, and its byte memories are canonical if those of `s` are. -/
def Kept (s t : State) : Prop := t.pending = s.pending ∧ (CanonicalBytes s → CanonicalBytes t)

/-- The outcome is a next state that keeps the queue, and the byte memories canonical. -/
def Answers (s : State) (r : Res) : Prop := ∃ t, r = .next t ∧ Kept s t

variable {α β : Type} {s₀ s : State}

theorem Kept.refl (s : State) : Kept s s := ⟨rfl, fun w => w⟩

theorem Kept.ite {c : Prop} [Decidable c] {x y : State} (hx : Kept s₀ x) (hy : Kept s₀ y) : Kept s₀ (if c then x else y) := by
  split
  · exact hx
  · exact hy

theorem Kept.iteFst {c : Prop} [Decidable c] {x y : State × β} (hx : Kept s₀ x.1) (hy : Kept s₀ y.1) : Kept s₀ (if c then x else y).1 := by
  split
  · exact hx
  · exact hy

theorem Kept.iteSnd {c : Prop} [Decidable c] {x y : β × State} (hx : Kept s₀ x.2) (hy : Kept s₀ y.2) : Kept s₀ (if c then x else y).2 := by
  split
  · exact hx
  · exact hy

theorem Kept.iteSndSnd {c : Prop} [Decidable c] {x y : α × β × State} (hx : Kept s₀ x.2.2) (hy : Kept s₀ y.2.2) :
    Kept s₀ (if c then x else y).2.2 := by
  split
  · exact hx
  · exact hy

theorem Kept.fst_of_eq {p : State × β} {t : State} {b : β} (h : Kept s₀ p.1) (e : p = (t, b)) : Kept s₀ t := by
  rw [e] at h
  exact h

theorem Kept.snd_of_eq {p : β × State} {t : State} {b : β} (h : Kept s₀ p.2) (e : p = (b, t)) : Kept s₀ t := by
  rw [e] at h
  exact h

theorem Kept.foldl (h : Kept s₀ s) (l : List α) (f : State → α → State) (hf : ∀ y, Kept s₀ y → ∀ a, Kept s₀ (f y a)) :
    Kept s₀ (l.foldl f s) :=
  List.foldlRecOn l f h (fun y hy a _ => hf y hy a)

theorem Kept.foldlFst {p : State × β} (h : Kept s₀ p.1) (l : List α) (f : State × β → α → State × β)
    (hf : ∀ p, Kept s₀ p.1 → ∀ a, Kept s₀ (f p a).1) : Kept s₀ (l.foldl f p).1 :=
  List.foldlRecOn (motive := fun p => Kept s₀ p.1) l f h (fun p hp a _ => hf p hp a)

theorem Kept.foldlSnd {p : β × State} (h : Kept s₀ p.2) (l : List α) (f : β × State → α → β × State)
    (hf : ∀ p, Kept s₀ p.2 → ∀ a, Kept s₀ (f p a).2) : Kept s₀ (l.foldl f p).2 :=
  List.foldlRecOn (motive := fun p => Kept s₀ p.2) l f h (fun p hp a _ => hf p hp a)

theorem Answers.next {t : State} (h : Kept s₀ t) : Answers s₀ (.next t) := ⟨t, rfl, h⟩

theorem Answers.ite {c : Prop} [Decidable c] {x y : Res} (hx : Answers s₀ x) (hy : Answers s₀ y) : Answers s₀ (if c then x else y) := by
  split
  · exact hx
  · exact hy

variable (hs : Kept s₀ s)
include hs

/-- A change of the units other than the policy cores. -/
theorem Kept.units {now free regs flash outbox raised edge fuse ao isl me ob ph sl ad bg th tw rv fb cb ax lg se cf fl} :
    Kept s₀ { s with
      now := now, free := free, regs := regs, flash := flash, outbox := outbox, raised := raised, edge := edge, fuse := fuse, ao := ao
      isl := isl, me := me, ob := ob, ph := ph, sl := sl, ad := ad, bg := bg, th := th, tw := tw, rv := rv, fb := fb, cb := cb, ax := ax
      lg := lg, se := se, cf := cf, fl := fl } := hs

/-- A change of the shared clock of the cores and of what is noted of their image. -/
theorem Kept.clock {now free regs flash outbox raised edge fuse ao isl me ob ph sl ad bg th tw rv fb cb ax lg se cf fl cyc version check} :
    Kept s₀ { s with
      ik.cyc := cyc, ik.version := version, ik.check := check
      now := now, free := free, regs := regs, flash := flash, outbox := outbox, raised := raised, edge := edge, fuse := fuse, ao := ao
      isl := isl, me := me, ob := ob, ph := ph, sl := sl, ad := ad, bg := bg, th := th, tw := tw, rv := rv, fb := fb, cb := cb, ax := ax
      lg := lg, se := se, cf := cf, fl := fl } := hs

/-- A change that leaves the byte memories of the policy cores canonical. -/
theorem Kept.ikiva {now free regs flash outbox raised edge fuse ao isl me ob ph sl ad bg th tw rv fb cb ax lg se cf fl} {ik : Ikiva}
    (hik : CanonicalBytes s → Memory.wf ik.table = true
      ∧ ∀ c, Memory.wf (mget {} ik.cores c).data = true ∧ Memory.wf (mget {} ik.cores c).launch = true) :
    Kept s₀ { s with
      ik := ik, now := now, free := free, regs := regs, flash := flash, outbox := outbox, raised := raised, edge := edge, fuse := fuse
      ao := ao, isl := isl, me := me, ob := ob, ph := ph, sl := sl, ad := ad, bg := bg, th := th, tw := tw, rv := rv, fb := fb, cb := cb
      ax := ax, lg := lg, se := se, cf := cf, fl := fl } :=
  ⟨hs.1, fun w => hik (hs.2 w)⟩

/-! The named operations over the state. -/

theorem Kept.wr (f : Fld) (v : Nat) : Kept s₀ (s.wr f v) := hs.units
theorem Kept.satAdd (f : Fld) (n : Nat) : Kept s₀ (s.satAdd f n) := hs.wr _ _
theorem Kept.setBit (f : Fld) (n : Nat) : Kept s₀ (s.setBit f n) := hs.wr _ _
theorem Kept.emit (src code p0 p1 p2 p3 : Nat) : Kept s₀ (s.emit src code p0 p1 p2 p3) := hs.units
theorem Kept.out (o : Out) : Kept s₀ (s.out o) := hs.units
theorem Kept.outEnd (o : Out) : Kept s₀ (s.outEnd o) := hs.units

theorem Kept.draw (k : Nat) : Kept s₀ (s.draw k).2 := by
  unfold State.draw
  dsimp only
  exact hs.units

theorem Kept.refuse : Kept s₀ s.refuse := hs.wr _ _
theorem Kept.glErr (f : Fld) (addr : Nat) : Kept s₀ (s.glErr f addr) := (Kept.ite (hs.wr _ _) hs).wr _ _

theorem Kept.upto (n : Nat) (f : Nat → State → State) (hf : ∀ i y, Kept s₀ y → Kept s₀ (f i y)) : Kept s₀ (s.upto n f) :=
  hs.foldl _ _ (fun y hy i => hf i y hy)

theorem Kept.each (l : List Nat) (f : Nat → State → State) (hf : ∀ i y, Kept s₀ y → Kept s₀ (f i y)) : Kept s₀ (s.each l f) :=
  hs.foldl _ _ (fun y hy i => hf i y hy)

/-! Counting of observed events, and the general queues, channels and groups of the message engine. -/

theorem Kept.obsAdd (n : Nat) : Kept s₀ (s.obsAdd n) := hs.units

theorem Kept.count (src : Nat) (t : ObsTags) : Kept s₀ (s.count src t) := by
  unfold State.count
  refine .ite (hs.upto _ _ (fun _ _ hy => ?_)) hs
  refine .ite ?_ hy
  split
  · exact hy.obsAdd _
  · exact (hy.draw 164).obsAdd _

theorem Kept.polFell (f : Fld) : Kept s₀ (s.polFell f) := .ite hs (hs.wr _ _)

theorem Kept.qDrop (q source : Nat) (chan : Bool) : Kept s₀ (s.qDrop q source chan) := by
  unfold State.qDrop
  extract_lets s1 _ s2
  have hs1 : Kept s₀ s1 := .ite hs ((hs.wr _ _).satAdd _ _)
  have hs2 : Kept s₀ s2 := .ite hs1 hs1.units
  exact (hs2.emit _ _ _ _ _ _).count _ _

theorem Kept.qAccept (q : Nat) (m : QMsg) : Kept s₀ (s.qAccept q m) := hs.units.count _ _

theorem Kept.sendQueue (q : Nat) (m : QMsg) : Kept s₀ (s.sendQueue q m).2 :=
  .iteSnd hs (.iteSnd hs (.iteSnd (hs.qAccept _ _) (hs.qDrop _ _ _)))

theorem Kept.sendChan (c owner : Nat) (resend : Bool) (m : QMsg) : Kept s₀ (s.sendChan c owner resend m).2 := by
  unfold State.sendChan
  dsimp only
  exact .iteSnd hs (.iteSnd hs (.iteSnd (hs.qDrop _ _ _) (.iteSnd (hs.qAccept _ _).units (hs.qDrop _ _ _).units)))

theorem Kept.collectDeliver (g : Nat) (part : Bool) : Kept s₀ (s.collectDeliver g part) := .ite (hs.units.qAccept _ _) hs.units

theorem Kept.collectTry (g : Nat) (e : QMsg × Nat × Nat) : Kept s₀ (s.collectTry g e) :=
  .ite (hs.qAccept _ _) (.ite ((hs.wr _ _).emit _ _ _ _ _ _) hs.units)

theorem Kept.collectArrive (g : Nat) (v : DWord) : Kept s₀ (s.collectArrive g v) := .ite (hs.units.collectDeliver _ _) hs.units

theorem Kept.sendGroup (g : Nat) (m : QMsg) : Kept s₀ (s.sendGroup g m).2 := by
  unfold State.sendGroup
  split
  · exact .iteSnd hs (.iteSnd hs (.iteSnd (hs.each _ _ (fun _ _ hy => hy.qAccept _ _)) (hs.each _ _ (fun _ _ hy => hy.qDrop _ _ _))))
  · exact hs.collectArrive _ _
  · exact hs

theorem Kept.hwDeliver (code p0 p1 p2 : Nat) : Kept s₀ (s.hwDeliver code p0 p1 p2) :=
  .ite (hs.qAccept _ _) (((hs.qDrop _ _ _).polFell _).units.emit _ _ _ _ _ _)

theorem Kept.hwEvent (bit : Option Nat) (code p0 p1 p2 : Nat) : Kept s₀ (s.hwEvent bit code p0 p1 p2) :=
  .ite hs (.ite hs.units (hs.hwDeliver _ _ _ _))

theorem Kept.emitHw (bit : Option Nat) (src code p0 p1 p2 p3 : Nat) : Kept s₀ (s.emitHw bit src code p0 p1 p2 p3) :=
  (hs.emit _ _ _ _ _ _).hwEvent _ _ _ _ _

theorem Kept.chanDrained (c : Nat) : Kept s₀ (s.chanDrained c) := .ite hs.units hs

theorem Kept.qPop (q : Nat) : Kept s₀ (s.qPop q).2 := by
  unfold State.qPop
  split
  · exact hs
  · exact .ite hs.units (hs.units.chanDrained _)

theorem Kept.setLatch (req q : Nat) (l : List Nat) : Kept s₀ (s.setLatch req q l) := hs.units

theorem Kept.popBy (req q : Nat) : Kept s₀ (s.popBy req q).2 := by
  unfold State.popBy
  refine .iteSnd ((hs.wr _ _).emit _ _ _ _ _ _) (.iteSnd ((hs.wr _ _).emit _ _ _ _ _ _) ?_)
  split
  · exact ((hs.qPop _).snd_of_eq ‹_›).setLatch _ _ _
  · exact ((hs.qPop _).snd_of_eq ‹_›).setLatch _ _ _

theorem Kept.qDisable (q : Nat) : Kept s₀ (s.qDisable q) := .ite (hs.units.wr _ _) ((hs.units.wr _ _).emit _ _ _ _ _ _)

theorem Kept.qEnable (q : Nat) : Kept s₀ (s.qEnable q) := by
  unfold State.qEnable
  dsimp only
  split
  · exact hs.units.wr _ _
  · exact ((hs.wr _ _).wr _ _).emit _ _ _ _ _ _

theorem Kept.chanOpen (owner source q : Nat) : Kept s₀ (s.chanOpen owner source q).2.2 := by
  unfold State.chanOpen
  refine .iteSndSnd hs ?_
  split
  · exact (hs.wr _ _).emit _ _ _ _ _ _
  · exact hs.units

theorem Kept.chanClose (owner c : Nat) : Kept s₀ (s.chanClose owner c).2 := by
  unfold State.chanClose
  dsimp only
  exact .iteSnd hs (hs.units.chanDrained _)

theorem Kept.meTakeover : Kept s₀ s.meTakeover := hs.units

/-! Host access to the register window. -/

theorem Kept.noteProv (fl : Fld) : Kept s₀ (s.noteProv fl) := .ite hs.units hs
theorem Kept.fieldSet (a i j : Nat) (f : FDesc) (w : Nat) : Kept s₀ (s.fieldSet a i j f w) := .ite ((hs.wr _ _).noteProv _) (hs.wr _ _)

theorem Kept.glErrs (was : State) (ga : Nat) (errs : List Fld) : Kept s₀ (s.glErrs was ga errs) :=
  (Kept.ite (hs.wr _ _) hs).foldl _ _ (fun _ hy _ => hy.wr _ _)

theorem Kept.writeFields (ga v : Nat) : Kept s₀ (s.writeFields ga v) := by
  unfold State.writeFields
  split
  · exact hs
  · refine (hs.foldlFst _ _ (fun _ hp _ => ?_)).glErrs _ _ _
    dsimp only
    split
    · exact hp.fieldSet _ _ _ _ _
    · exact hp

theorem Kept.rsvdCheck (ga v : Nat) : Kept s₀ (s.rsvdCheck ga v) := by
  unfold State.rsvdCheck
  split
  · exact hs
  · exact hs.glErrs _ _ _

theorem Kept.absent (isl : Nat) : Kept s₀ (s.absent isl) := .ite hs ((hs.wr _ _).wr _ _)
theorem Kept.serveIn (isl : Nat) (change : Bool) : Kept s₀ (s.serveIn isl change).2 := .iteSnd (hs.absent _) (.iteSnd (hs.wr _ _) hs)

theorem Kept.serve (a : Nat) (change : Bool) : Kept s₀ (s.serve a change).2 := by
  unfold State.serve
  refine .iteSnd hs ?_
  split
  · exact hs.glErr _ _
  · exact hs.serveIn _ _

theorem Kept.hostWrite (a v : Nat) (after : State → State) (hf : ∀ y, Kept s₀ y → Kept s₀ (after y)) : Kept s₀ (s.hostWrite a v after) := by
  unfold State.hostWrite
  split
  · exact hf _ (((hs.serve _ _).snd_of_eq ‹_›).writeFields _ _)
  · exact (hs.serve _ _).snd_of_eq ‹_›

theorem Kept.keyedWrite (a v : Nat) (act : State → State) (hf : ∀ y, Kept s₀ y → Kept s₀ (act y)) : Kept s₀ (s.keyedWrite a v act) := by
  unfold State.keyedWrite
  split
  · exact .ite (hf _ (((hs.serve _ _).snd_of_eq ‹_›).writeFields _ _)) ((hs.serve _ _).snd_of_eq ‹_›).refuse
  · exact (hs.serve _ _).snd_of_eq ‹_›

theorem Kept.saveBlock (b : Nat) : Kept s₀ (s.saveBlock b) := .ite hs.units hs.units
theorem Kept.saveDone (b : Nat) : Kept s₀ (s.saveDone b) := .ite (.ite ((hs.units.out _).units.saveBlock _) (hs.units.out _)) hs
theorem Kept.reloadConfig (isl : Nat) : Kept s₀ (s.reloadConfig isl) := hs.units
theorem Kept.clearFields (cls : Nat) (hit : Nat → Bool) : Kept s₀ (s.clearFields cls hit) := hs.units

/-! Rails and phases. -/

theorem Kept.setRail (r : Nat) (x : Rail) : Kept s₀ (s.setRail r x) := hs.units
theorem Kept.setLane (n : Nat) (x : Phase) : Kept s₀ (s.setLane n x) := hs.units
theorem Kept.setDom (d : Nat) (x : Dom) : Kept s₀ (s.setDom d x) := hs.units
theorem Kept.setZone (z : Nat) (x : Zone) : Kept s₀ (s.setZone z x) := hs.units
theorem Kept.drive (n : Nat) (v : Pin) : Kept s₀ (s.drive n v) := .ite hs ((hs.setLane _ _).out _)

theorem Kept.turnOn (r : Nat) (l : List Nat) : Kept s₀ (s.turnOn r l) :=
  (hs.each _ _ (fun _ _ hy => hy.setLane _ _)).each _ _ (fun _ _ hy => hy.setLane _ _)

theorem Kept.turnOff (l : List Nat) : Kept s₀ (s.turnOff l) := hs.each _ _ (fun _ _ hy => (hy.setLane _ _).drive _ _)
theorem Kept.activateAll (r : Nat) : Kept s₀ (s.activateAll r) := hs.turnOn _ _
theorem Kept.releaseLanes (r : Nat) : Kept s₀ (s.releaseLanes r) := hs.turnOff _
theorem Kept.fillMin (r : Nat) : Kept s₀ (s.fillMin r) := .ite (.ite (hs.activateAll _) (hs.turnOn _ _)) hs
theorem Kept.pmbus (n cmd data : Nat) : Kept s₀ (s.pmbus n cmd data) := .ite (hs.out _) hs
theorem Kept.pmbusReads (n : Nat) (cmds : List Nat) : Kept s₀ (s.pmbusReads n cmds) := hs.each _ _ (fun _ _ hy => .ite (hy.out _) hy)
theorem Kept.noteDerated (r : Nat) : Kept s₀ (s.noteDerated r) := hs.emitHw _ _ _ _ _ _ _

theorem Kept.stagesOn (r : Nat) : Kept s₀ (s.stagesOn r) :=
  hs.each _ _ (fun _ _ hy => ((((((hy.setLane _ _).pmbusReads _ _).pmbus _ _ _).pmbus _ _ _).pmbus _ _ _).pmbus _ _ _).pmbus _ _ _)

theorem Kept.railStop (r at_ : Nat) : Kept s₀ (s.railStop r at_) := .ite hs (hs.setRail _ _)
theorem Kept.railOff (r : Nat) : Kept s₀ (s.railOff r) := (hs.setRail _ _).releaseLanes _
theorem Kept.stopSettle (r : Nat) : Kept s₀ (s.stopSettle r) := .ite (hs.railOff _) hs
theorem Kept.avsWrite (r : Nat) : Kept s₀ (s.avsWrite r) := .ite ((hs.setRail _ _).each _ _ (fun _ _ hy => hy.out _)) hs
theorem Kept.burstExitCmd (r : Nat) : Kept s₀ (s.burstExitCmd r) := .ite (hs.setDom _ _) hs

/-! Sluice messages, the tile table, downstream sending, CLAMP codes and the checks on upstream messages. -/

theorem Kept.setLink (n : Nat) (x : Link) : Kept s₀ (s.setLink n x) := hs.units
theorem Kept.setTile (t : Nat) (x : Tile) : Kept s₀ (s.setTile t x) := hs.units

theorem Kept.putFlits (n : Nat) (r : FlitLink × List (List Nat)) : Kept s₀ (s.putFlits n r) :=
  (hs.setLink _ _).foldl _ _ (fun _ hy _ => hy.out _)

theorem Kept.down (n : Nat) (m : Msg) : Kept s₀ (s.down n m) := hs.putFlits _ _
theorem Kept.sendLink (n : Nat) (m : Msg) : Kept s₀ (s.sendLink n m) := .ite (hs.down _ _) hs
theorem Kept.sendTileOn (n t ty : Nat) (fs : List (Nat × Nat × Nat)) : Kept s₀ (s.sendTileOn n t ty fs) := hs.sendLink _ _
theorem Kept.sendTile (t ty : Nat) (fs : List (Nat × Nat × Nat)) : Kept s₀ (s.sendTile t ty fs) := hs.sendTileOn _ _ _ _

theorem Kept.sendAll (ty mode target : Nat) (fs : List (Nat × Nat × Nat)) : Kept s₀ (s.sendAll ty mode target fs) :=
  hs.upto _ _ (fun _ _ hy => hy.sendLink _ _)

theorem Kept.nak (n t seq code echo detail : Nat) : Kept s₀ (s.nak n t seq code echo detail) := hs.sendTileOn _ _ _ _
theorem Kept.sendClose (n t reason : Nat) : Kept s₀ (s.sendClose n t reason) := hs.sendTileOn _ _ _ _
theorem Kept.tileStat (t v : Nat) : Kept s₀ (s.tileStat t v) := hs.wr _ _
theorem Kept.noteTile (t : Nat) : Kept s₀ (s.noteTile t) := ((hs.tileStat _ _).wr _ _).units
theorem Kept.putTile (t : Nat) (x : Tile) : Kept s₀ (s.putTile t x) := (hs.setTile _ _).noteTile _

theorem Kept.nakMsg (n : Nat) (m : Msg) (code detail : Nat) : Kept s₀ (s.nakMsg n m code detail) :=
  .ite ((hs.nak _ _ _ _ _ _).count _ _) (hs.nak _ _ _ _ _ _)

theorem Kept.badtag (n : Nat) (m : Msg) (bytes : List Nat) : Kept s₀ (s.badtag n m bytes) := (hs.nakMsg _ _ _ _).emit _ _ _ _ _ _
theorem Kept.intakeMark (n : Nat) : Kept s₀ (s.intakeMark n) := .ite (hs.setLink _ _) hs
theorem Kept.intakeFull (n : Nat) (m : Msg) : Kept s₀ (s.intakeFull n m) := (((hs.intakeMark _).setLink _ _).satAdd _ _).nakMsg _ _ _ _
theorem Kept.queueFull (n : Nat) (m : Msg) : Kept s₀ (s.queueFull n m) := (hs.satAdd _ _).nakMsg _ _ _ _
theorem Kept.noteRate : Kept s₀ s.noteRate := .ite hs.units hs.units
theorem Kept.noteAccept (m : Msg) : Kept s₀ (s.noteAccept m) := .ite ((hs.noteRate.count _ _).count _ _) (hs.noteRate.count _ _)
theorem Kept.setHeld (l : List (Nat × Msg)) : Kept s₀ (s.setHeld l) := hs.units

theorem Kept.upJudge (n : Nat) (m : Msg) (queued : Bool) (bad : State → State) (hbad : ∀ y, Kept s₀ y → Kept s₀ (bad y))
    (act : State → State) (hact : ∀ y, Kept s₀ y → Kept s₀ (act y)) : Kept s₀ (s.upJudge n m queued bad act) := by
  unfold State.upJudge
  extract_lets _ _ _ s1 s2 _
  have hs1 : Kept s₀ s1 := .ite (hs.setHeld _) (.ite (hs.setLink _ _) hs)
  have hs2 : Kept s₀ s2 := .ite (hs1.noteAccept _) hs1
  exact .ite hs (.ite (hs.intakeFull _ _) (.ite (hs1.queueFull _ _) (.ite (.setHeld (.ite hs1 (hs1.noteAccept _)) _)
    (.ite (hact _ hs2) (hbad _ (hs2.badtag _ _ _))))))

theorem Kept.upReceive (n : Nat) (m : Msg) (queued : Bool) (act : State → State) (hact : ∀ y, Kept s₀ y → Kept s₀ (act y)) :
    Kept s₀ (s.upReceive n m queued act) :=
  hs.upJudge _ _ _ _ (fun _ hy => hy) _ hact

theorem Kept.clampAll : Kept s₀ s.clampAll := hs.upto _ _ (fun _ _ hy => .ite hy (.ite (hy.units.out _) hy.units))
theorem Kept.sendFstep (mask grade freq : Nat) : Kept s₀ (s.sendFstep mask grade freq) := hs.sendAll _ _ _ _
theorem Kept.sendBudget (p clears headroom : Nat) : Kept s₀ (s.sendBudget p clears headroom) := hs.sendAll _ _ _ _

/-! The grid ceiling, the package budget, committed power, allocation and the judging of INTENTs. -/

theorem Kept.noteOver : Kept s₀ s.noteOver := hs.upto _ _ (fun _ _ hy => .ite ((hy.units.wr _ _).emitHw _ _ _ _ _ _ _) (.ite hy.units hy))

theorem Kept.noteShort : Kept s₀ s.noteShort :=
  hs.upto _ _ (fun _ _ hy => .ite ((hy.units.wr _ _).emit _ _ _ _ _ _) (.ite hy.units (.ite (hy.wr _ _) hy)))

theorem Kept.budgetNotice (p old : Nat) : Kept s₀ (s.budgetNotice p old) := .ite (hs.sendBudget _ _ _) hs

theorem Kept.allocate : Kept s₀ s.allocate := by
  unfold State.allocate
  extract_lets _ _ _ _ _ _ s1 s2
  have hs1 : Kept s₀ s1 := hs.units
  have hs2 : Kept s₀ s2 := .ite ((hs1.wr _ _).emit _ _ _ _ _ _) (.ite (hs1.emit _ _ _ _ _ _) hs1)
  exact (hs2.upto _ _ (fun _ _ hy => hy.budgetNotice _ _)).noteOver.noteShort

theorem Kept.noteSource : Kept s₀ s.noteSource := .ite hs (hs.units.emitHw _ _ _ _ _ _ _)
theorem Kept.budgetMoved : Kept s₀ s.budgetMoved := .ite hs.noteSource.allocate hs.noteSource

theorem Kept.refuseBudget (t : Nat) (p : Pend) (code : Nat) : Kept s₀ (s.refuseBudget t p code) :=
  (((hs.nak _ _ _ _ _ _).emit _ _ _ _ _ _).count _ _).putTile _ _

/-! The wave walk and its grants, barrier rounds and their release, pre-boost, grades and pause duties. -/

theorem Kept.unlist (t seq : Nat) : Kept s₀ (s.unlist t seq) := hs.setDom _ _

theorem Kept.dropIntent (t seq : Nat) : Kept s₀ (s.dropIntent t seq) := by
  unfold State.dropIntent
  refine Kept.putTile ?_ _ _
  dsimp only
  split
  · exact .ite (hs.unlist _ _).units (hs.unlist _ _)
  · exact hs.unlist _ _

theorem Kept.reserve (t : Nat) (p : Pend) : Kept s₀ (s.reserve t p) := hs.putTile _ _
theorem Kept.sendGrant (t d : Nat) (p : Pend) (delay : Nat) : Kept s₀ (s.sendGrant t d p delay) := hs.sendTile _ _ _

theorem Kept.grantOne (d t seq delay : Nat) : Kept s₀ (s.grantOne d t seq delay) := by
  unfold State.grantOne
  split
  · exact hs
  · exact ((hs.sendGrant _ _ _ _).reserve _ _).count _ _

theorem Kept.answerRenew (t : Nat) (p : Pend) : Kept s₀ (s.answerRenew t p) := (hs.sendGrant _ _ _ _).reserve _ _

theorem Kept.grantBlock (d : Nat) (e : Entry) (delay : Nat) : Kept s₀ (s.grantBlock d e delay) := by
  unfold State.grantBlock
  split
  · exact (hs.emit _ _ _ _ _ _).foldl _ _ (fun _ hy _ => hy.grantOne _ _ _ _)
  · refine (hs.sendAll _ _ _ _).foldl _ _ (fun _ hy _ => ?_)
    split
    · exact (hy.reserve _ _).count _ _
    · exact hy

theorem Kept.sendPause (p : Nat) (doms : List Nat) (duty : Nat) : Kept s₀ (s.sendPause p doms duty) :=
  (hs.foldl _ _ (fun _ hy _ => hy.units)).sendAll _ _ _ _

theorem Kept.pauseRise (p : Nat) : Kept s₀ (s.pauseRise p) := hs.foldl _ _ (fun _ hy _ => .ite (hy.units.sendPause _ _ _) hy)

theorem Kept.pauseFall (p : Nat) : Kept s₀ (s.pauseFall p) :=
  hs.upto _ _ (fun _ _ hy => .ite hy (hy.units.foldl _ _ (fun _ hy1 _ => hy1.setDom _ _)))

theorem Kept.pauseUpdate (p : Nat) : Kept s₀ (s.pauseUpdate p) := ((hs.foldl _ _ (fun _ hy _ => .ite hy hy.units)).pauseRise _).pauseFall _
theorem Kept.pauseAll : Kept s₀ s.pauseAll := hs.upto _ _ (fun _ _ hy => hy.pauseUpdate _)

theorem Kept.grantPause (d n : Nat) : Kept s₀ (s.grantPause d n) :=
  .ite ((Kept.ite hs.units (hs.units.sendPause _ _ _)).pauseFall _) hs.units

theorem Kept.grantEntry (d : Nat) (e : Entry) : Kept s₀ (s.grantEntry d e) :=
  .ite (hs.grantPause _ _) (.ite (hs.grantBlock _ _ _) (hs.foldl _ _ (fun _ hy _ => hy.grantOne _ _ _ _)))

omit hs in
theorem Kept.rejudge (hs : Kept s₀ s) (p n : Nat) : Kept s₀ (rejudge p n s) := by
  induction n generalizing s with
  | zero => exact hs
  | succ n ih =>
    unfold Machine.rejudge
    refine .ite hs ?_
    dsimp only
    split
    · exact hs
    · exact ih ((hs.dropIntent _ _).refuseBudget _ _ _)

theorem Kept.rejudgeAll : Kept s₀ s.rejudgeAll := hs.upto _ _ (fun _ _ hy => hy.rejudge _ _)
theorem Kept.boostFall (d g : Nat) : Kept s₀ (s.boostFall d g) := (hs.setDom _ _).setRail _ _
theorem Kept.boostEnd (d : Nat) : Kept s₀ (s.boostEnd d) := (hs.setDom _ _).foldl _ _ (fun _ hy _ => hy.boostFall _ _)

theorem Kept.waveOpen (d : Nat) : Kept s₀ (s.waveOpen d).1 := by
  unfold State.waveOpen
  dsimp only
  exact hs.setDom _ _

theorem Kept.heldRenewals (d : Nat) : Kept s₀ (s.heldRenewals d) := by
  unfold State.heldRenewals
  refine hs.foldl _ _ (fun _ hy _ => ?_)
  split
  · exact .ite hy (.ite ((hy.dropIntent _ _).refuseBudget _ _ _) (hy.answerRenew _ _))
  · exact hy

omit hs in
theorem Kept.walk (hs : Kept s₀ s) (d n : Nat) (l : List Entry) (cap : Nat) (first : Bool) (seen used gr : Nat) :
    Kept s₀ (walk d n s l cap first seen used gr).s := by
  induction n generalizing s l cap first seen used gr with
  | zero => exact hs
  | succ n ih =>
    cases l with
    | nil => exact hs
    | cons e t =>
      unfold Machine.walk
      dsimp only
      repeat' split
      · exact hs
      · exact ih hs _ _ _ _ _ _
      · exact ih hs _ _ _ _ _ _
      · exact hs
      · exact hs.grantEntry _ _
      · exact hs
      · exact ih (hs.grantEntry _ _) _ _ _ _ _ _

theorem Kept.waveStart (d : Nat) : Kept s₀ (s.waveStart d) := by
  unfold State.waveStart
  extract_lets _ s1 s2 _ _ s3 _ r _
  have hs1 : Kept s₀ s1 := (hs.waveOpen _).boostEnd _
  have hs3 : Kept s₀ s3 := (hs1.rejudgeAll.heldRenewals _).setDom _ _
  have hr : Kept s₀ r.s := hs3.walk _ _ _ _ _ _ _ _
  exact .ite (hs1.count _ _) ((hr.setDom _ _).count _ _)

theorem Kept.setRound (g : Nat) (r : BarRound) : Kept s₀ (s.setRound g r) := hs.units

theorem Kept.judgeEntry (e : Entry) : Kept s₀ (s.judgeEntry e).1 := by
  unfold State.judgeEntry
  dsimp only
  refine hs.foldlFst _ _ (fun _ hp _ => ?_)
  split
  · exact hp
  · split
    · exact (hp.dropIntent _ _).refuseBudget _ _ _
    · exact (hp.putTile _ _).units

theorem Kept.release (g : Nat) : Kept s₀ (s.release g) := by
  unfold State.release
  refine hs.units.upto _ _ (fun _ _ hy => ?_)
  refine .ite (hy.setDom _ _) (((hy.foldlFst _ _ (fun _ hp _ => ?_)).setDom _ _).setDom _ _)
  dsimp only
  exact hp.judgeEntry _

theorem Kept.checkRelease (g : Nat) : Kept s₀ (s.checkRelease g) := .ite (hs.release _) hs

theorem Kept.predictStart (g : Nat) : Kept s₀ (s.predictStart g) := by
  unfold State.predictStart
  refine hs.upto _ _ (fun _ _ hy => ?_)
  refine .ite ?_ hy
  split
  · exact hy.setRound _ _
  · exact hy

theorem Kept.arrive (g t seq : Nat) : Kept s₀ (s.arrive g t seq) := ((hs.setRound _ _).predictStart _).checkRelease _
theorem Kept.slewTo (d g rate : Nat) : Kept s₀ (s.slewTo d g rate) := hs.setRail _ _

theorem Kept.startStep (d : Nat) : Kept s₀ (s.startStep d) :=
  .ite hs (.ite (((hs.setDom _ _).slewTo _ _ _).burstExitCmd _)
      (.ite ((hs.setDom _ _).sendFstep _ _ _) (.ite ((hs.setDom _ _).slewTo _ _ _) hs)))

theorem Kept.retarget (d g : Nat) : Kept s₀ (s.retarget d g) := (((hs.setDom _ _).wr _ _).startStep _).noteOver.noteShort

theorem Kept.gradeRequest (d g : Nat) : Kept s₀ (s.gradeRequest d g) :=
  .ite ((hs.wr _ _).emit _ _ _ _ _ _) (.ite ((hs.wr _ _).emit _ _ _ _ _ _) (hs.retarget _ _))

theorem Kept.refuseListed (l : List Nat) : Kept s₀ (s.refuseListed l) :=
  hs.foldl _ _ (fun _ hy _ => hy.foldl _ _ (fun _ hy1 _ => (hy1.dropIntent _ _).refuseBudget _ _ _))

theorem Kept.regFault (r cause v : Nat) : Kept s₀ (s.regFault r cause v) :=
  .ite hs ((((((hs.setRail _ _).releaseLanes _).wr _ _).wr _ _).emit _ _ _ _ _ _).refuseListed _).clampAll

/-! Health, starting and holding of the main rails. -/

theorem Kept.minCheck (r : Nat) : Kept s₀ (s.minCheck r) := .ite (hs.regFault _ _ _) (hs.fillMin _)
theorem Kept.healthChange (r : Nat) : Kept s₀ (s.healthChange r) := (hs.noteDerated _).minCheck _
theorem Kept.healthSince (was : State) : Kept s₀ (s.healthSince was) := hs.each _ _ (fun _ _ hy => hy.healthChange _)
theorem Kept.railStart (r : Nat) : Kept s₀ (s.railStart r) := ((((hs.setRail _ _).setDom _ _).activateAll _).stagesOn _).minCheck _
theorem Kept.startReady : Kept s₀ s.startReady := hs.each _ _ (fun _ _ hy => hy.railStart _)

theorem Kept.strobeHold (r : Nat) : Kept s₀ (s.strobeHold r) :=
  (((hs.setRail _ _).setDom _ _).activateAll _).each _ _ (fun _ _ hy => (hy.setLane _ _).drive _ _)

/-! The commands of admission and droop. -/

theorem Kept.execWaveStart (d : Fin 8) : Answers s₀ (execWaveStart d s) := .next (.ite (hs.waveStart _) hs)
theorem Kept.execBarrierTimeout (g : Fin 4095) : Answers s₀ (execBarrierTimeout g s) := .next (.ite hs ((hs.emitHw _ _ _ _ _ _ _).release _))
theorem Kept.execPredictTick (g : Fin 4095) : Answers s₀ (execPredictTick g s) := .next (.ite (hs.setRound _ _) hs)

theorem Kept.execPreboostStart (g : Fin 4095) (d : Fin 8) : Answers s₀ (execPreboostStart g d s) :=
  .next (.ite (((hs.setDom _ _).burstExitCmd _).activateAll _) hs)

theorem Kept.execPreboostMaxhold (g : Fin 4095) (d : Fin 8) : Answers s₀ (execPreboostMaxhold g d s) :=
  .next (.ite ((hs.boostFall _ _).emitHw _ _ _ _ _ _ _) hs)

theorem Kept.execGradeReqWrite (d : Fin 8) (v : Word) : Answers s₀ (execGradeReqWrite d v s) :=
  .next (hs.hostWrite _ _ _ (fun _ hy => hy.gradeRequest _ _))

theorem Kept.execGradeSettled (d : Fin 8) : Answers s₀ (execGradeSettled d s) := .next (.ite ((hs.setDom _ _).sendFstep _ _ _) hs)
theorem Kept.execGradeDownFall (d : Fin 8) : Answers s₀ (execGradeDownFall d s) := .next (.ite ((hs.setDom _ _).slewTo _ _ _) hs)

theorem Kept.execGradeSettleTimeout (d : Fin 8) : Answers s₀ (execGradeSettleTimeout d s) :=
  .next (.ite ((((hs.emit _ _ _ _ _ _).setDom _ _).wr _ _).slewTo _ _ _) hs)

theorem Kept.execLimitStep (d : Fin 8) : Answers s₀ (execLimitStep d s) := .next (.ite ((hs.emit _ _ _ _ _ _).retarget _ _) hs)

theorem Kept.execPauseDutyChange (n : Fin 8) (v : Word) : Answers s₀ (execPauseDutyChange n v s) :=
  .next (hs.hostWrite _ _ _ (fun _ hy => hy.upto _ _ (fun _ _ hy1 => hy1.pauseUpdate _)))

theorem Kept.execFloodgateDetect (r : Fin 8) (l : List (BitVec 12)) : Answers s₀ (execFloodgateDetect r l s) := by
  unfold Machine.execFloodgateDetect
  extract_lets _ _ _ _ _ s1 s2
  have hs1 : Kept s₀ s1 := (hs.setDom _ _).satAdd _ _
  have hs2 : Kept s₀ s2 := .ite (hs1.emitHw _ _ _ _ _ _ _) hs1
  exact .next (.ite (.ite hs2 (((hs2.wr _ _).emit _ _ _ _ _ _).count _ _)) hs)

theorem Kept.execStrobeWithdraw (r : Fin 8) (l : List (BitVec 12)) : Answers s₀ (execStrobeWithdraw r l s) :=
  .next (.ite (((((hs.setDom _ _).wr _ _).wr _ _).emit _ _ _ _ _ _).count _ _) hs)

theorem Kept.execFloodgateRearm (r : Fin 8) : Answers s₀ (execFloodgateRearm r s) :=
  .next (.ite hs (.ite (hs.strobeHold _) (hs.setRail _ _)))

theorem Kept.execFreezeEnd (d : Fin 8) : Answers s₀ (execFreezeEnd d s) := .next (hs.setDom _ _)
theorem Kept.execAdSave (v : Word) : Answers s₀ (execAdSave v s) := .next (hs.hostWrite _ _ _ (fun _ hy => .ite (hy.saveBlock _) hy))

/-! Auxiliary channels and supply groups. -/

theorem Kept.setAux (n : Nat) (x : AuxCh) : Kept s₀ (s.setAux n x) := hs.units
theorem Kept.setAuxGrp (g : Nat) (x : AuxGrp) : Kept s₀ (s.setAuxGrp g x) := hs.units
theorem Kept.auxDrive (n mv : Nat) : Kept s₀ (s.auxDrive n mv) := .ite ((hs.setAux _ _).out _) (hs.setAux _ _)
theorem Kept.auxSeq : Kept s₀ s.auxSeq := .ite (hs.units.emit _ _ _ _ _ _) hs

theorem Kept.auxStart : Kept s₀ s.auxStart := by
  unfold State.auxStart
  split
  · exact hs.units.emit _ _ _ _ _ _
  · exact (hs.units.upto _ _ (fun _ _ hy => .ite hy (.ite (hy.setAux _ _) (.ite (hy.setAux _ _) hy)))).auxSeq

theorem Kept.auxProfile : Kept s₀ s.auxProfile := by
  unfold State.auxProfile
  split
  · exact hs.units.emit _ _ _ _ _ _
  · exact .ite hs.auxStart hs.units

theorem Kept.auxRelease : Kept s₀ s.auxRelease := hs.each _ _ (fun _ _ hy => (hy.setAux _ _).auxDrive _ _)
theorem Kept.mainDepLost (n cause val : Nat) : Kept s₀ (s.mainDepLost n cause val) := .ite (hs.hwEvent _ _ _ _ _) hs

theorem Kept.auxFaultRec (n cause val id : Nat) : Kept s₀ (s.auxFaultRec n cause val id) :=
  (((hs.setBit _ _).wr _ _).wr _ _).emit _ _ _ _ _ _

theorem Kept.auxTurnOff (l : List Nat) (into : Nat) : Kept s₀ (s.auxTurnOff l into) :=
  (hs.each _ _ (fun _ _ hy => .ite (hy.setAux _ _) (.ite (hy.setAux _ _) hy))).auxRelease

theorem Kept.auxCascade (n id : Nat) : Kept s₀ (s.auxCascade n id) :=
  (hs.each _ _ (fun _ _ hy => .ite (hy.setAux _ _) (.ite (.ite ((hy.auxFaultRec _ _ _ _).mainDepLost _ _ _) (hy.auxFaultRec _ _ _ _))
      hy))).auxTurnOff _ _

theorem Kept.auxFault (n cause val : Nat) : Kept s₀ (s.auxFault n cause val) := by
  unfold State.auxFault
  extract_lets _ _ _ _ _ s1 s2 s3
  have hs1 : Kept s₀ s1 := (hs.units.setAuxGrp _ _).setAux _ _
  have hs2 : Kept s₀ s2 := (hs1.auxDrive _ _).auxFaultRec _ _ _ _
  have hs3 : Kept s₀ s3 := .ite ((hs2.mainDepLost _ _ _).auxCascade _ _) hs2
  exact hs3.auxRelease.auxSeq

theorem Kept.auxRead (n : Nat) (mv ma : Option Nat) : Kept s₀ (s.auxRead n mv ma) := hs.setAux _ _
theorem Kept.agvRead (g mv : Nat) : Kept s₀ (s.agvRead g mv) := hs.setAuxGrp _ _

theorem Kept.auxGroupStop (g : Nat) : Kept s₀ (s.auxGroupStop g) := by
  unfold State.auxGroupStop
  extract_lets _ _ _ _ _ _ _ s1 s2 s3
  have hs1 : Kept s₀ s1 := hs.setAuxGrp _ _
  have hs2 : Kept s₀ s2 := (hs1.emit _ _ _ _ _ _).auxTurnOff _ _
  have hs3 : Kept s₀ s3 := hs2.foldl _ _ (fun _ hy _ => (hy.draw 62).mainDepLost _ _ _)
  exact hs3.auxSeq

theorem Kept.auxPause (n : Nat) : Kept s₀ (s.auxPause n) := .ite (hs.setAux _ _) hs
theorem Kept.auxResume (n : Nat) : Kept s₀ (s.auxResume n) := .ite (hs.setAux _ _) hs

theorem Kept.sagBegin (g low : Nat) : Kept s₀ (s.sagBegin g low) :=
  ((((Kept.ite hs hs.units).setAuxGrp _ _).each _ _ (fun _ _ hy => hy.auxPause _)).wr _ _).emit _ _ _ _ _ _

theorem Kept.auxAdmit (g : Nat) : Kept s₀ (s.auxAdmit g) :=
  .ite hs (hs.each _ _ (fun _ _ hy => .ite (((hy.draw 70).setAux _ _).auxDrive _ _) hy))

theorem Kept.auxAllOff : Kept s₀ s.auxAllOff := hs.auxTurnOff _ _

theorem Kept.auxRestart (g : Nat) : Kept s₀ (s.auxRestart g) :=
  .ite hs ((hs.setAuxGrp _ _).upto _ _ (fun _ _ hy => .ite hy (.ite (hy.setAux _ _) (.ite (hy.setAux _ _) hy))))

theorem Kept.axCtl (v : Nat) : Kept s₀ (s.axCtl v) := by
  unfold State.axCtl
  refine hs.keyedWrite _ _ _ (fun _ hy => ?_)
  extract_lets _ a _ _ b _ c
  have ha : Kept s₀ a := hy.upto _ _ (fun _ _ hy1 => .ite (hy1.auxRestart _) hy1)
  have hb : Kept s₀ b := .ite (ha.setAux _ _) ha
  have hc : Kept s₀ c := .ite hb.units.auxAllOff hb
  exact .ite hy.refuse (.ite hc.auxStart hc)

/-! The commands of the auxiliary rails. -/

theorem Kept.execAxRun (v : Word) : Answers s₀ (execAxRun v s) := .next (hs.axCtl _)
theorem Kept.execAxStop (v : Word) : Answers s₀ (execAxStop v s) := .next (hs.axCtl _)
theorem Kept.execAxClear (v : Word) : Answers s₀ (execAxClear v s) := .next (hs.axCtl _)
theorem Kept.execAxRestart (v : Word) : Answers s₀ (execAxRestart v s) := .next (hs.axCtl _)
theorem Kept.execAuxReady (n : Fin 24) : Answers s₀ (execAuxReady n s) := .next (.ite (hs.setAux _ _) hs)
theorem Kept.execAuxAdmitTick : Answers s₀ (execAuxAdmitTick s) := .next (.ite (hs.upto _ _ (fun _ _ hy => hy.auxAdmit _)) hs)

theorem Kept.execAuxGood (n : Fin 24) (agv v : BitVec 12) : Answers s₀ (execAuxGood n agv v s) := by
  unfold Machine.execAuxGood
  extract_lets _ s1 _
  have hs1 : Kept s₀ s1 := (hs.agvRead _ _).auxRead _ _ _
  exact .next (.ite (.ite ((hs1.setAux _ _).auxDrive _ _).auxSeq.startReady hs1) hs)

theorem Kept.execAuxSsTimeout (n : Fin 24) (c : BitVec 12) : Answers s₀ (execAuxSsTimeout n c s) :=
  .next (.ite ((hs.auxRead _ _ _).auxFault _ _ _) hs)

theorem Kept.execAuxFast (n : Fin 24) (c : BitVec 12) : Answers s₀ (execAuxFast n c s) := .next (.ite ((hs.auxRead _ _ _).auxFault _ _ _) hs)

theorem Kept.execAuxOverload (n : Fin 24) (c : BitVec 12) : Answers s₀ (execAuxOverload n c s) :=
  .next (.ite (.ite ((hs.auxRead _ _ _).auxFault _ _ _) (hs.auxRead _ _ _)) hs)

theorem Kept.execAuxUv (n : Fin 24) (agv v : BitVec 12) : Answers s₀ (execAuxUv n agv v s) :=
  .next (.ite (.ite (((hs.agvRead _ _).auxRead _ _ _).auxFault _ _ _) ((hs.agvRead _ _).auxRead _ _ _)) hs)

theorem Kept.execAuxSense (n : Fin 24) (c v : BitVec 12) : Answers s₀ (execAuxSense n c s v) :=
  .next (.ite ((hs.auxRead _ _ _).auxFault _ _ _) hs)

theorem Kept.execGroupWarn (g : Fin 4) (cs : List (BitVec 12)) : Answers s₀ (execGroupWarn g cs s) := by
  unfold Machine.execGroupWarn
  extract_lets _ _ s1
  have hs1 : Kept s₀ s1 := hs.upto _ _ (fun _ _ hy => hy.auxRead _ _ _)
  exact .next (.ite (.ite (hs1.emitHw _ _ _ _ _ _ _) hs1) hs)

theorem Kept.execSagBegin (g : Fin 4) (a b : BitVec 12) : Answers s₀ (execSagBegin g a b s) := by
  unfold Machine.execSagBegin
  extract_lets s1 _ _
  have hs1 : Kept s₀ s1 := hs.agvRead _ _
  exact .next (.ite (.ite hs1 (.ite (hs1.auxGroupStop _) (.ite (hs1.sagBegin _ _) hs1))) hs)

theorem Kept.execSagEnd (g : Fin 4) (agv : BitVec 12) : Answers s₀ (execSagEnd g agv s) := by
  unfold Machine.execSagEnd
  extract_lets s1 _
  have hs1 : Kept s₀ s1 := hs.agvRead _ _
  exact .next (.ite (.ite (((hs1.setAuxGrp _ _).each _ _ (fun _ _ hy => hy.auxResume _)).emit _ _ _ _ _ _) hs1) hs)

theorem Kept.execSagMaxExpiry (g : Fin 4) : Answers s₀ (execSagMaxExpiry g s) := .next (.ite (hs.auxGroupStop _) hs)

theorem Kept.execReverseOffStep (n : Fin 24) (v : BitVec 12) : Answers s₀ (execReverseOffStep n v s) := by
  unfold Machine.execReverseOffStep
  refine .next (.ite ?_ hs)
  dsimp only
  split
  · exact hs.auxRead _ _ _
  · exact .ite ((hs.auxRead _ _ _).setAux _ _).auxRelease.auxSeq (hs.auxRead _ _ _)

/-! The commands of the package budget and the partitions. -/

theorem Kept.execAllocation : Answers s₀ (execAllocation s) := .next (.ite hs.noteSource.allocate hs)
theorem Kept.dutyUp (p m : Nat) : Kept s₀ (s.dutyUp p m) := .ite ((hs.units.emit _ _ _ _ _ _).pauseUpdate _) hs
theorem Kept.dutyDown (p : Nat) : Kept s₀ (s.dutyDown p) := .ite hs (hs.units.pauseUpdate _)

theorem Kept.execBudgetDutyTick : Answers s₀ (execBudgetDutyTick s) := by
  unfold Machine.execBudgetDutyTick
  extract_lets _ _ _ _ s1 _ _
  have hs1 : Kept s₀ s1 := hs.units
  exact .next (.ite hs (.ite (hs1.each _ _ (fun _ _ hy => hy.dutyUp _ _)) (.ite (hs1.upto _ _ (fun _ _ hy => hy.dutyDown _)) hs1)))

theorem Kept.execEstimateTick : Answers s₀ (execEstimateTick s) :=
  .next (.ite hs (((hs.upto _ _ (fun _ _ hy => (hy.units.wr _ _).wr _ _)).wr _ _).wr _ _))

theorem Kept.estClear : Kept s₀ s.estClear := ((hs.units.upto _ _ (fun _ _ hy => (hy.wr _ _).wr _ _)).wr _ _).wr _ _

theorem Kept.bgCtl (v : Nat) : Kept s₀ (s.bgCtl v) :=
  hs.hostWrite _ _ _ (fun _ hy => .ite ((Kept.ite hy.estClear hy).saveBlock _) (.ite hy.estClear hy))

theorem Kept.execEstClear (v : Word) : Answers s₀ (execEstClear v s) := .next (hs.bgCtl _)
theorem Kept.execBgSave (v : Word) : Answers s₀ (execBgSave v s) := .next (hs.bgCtl _)

theorem Kept.tableWrite (p : Nat) (change : State → State) (hf : ∀ y, Kept s₀ y → Kept s₀ (change y)) : Kept s₀ (s.tableWrite p change).2 := by
  unfold State.tableWrite
  dsimp only
  split
  · exact (hs.wr _ _).emit _ _ _ _ _ _
  · dsimp only
    exact (hf _ hs).allocate

theorem Kept.execPartCfgWrite (p : Fin 64) (hi : Bool) (v : Word) : Answers s₀ (execPartCfgWrite p hi v s) := by
  unfold Machine.execPartCfgWrite
  refine .next ?_
  split
  · exact ((hs.serve _ _).snd_of_eq ‹_›)
  · exact .ite (((hs.serve _ _).snd_of_eq ‹_›).tableWrite _ _ (fun _ hy => hy.writeFields _ _))
      ((((hs.serve _ _).snd_of_eq ‹_›).tableWrite _ _ (fun _ hy => hy.writeFields _ _)).rsvdCheck _ _)

theorem Kept.execHeldAskExpiry (t : Fin 16384) : Answers s₀ (execHeldAskExpiry t s) := by
  unfold Machine.execHeldAskExpiry
  refine .next ?_
  split
  · exact hs.setTile _ _
  · exact hs

theorem Kept.execRgaTimeout : Answers s₀ (execRgaTimeout s) := .next (.ite hs hs.units.budgetMoved)

/-! The Vexurn node. -/

theorem Kept.setVp (p : Nat) (x : VxPort) : Kept s₀ (s.setVp p x) := hs.units

theorem Kept.vxTake (p ty : Nat) (l : List Byte) (act : VxFrame → State → State) (hf : ∀ f y, Kept s₀ y → Kept s₀ (act f y)) :
    Kept s₀ (s.vxTake p ty l act) :=
  .ite hs (.ite (hs.satAdd _ _) (.ite (hf _ _ hs) hs))

theorem Kept.egressPut (p : Nat) (o : VxOut) : Kept s₀ (s.egressPut p o) := .ite hs (.ite (hs.setVp _ _) (hs.satAdd _ _))

theorem Kept.vxSend (ports : List Nat) (ty cls dst : Nat) (body : List Nat) : Kept s₀ (s.vxSend ports ty cls dst body) :=
  .ite hs (hs.units.foldl _ _ (fun _ hy _ => hy.egressPut _ _))

theorem Kept.vxForward (ports : List Nat) (f : VxFrame) (body : List Nat) : Kept s₀ (s.vxForward ports f body) :=
  .ite hs (hs.foldl _ _ (fun _ hy _ => hy.egressPut _ _))

theorem Kept.departs (o : VxOut) : Kept s₀ (s.departs o).2 := by
  unfold State.departs
  split
  · exact hs.units
  · exact hs
  · exact hs

theorem Kept.portSend (p : Nat) : Kept s₀ (s.portSend p) := by
  unfold State.portSend
  refine .ite hs ?_
  split
  · exact hs
  · exact ((hs.departs _).setVp _ _).out _

theorem Kept.txDisOut (p : Nat) : Kept s₀ (s.txDisOut p) := hs.out _
theorem Kept.vxDrain : Kept s₀ s.vxDrain := .ite (hs.upto _ _ (fun _ _ hy => hy.portSend _)) hs
theorem Kept.sendHello (p : Nat) : Kept s₀ (s.sendHello p) := hs.vxSend _ _ _ _ _
theorem Kept.originate : Kept s₀ s.originate := .ite hs (hs.units.vxSend _ _ _ _ _)

theorem Kept.claim (k : Nat) : Kept s₀ (s.claim k) := by
  unfold State.claim
  split
  · exact hs
  · refine .ite ((hs.units.wr _ _).emit _ _ _ _ _ _).originate ?_
    split
    · exact hs
    · exact ((hs.units.wr _ _).emit _ _ _ _ _ _).originate

theorem Kept.conflict : Kept s₀ s.conflict := by
  unfold State.conflict
  dsimp only
  split
  · exact hs
  · exact ((Kept.ite (hs.units.claim _) (hs.claim _)).wr _ _).emit _ _ _ _ _ _

theorem Kept.dgnak (src tag queue code : Nat) : Kept s₀ (s.dgnak src tag queue code) := by
  unfold State.dgnak
  refine .ite ?_ hs
  dsimp only
  split
  · exact hs.units.vxSend _ _ _ _ _
  · exact hs.units

theorem Kept.vxRoute (f : VxFrame) : Kept s₀ (s.vxRoute f) := by
  unfold State.vxRoute
  dsimp only
  split
  · exact hs.satAdd _ _
  · refine .ite (.ite (hs.dgnak _ _ _ _) hs) ?_
    split
    · exact .ite (hs.dgnak _ _ _ _) hs
    · exact .ite (hs.vxForward _ _ _) (.ite ((hs.satAdd _ _).dgnak _ _ _ _) (hs.satAdd _ _))

theorem Kept.sendRemote (e tag : Nat) (p0 p1 p2 : DWord) : Kept s₀ (s.sendRemote e tag p0 p1 p2).2 := by
  unfold State.sendRemote
  refine .iteSnd hs ?_
  extract_lets
  generalize (if s.fabRuns then _ else _ : Option Nat) = o
  cases o with
  | none => exact hs
  | some p => exact .iteSnd (hs.vxSend _ _ _ _ _) hs

theorem Kept.enterHoldover (p cause : Nat) : Kept s₀ (s.enterHoldover p cause) := .ite hs ((hs.units.wr _ _).emit _ _ _ _ _ _)

theorem Kept.timeParent : Kept s₀ s.timeParent := by
  unfold State.timeParent
  refine Kept.units ?_
  split
  · exact .ite (hs.enterHoldover _ _) hs
  · exact hs

theorem Kept.judgeRoots : Kept s₀ s.judgeRoots := by
  unfold State.judgeRoots
  extract_lets _ _ _ _ _ s1 _ s2
  have hs1 : Kept s₀ s1 := hs.units.timeParent
  have hs2 : Kept s₀ s2 := .ite hs1 (hs1.emit _ _ _ _ _ _)
  exact .ite hs2 (hs2.emit _ _ _ _ _ _)

theorem Kept.sendSummary (ports : List Nat) (cls : Nat) (entries : List (Nat × Nat × Nat)) : Kept s₀ (s.sendSummary ports cls entries) :=
  .ite hs (hs.units.foldl _ _ (fun _ hy _ => hy.vxSend _ _ _ _ _))

theorem Kept.floodSummary : Kept s₀ s.floodSummary := .ite (hs.sendSummary _ _ _) hs

theorem Kept.foreignSummary (p : Nat) : Kept s₀ (s.foreignSummary p) := by
  unfold State.foreignSummary
  split
  · exact hs
  · exact .ite (hs.sendSummary _ _ _) (hs.sendSummary _ _ _)

theorem Kept.sumTell (old : State) : Kept s₀ (State.sumTell old s) := .ite (hs.foldl _ _ (fun _ hy _ => hy.foreignSummary _)) hs

end Sys2Proof.Machine
end

section
namespace Sys2Proof.Machine
open Sys2Proof
set_option Elab.async false
variable {α β : Type} {s₀ s : State} (hs : Kept s₀ s)
include hs

/-! Ports going down, children, the division of an allotment, orphan share and shed. -/

theorem Kept.setChild (p : Nat) (x : Child) : Kept s₀ (s.setChild p x) := hs.units
theorem Kept.holdDown (p cause : Nat) : Kept s₀ (s.holdDown p cause) := .ite (((hs.setChild _ _).wr _ _).emit _ _ _ _ _ _) hs

theorem Kept.nbrLost (p cause into : Nat) : Kept s₀ (s.nbrLost p cause into) :=
  .ite (((hs.setVp _ _).emit _ _ _ _ _ _).holdDown _ _).timeParent.originate (hs.setVp _ _)

theorem Kept.portDown (p cause into : Nat) : Kept s₀ (s.portDown p cause into) :=
  .ite (hs.setVp _ _) (((((hs.setVp _ _).satAdd _ _).wr _ _).emit _ _ _ _ _ _).units.nbrLost _ _ _)

theorem Kept.portsDown (cause into : Nat) : Kept s₀ (s.portsDown cause into) := hs.upto _ _ (fun _ _ hy => .ite hy (hy.portDown _ _ _))
theorem Kept.fabricReset : Kept s₀ s.fabricReset := (hs.portsDown _ _).units
theorem Kept.takeLate : Kept s₀ s.takeLate := hs.units
theorem Kept.formReport : Kept s₀ s.formReport := hs.takeLate.units
theorem Kept.sendAllot (p watts version : Nat) (maj : Bool) : Kept s₀ (s.sendAllot p watts version maj) := hs.vxSend _ _ _ _ _
theorem Kept.takeShare (watts : Nat) : Kept s₀ (s.takeShare watts) := (Kept.ite (hs.units.emit _ _ _ _ _ _) hs.units).budgetMoved

theorem Kept.allotOut (watts version : Nat) : Kept s₀ (s.allotOut watts version) := by
  unfold State.allotOut
  extract_lets _ _ s1 s2 _
  have hs1 : Kept s₀ s1 := hs.units
  have hs2 : Kept s₀ s2 := hs1.foldl _ _ (fun _ hy _ => (hy.setChild _ _).sendAllot _ _ _ _)
  exact .ite (hs2.takeShare _) hs2.units

theorem Kept.allotNone (version : Nat) : Kept s₀ (s.allotNone version) := hs.units.foldl _ _ (fun _ hy _ => hy.sendAllot _ _ _ _)

theorem Kept.holdCeil (inj ver ceil orph per : Nat) : Kept s₀ (s.holdCeil inj ver ceil orph per) :=
  ((((hs.units.wr _ _).wr _ _).wr _ _).wr _ _).emit _ _ _ _ _ _

theorem Kept.floodCeil (ports : List Nat) : Kept s₀ (s.floodCeil ports) := hs.vxSend _ _ _ _ _

theorem Kept.shedBegin (origin : Nat) (flood : Bool) : Kept s₀ (s.shedBegin origin flood) :=
  .ite hs ((hs.units.wr _ _).emit _ _ _ _ _ _).noteSource.allocate

theorem Kept.shedEnd : Kept s₀ s.shedEnd :=
  .ite ((hs.units.emit _ _ _ _ _ _).noteSource.allocate.upto _ _ (fun _ _ hy => hy.sendBudget _ _ _)) hs

theorem Kept.originateShed : Kept s₀ s.originateShed := .ite (hs.vxSend _ _ _ _ _) hs

theorem Kept.shedInput (high : Bool) : Kept s₀ (s.shedInput high) :=
  .ite (.ite hs.units (hs.units.shedBegin _ _).originateShed) (.ite hs.units hs.units.shedEnd)

/-! The commands of the Catchment. -/

theorem Kept.execCeilInject (v : Word) : Answers s₀ (execCeilInject v s) :=
  .next (hs.keyedWrite _ _ _ (fun _ hy => .ite hy (.ite ((hy.wr _ _).emit _ _ _ _ _ _) ((hy.holdCeil _ _ _ _ _).floodCeil _))))

theorem Kept.execCeilingReceived (p : Fin 6) (l : List Byte) : Answers s₀ (execCeilingReceived p l s) :=
  .next (hs.vxTake _ _ _ _ (fun _ _ hy => .ite hy (.ite ((hy.holdCeil _ _ _ _ _).vxForward _ _ _) hy)))

theorem Kept.execReportSlot : Answers s₀ (execReportSlot s) := by
  unfold Machine.execReportSlot
  refine .next ?_
  split
  · exact hs
  · exact .ite (hs.formReport.vxSend _ _ _ _ _) hs

theorem Kept.execReportReceived (p : Fin 6) (l : List Byte) : Answers s₀ (execReportReceived p l s) :=
  .next (hs.vxTake _ _ _ _ (fun _ _ hy => .ite hy (.ite (hy.setChild _ _) (hy.setChild _ _))))

theorem Kept.execRootCompute : Answers s₀ (execRootCompute s) := by
  unfold Machine.execRootCompute
  extract_lets s1 _ _ _ _ _ s2 s3 s4
  have hs1 : Kept s₀ s1 := hs.formReport
  have hs2 : Kept s₀ s2 := hs1.units
  have hs3 : Kept s₀ s3 := .ite hs2 (hs2.emit _ _ _ _ _ _)
  have hs4 : Kept s₀ s4 := .ite ((hs3.wr _ _).emit _ _ _ _ _ _) hs3
  exact .next (.ite (.ite (hs4.allotOut _ _) (hs4.allotNone _)) hs)

theorem Kept.execAllotReceived (p : Fin 6) (l : List Byte) : Answers s₀ (execAllotReceived p l s) :=
  .next (hs.vxTake _ _ _ _ (fun _ _ hy => .ite hy (.ite (hy.allotOut _ _) (hy.allotNone _))))

theorem Kept.execChildMissing (p : Fin 6) (elsewhere : Bool) : Answers s₀ (execChildMissing p elsewhere s) :=
  .next (.ite (hs.holdDown _ _) hs)

theorem Kept.execChildDrop (p : Fin 6) : Answers s₀ (execChildDrop p s) := .next (.ite ((hs.setChild _ _).emit _ _ _ _ _ _) hs)

theorem Kept.execOrphanTimeout : Answers s₀ (execOrphanTimeout s) := by
  unfold Machine.execOrphanTimeout
  refine .next (.ite (((Kept.units ?_).wr _ _).emit _ _ _ _ _ _).budgetMoved hs)
  split
  · exact hs
  · exact hs.draw 163

theorem Kept.execShedRefresh : Answers s₀ (execShedRefresh s) := .next (.ite hs.originateShed hs)

theorem Kept.execShedReceived (p : Fin 6) (l : List Byte) : Answers s₀ (execShedReceived p l s) := by
  unfold Machine.execShedReceived
  refine .next (hs.vxTake _ _ _ _ (fun _ _ hy => ?_))
  extract_lets _ _ _ s1 _ _ s2 s3 _
  have hs1 : Kept s₀ s1 := hy.units
  have hs2 : Kept s₀ s2 := .ite (hs1.shedBegin _ _) hs1
  have hs3 : Kept s₀ s3 := hs2.vxForward _ _ _
  exact .ite hy (.ite (.ite hs3 hs3.units) hy.units)

theorem Kept.execShedCopy1 : Answers s₀ (execShedCopy1 s) := by
  unfold Machine.execShedCopy1
  refine .next ?_
  split
  · exact hs
  · exact .ite (hs.units.foldl _ _ (fun _ hy _ => hy.egressPut _ _)) hs.units

theorem Kept.execShedExpiry : Answers s₀ (execShedExpiry s) := .next (.ite hs hs.shedEnd)

theorem Kept.execTwinShareCopy (watts level : Word) (slot : Byte) (orphan : Bool) :
    Answers s₀ (execTwinShareCopy watts level slot orphan s) :=
  .next (.ite hs (.ite (.ite (hs.out _) hs) hs.units))

theorem Kept.execStaggerWrite (v : Word) : Answers s₀ (execStaggerWrite v s) :=
  .next (hs.hostWrite _ _ _ (fun _ hy => hy.units.emit _ _ _ _ _ _))

/-! The policy cores. -/

theorem Kept.setCore (c : Nat) (k : IkCore)
    (hk : CanonicalBytes s → Memory.wf k.data = true ∧ Memory.wf k.launch = true := by exact fun w => w.2 _) :
    Kept s₀ (s.setCore c k) := by
  refine hs.ikiva (fun w => ⟨w.1, fun d => ?_⟩)
  by_cases hd : d = c
  · subst hd
    rw [mget_mput_self]
    exact hk w
  · rw [mget_mput_ne _ _ _ (Ne.symm hd)]
    exact w.2 d

omit hs in
/-- A change within the bank in use leaves the byte memories of the core. -/
theorem BankOnly.wf {k k' : IkCore} (hb : BankOnly k k') (w : Memory.wf k.data = true ∧ Memory.wf k.launch = true) :
    Memory.wf k'.data = true ∧ Memory.wf k'.launch = true := by
  rw [hb.1]
  exact w

theorem Kept.setBank (c : Nat) {k : IkCore} (hk : BankOnly (s.core c) k) : Kept s₀ (s.setCore c k) :=
  hs.setCore _ _ (fun w => hk.wf (w.2 c))

theorem Kept.enterFloor (c cause : Nat) : Kept s₀ (s.enterFloor c cause) := by
  unfold State.enterFloor
  extract_lets _ s1 s2
  have hs1 : Kept s₀ s1 := (hs.setCore _ _).wr _ _
  have hs2 : Kept s₀ s2 := .ite hs1 (hs1.setBit _ _)
  exact .ite hs2 (hs2.emitHw _ _ _ _ _ _ _)

theorem Kept.closeAll (owner : Nat) : Kept s₀ (s.closeAll owner) := hs.each _ _ (fun _ _ hy => hy.chanClose _ _)

theorem Kept.resetCore (c : Nat) : Kept s₀ (s.resetCore c) := by
  refine (hs.setCore _ _ ?_).units.closeAll _
  exact fun w => ⟨(w.2 c).1, rfl⟩

theorem Kept.coreFault (c code : Nat) : Kept s₀ (s.coreFault c code) := by
  unfold State.coreFault
  extract_lets _ _ _ _ _ s1 s2 s3 _ s4 s5
  have hs1 : Kept s₀ s1 := (((hs.wr _ _).wr _ _).wr _ _).wr _ _
  have hs2 : Kept s₀ s2 := .ite ((hs1.setBit _ _).emit _ _ _ _ _ _) ((hs1.setBit _ _).emit _ _ _ _ _ _)
  have hs3 : Kept s₀ s3 := hs2.resetCore _
  have hs4 : Kept s₀ s4 := hs3.setCore _ _
  have hs5 : Kept s₀ s5 := hs4.enterFloor _ _
  exact .ite (hs5.emit _ _ _ _ _ _) hs5

theorem Kept.startCore (c reason : Nat) : Kept s₀ (s.startCore c reason) := by
  refine .ite ((hs.setCore _ _ ?_).emit _ _ _ _ _ _) hs
  exact fun w => ⟨(w.2 c).1, rfl⟩

theorem Kept.stopCore (c cause : Nat) : Kept s₀ (s.stopCore c cause) := .ite ((hs.setCore _ _).enterFloor _ _) hs

theorem Kept.spend (c n : Nat) : Kept s₀ (s.spend c n) := by
  refine hs.clock.setCore _ _ ?_
  intro w
  split <;> exact w.2 c

theorem Kept.noteMax (c : Nat) : Kept s₀ (s.noteMax c) := .ite (hs.wr _ _) (hs.wr _ _)

theorem Kept.issue (c cyc len : Nat) (exc : Option Nat) (act : State → State) (hf : ∀ y, Kept s₀ y → Kept s₀ (act y)) :
    Kept s₀ (s.issue c cyc len exc act) := by
  unfold State.issue
  refine .ite hs (.ite (hs.coreFault _ _) ?_)
  split
  · exact hs.coreFault _ _
  · exact .ite (hs.coreFault _ _) (hf _ ((hs.spend _ _).setCore _ _))

theorem Kept.issueReg (c cyc : Nat) (exc : Option Nat) (f : IkCore → IkCore) (hf : ∀ k, BankOnly k (f k)) :
    Kept s₀ (s.issueReg c cyc exc f) :=
  hs.issue _ _ _ _ _ (fun _ hy => hy.setBank _ (hf _))

theorem Kept.jump (c : Nat) (taken : Bool) (target : ℤ) (f : IkCore → IkCore) (hf : ∀ k, BankOnly k (f k)) :
    Kept s₀ (s.jump c taken target f) := by
  refine .ite hs (.ite (hs.coreFault _ _) (.ite (hs.coreFault _ _) ((hs.spend _ _).setCore _ _ ?_)))
  exact fun w => (hf _).wf (w.2 c)

theorem Kept.coreWrite (c a n v : Nat) : Kept s₀ (s.coreWrite c a n v) := by
  refine .ite (hs.setCore _ _ ?_) (hs.ikiva ?_)
  · exact fun w => ⟨writeBytes_wf (w.2 c).1 _ _ _, (w.2 c).2⟩
  · exact fun w => ⟨writeBytes_wf w.1 _ _ _, w.2⟩

theorem Kept.load (c rt rb : Nat) (off : BitVec 15) (n : Nat) (sgn : Bool) : Kept s₀ (s.load c rt rb off n sgn) :=
  hs.issue _ _ _ _ _ (fun _ hy => hy.setBank _ (bankOnly_setG _ _ _))

theorem Kept.store (c rt rb : Nat) (off : BitVec 15) (n : Nat) : Kept s₀ (s.store c rt rb off n) := by
  unfold State.store
  exact hs.issue _ _ _ _ _ (fun _ hy => hy.coreWrite _ _ _ _)

theorem Kept.dispatchNormal (c q h : Nat) (m : QMsg) : Kept s₀ (s.dispatchNormal c q h m) := (hs.clock.setCore _ _).satAdd _ _
theorem Kept.dispatchUrgent (c q h : Nat) (m : QMsg) : Kept s₀ (s.dispatchUrgent c q h m) := (hs.clock.setCore _ _).satAdd _ _

/-! Interrupt vectors to the host. -/

theorem Kept.raiseVec (v : Nat) : Kept s₀ (s.raiseVec v) := .ite hs (.ite (hs.wr _ _) (hs.out _))

/-! Translation, faults and their records, channels and their granules. -/

theorem Kept.setFch (n : Nat) (c : FlCh) : Kept s₀ (s.setFch n c) := hs.units
theorem Kept.tlbUse (e : Tlb) : Kept s₀ (s.tlbUse e) := hs.units
theorem Kept.tlbFill (e : Tlb) : Kept s₀ (s.tlbFill e) := hs.units

theorem Kept.translate (ctx a : Nat) (write : Bool) : Kept s₀ (s.translate ctx a write).2 := by
  unfold State.translate
  refine .iteSnd hs (.iteSnd hs ?_)
  split
  · exact hs
  · exact .iteSnd (hs.tlbUse _) hs

theorem Kept.walkStart (user ctx a : Nat) (write : Bool) : Kept s₀ (s.walkStart user ctx a write).2 := by
  unfold State.walkStart
  dsimp only
  exact hs.out _

theorem Kept.feFaultRegs (l : List Nat) : Kept s₀ (s.feFaultRegs l) := hs.upto _ _ (fun _ _ hy => hy.wr _ _)

theorem Kept.faultInfo (level : Option Nat) (write walk : Bool) : Kept s₀ (s.faultInfo level write walk).2 := by
  unfold State.faultInfo
  dsimp only
  split
  · exact hs
  · exact hs.draw 40

theorem Kept.flogPost (ch kind : Nat) (l : List Nat) : Kept s₀ (s.flogPost ch kind l) :=
  .ite hs (.ite ((hs.wr _ _).emit _ _ _ _ _ _) (hs.units.wr _ _))

theorem Kept.faultTail (ch kind ctx : Nat) (l : List Nat) (log : Bool) : Kept s₀ (s.faultTail ch kind ctx l log) :=
  ((Kept.ite ((hs.units.wr _ _).flogPost _ _ _) (hs.units.wr _ _)).raiseVec _).emit _ _ _ _ _ _

theorem Kept.setDone (n d : Nat) : Kept s₀ (s.setDone n d) := (hs.setFch _ _).wr _ _

theorem Kept.chFault (n k kind addr : Nat) (level : Option Nat) (walk : Bool) : Kept s₀ (s.chFault n k kind addr level walk) :=
  (((hs.faultInfo _ _ _).setFch _ _).upto _ _ (fun _ _ hy => hy.wr _ _)).faultTail _ _ _ _ _

theorem Kept.chTake (n : Nat) : Kept s₀ (s.chTake n) := by
  unfold State.chTake
  extract_lets _ _ _ _ _ s1 _ _
  have hs1 : Kept s₀ s1 := hs.units
  refine .ite (hs1.chFault _ _ _ _ _ _) ?_
  dsimp only
  split
  · exact ((hs1.translate _ _ _).snd_of_eq ‹_›).chFault _ _ _ _ _ _
  · exact (((hs1.translate _ _ _).snd_of_eq ‹_›).walkStart _ _ _ _).setFch _ _
  · refine .ite (.ite (((hs1.translate _ _ _).snd_of_eq ‹_›).setFch _ _)
      ((((hs1.translate _ _ _).snd_of_eq ‹_›).setFch _ _).foldl _ _ (fun _ hy _ => hy.out _))) ?_
    split
    · exact ((((hs1.translate _ _ _).snd_of_eq ‹_›).translate _ _ _).snd_of_eq ‹_›).chFault _ _ _ _ _ _
    · exact (((((hs1.translate _ _ _).snd_of_eq ‹_›).translate _ _ _).snd_of_eq ‹_›).walkStart _ _ _ _).setFch _ _
    · exact .ite (((((hs1.translate _ _ _).snd_of_eq ‹_›).translate _ _ _).snd_of_eq ‹_›).setFch _ _)
        ((((((hs1.translate _ _ _).snd_of_eq ‹_›).translate _ _ _).snd_of_eq ‹_›).setFch _ _).foldl _ _ (fun _ hy _ => hy.out _))

omit hs in
theorem Kept.chPump (hs : Kept s₀ s) (n : Nat) : Kept s₀ (chPump n s) := by
  induction n generalizing s with
  | zero => exact hs
  | succ n ih =>
    unfold Machine.chPump
    refine .ite hs ?_
    split
    · exact hs
    · exact ih (hs.chTake _)

theorem Kept.flPump : Kept s₀ s.flPump := hs.chPump _

theorem Kept.chStart (n : Nat) (c : FlCh) : Kept s₀ (s.chStart n c) :=
  (Kept.ite (((((((hs.setFch _ _).wr _ _).wr _ _).wr _ _).wr _ _).wr _ _).wr _ _) (hs.setFch _ _)).wr _ _

theorem Kept.chWrite (n k : Nat) (bytes : List Nat) : Kept s₀ (s.chWrite n k bytes) := by
  unfold State.chWrite
  extract_lets _ _ _ _ _ s1
  have hs1 : Kept s₀ s1 := by
    refine .ite ((Kept.foldlFst (p := (_, _)) hs _ _ ?_).setFch _ _) (hs.ikiva ?_)
    · exact fun _ hp _ => hp.out _
    · exact fun w => ⟨writeBytes_wf w.1 _ _ _, w.2⟩
  exact hs1.setDone _ _

omit hs in
theorem Kept.chDrain (hs : Kept s₀ s) (n f : Nat) : Kept s₀ (chDrain n f s) := by
  induction f generalizing s with
  | zero => exact hs
  | succ f ih =>
    unfold Machine.chDrain
    dsimp only
    split
    · exact hs
    · exact ih ((hs.chWrite _ _ _).setFch _ _)

theorem Kept.flStop (cause : Nat) : Kept s₀ (s.flStop cause) :=
  (hs.upto _ _ (fun _ _ hy => .ite ((hy.setFch _ _).emit _ _ _ _ _ _) hy)).units

theorem Kept.tlbDrop (all : Bool) (ctx : Nat) : Kept s₀ (s.tlbDrop all ctx) := hs.units

/-! Rings, descriptors, commands, handles, launches and the front end's own accesses. -/

theorem Kept.setRing (r : Nat) (x : CfRing) : Kept s₀ (s.setRing r x) := hs.units
theorem Kept.setDesc (r : Nat) (d : Option CfDesc) : Kept s₀ (s.setDesc r d) := hs.setRing _ _
theorem Kept.fePut (a : FeAcc) : Kept s₀ (s.fePut a) := hs.units
theorem Kept.descFetch (r loc chained : Nat) : Kept s₀ (s.descFetch r loc chained) := (hs.setDesc _ _).fePut _

theorem Kept.cfPrefetch : Kept s₀ s.cfPrefetch := by
  unfold State.cfPrefetch
  refine .ite hs ?_
  split
  · exact hs
  · exact hs.descFetch _ _ _

theorem Kept.bufFetch (r : Nat) : Kept s₀ (s.bufFetch r) := by
  unfold State.bufFetch
  split
  · exact hs
  · exact .ite hs ((hs.setDesc _ _).fePut _)

theorem Kept.ringErr (r st : Nat) (i : Option Nat) : Kept s₀ (s.ringErr r st i) := ((hs.wr _ _).wr _ _).wr _ _

theorem Kept.ringStop (r st : Nat) (i : Option Nat) : Kept s₀ (s.ringStop r st i) :=
  .ite (hs.setRing _ _) (((hs.setRing _ _).wr _ _).emit _ _ _ _ _ _)

theorem Kept.descFinish (r : Nat) : Kept s₀ (s.descFinish r) := by
  unfold State.descFinish
  split
  · exact hs
  · extract_lets s1 _
    have hs1 : Kept s₀ s1 := .ite (hs.raiseVec _) hs
    split
    · exact (Kept.ite ((hs1.ringErr _ _ _).setDesc _ _) ((hs1.ringErr _ _ _).ringStop _ _ _)).cfPrefetch
    · exact .ite (hs1.setDesc _ _).cfPrefetch (.ite ((((hs1.ringErr _ _ _).ringStop _ _ _).wr _ _).emit _ _ _ _ _ _).cfPrefetch
        (hs1.descFetch _ _ _))

theorem Kept.descSignal (r : Nat) : Kept s₀ (s.descSignal r) := by
  unfold State.descSignal
  split
  · exact hs
  · refine .ite (hs.descFinish _) ?_
    split
    · exact .ite (hs.fePut _) (hs.descFinish _)
    · exact .ite (hs.descFinish _) (.ite ((hs.sendRemote _ _ _ _ _).descFinish _) (((hs.sendRemote _ _ _ _ _).setDesc _ _).descFinish _))
    · exact hs.descFinish _

theorem Kept.descCheck (r : Nat) : Kept s₀ (s.descCheck r) := by
  unfold State.descCheck
  split
  · exact hs
  · exact .ite hs (.ite (hs.setDesc _ _) ((hs.setDesc _ _).fePut _))

theorem Kept.cmdDone (r i st : Nat) : Kept s₀ (s.cmdDone r i st) := by
  unfold State.cmdDone
  split
  · exact hs
  · split
    · exact hs
    · exact .ite hs ((hs.setDesc _ _).descCheck _)

theorem Kept.parseOne {r : Nat} {d : CfDesc} {t : State} {cost : Nat} (e : s.parseOne r d = some (t, cost)) : Kept s₀ t := by
  unfold State.parseOne at e
  have hbad (d' : CfDesc) : Kept s₀ ((s.setDesc r (some d')).descCheck r) := (hs.setDesc _ _).descCheck _
  rcases ite_eq_iff.mp e with ⟨-, e⟩ | ⟨-, e⟩
  · cases e
  · rcases ite_eq_iff.mp e with ⟨-, e⟩ | ⟨-, e⟩
    · cases e
      exact hbad _
    · rcases ite_eq_iff.mp e with ⟨-, e⟩ | ⟨-, e⟩
      · cases e
      · rcases ite_eq_iff.mp e with ⟨-, e⟩ | ⟨-, e⟩ <;> cases e
        · exact hbad _
        · exact (hs.setDesc _ _).bufFetch _

omit hs in
theorem Kept.parseOn (hs : Kept s₀ s) (n : Nat) : Kept s₀ (parseOn n s) := by
  induction n generalizing s with
  | zero => exact hs
  | succ n ih =>
    unfold Machine.parseOn
    split
    · exact hs
    · split
      · exact hs.units
      · refine .ite hs.units (.ite hs ?_)
        split
        · exact hs.units
        · exact ih (hs.parseOne ‹_›).units

theorem Kept.turnTidy (r : Nat) : Kept s₀ (s.turnTidy r) := by
  unfold State.turnTidy
  refine .ite hs ?_
  split
  · exact hs
  · exact hs.setDesc _ _

theorem Kept.launchTry {n : Nat} {l : Launch} {t : State} (e : s.launchTry n l = some t) : Kept s₀ t := by
  unfold State.launchTry at e
  split at e
  · cases e
  · split at e
    · cases e
    · cases e
      exact .ite ((hs.sendQueue _ _).units.cmdDone _ _ _) (hs.sendQueue _ _).units

theorem Kept.launchTry_getD (n : Nat) (l : Launch) : Kept s₀ ((s.launchTry n l).getD s) := by
  cases e : s.launchTry n l with
  | none => exact hs
  | some t => exact hs.launchTry e

theorem Kept.launchNew (l : Launch) : Kept s₀ (s.launchNew l) := by
  unfold State.launchNew
  dsimp only
  split
  · exact (hs.units.launchTry ‹_›)
  · exact hs.units.units

theorem Kept.launchDone (n st : Nat) : Kept s₀ (s.launchDone n st) := by
  unfold State.launchDone
  split
  · exact hs
  · extract_lets _ s1 s2
    have hs1 : Kept s₀ s1 := hs.units
    have hs2 : Kept s₀ s2 := .ite hs1 ((hs1.wr _ _).emit _ _ _ _ _ _)
    exact .ite hs2 (hs2.cmdDone _ _ _)

theorem Kept.launchSweep : Kept s₀ s.launchSweep := hs.each _ _ (fun _ _ hy => hy.launchDone _ _)

theorem Kept.loadAssign : Kept s₀ s.loadAssign := by
  unfold State.loadAssign
  split
  · split
    · exact hs.units
    · exact hs.units.chStart _ _
  · exact hs

theorem Kept.loadAbort (n cause : Nat) : Kept s₀ (s.loadAbort n cause) := by
  unfold State.loadAbort
  dsimp only
  split
  · exact (hs.setFch _ _).emit _ _ _ _ _ _
  · exact (((hs.setFch _ _).emit _ _ _ _ _ _).units.cmdDone _ _ _).loadAssign

theorem Kept.ringXlate (r : Nat) : Kept s₀ (s.ringXlate r) := by
  unfold State.ringXlate
  dsimp only
  split
  · exact (hs.ringErr _ _ _).ringStop _ _ _
  · exact .ite (((hs.ringErr _ _ _).ringStop _ _ _).setDesc _ _) ((hs.ringErr _ _ _).ringStop _ _ _).cfPrefetch

theorem Kept.feWritten (a : FeAcc) : Kept s₀ (s.feWritten a) := by
  unfold State.feWritten
  split
  · exact hs.descSignal _
  · exact hs.descFinish _
  · exact hs.cmdDone _ _ _
  · exact hs

theorem Kept.feFailed (a : FeAcc) (kind : Nat) : Kept s₀ (s.feFailed a kind) := by
  unfold State.feFailed
  split
  · split
    · exact hs
    · exact (hs.setDesc _ _).descFinish _
  · exact hs.cmdDone _ _ _
  · exact ((hs.wr _ _).wr _ _).emit _ _ _ _ _ _
  · exact hs
  · exact hs.ringXlate _

theorem Kept.feFault (a : FeAcc) (kind addr : Nat) (level : Option Nat) (walk : Bool) : Kept s₀ (s.feFault a kind addr level walk) :=
  (((hs.faultInfo _ _ _).feFaultRegs _).faultTail _ _ _ _ _).feFailed _ _

theorem Kept.feSwap (a : FeAcc) (b : Option FeAcc) : Kept s₀ (s.feSwap a b) := hs.units
theorem Kept.feIssue (a : FeAcc) (o : Nat) : Kept s₀ (s.feIssue a o) := .ite ((hs.feSwap _ _).out _) (((hs.feSwap _ _).out _).feWritten _)

omit hs in
theorem Kept.fePump (hs : Kept s₀ s) (n : Nat) : Kept s₀ (fePump n s) := by
  induction n generalizing s with
  | zero => exact hs
  | succ n ih =>
    unfold Machine.fePump
    refine .ite hs ?_
    split
    · exact hs
    · dsimp only
      split
      · exact ih ((((hs.translate _ _ _).snd_of_eq ‹_›).feSwap _ _).feFault _ _ _ _ _)
      · exact ih ((((hs.translate _ _ _).snd_of_eq ‹_›).walkStart _ _ _ _).feSwap _ _)
      · exact ih (((hs.translate _ _ _).snd_of_eq ‹_›).feIssue _ _)

theorem Kept.loadAll : Kept s₀ s.loadAll := hs.foldl _ _ (fun _ hy _ => hy.loadAssign)
theorem Kept.cfSettle : Kept s₀ s.cfSettle := (hs.fePump _).loadAll.flPump

theorem Kept.capTake (r i : Nat) (c : CfCmd) : Kept s₀ (s.capTake r i c) :=
  (hs.tableWrite _ _ (fun _ hy => .ite ((hy.writeFields _ _).writeFields _ _) (hy.writeFields _ _))).cmdDone _ _ _

theorem Kept.capSend (r i : Nat) (c : CfCmd) : Kept s₀ (s.capSend r i c) := .ite (hs.cmdDone _ _ _) (.ite hs.units (hs.capTake _ _ _))

theorem Kept.cfStart (ty : Nat) (act : State → Nat → Nat → CfCmd → State) (hf : ∀ y, Kept s₀ y → ∀ r i c, Kept s₀ (act y r i c)) :
    Kept s₀ (s.cfStart ty act) := by
  unfold State.cfStart
  refine .ite hs ?_
  split
  · exact hs
  · split
    · exact hs
    · split
      · exact hs
      · split
        · exact hs
        · exact .ite hs ((((hf _ (hs.setDesc _ _).units _ _ _).cfSettle.parseOn _).turnTidy _).bufFetch _).cfSettle

theorem Kept.cfQuiesce (cause : Nat) : Kept s₀ (s.cfQuiesce cause) := by
  unfold State.cfQuiesce
  extract_lets _ s1 _ _ _ s2 s3
  have hs1 : Kept s₀ s1 := by
    refine .ite (hs.foldl _ _ (fun _ hy _ => ?_)) hs
    split
    · exact hy
    · exact .ite hy (.ite (((hy.fePut _).fePump _).raiseVec _) ((hy.fePut _).fePump _))
  have hs2 : Kept s₀ s2 := hs1.units
  have hs3 : Kept s₀ s3 := hs2.upto _ _ (fun _ _ hy => hy.wr _ _)
  exact (hs3.wr _ _).emit _ _ _ _ _ _

/-! Trigger, freeze, Halt Sweep, notices and snapshots sent out. -/

theorem Kept.notice (code rseq : Nat) : Kept s₀ (s.notice code rseq) :=
  .ite hs (.ite (hs.satAdd _ _) (.ite hs.units.units (hs.units.sendQueue _ _)))

theorem Kept.meRelease : Kept s₀ s.meRelease := by
  unfold State.meRelease
  refine hs.units.foldl _ _ (fun _ hy _ => ?_)
  split
  · exact hy.hwDeliver _ _ _ _
  · exact hy.sendQueue _ _

omit hs in
/-- Cores whose fault times all move keep their byte memories. -/
theorem mget_map_faultAt (d c : Nat) (l : List (Nat × IkCore)) :
    mget ({} : IkCore) (l.map (fun e => (e.1, { e.2 with faultAt := e.2.faultAt.map (· + d) }))) c
      = { mget ({} : IkCore) l c with faultAt := (mget ({} : IkCore) l c).faultAt.map (· + d) } := by
  induction l with
  | nil => rfl
  | cons e l ih =>
    simp only [List.map_cons, mget]
    split
    · rfl
    · exact ih

theorem Kept.haltShift (d : Nat) : Kept s₀ (s.haltShift d) := by
  refine hs.ikiva (fun w => ⟨w.1, fun c => ?_⟩)
  rw [mget_map_faultAt]
  exact w.2 c

theorem Kept.haltBegin (source : Nat) : Kept s₀ (s.haltBegin source) :=
  ((((hs.units.wr _ _).wr _ _).emit _ _ _ _ _ _).upto _ _ (fun _ _ hy => .ite (hy.enterFloor _ _) hy)).units

theorem Kept.haltRequest (source : Nat) : Kept s₀ (s.haltRequest source) := by
  unfold State.haltRequest
  dsimp only
  split
  · exact (hs.wr _ _).emit _ _ _ _ _ _
  · exact hs.haltBegin _

theorem Kept.fabResume : Kept s₀ s.fabResume := by
  unfold State.fabResume
  refine (Kept.upto ?_ _ _ (fun _ _ hy => .ite hy (hy.setVp _ _))).timeParent
  split
  · exact hs.enterHoldover _ _
  · exact hs

theorem Kept.wavesRestart : Kept s₀ s.wavesRestart := hs.upto _ _ (fun _ _ hy => hy.setDom _ _)

theorem Kept.haltRelease (cause : Nat) : Kept s₀ (s.haltRelease cause) := by
  unfold State.haltRelease
  extract_lets _ _ s1 s2 s3 s4 s5
  have hs1 : Kept s₀ s1 := hs.units.haltShift _
  have hs2 : Kept s₀ s2 := (hs1.wr _ _).emit _ _ _ _ _ _
  have hs3 : Kept s₀ s3 := hs2.upto _ _ (fun _ _ hy => .ite (hy.setCore _ _) hy)
  have hs4 : Kept s₀ s4 := (Kept.ite hs3 hs3.fabResume).wavesRestart.meRelease
  have hs5 : Kept s₀ s5 := hs4.each _ _ (fun _ _ hy => hy.checkRelease _)
  exact .ite hs (hs5.notice _ _).budgetMoved

theorem Kept.trigFire (source code : Nat) : Kept s₀ (s.trigFire source code) := by
  unfold State.trigFire
  extract_lets s1 s2 s3 s4
  have hs1 : Kept s₀ s1 := (hs.wr _ _).wr _ _
  have hs2 : Kept s₀ s2 := .ite hs1 (hs1.out _)
  have hs3 : Kept s₀ s3 := hs2.emit _ _ _ _ _ _
  have hs4 : Kept s₀ s4 := .ite hs3 ((hs3.wr _ _).notice _ _)
  exact .ite hs (.ite (hs4.haltRequest _) hs4)

theorem Kept.cntClear (g n : Nat) : Kept s₀ (s.cntClear g n) := hs.units
theorem Kept.obGate : Kept s₀ s.obGate := hs.units.wr _ _

theorem Kept.obCtl (v : Nat) : Kept s₀ (s.obCtl v) := by
  unfold State.obCtl
  refine hs.keyedWrite _ _ _ (fun _ hy => ?_)
  extract_lets _ a b _ c d e
  have ha : Kept s₀ a := .ite (hy.units.wr _ _) hy
  have hb : Kept s₀ b := .ite ha.obGate ha
  have hc : Kept s₀ c := .ite hb.units hb
  have hd : Kept s₀ d := .ite (hc.wr _ _) hc
  have he : Kept s₀ e := .ite (hd.wr _ _) hd
  exact .ite (he.trigFire _ _) he

theorem Kept.obHalt (v : Nat) : Kept s₀ (s.obHalt v) :=
  hs.keyedWrite _ _ _ (fun _ hy => .ite ((Kept.ite (hy.haltRelease _) hy).haltRequest _) (.ite (hy.haltRelease _) hy))

theorem Kept.expSkip (cause : Nat) : Kept s₀ (s.expSkip cause) := (hs.units.satAdd _ _).emit _ _ _ _ _ _

theorem Kept.expTick : Kept s₀ s.expTick := by
  refine .ite hs (.ite (hs.expSkip _) (.ite (hs.expSkip _) (.ite (hs.expSkip _) ((hs.ikiva ?_).chStart _ _).flPump)))
  exact fun w => ⟨writeBytes_wf w.1 _ _ _, w.2⟩

theorem Kept.expDone : Kept s₀ s.expDone := (Kept.ite ((hs.units.wr _ _).units.raiseVec _) (hs.units.wr _ _)).notice _ _

/-! Records and their admission, page programs, sectors, flushes, tail flush, clear and checkpoints. -/

theorem Kept.lgAccept (r : LRec) : Kept s₀ (s.lgAccept r) := .ite hs.units hs.units
theorem Kept.admitRec (r : LRec) : Kept s₀ (s.admitRec r) := .ite (hs.lgAccept _) (hs.units.wr _ _)

theorem Kept.lgJudge (r : LRec) : Kept s₀ (s.lgJudge r) := by
  unfold State.lgJudge
  dsimp only
  split
  · exact .ite (hs.units.wr _ _) (hs.units.admitRec _)
  · exact hs.admitRec _

theorem Kept.eraseNext : Kept s₀ s.eraseNext := by
  unfold State.eraseNext
  refine .ite hs ?_
  split
  · exact hs.units
  · exact .ite hs hs.units

theorem Kept.openSector {t : State} (e : s.openSector = some t) : Kept s₀ t := by
  unfold State.openSector at e
  split at e
  · cases e
  · cases e
    exact hs.units.eraseNext

theorem Kept.pageStart (l : List LRec) (fresh : Bool) : Kept s₀ (s.pageStart l fresh).1 := by
  unfold State.pageStart
  dsimp only
  refine .iteFst ?_ hs.units
  split
  · exact hs
  · exact (hs.openSector ‹_›).units

theorem Kept.flushGo : Kept s₀ s.flushGo := .ite hs (hs.pageStart _ _)
theorem Kept.tailGo : Kept s₀ s.tailGo := .ite hs.units (hs.pageStart _ _).units
theorem Kept.tailFlush : Kept s₀ s.tailFlush := .ite hs (.ite hs.units.tailGo hs.units)

theorem Kept.writeData : Kept s₀ s.writeData := by
  unfold State.writeData
  split
  · exact hs
  · exact hs.units

theorem Kept.writeMarks : Kept s₀ s.writeMarks := by
  unfold State.writeMarks
  split
  · exact hs
  · exact hs.units

theorem Kept.retire (l cause ms typ : Nat) : Kept s₀ (s.retire l cause ms typ) := by
  unfold State.retire
  extract_lets _ s1 _ _ s2 s3 _ _
  have hs1 : Kept s₀ s1 := (hs.emit _ _ _ _ _ _).wr _ _
  have hs2 : Kept s₀ s2 := hs1.units
  have hs3 : Kept s₀ s3 := hs2.emit _ _ _ _ _ _
  exact .ite (.ite ((hs3.units.wr _ _).emit _ _ _ _ _ _) hs3) (hs1.units.emit _ _ _ _ _ _)

theorem Kept.clearGrant (key : Nat) : Kept s₀ (s.clearGrant key) := (hs.units.lgAccept _).flushGo

theorem Kept.clearEffect : Kept s₀ s.clearEffect := by
  unfold State.clearEffect
  exact (hs.units.wr _ _).eraseNext

theorem Kept.checkpoint : Kept s₀ s.checkpoint := hs.units

end Sys2Proof.Machine
end

section
namespace Sys2Proof.Machine
open Sys2Proof
set_option Elab.async false
variable {α β : Type} {s₀ s : State} (hs : Kept s₀ s)
include hs

/-! The Ledger stream. -/

theorem Kept.streamFrom (n : Nat) : Kept s₀ (s.streamFrom n).2 := by
  unfold State.streamFrom
  dsimp only
  refine .iteSnd hs ?_
  split
  · exact hs
  · exact .iteSnd ((hs.wr _ _).emit _ _ _ _ _ _) hs

theorem Kept.streamPump : Kept s₀ s.streamPump := by
  unfold State.streamPump
  dsimp only
  split
  · exact hs
  · refine .ite hs ?_
    split
    · exact (hs.streamFrom _).units
    · refine (((hs.streamFrom _).units.ikiva ?_).chStart _ _).flPump
      exact fun w => ⟨writeBytes_wf w.1 _ _ _, w.2⟩

theorem Kept.streamDone : Kept s₀ s.streamDone := (hs.units.wr _ _).streamPump

/-! What the end of a transfer does for each user of Flume, and letting everything run that can. -/

theorem Kept.chSettle (n : Nat) : Kept s₀ (s.chSettle n) := by
  unfold State.chSettle
  extract_lets s1 _ s2
  have hs1 : Kept s₀ s1 := hs.chDrain _ _
  have hs2 : Kept s₀ s2 := hs1.setFch _ _
  exact .ite hs (.ite hs1 (.ite hs2.streamDone (.ite hs2.expDone (.ite (hs2.raiseVec _) hs2))))

theorem Kept.holdZero : Kept s₀ s.holdZero := .ite hs (hs.upto _ _ (fun _ _ hy => .ite ((hy.wr _ _).loadAbort _ _) hy))
theorem Kept.flSettle : Kept s₀ s.flSettle := (hs.cfSettle.upto _ _ (fun _ _ hy => hy.chSettle _)).streamPump.holdZero.cfSettle
theorem Kept.lostSweep : Kept s₀ s.lostSweep := hs.launchSweep.flSettle
theorem Kept.ran (old : State) (c : Nat) : Answers s₀ (old.ran c s) := .next (.ite hs.lostSweep hs)
theorem Kept.haltEnd (cause : Nat) : Kept s₀ (s.haltEnd cause) := .ite (hs.haltRelease _).flSettle hs

theorem Kept.chAbort (n : Nat) : Kept s₀ (s.chAbort n) :=
  .ite hs (.ite (hs.loadAbort _ _) (.ite ((hs.setFch _ _).emit _ _ _ _ _ _).units ((hs.setFch _ _).emit _ _ _ _ _ _)))

theorem Kept.chResume (n : Nat) : Kept s₀ (s.chResume n) := .ite (hs.wr _ _) ((hs.setFch _ _).emit _ _ _ _ _ _)
theorem Kept.chHostStart (n : Nat) : Kept s₀ (s.chHostStart n) := .ite (hs.wr _ _) (hs.chStart _ _)

theorem Kept.flCtl (n v : Nat) : Kept s₀ (s.flCtl n v) := by
  unfold State.flCtl
  refine hs.keyedWrite _ _ _ (fun _ hy => ?_)
  extract_lets a b
  have ha : Kept s₀ a := .ite (hy.chHostStart _) hy
  have hb : Kept s₀ b := .ite (ha.chResume _) ha
  exact (Kept.ite (hb.chAbort _) hb).flSettle

theorem Kept.chWalk (n e : Nat) (ok : Bool) : Kept s₀ (s.chWalk n e ok) := by
  unfold State.chWalk
  dsimp only
  split
  · exact hs
  · refine .ite (hs.chFault _ _ _ _ _ _) ?_
    split
    · exact hs.chFault _ _ _ _ _ _
    · exact (hs.setFch _ _).out _
    · exact (hs.tlbFill _).setFch _ _

theorem Kept.feWalk (u e : Nat) (ok : Bool) : Kept s₀ (s.feWalk u e ok) := by
  unfold State.feWalk
  split
  · exact hs
  · split
    · exact hs
    · refine .ite ((hs.feSwap _ _).feFault _ _ _ _ _) ?_
      split
      · exact (hs.feSwap _ _).feFault _ _ _ _ _
      · exact (hs.feSwap _ _).out _
      · exact (hs.tlbFill _).feIssue _ _

/-! The message engine's commands. -/

theorem Kept.qcfgWrite (q v : Nat) : Kept s₀ (s.qcfgWrite q v) := by
  unfold State.qcfgWrite
  extract_lets _ _ _ _ s1 s2 s3
  have hs1 : Kept s₀ s1 := .ite (hs.qDisable _) hs
  have hs2 : Kept s₀ s2 := hs1.writeFields _ _
  have hs3 : Kept s₀ s3 := hs2.wr _ _
  exact .ite ((hs.rsvdCheck _ _).wr _ _) (.ite (hs3.qEnable _) hs3)

theorem Kept.execQcfgWrite (q : Fin 4096) (v : Word) : Answers s₀ (execQcfgWrite q v s) := by
  unfold Machine.execQcfgWrite
  refine .next ?_
  split
  · exact (((hs.serve _ _).snd_of_eq ‹_›).qcfgWrite _ _).launchSweep.flSettle
  · exact ((hs.serve _ _).snd_of_eq ‹_›)

theorem Kept.popRead (req q : Nat) (wide : Bool) : Kept s₀ (s.popRead req q wide) := by
  unfold State.popRead
  split
  · exact ((hs.serve _ _).snd_of_eq ‹_›).out _
  · have h1 := (hs.serve _ _).snd_of_eq ‹_›
    have h2 := ((h1.popBy req q).launchSweep).flSettle
    exact h2.out _

theorem Kept.execMePopRead (req : Fin 9) (q : Fin 4096) : Answers s₀ (execMePopRead req q s) := .next (hs.popRead _ _ _)
theorem Kept.execMePop64Read (req : Fin 9) (q : Fin 4096) : Answers s₀ (execMePop64Read req q s) := .next (hs.popRead _ _ _)

theorem Kept.execCollectTimeout (g : Fin 4096) : Answers s₀ (execCollectTimeout g s) :=
  .ite (.next ((hs.collectDeliver _ _).emit _ _ _ _ _ _)) (.next hs)

theorem Kept.execCollectRetry (g : Fin 4096) : Answers s₀ (execCollectRetry g s) :=
  .next (hs.units.foldl _ _ (fun _ hy _ => hy.collectTry _ _))

/-! The commands of the Vexurn fabric. -/

theorem Kept.execPortUp (p : Fin 6) (fec : Bool) : Answers s₀ (execPortUp p fec s) := .next (.ite ((hs.units.setVp _ _).emit _ _ _ _ _ _) hs)

theorem Kept.execPortDown (p : Fin 6) (cause : Fin 3) : Answers s₀ (execPortDown p cause s) := by
  unfold Machine.execPortDown
  refine .next (.ite ?_ (Kept.portDown ?_ _ _ _))
  · split
    · exact hs.units
    · exact hs
    · exact hs.units
  · split
    · exact hs.units
    · exact hs
    · exact hs.units

theorem Kept.execAutonegRestart (p : Fin 6) : Answers s₀ (execAutonegRestart p s) := .next (.ite (hs.setVp _ _) hs)
theorem Kept.execHelloTimer : Answers s₀ (execHelloTimer s) := .next (.ite (hs.upto _ _ (fun _ _ hy => .ite (hy.sendHello _) hy)) hs)

theorem Kept.dbSync (p : Nat) : Kept s₀ (s.dbSync p) := by
  unfold State.dbSync
  extract_lets _ s1 t s2 _
  have hs1 : Kept s₀ s1 := .ite (hs.foldl _ _ (fun _ hy _ => hy.vxSend _ _ _ _ _)) hs
  have ht : Kept s₀ t := hs1.foldl _ _ (fun _ hy _ => .ite hy (hy.vxSend _ _ _ _ _))
  have hs2 : Kept s₀ s2 := .ite (.ite (ht.sendSummary _ _ _) ht) hs1
  exact hs2.setVp _ _

theorem Kept.nbrFull (p : Nat) : Kept s₀ (s.nbrFull p) := by
  unfold State.nbrFull
  extract_lets _ s1 s2 s3
  have hs1 : Kept s₀ s1 := (hs.setVp _ _).emit _ _ _ _ _ _
  have hs2 : Kept s₀ s2 := .ite (hs1.claim _).conflict hs1.originate
  have hs3 : Kept s₀ s3 := .ite (hs2.floodCeil _) hs2
  exact .ite (hs3.foldl _ _ (fun _ hy _ => hy.foreignSummary _)) hs3

theorem Kept.adopt (p : Nat) : Kept s₀ (s.adopt p) := .ite hs.units hs

theorem Kept.helloStep (p seen flags : Nat) : Kept s₀ (s.helloStep p seen flags) := by
  unfold State.helloStep
  dsimp only
  split
  · exact hs.setVp _ _
  · exact .ite (((hs.setVp _ _).adopt _).dbSync _) hs
  · exact .ite (hs.nbrLost _ _ _) (.ite (hs.nbrFull _) hs)

theorem Kept.execHelloReceived (p : Fin 6) (l : List Byte) : Answers s₀ (execHelloReceived p l s) := by
  unfold Machine.execHelloReceived
  refine .next (hs.vxTake _ _ _ _ (fun _ _ hy => ?_))
  extract_lets _ _ _ s1 _ s1' _ _ s2 s3 s4
  have hs1 : Kept s₀ s1 := hy.nbrLost _ _ _
  have hs1' : Kept s₀ s1' := .ite (hy.nbrLost _ _ _) hy
  have hs2 : Kept s₀ s2 := hs1'.setVp _ _
  have hs3 : Kept s₀ s3 := hs2.adopt _
  have hs4 : Kept s₀ s4 := .ite hs3 (.ite (hs3.claim _).conflict hs3.originate)
  exact .ite (.ite hs1 ((hs1.setVp _ _).emit _ _ _ _ _ _)) (hs4.helloStep _ _ _).timeParent

theorem Kept.execNeighbourDead (p : Fin 6) : Answers s₀ (execNeighbourDead p s) := .next (.ite hs (hs.portDown _ _ _))

theorem Kept.execTreqTimer : Answers s₀ (execTreqTimer s) := by
  unfold Machine.execTreqTimer
  refine .next ?_
  split
  · exact hs
  · exact .ite (hs.units.vxSend _ _ _ _ _) hs

theorem Kept.execTreqReceived (p : Fin 6) (l : List Byte) : Answers s₀ (execTreqReceived p l s) :=
  .next (hs.vxTake _ _ _ _ (fun _ _ hy => hy.vxSend _ _ _ _ _))

theorem Kept.steer (p : Nat) (x : ℤ) : Kept s₀ (s.steer p x) :=
  .ite hs.units.units (.ite (hs.units.units.emit _ _ _ _ _ _) (hs.units.draw 162).units)

theorem Kept.execTrspReceived (p : Fin 6) (l : List Byte) : Answers s₀ (execTrspReceived p l s) :=
  .next (hs.vxTake _ _ _ _ (fun _ _ hy => .ite (hy.steer _ _) hy))

theorem Kept.execHoldover : Answers s₀ (execHoldover s) := by
  unfold Machine.execHoldover
  refine .next ?_
  split
  · exact .ite (hs.enterHoldover _ _) hs
  · exact hs

theorem Kept.execLsaReceived (p : Fin 6) (l : List Byte) : Answers s₀ (execLsaReceived p l s) := by
  unfold Machine.execLsaReceived
  refine .next (hs.vxTake _ _ _ _ (fun _ _ hy => ?_))
  extract_lets _ _ _ _ _ s1
  have hs1 : Kept s₀ s1 := hy.units
  exact .ite hy (.ite (.ite hy.units.originate hy) (.ite hy (.ite ((hy.wr _ _).emit _ _ _ _ _ _) (hs1.vxForward _ _ _).conflict)))

theorem Kept.execLsaRefresh : Answers s₀ (execLsaRefresh s) := .next (.ite hs.originate hs)
theorem Kept.execLsaAgeOut (id : DWord) : Answers s₀ (execLsaAgeOut id s) := .next (.ite hs.units hs)
theorem Kept.execAddressClaim : Answers s₀ (execAddressClaim s) := .next (.ite (hs.claim _).conflict hs)
theorem Kept.execRouteRecompute : Answers s₀ (execRouteRecompute s) := .next (.ite hs.units.judgeRoots hs)

theorem Kept.execSummaryTimer : Answers s₀ (execSummaryTimer s) :=
  .next (.ite (hs.foldl _ _ (fun _ hy _ => hy.foreignSummary _)).floodSummary hs)

theorem Kept.execSummaryReceived (p : Fin 6) (l : List Byte) : Answers s₀ (execSummaryReceived p l s) := by
  unfold Machine.execSummaryReceived
  refine .next (hs.vxTake _ _ _ _ (fun _ _ hy => ?_))
  extract_lets _ _ _ _ _ _ _ _ s1 s2 s3
  have hs1 : Kept s₀ s1 := hy.units
  have hs2 : Kept s₀ s2 := .ite ((hs1.wr _ _).emit _ _ _ _ _ _) hs1
  have hs3 : Kept s₀ s3 := .ite hs2.floodSummary (hs2.vxForward _ _ _)
  exact .ite hy (hs3.judgeRoots.sumTell _)

theorem Kept.execSummaryExpiry (origin : Word) : Answers s₀ (execSummaryExpiry origin s) := .next (.ite (hs.units.judgeRoots.sumTell _) hs)

theorem Kept.dgramDeliver (f : VxFrame) : Kept s₀ (s.dgramDeliver f) :=
  .ite (hs.dgnak _ _ _ _) (.ite (hs.sendQueue _ _) ((hs.sendQueue _ _).dgnak _ _ _ _))

theorem Kept.execDgramReceived (p : Fin 6) (l : List Byte) : Answers s₀ (execDgramReceived p l s) :=
  .next (hs.vxTake _ _ _ _ (fun _ _ hy => .ite hy (.ite (hy.dgramDeliver _) (hy.vxRoute _))))

theorem Kept.execDgnakReceived (p : Fin 6) (l : List Byte) : Answers s₀ (execDgnakReceived p l s) := by
  unfold Machine.execDgnakReceived
  refine .next (hs.vxTake _ _ _ _ (fun _ _ hy => ?_))
  extract_lets _ _ _ s1
  have hs1 : Kept s₀ s1 := hy.foldl _ _ (fun _ hy1 _ => ((hy1.satAdd _ _).wr _ _).emit _ _ _ _ _ _)
  exact .ite hy (.ite (.ite (hs1.sendQueue _ _) hs1) (hy.vxRoute _))

theorem Kept.setWeir (ns : Nat) : Kept s₀ (s.setWeir ns) := hs.units

theorem Kept.execPpsEdge : Answers s₀ (execPpsEdge s) := by
  unfold Machine.execPpsEdge
  refine .next (.ite hs (.ite ?_ (Kept.originate ?_)))
  · split
    · exact .ite (hs.units.units.setWeir _) hs.units
    · exact .ite (hs.units.setWeir _) hs.units
  · split
    · exact .ite (hs.units.units.setWeir _) hs.units
    · exact .ite (hs.units.setWeir _) hs.units

theorem Kept.execPpsLost : Answers s₀ (execPpsLost s) := .next (.ite ((hs.units.wr _ _).emit _ _ _ _ _ _).originate hs)

theorem Kept.execTimeSetApply (v : Word) : Answers s₀ (execTimeSetApply v s) :=
  .next (hs.keyedWrite _ _ _ (fun _ hy => .ite hy (.ite (hy.wr _ _) (.ite hy.units (hy.setWeir _)))))

theorem Kept.execVxSave (v : Word) : Answers s₀ (execVxSave v s) := .next (hs.hostWrite _ _ _ (fun _ hy => .ite (hy.saveBlock _) hy))

/-! Flume's commands. -/

theorem Kept.execFlStart (n : Fin 16) (v : Word) : Answers s₀ (execFlStart n v s) := .next (hs.flCtl _ _)
theorem Kept.execFlResume (n : Fin 16) (v : Word) : Answers s₀ (execFlResume n v s) := .next (hs.flCtl _ _)
theorem Kept.execFlAbort (n : Fin 16) (v : Word) : Answers s₀ (execFlAbort n v s) := .next (hs.flCtl _ _)

theorem Kept.execGranuleArrived (n : Fin 16) (k : Fin 16384) (bytes : List Byte) (ok : Bool) :
    Answers s₀ (execGranuleArrived n k bytes ok s) :=
  .next (.ite hs (.ite (hs.chFault _ _ _ _ _ _).flSettle (hs.setFch _ _).flSettle))

theorem Kept.execWalkReadDone (u : Fin 1041) (e : DWord) (ok : Bool) : Answers s₀ (execWalkReadDone u e ok s) :=
  .next (.ite hs (Kept.ite (hs.chWalk _ _ _) (hs.feWalk _ _ _)).flSettle)

theorem Kept.execUpstreamReadTimeout (u : Fin 1041) (k : Fin 16384) : Answers s₀ (execUpstreamReadTimeout u k s) := by
  unfold Machine.execUpstreamReadTimeout
  refine .next (.ite hs (.ite (Kept.ite (hs.chWalk _ _ _) (.ite (hs.chFault _ _ _ _ _ _) hs)).flSettle ?_))
  split
  · exact hs
  · exact (Kept.ite (hs.feWalk _ _ _) ((hs.feSwap _ _).feFault _ _ _ _ _)).flSettle

theorem Kept.execHoldExpiry (n : Fin 6) : Answers s₀ (execHoldExpiry n s) := .next (.ite ((hs.wr _ _).loadAbort _ _).flSettle hs)
theorem Kept.execFlInvGo (v : Word) : Answers s₀ (execFlInvGo v s) := .next (hs.hostWrite _ _ _ (fun _ hy => .ite (hy.tlbDrop _ _).units hy))
theorem Kept.execInvComplete : Answers s₀ (execInvComplete s) := .next (.ite hs.units hs)

theorem Kept.execCtxWrite (c : Fin 65) (hi : Bool) (v : Word) : Answers s₀ (execCtxWrite c hi v s) := by
  unfold Machine.execCtxWrite
  refine .next (hs.hostWrite _ _ _ (fun _ hy => ?_))
  extract_lets _ _ x1 x2
  have hx1 : Kept s₀ x1 := (hy.wr _ _).wr _ _
  have hx2 : Kept s₀ x2 := .ite (hx1.wr _ _) hx1
  exact .ite (.ite hx2 (hx2.tlbDrop _ _)) hy

theorem Kept.execFlSave (v : Word) : Answers s₀ (execFlSave v s) := .next (hs.hostWrite _ _ _ (fun _ hy => .ite (hy.saveBlock _) hy))

/-! The Command Front End's commands. -/

theorem Kept.execRingDoorbell (r : Fin 1024) (v : Word) : Answers s₀ (execRingDoorbell r v s) :=
  .next (hs.hostWrite _ _ _ (fun _ hy => hy.cfPrefetch.flSettle))

theorem Kept.execRingTurn : Answers s₀ (execRingTurn s) := by
  unfold Machine.execRingTurn
  refine .next (.ite hs ?_)
  split
  · exact hs.cfPrefetch.flSettle
  · exact (((hs.units.parseOn _).turnTidy _).bufFetch _).cfPrefetch.flSettle

theorem Kept.execDescriptorFetched (r : Fin 1024) (bytes : List Byte) (ok : Bool) : Answers s₀ (execDescriptorFetched r bytes ok s) := by
  unfold Machine.execDescriptorFetched
  refine .next ?_
  split
  · extract_lets s1 _ s2 _
    have hs1 : Kept s₀ s1 := hs.feSwap _ _
    have hs2 : Kept s₀ s2 := .ite (hs1.wr _ _) hs1
    refine .ite (hs1.feFault _ _ _ _ _).flSettle ?_
    split
    · exact ((hs2.setDesc _ _).bufFetch _).cfPrefetch.flSettle
    · exact ((((hs2.setDesc _ _).wr _ _).emit _ _ _ _ _ _).descCheck _).cfPrefetch.flSettle
  · exact hs

theorem Kept.execBufferFetched (r : Fin 1024) (bytes : List Byte) (ok : Bool) : Answers s₀ (execBufferFetched r bytes ok s) := by
  unfold Machine.execBufferFetched
  refine .next ?_
  split
  · exact .ite ((hs.feSwap _ _).feFault _ _ _ _ _).flSettle (((hs.feSwap _ _).setDesc _ _).bufFetch _).flSettle
  · exact hs

theorem Kept.execSetcap : Answers s₀ (execSetcap s) := .next (hs.cfStart _ _ (fun _ hy _ _ _ => hy.capSend _ _ _)).flSettle
theorem Kept.execSetfloor : Answers s₀ (execSetfloor s) := .next (hs.cfStart _ _ (fun _ hy _ _ _ => hy.capSend _ _ _)).flSettle
theorem Kept.execLoadtbl : Answers s₀ (execLoadtbl s) := .next (hs.cfStart _ _ (fun _ hy _ _ _ => .ite (hy.cmdDone _ _ _) hy.units)).flSettle

theorem Kept.execTablePublish (n : Fin 6) : Answers s₀ (execTablePublish n s) := by
  refine .next ?_
  split
  · exact hs
  · refine .ite hs (((((hs.ikiva ?_).wr _ _).wr _ _).setFch _ _).cmdDone _ _ _).flSettle
    exact fun w => ⟨writeBytes_wf (writeBytes_wf w.1 _ _ _) _ _ _, w.2⟩

theorem Kept.launchCmd (r i core func a0 a1 : Nat) (consts : List Nat) (nowait : Bool) :
    Kept s₀ (s.launchCmd r i core func a0 a1 consts nowait) :=
  .ite (hs.cmdDone _ _ _) (.ite (hs.cmdDone _ _ _) (hs.launchNew _))

theorem Kept.execRunpol : Answers s₀ (execRunpol s) := .next (hs.cfStart _ _ (fun _ hy _ _ _ => hy.launchCmd _ _ _ _ _ _ _ _)).flSettle

theorem Kept.execProfile : Answers s₀ (execProfile s) := by
  unfold Machine.execProfile
  refine .next (hs.cfStart _ _ (fun _ hy _ _ _ => ?_)).flSettle
  refine .ite (hy.cmdDone _ _ _) (.ite (hy.cmdDone _ _ _) ?_)
  split
  · exact hy.cmdDone _ _ _
  · exact hy.launchCmd _ _ _ _ _ _ _ _

theorem Kept.execSignal : Answers s₀ (execSignal s) := by
  unfold Machine.execSignal
  refine .next (hs.cfStart _ _ (fun _ hy _ _ _ => ?_)).flSettle
  dsimp only
  split
  · exact .ite (hy.cmdDone _ _ _) (hy.fePut _)
  · exact .ite (hy.cmdDone _ _ _) ((hy.sendRemote _ _ _ _ _).cmdDone _ _ _)
  · exact (hy.raiseVec _).cmdDone _ _ _

theorem Kept.execFence : Answers s₀ (execFence s) := by
  unfold Machine.execFence
  refine .next (hs.cfStart _ _ (fun _ hy _ _ _ => ?_)).flSettle
  split
  · exact hy
  · exact (hy.setDesc _ _).descCheck _

theorem Kept.execChain : Answers s₀ (execChain s) := by
  unfold Machine.execChain
  refine .next (hs.cfStart _ _ (fun _ hy _ _ _ => ?_)).flSettle
  refine Kept.cmdDone ?_ _ _ _
  split
  · exact hy
  · exact hy.setDesc _ _

theorem Kept.execLaunchRetry : Answers s₀ (execLaunchRetry s) :=
  .next (.ite (hs.foldl _ _ (fun _ hy _ => hy.launchTry_getD _ _)).flSettle hs)

theorem Kept.execLaunchTimeout (r : Fin 1024) (i : Fin 4096) : Answers s₀ (execLaunchTimeout r i s) := by
  unfold Machine.execLaunchTimeout
  refine .next ?_
  split
  · exact hs
  · exact .ite hs (((hs.units.wr _ _).emit _ _ _ _ _ _).cmdDone _ _ _).flSettle

theorem Kept.ringAbort (r : Nat) : Kept s₀ (s.ringAbort r) := by
  unfold State.ringAbort
  split
  · exact hs
  · exact .ite ((hs.units.ringErr _ _ _).ringStop _ _ _) (.ite hs ((hs.units.setDesc _ _).descCheck _))

theorem Kept.ringCtl (r v : Nat) : Kept s₀ (s.ringCtl r v) :=
  hs.keyedWrite _ _ _ (fun _ hy => (Kept.ite ((Kept.ite (hy.ringAbort _) hy).setRing _ _).cfPrefetch (.ite (hy.ringAbort _) hy)).flSettle)

theorem Kept.execRingAbort (r : Fin 1024) (v : Word) : Answers s₀ (execRingAbort r v s) := .next (hs.ringCtl _ _)
theorem Kept.execRingResume (r : Fin 1024) (v : Word) : Answers s₀ (execRingResume r v s) := .next (hs.ringCtl _ _)

theorem Kept.execRingCfgWrite (r : Fin 1024) (v : Word) : Answers s₀ (execRingCfgWrite r v s) := by
  unfold Machine.execRingCfgWrite
  refine .next ?_
  split
  · exact ((hs.serve _ _).snd_of_eq ‹_›)
  · extract_lets _ s2 s3 _ s4
    have hs2 : Kept s₀ s2 := .ite (((hs.serve _ _).snd_of_eq ‹_›).ringAbort _) ((hs.serve _ _).snd_of_eq ‹_›)
    have hs3 : Kept s₀ s3 := hs2.writeFields _ _
    have hs4 : Kept s₀ s4 := .ite hs3 (hs3.setRing _ _)
    exact .ite (((hs.serve _ _).snd_of_eq ‹_›).rsvdCheck _ _).refuse hs4.cfPrefetch.flSettle

theorem Kept.execVecMaskWrite (n : Fin 256) (v : Word) : Answers s₀ (execVecMaskWrite n v s) :=
  .next (hs.hostWrite _ _ _ (fun _ hy => .ite ((hy.wr _ _).out _) hy))

theorem Kept.execCfSave (v : Word) : Answers s₀ (execCfSave v s) := .next (hs.hostWrite _ _ _ (fun _ hy => .ite (hy.saveBlock _) hy))
theorem Kept.execRetireWaitEnd (h : Fin 4096) : Answers s₀ (execRetireWaitEnd h s) := .next hs.units.flSettle

/-! Eligibility and roles of a die. -/

theorem Kept.setRole (into : Nat) : Kept s₀ (s.setRole into) := .ite hs (hs.units.emit _ _ _ _ _ _)

theorem Kept.roleSettle : Kept s₀ s.roleSettle := by
  unfold State.roleSettle
  split
  · exact .ite (hs.setRole _) hs
  · exact .ite (hs.setRole _) hs
  · exact .ite hs (hs.setRole _)
  · exact hs

/-! Sensors, plausibility, zones, bands, the orderly stop and the trip latch. -/

theorem Kept.setSensor (k : Nat) (r : Reading) : Kept s₀ (s.setSensor k r) := hs.units
theorem Kept.pinCheck (n : Nat) : Kept s₀ (s.pinCheck n) := .ite hs ((hs.units.wr _ _).emit _ _ _ _ _ _).clampAll

theorem Kept.breakSensor (k cause : Nat) : Kept s₀ (s.breakSensor k cause) := by
  unfold State.breakSensor
  dsimp only
  split
  · exact (Kept.ite (hs.setSensor _ _) (((hs.setSensor _ _).wr _ _).emit _ _ _ _ _ _)).pinCheck _
  · exact .ite (hs.setSensor _ _) (((hs.setSensor _ _).wr _ _).emit _ _ _ _ _ _)

theorem Kept.tripLatch (cause zone temp : Nat) : Kept s₀ (s.tripLatch cause zone temp) := by
  unfold State.tripLatch
  extract_lets _ _ _ s1 s2 s3
  have hs1 : Kept s₀ s1 := hs.units
  have hs2 : Kept s₀ s2 := ((hs1.wr _ _).wr _ _).wr _ _
  have hs3 : Kept s₀ s3 := hs2.emit _ _ _ _ _ _
  exact .ite hs (Kept.ite hs3 (hs3.emit _ _ _ _ _ _)).roleSettle

theorem Kept.warnCheck (i old new : Nat) (seen : Bool) : Kept s₀ (s.warnCheck i old new seen) := .ite ((hs.wr _ _).emitHw _ _ _ _ _ _ _) hs

theorem Kept.sensorRead (k : Nat) (ok : Bool) (code : Nat) : Kept s₀ (s.sensorRead k ok code) := by
  unfold State.sensorRead
  extract_lets _ _ _ s1 _ s2
  have hs1 : Kept s₀ s1 := hs.setSensor _ _
  have hs2 : Kept s₀ s2 := .ite (hs1.warnCheck _ _ _ _) hs1
  exact .ite hs (.ite (hs1.breakSensor _ _) (.ite (hs1.breakSensor _ _) (.ite (hs2.tripLatch _ _ _) hs2)))

theorem Kept.headRate (z : Nat) : Kept s₀ (s.headRate z).2 := by
  unfold State.headRate
  dsimp only
  split
  · exact hs
  · exact hs.draw 60

theorem Kept.stopBegin (z : Nat) (p : ℤ × ℤ) : Kept s₀ (s.stopBegin z p) := by
  unfold State.stopBegin
  extract_lets _ _ s1 s2 s3 s4
  have hs1 : Kept s₀ s1 := hs.units
  have hs2 : Kept s₀ s2 := (hs1.wr _ _).emitHw _ _ _ _ _ _ _
  have hs3 : Kept s₀ s3 := hs2.refuseListed _
  have hs4 : Kept s₀ s4 := hs3.upto _ _ (fun _ _ hy => (hy.each _ _ (fun _ _ hy1 => hy1.boostFall _ _)).retarget _ _)
  exact hs4.budgetMoved

theorem Kept.vermilion (z : Nat) : Kept s₀ (s.vermilion z) :=
  .ite hs (.ite ((hs.headRate _).stopBegin _ _) ((hs.headRate _).tripLatch _ _ _))

theorem Kept.sendRefresh (n packed : Nat) : Kept s₀ (s.sendRefresh n packed) := hs.upto _ _ (fun _ _ hy => .ite hy (hy.sendLink _ _))

theorem Kept.refreshAll : Kept s₀ s.refreshAll :=
  (hs.upto _ _ (fun _ _ hy => .ite hy ((hy.setZone _ _).sendRefresh _ _))).upto _ _ (fun _ _ hy => hy.setZone _ _)

theorem Kept.zoneJudge (edges : List Nat) (z : Nat) : Kept s₀ (s.zoneJudge edges z) := by
  unfold State.zoneJudge
  split
  · exact hs.setZone _ _
  · extract_lets _ _ _ _ s1 s2 s3
    have hs1 : Kept s₀ s1 := hs.setZone _ _
    have hs2 : Kept s₀ s2 := .ite (hs1.emitHw _ _ _ _ _ _ _) hs1
    have hs3 : Kept s₀ s3 := .ite (hs2.wr _ _) hs2
    exact .ite (hs3.vermilion _) hs3

theorem Kept.woadCap (d : Nat) : Kept s₀ (s.woadCap d) := .ite (hs.retarget _ _) hs

theorem Kept.zoneTick : Kept s₀ s.zoneTick := by
  unfold State.zoneTick
  extract_lets _ _ y' s1 s2 _ _ _ s3
  have hy' : Kept s₀ y' := hs.units
  have hs1 : Kept s₀ s1 := .ite hs (.ite hy' (hy'.emit _ _ _ _ _ _))
  have hs2 : Kept s₀ s2 := (hs1.upto _ _ (fun _ _ hy => hy.pinCheck _)).each _ _ (fun _ _ hy => hy.zoneJudge _ _)
  have hs3 : Kept s₀ s3 := hs2.units
  exact (hs3.upto _ _ (fun _ _ hy => hy.woadCap _)).refreshAll

theorem Kept.zoneStep (z : Nat) : Kept s₀ (s.zoneStep z) := by
  unfold State.zoneStep
  refine (Kept.ite ?_ hs).setZone _ _
  split
  · exact hs
  · exact hs.draw 61

theorem Kept.stepTick : Kept s₀ s.stepTick := (hs.each _ _ (fun _ _ hy => hy.zoneStep _)).pauseAll.clampAll.budgetMoved

theorem Kept.pkgProj : Kept s₀ (s.pkgProj).2 := by
  unfold State.pkgProj
  refine hs.foldlSnd _ _ (fun _ hp _ => ?_)
  dsimp only
  exact hp.headRate _

theorem Kept.drainAll : Kept s₀ s.drainAll := .ite hs (hs.each _ _ (fun _ _ hy => hy.putTile _ _)).units.clampAll

/-! Link state, enumeration, the opening and closing of tiles, and link loss. -/

theorem Kept.closeTile (t : Nat) : Kept s₀ (s.closeTile t) := (hs.foldl _ _ (fun _ hy _ => hy.dropIntent _ _)).putTile _ _
theorem Kept.giveBack (t : Nat) : Kept s₀ (s.giveBack t) := .ite hs (hs.putTile _ _)
theorem Kept.giveBackAll (l : List Nat) : Kept s₀ (s.giveBackAll l) := hs.each _ _ (fun _ _ hy => hy.giveBack _)
theorem Kept.enumCheck (n : Nat) : Kept s₀ (s.enumCheck n) := .ite hs (.ite ((hs.setLink _ _).emit _ _ _ _ _ _).clampAll hs)
theorem Kept.dropReadings (t : Nat) : Kept s₀ (s.dropReadings t) := hs.units
theorem Kept.afterConfig (t : Nat) : Kept s₀ (s.afterConfig t) := (hs.sendTile _ _ _).sendTile _ _ _

theorem Kept.openTile (n t : Nat) : Kept s₀ (s.openTile n t) := by
  unfold State.openTile
  exact ((((((hs.dropReadings _).putTile _ _).sendTile _ _ _).setLink _ _).afterConfig _).pauseUpdate _).enumCheck _

theorem Kept.nonconform (n t check : Nat) : Kept s₀ (s.nonconform n t check) := by
  unfold State.nonconform
  extract_lets _ s1 _ s2 s3 _
  have hs1 : Kept s₀ s1 := hs.sendClose _ _ _
  have hs2 : Kept s₀ s2 := hs1.setLink _ _
  have hs3 : Kept s₀ s3 := ((hs2.satAdd _ _).emit _ _ _ _ _ _).wr _ _
  exact .ite hs1 ((Kept.ite hs3 (hs3.putTile _ _)).enumCheck _)

theorem Kept.endSession (n st : Nat) : Kept s₀ (s.endSession n st) :=
  ((hs.setLink _ _).each _ _ (fun _ _ hy => .ite (hy.putTile _ _) hy)).units

theorem Kept.dropTiles (n : Nat) : Kept s₀ (s.dropTiles n) := by
  unfold State.dropTiles
  extract_lets _ _ s1 s2 _
  have hs1 : Kept s₀ s1 := hs.each _ _ (fun _ _ hy => hy.closeTile _)
  have hs2 : Kept s₀ s2 := by
    refine hs1.each _ _ (fun _ _ hy => ?_)
    split
    · exact hy.emit _ _ _ _ _ _
    · exact hy
  exact (hs2.setLink _ _).each _ _ (fun _ _ hy => hy.checkRelease _)

theorem Kept.linkLoss (n cause : Nat) : Kept s₀ (s.linkLoss n cause) := by
  unfold State.linkLoss
  extract_lets _ s1 s2 _ s3
  have hs1 : Kept s₀ s1 := (hs.satAdd _ _).emit _ _ _ _ _ _
  have hs2 : Kept s₀ s2 := hs1.endSession _ _
  have hs3 : Kept s₀ s3 := hs2.setLink _ _
  exact .ite hs (Kept.ite (hs3.dropTiles _) hs3).clampAll

theorem Kept.linkDown (n : Nat) : Kept s₀ (s.linkDown n) :=
  (((hs.each _ _ (fun _ _ hy => (hy.closeTile _).giveBack _)).endSession _ _).setLink _ _).clampAll

theorem Kept.linkTrain (n : Nat) : Kept s₀ (s.linkTrain n) := .ite (hs.setLink _ _) (.ite (hs.setLink _ _) hs)
theorem Kept.linksTrain : Kept s₀ s.linksTrain := hs.upto _ _ (fun _ _ hy => .ite ((hy.setLink _ _).linkTrain _) hy)
theorem Kept.wakeLinks : Kept s₀ s.wakeLinks := .ite hs.linksTrain hs

/-! The reservoir. -/

theorem Kept.rvPin (n : Nat) (v : Pin) : Kept s₀ (s.rvPin n v) := .ite hs (hs.units.out _)
theorem Kept.legOut (k : Nat) : Kept s₀ (s.legOut k) := hs.out _

theorem Kept.legsDrive : Kept s₀ s.legsDrive := by
  unfold State.legsDrive
  extract_lets _ _ s1 _
  have hs1 : Kept s₀ s1 := hs.upto _ _ (fun _ _ hy => (hy.rvPin _ _).rvPin _ _)
  exact .ite hs1 (hs1.units.foldl _ _ (fun _ hy _ => hy.legOut _))

theorem Kept.rvBleed (m : Nat) : Kept s₀ (s.rvBleed m) := .ite hs (hs.units.out _)

theorem Kept.rvPinsOff : Kept s₀ s.rvPinsOff := by
  unfold State.rvPinsOff
  extract_lets s1 s2 _
  have hs1 : Kept s₀ s1 := hs.upto _ _ (fun _ _ hy => hy.rvPin _ _)
  have hs2 : Kept s₀ s2 := (Kept.ite hs1 (hs1.out _)).rvBleed _
  exact hs2.units

theorem Kept.rvMode (m : Nat) : Kept s₀ (s.rvMode m) :=
  .ite hs (.ite ((hs.emit _ _ _ _ _ _).units.rvBleed _).legsDrive (hs.emit _ _ _ _ _ _).units)

theorem Kept.rvRun : Kept s₀ s.rvRun := .ite (.ite (hs.rvMode _) (hs.units.rvMode _)) (.ite (hs.rvMode _) (hs.rvMode _))

theorem Kept.rvSettle : Kept s₀ s.rvSettle := by
  unfold State.rvSettle
  split
  · exact hs
  · exact .ite hs (hs.rvMode _)
  · exact .ite (hs.rvMode _) hs
  · exact .ite (hs.rvMode _) (.ite hs hs.rvRun)
  · exact .ite (hs.rvMode _) hs.rvRun

theorem Kept.rvCause (c : Nat) : Kept s₀ (s.rvCause c) := hs.units.rvSettle
theorem Kept.rvClear (c : Nat) : Kept s₀ (s.rvClear c) := hs.units.rvSettle

theorem Kept.rvStart : Kept s₀ s.rvStart := by
  unfold State.rvStart
  refine .ite (hs.units.rvMode _) ?_
  split
  · exact .ite hs ((hs.units.rvMode _).emit _ _ _ _ _ _)
  · exact .ite ((Kept.ite hs.units.units hs.units).rvMode _).rvSettle (Kept.ite hs.units.units hs.units).rvSettle

theorem Kept.rvFault (kind v : Nat) : Kept s₀ (s.rvFault kind v) := ((hs.units.wr _ _).emit _ _ _ _ _ _).rvCause _
theorem Kept.rvCheckpoint : Kept s₀ s.rvCheckpoint := hs.units

theorem Kept.endurance (into cell kind : Nat) : Kept s₀ (s.endurance into cell kind) := by
  unfold State.endurance
  extract_lets _ s1 s2
  have hs1 : Kept s₀ s1 := ((hs.wr _ _).wr _ _).emit _ _ _ _ _ _
  have hs2 : Kept s₀ s2 := hs1.rvCheckpoint
  exact .ite (.ite (hs2.rvCause _) hs2) hs

theorem Kept.judgeWear (n : Nat) (cap : Bool) : Kept s₀ (s.judgeWear n cap) :=
  .ite (.ite (hs.endurance _ _ _) (.ite (hs.endurance _ _ _) hs)) (.ite (hs.endurance _ _ _) (.ite (hs.endurance _ _ _) hs))

theorem Kept.newCap (n v : Nat) : Kept s₀ (s.newCap n v) := (hs.units.wr _ _).judgeWear _ _
theorem Kept.newEsr (n v : Nat) : Kept s₀ (s.newEsr n v) := (hs.units.wr _ _).judgeWear _ _

/-! Package state commands and the start of transitions. -/

theorem Kept.ungate : Kept s₀ s.ungate := hs.upto _ _ (fun _ _ hy => hy.sendFstep _ _ _)

theorem Kept.stopAll : Kept s₀ s.stopAll := by
  unfold State.stopAll
  refine hs.foldlFst _ _ (fun _ hp _ => ?_)
  dsimp only
  exact hp.each _ _ (fun _ _ hy => hy.railStop _ _)

theorem Kept.napAdvance : Kept s₀ s.napAdvance := .ite (hs.upto _ _ (fun _ _ hy => .ite hy (hy.retarget _ _))).stopAll hs
theorem Kept.keepBegin : Kept s₀ s.keepBegin := hs.tailFlush.checkpoint.rvCheckpoint.auxAllOff.rvMode _
theorem Kept.leaveRun (t : Nat) : Kept s₀ (s.leaveRun t) := hs.units.napAdvance

theorem Kept.runCheck : Kept s₀ s.runCheck := by
  unfold State.runCheck
  extract_lets _ s1 _ s2 s3
  have hs1 : Kept s₀ s1 := .ite hs (hs.wr _ _)
  have hs2 : Kept s₀ s2 := hs1.units
  have hs3 : Kept s₀ s3 := (hs2.emit _ _ _ _ _ _).emit _ _ _ _ _ _
  exact .ite (.ite hs3 (hs3.leaveRun _)) hs

theorem Kept.pkgBegin (trig : Nat) : Kept s₀ (s.pkgBegin trig) := by
  unfold State.pkgBegin
  dsimp only
  split
  · exact (hs.units.upto _ _ (fun _ _ hy => hy.burstExitCmd _)).ungate
  · exact hs.units.units.startReady.wakeLinks.runCheck
  · exact hs.units.keepBegin
  · exact hs.units.leaveRun _

theorem Kept.runRefused (c : Nat) : Kept s₀ (s.runRefused c) := hs.refuse.emit _ _ _ _ _ _

theorem Kept.pkgCommand (target trig : Nat) : Kept s₀ (s.pkgCommand target trig) := by
  unfold State.pkgCommand
  extract_lets _ s0 _ s1 _
  have hs0 : Kept s₀ s0 := .ite hs.units hs
  have hs1 : Kept s₀ s1 := hs0.units
  refine .ite hs.refuse (.ite (.ite hs0 hs0.units) (.ite hs0 (.ite ?_ (hs1.pkgBegin _))))
  split
  · exact hs0.units.runRefused _
  · exact hs1.units.pkgBegin _

theorem Kept.pkgArrive (t : Nat) : Kept s₀ (s.pkgArrive t) := hs.units.emit _ _ _ _ _ _

theorem Kept.pkgContinue : Kept s₀ s.pkgContinue := by
  unfold State.pkgContinue
  refine .ite hs (.ite ?_ (hs.pkgBegin _))
  split
  · exact hs.units.runRefused _
  · exact hs.pkgBegin _

theorem Kept.intentWake (d : Nat) : Kept s₀ (s.intentWake d) := .ite ((hs.burstExitCmd _).units.pkgBegin _) (hs.burstExitCmd _)

end Sys2Proof.Machine
end

section
namespace Sys2Proof.Machine
open Sys2Proof
set_option Elab.async false
variable {α β : Type} {s₀ s : State} (hs : Kept s₀ s)
include hs

/-! Fused keys, the checks of an image in a slot, and loading it. -/

omit hs in
/-- Bytes of an image laid out from an address, the zeros left out, are canonical. -/
theorem image_wf (a : Nat) (f : Nat → Byte) (n : Nat) :
    Memory.wf (((List.range n).map (fun i => (a + i, f i))).filter (fun e => e.2 != 0)) = true := by
  induction n generalizing a f with
  | zero => rfl
  | succ n ih =>
    have htail : (List.range n).map ((fun i => (a + i, f i)) ∘ Nat.succ) = (List.range n).map (fun i => (a + 1 + i, f (i + 1))) :=
      List.map_congr_left (fun i _ => by simp only [Function.comp_apply, Nat.succ_eq_add_one, Prod.mk.injEq, and_true]; omega)
    rw [List.range_succ_eq_map, List.map_cons, List.map_map, htail, List.filter_cons]
    split
    · refine mwf_cons.mpr ⟨bne_iff_ne.mp ‹_›, fun x hx => ?_, ih (a + 1) (fun i => f (i + 1))⟩
      obtain ⟨i, -, rfl⟩ := List.mem_map.mp (List.mem_filter.mp hx).1
      dsimp only
      omega
    · exact ih (a + 1) (fun i => f (i + 1))

theorem Kept.loadCore (slot c : Nat) : Kept s₀ (s.loadCore slot c) := by
  unfold State.loadCore
  refine .ite (hs.setCore _ _ ?_) ?_
  · exact fun _ => ⟨rfl, rfl⟩
  · split
    · refine ((hs.setCore _ _ ?_).emit _ _ _ _ _ _).enterFloor _ _
      exact fun _ => ⟨rfl, rfl⟩
    · refine hs.setCore _ _ ?_
      exact fun _ => ⟨image_wf _ _ _, rfl⟩

theorem Kept.loadSlot (slot : Nat) (fell : Bool) : Kept s₀ (s.loadSlot slot fell) :=
  (hs.clock.emit _ _ _ _ _ _).upto _ _ (fun _ _ hy => hy.loadCore _ _)

theorem Kept.slotRefused (slot : Nat) (b : BadImage) : Kept s₀ (s.slotRefused slot b) := (hs.clock.emit _ _ _ _ _ _).emit _ _ _ _ _ _

theorem Kept.imageLoad : Kept s₀ s.imageLoad := by
  unfold State.imageLoad
  extract_lets a
  split
  · exact hs.loadSlot _ _
  · extract_lets s1
    have hs1 : Kept s₀ s1 := hs.slotRefused _ _
    split
    · exact (hs1.loadSlot _ _).emit _ _ _ _ _ _
    · refine (hs1.slotRefused _ _).ikiva ?_
      exact fun w => ⟨w.1, fun _ => ⟨rfl, rfl⟩⟩

theorem Kept.startLoaded (reason : Nat) : Kept s₀ (s.startLoaded reason) := .ite (hs.upto _ _ (fun _ _ hy => .ite (hy.startCore _ _) hy)) hs

/-! Challenges, unlock and relock, the provisioning window, commits and slot writes. -/

theorem Kept.chalStat (pend result : Nat) : Kept s₀ (s.chalStat pend result) := (hs.wr _ _).wr _ _

theorem Kept.chalRecord (purpose reason key : Nat) : Kept s₀ (s.chalRecord purpose reason key) :=
  .ite (hs.emit _ _ _ _ _ _) (hs.emit _ _ _ _ _ _)

theorem Kept.chalRefuse (reason key : Nat) : Kept s₀ (s.chalRefuse reason key) := by
  unfold State.chalRefuse
  split
  · exact hs
  · exact (Kept.ite (hs.units.chalStat _ _).units (hs.units.chalStat _ _)).chalRecord _ _ _

theorem Kept.nonce : Kept s₀ (s.nonce).2 := by
  unfold State.nonce
  dsimp only
  exact hs.draw 50

theorem Kept.chalIssue (purpose target perms : Nat) : Kept s₀ (s.chalIssue purpose target perms) :=
  .ite (hs.chalRecord _ _ _) (((hs.nonce.units.upto _ _ (fun _ _ hy => hy.wr _ _)).chalStat _ _).emit _ _ _ _ _ _)

theorem Kept.debugRelock (cause : Nat) : Kept s₀ (s.debugRelock cause) := .ite (((hs.wr _ _).wr _ _).emit _ _ _ _ _ _) hs
theorem Kept.provClose : Kept s₀ s.provClose := .ite ((hs.units.wr _ _).emit _ _ _ _ _ _) hs

theorem Kept.grantEffect (c : Challenge) (key : Nat) (fuseOk : Bool) : Kept s₀ (s.grantEffect c key fuseOk) := by
  unfold State.grantEffect
  dsimp only
  split
  · exact hs.wr _ _
  · exact hs.clearGrant _
  · exact hs.units.wr _ _
  · exact .ite hs.units (hs.emit _ _ _ _ _ _)
  · exact .ite hs.units (hs.emit _ _ _ _ _ _)

theorem Kept.respDone (fuseOk : Bool) : Kept s₀ (s.respDone fuseOk) := by
  unfold State.respDone
  split
  · exact hs
  · split
    · exact hs
    · split
      · exact hs.chalRefuse _ _
      · exact ((hs.units.chalStat _ _).emit _ _ _ _ _ _).grantEffect _ _ _

theorem Kept.seChal (v : Nat) : Kept s₀ (s.seChal v) := by
  unfold State.seChal
  refine hs.keyedWrite _ _ _ (fun _ hy => ?_)
  extract_lets _ a _ b
  have ha : Kept s₀ a := .ite (.ite (hy.chalIssue _ _ _) (.ite (hy.chalRecord _ _ _) ((hy.chalStat _ _).chalRecord _ _ _))) hy
  have hb : Kept s₀ b := by
    unfold b
    split
    · exact .ite ha.units ha
    · exact ha
  exact .ite (hb.chalRefuse _ _) hb

theorem Kept.seCtl (v : Nat) : Kept s₀ (s.seCtl v) := by
  unfold State.seCtl
  refine hs.keyedWrite _ _ _ (fun _ hy => ?_)
  extract_lets a _ b _ _
  have ha : Kept s₀ a := .ite (hy.debugRelock _).provClose hy
  have hb : Kept s₀ b := by
    refine .ite ?_ ha
    split
    · exact .ite ha.units ha
    · exact ha
  exact .ite (.ite (hb.glErr _ _) (.ite hb hb.units)) hb

theorem Kept.slotResult (slot v : Nat) : Kept s₀ (s.slotResult slot v) := hs.wr _ _

theorem Kept.seReset (unlock window chal mbox cold : Bool) : Kept s₀ (s.seReset unlock window chal mbox cold) := by
  unfold State.seReset
  extract_lets s1 _ s2 _ y' _ s3 _
  have hs1 : Kept s₀ s1 := .ite (.ite (hs.wr _ _) (hs.debugRelock _)) hs
  have hs2 : Kept s₀ s2 := .ite (.ite (hs1.units.wr _ _) hs1.provClose) hs1
  have hy' : Kept s₀ y' := hs2.units.chalStat _ _
  have hs3 : Kept s₀ s3 := by
    unfold s3
    split
    · exact .ite (.ite (.ite hy'.units hy') (Kept.ite hy'.units hy').units) hs2
    · exact hs2
  exact .ite hs3.units hs3

theorem Kept.seResetEnd : Kept s₀ s.seResetEnd := by
  unfold State.seResetEnd
  split
  · exact hs
  · exact (hs.units.chalStat _ _).chalRecord _ _ _

/-! Arrival of records, page verification, sector erasure, and the cold-start scan. -/

theorem Kept.arrive1 : Kept s₀ s.arrive1 := by
  unfold State.arrive1
  split
  · exact hs
  · exact ((Kept.ite (hs.units.trigFire _ _) hs.units).lgJudge _).streamPump

theorem Kept.verifyFail : Kept s₀ s.verifyFail := by
  unfold State.verifyFail
  split
  · exact hs
  · extract_lets _ s1 _ _ s2 _ s3
    have hs1 : Kept s₀ s1 := hs.emit _ _ _ _ _ _
    have hs2 : Kept s₀ s2 := ((hs1.draw 53).draw 54).retire _ _ _ _
    have hs3 : Kept s₀ s3 := hs2.units
    exact .ite hs3.tailGo hs3.flushGo

theorem Kept.markDone : Kept s₀ s.markDone := by
  unfold State.markDone
  extract_lets _ s1 s2
  have hs1 : Kept s₀ s1 := hs.writeMarks
  have hs2 : Kept s₀ s2 := .ite hs1.clearEffect hs1
  exact .ite hs2.tailGo hs2.flushGo

theorem Kept.oldestMoves : Kept s₀ s.oldestMoves := by
  unfold State.oldestMoves
  split
  · exact hs
  · exact hs.units

theorem Kept.firstOpen : Kept s₀ s.firstOpen := by
  unfold State.firstOpen
  refine .ite hs ?_
  split
  · exact (hs.openSector ‹_›).units
  · exact hs

theorem Kept.eraseDone (ms typ top : Nat) (failed : Bool) : Kept s₀ (s.eraseDone ms typ top failed) := by
  unfold State.eraseDone
  split
  · exact hs
  · extract_lets _ _ _ s1 s2 _ s3 s4 s5
    have hs1 : Kept s₀ s1 := hs.units
    have hs2 : Kept s₀ s2 := .ite hs1.oldestMoves hs1
    have hs3 : Kept s₀ s3 := .ite (hs2.retire _ _ _ _) (.ite (hs2.retire _ _ _ _) hs2.units)
    have hs4 : Kept s₀ s4 := hs3.firstOpen
    have hs5 : Kept s₀ s5 := hs4.eraseNext
    exact .ite hs (.ite hs5 (.ite hs5.tailGo (.ite hs5.flushGo hs5)))

theorem Kept.scanDone (abandoned : Bool) : Kept s₀ (s.scanDone abandoned) := by
  unfold State.scanDone
  extract_lets _ _ _ _ _ _ _ _ s1 s2 s3 _ _
  have hs1 : Kept s₀ s1 := hs.units
  have hs2 : Kept s₀ s2 := by
    unfold s2
    split
    · exact hs1
    · exact (hs1.lgAccept _).wr _ _
  have hs3 : Kept s₀ s3 := hs2.foldl _ _ (fun _ hy _ => hy.lgAccept _)
  exact .ite hs3.units.checkpoint.tailFlush hs3.checkpoint.eraseNext

theorem Kept.clearAsk : Kept s₀ s.clearAsk := .ite (hs.chalRecord _ _ _) (hs.units.chalIssue _ _ _)

theorem Kept.lgCtl (v : Nat) : Kept s₀ (s.lgCtl v) := by
  unfold State.lgCtl
  refine hs.keyedWrite _ _ _ (fun _ hy => ?_)
  extract_lets a b
  have ha : Kept s₀ a := .ite hy.flushGo hy
  have hb : Kept s₀ b := .ite ha.clearAsk ha
  exact .ite (hb.saveBlock _) hb

theorem Kept.rlRefill (codes : List Nat) : Kept s₀ (s.rlRefill codes) := hs.units

/-! What the phase controller does with readings and faults. -/

theorem Kept.noteTotal (r : Nat) : Kept s₀ (s.noteTotal r) := hs.setRail _ _

theorem Kept.sample (r : Nat) (isn : List (BitVec 16)) : Kept s₀ (s.sample r isn) := by
  unfold State.sample
  extract_lets s1 s2 _
  have hs1 : Kept s₀ s1 := hs.foldl _ _ (fun _ hy _ => hy.setLane _ _)
  have hs2 : Kept s₀ s2 := hs1.noteTotal _
  exact .ite (hs2.each _ _ (fun _ _ hy => hy.drive _ _)) (.ite (hs2.each _ _ (fun _ _ hy => hy.drive _ _)) hs2)

theorem Kept.markFailed (n cause v : Nat) : Kept s₀ (s.markFailed n cause v) :=
  ((((hs.setLane _ _).turnOff _).wr _ _).emit _ _ _ _ _ _).pmbus _ _ _

theorem Kept.phaseFail (n cause v : Nat) : Kept s₀ (s.phaseFail n cause v) := .ite hs ((hs.markFailed _ _ _).healthSince _)
theorem Kept.phaseSilent (n : Nat) : Kept s₀ (s.phaseSilent n) := (hs.draw 65).phaseFail _ _ _

theorem Kept.hotJudge (n : Nat) (t : ℤ) : Kept s₀ (s.hotJudge n t) :=
  .ite ((((hs.setLane _ _).turnOff _).emit _ _ _ _ _ _).healthSince _) (.ite ((hs.setLane _ _).healthSince _) hs)

theorem Kept.stageSilent (n : Nat) : Kept s₀ (s.stageSilent n) :=
  .ite (.ite (((hs.setLane _ _).emit _ _ _ _ _ _).phaseSilent _) ((hs.setLane _ _).emit _ _ _ _ _ _)) (hs.setLane _ _)

theorem Kept.avsJudge (n avs : Nat) : Kept s₀ (s.avsJudge n avs) := by
  unfold State.avsJudge
  split
  · exact hs
  · exact .ite ((hs.setLane _ _).emit _ _ _ _ _ _) (hs.setLane _ _)

theorem Kept.causeReads (n word : Nat) : Kept s₀ (s.causeReads n word) := hs.pmbusReads _ _

theorem Kept.stageAnswers (n : Nat) (x : StageRead) : Kept s₀ (s.stageAnswers n x) := by
  unfold State.stageAnswers
  extract_lets _ _ s1 s2 s3
  have hs1 : Kept s₀ s1 := hs.setLane _ _
  have hs2 : Kept s₀ s2 := (Kept.ite (hs1.pmbus _ _ _) hs1).causeReads _ _
  have hs3 : Kept s₀ s3 := (hs2.hotJudge _ _).avsJudge _ _
  exact .ite (hs3.phaseFail _ _ _) hs3

theorem Kept.pollRound (seg : Nat) (l : List StageRead) (alert : Bool) : Kept s₀ (s.pollRound seg l alert) := by
  unfold State.pollRound
  refine (Kept.ite (hs.out _) hs).upto _ _ (fun _ _ hy => ?_)
  extract_lets _ _ y' z
  have hy' : Kept s₀ y' := hy.pmbusReads _ _
  have hz : Kept s₀ z := .ite (hy'.out _) hy'
  exact .ite hy (.ite (hz.stageAnswers _ _) (hz.stageSilent _))

theorem Kept.groupSuspect (g : Nat) : Kept s₀ (s.groupSuspect g) := by
  unfold State.groupSuspect
  extract_lets _ s1 s2 _ _ _ s3
  have hs1 : Kept s₀ s1 := hs.each _ _ (fun _ _ hy => hy.setLane _ _)
  have hs2 : Kept s₀ s2 := hs1.turnOff _
  have hs3 : Kept s₀ s3 := (hs2.setBit _ _).units
  exact (hs3.each _ _ (fun _ _ hy => hy.pmbusReads _ _)).healthSince _

theorem Kept.leaveSuspect (n : Nat) : Kept s₀ (s.leaveSuspect n) := hs.setLane _ _

theorem Kept.groupLocated (g : Nat) (l : List StageRead) (still : Bool) : Kept s₀ (s.groupLocated g l still) := by
  unfold State.groupLocated
  extract_lets _ _ s0 _ _ s1 s2 _ _ _ s3
  have hs0 : Kept s₀ s0 := hs.each _ _ (fun _ _ hy => .ite (hy.causeReads _ _) hy)
  have hs1 : Kept s₀ s1 := hs0.each _ _ (fun _ _ hy => hy.markFailed _ _ _)
  have hs2 : Kept s₀ s2 := hs1.each _ _ (fun _ _ hy => (Kept.ite (hy.leaveSuspect _) hy).pmbus _ _ _)
  have hs3 : Kept s₀ s3 := hs2.units
  exact (hs3.emit _ _ _ _ _ _).healthSince _

theorem Kept.limitReached (r : Nat) : Kept s₀ (s.limitReached r) := by
  unfold State.limitReached
  refine .ite (.ite ?_ (.ite hs ((hs.setRail _ _).emit _ _ _ _ _ _))) hs
  split
  · exact ((Kept.ite hs ((hs.setRail _ _).emit _ _ _ _ _ _)).setLane _ _).drive _ _
  · exact .ite hs ((hs.setRail _ _).emit _ _ _ _ _ _)

theorem Kept.noteVolts (r raw : Nat) : Kept s₀ (s.noteVolts r raw) :=
  .ite ((hs.setRail _ _).each _ _ (fun _ _ hy => hy.drive _ _)) (hs.setRail _ _)

theorem Kept.addPhase (r : Nat) : Kept s₀ (s.addPhase r) := by
  unfold State.addPhase
  split
  · exact hs
  · exact hs.turnOn _ _

theorem Kept.shedPhase (r : Nat) : Kept s₀ (s.shedPhase r) := by
  unfold State.shedPhase
  split
  · exact hs
  · exact hs.setLane _ _

theorem Kept.presetU (r : Nat) : Kept s₀ (s.presetU r) := (hs.draw 66).setRail _ _
theorem Kept.burstEnter (r : Nat) : Kept s₀ (s.burstEnter r) := (hs.setRail _ _).releaseLanes _
theorem Kept.burstFire (r : Nat) : Kept s₀ (s.burstFire r) := hs.each _ _ (fun _ _ hy => hy.drive _ _)

theorem Kept.burstLeave (r : Nat) : Kept s₀ (s.burstLeave r) :=
  ((((hs.each _ _ (fun _ _ hy => hy.drive _ _)).setRail _ _).setDom _ _).activateAll _).presetU _

theorem Kept.integrate (r : Nat) (e : ℤ) : Kept s₀ (s.integrate r e) := hs.setRail _ _

theorem Kept.cycleOn (r n vbus : Nat) : Kept s₀ (s.cycleOn r n vbus).2 := by
  unfold State.cycleOn
  extract_lets p0 q0 p1 q1 _
  have hq0 : Kept s₀ q0.2 := .iteSnd (hs.draw 67) hs
  have hp1 : Kept s₀ p1.2 := hq0.draw 68
  have hq1 : Kept s₀ q1.2 := .iteSnd (.iteSnd hp1 hp1) hq0
  exact hq1

theorem Kept.peakJudge (n : Nat) : Kept s₀ (s.peakJudge n) :=
  .ite (.ite (((hs.setLane _ _).drive _ _).phaseFail _ _ _) ((hs.setLane _ _).drive _ _)) (hs.setLane _ _)

theorem Kept.balance (r n : Nat) : Kept s₀ (s.balance r n) := hs.setLane _ _
theorem Kept.cycleEnd (r n : Nat) : Kept s₀ (s.cycleEnd r n) := .ite (((hs.setLane _ _).turnOff _).fillMin _) (hs.setLane _ _)
theorem Kept.pulse (n : Nat) (q : ℤ × Nat) : Kept s₀ (s.pulse n q) := .ite ((hs.setLane _ _).drive _ _) (((hs.setLane _ _).drive _ _).out _)

theorem Kept.switchCycle (r n : Nat) (e : ℤ) (vbus : Nat) (isn : BitVec 16) : Kept s₀ (s.switchCycle r n e vbus isn) :=
  (((((((hs.setLane _ _).noteTotal _).balance _ _).integrate _ _).cycleOn _ _ _).pulse _ _).cycleEnd _ _).peakJudge _

theorem Kept.holdCycle (r n : Nat) (isn : BitVec 16) : Kept s₀ (s.holdCycle r n isn) :=
  .ite ((((hs.setLane _ _).noteTotal _).peakJudge _).drive _ _) (((hs.setLane _ _).noteTotal _).peakJudge _)

theorem Kept.dischargeCycle (r n : Nat) (isn : BitVec 16) : Kept s₀ (s.dischargeCycle r n isn) :=
  .ite ((hs.setLane _ _).noteTotal _) (((hs.setLane _ _).noteTotal _).drive _ _)

theorem Kept.holdEnd (r : Nat) : Kept s₀ (s.holdEnd r) := ((hs.setRail _ _).each _ _ (fun _ _ hy => (hy.setLane _ _).drive _ _)).presetU _

theorem Kept.deadMain (n : Nat) (ack : Bool) : Kept s₀ (s.deadMain n ack) := by
  unfold State.deadMain
  extract_lets _ _ _ s1 s2 s3
  have hs1 : Kept s₀ s1 := hs.setLane _ _
  have hs2 : Kept s₀ s2 := .ite hs1 (hs1.pmbus _ _ _)
  have hs3 : Kept s₀ s3 := .ite hs2 (hs2.emit _ _ _ _ _ _)
  exact .ite hs (hs3.emit _ _ _ _ _ _)

theorem Kept.deadRes (k : Nat) : Kept s₀ (s.deadRes k) := .ite hs (.ite ((hs.units.emit _ _ _ _ _ _).legOut _) (hs.units.emit _ _ _ _ _ _))

theorem Kept.segStuck (seg : Nat) (recovered : Bool) : Kept s₀ (s.segStuck seg recovered) := by
  unfold State.segStuck
  extract_lets s1 _
  have hs1 : Kept s₀ s1 := .ite hs (hs.emit _ _ _ _ _ _)
  exact .ite hs1.units (hs1.units.upto _ _ (fun _ _ hy => hy.setLane _ _))

theorem Kept.powerGood (r : Nat) : Kept s₀ (s.powerGood r) := ((hs.setRail _ _).startReady.startStep _).wakeLinks.runCheck

theorem Kept.clearFault (r : Nat) : Kept s₀ (s.clearFault r) := by
  unfold State.clearFault
  extract_lets _ _ s0 s1 _
  have hs0 : Kept s₀ s0 := hs.setRail _ _
  have hs1 : Kept s₀ s1 := (Kept.ite (hs0.railStart _) hs0).clampAll
  exact .ite (hs1.each _ _ (fun _ _ hy => hy.sendBudget _ _ _)) hs

/-! What the KG8 does with each upstream message and each flit. -/

theorem Kept.keepIntent (t : Nat) (p : Pend) (stage : Nat) : Kept s₀ (s.keepIntent t p stage) := hs.units.putTile _ _

theorem Kept.renewIn (t : Nat) (p : Pend) : Kept s₀ (s.renewIn t p) :=
  .ite (hs.keepIntent _ _ _) (.ite (hs.refuseBudget _ _ _) ((hs.keepIntent _ _ _).answerRenew _ _))

theorem Kept.ordinaryIn (t : Nat) (p : Pend) : Kept s₀ (s.ordinaryIn t p) := by
  unfold State.ordinaryIn
  dsimp only
  split
  · exact hs.refuseBudget _ _ _
  · exact ((hs.keepIntent _ _ _).setDom _ _).intentWake _

theorem Kept.barrierIn (t : Nat) (p : Pend) : Kept s₀ (s.barrierIn t p) :=
  .ite ((hs.setTile _ _).ordinaryIn _ _) ((((hs.setTile _ _).keepIntent _ _ _).arrive _ _ _).intentWake _)

theorem Kept.intentAccepted (t : Nat) (p : Pend) : Kept s₀ (s.intentAccepted t p) := by
  unfold State.intentAccepted
  extract_lets _ s1
  have hs1 : Kept s₀ s1 := hs.setTile _ _
  exact .ite hs (.ite (hs1.barrierIn _ _) (.ite (hs1.renewIn _ _) (hs1.ordinaryIn _ _)))

theorem Kept.failBackoff (n t : Nat) : Kept s₀ (s.failBackoff n t) :=
  ((hs.closeTile _).nonconform _ _ _).each _ _ (fun _ _ hy => hy.checkRelease _)

theorem Kept.intentIn (n : Nat) (m : Msg) : Kept s₀ (s.intentIn n m) :=
  .ite (hs.nakMsg _ _ _ _) (.ite ((hs.setTile _ _).nakMsg _ _ _ _)
      (.ite (.ite (hs.failBackoff _ _) ((hs.setTile _ _).intentAccepted _ _)) (hs.intentAccepted _ _)))

theorem Kept.lowerResv (t c : Nat) : Kept s₀ (s.lowerResv t c) := (Kept.ite (hs.giveBack _) (hs.putTile _ _)).napAdvance

theorem Kept.releaseIn (n : Nat) (m : Msg) : Kept s₀ (s.releaseIn n m) :=
  .ite hs (.ite (.ite (hs.dropIntent _ _) (.ite (hs.lowerResv _ _) hs)) (.ite (hs.lowerResv _ _) hs))

theorem Kept.probeTile (n t : Nat) : Kept s₀ (s.probeTile n t) := ((hs.draw 63).putTile _ _).sendTileOn _ _ _ _

theorem Kept.restartTile (n t : Nat) : Kept s₀ (s.restartTile n t) :=
  .ite ((((hs.closeTile _).setLink _ _).emit _ _ _ _ _ _).each _ _ (fun _ _ hy => hy.checkRelease _)) hs

theorem Kept.openBad (n : Nat) (m : Msg) : Kept s₀ (s.openBad n m) := (hs.restartTile _ _).nonconform _ _ _

theorem Kept.openIn (n : Nat) (m : Msg) : Kept s₀ (s.openIn n m) := by
  unfold State.openIn
  extract_lets _ s' _ s2
  have hs' : Kept s₀ s' := hs.restartTile _ _
  have hs2 : Kept s₀ s2 := hs'.putTile _ _
  exact .ite (hs.sendClose _ _ _) (.ite (hs'.nonconform _ _ _)
    (.ite (hs'.nonconform _ _ _) (.ite (hs'.nonconform _ _ _) (.ite (hs'.nonconform _ _ _) (.ite (hs2.probeTile _ _) (hs2.openTile _ _))))))

theorem Kept.probeReplyIn (n : Nat) (m : Msg) : Kept s₀ (s.probeReplyIn n m) := by
  unfold State.probeReplyIn
  dsimp only
  split
  · exact hs
  · exact .ite hs (.ite (hs.openTile _ _) (hs.nonconform _ _ _))

theorem Kept.settleTile (n t : Nat) : Kept s₀ (s.settleTile n t) := .ite (.ite hs.units (hs.units.putTile _ _)) hs

theorem Kept.stateIn (n : Nat) (m : Msg) : Kept s₀ (s.stateIn n m) := by
  unfold State.stateIn
  extract_lets _ s' _ _ s1 _
  have hs' : Kept s₀ s' := hs.settleTile _ _
  have hs1 : Kept s₀ s1 := .ite hs' (hs'.foldl _ _ (fun _ hy _ => hy.dropIntent _ _))
  exact .ite (hs'.nakMsg _ _ _ _) (hs1.putTile _ _)

theorem Kept.tempIn (m : Msg) : Kept s₀ (s.tempIn m) := (Kept.ite (hs.sensorRead _ _ _) (hs.setSensor _ _)).wr _ _
theorem Kept.droopIn (m : Msg) : Kept s₀ (s.droopIn m) := hs.setTile _ _

theorem Kept.upHandle (n : Nat) (m : Msg) : Kept s₀ (s.upHandle n m) := by
  unfold State.upHandle
  split
  · exact hs.upReceive _ _ _ _ (fun y hy => hy.intentIn _ _)
  · exact hs.upReceive _ _ _ _ (fun y hy => hy.releaseIn _ _)
  · exact (hs.upJudge _ _ _ _ (fun y hy => hy.openBad _ _) _ (fun y hy => hy.openIn _ _)).runCheck
  · exact hs.upReceive _ _ _ _ (fun y hy => hy.stateIn _ _)
  · exact hs.upReceive _ _ _ _ (fun y hy => hy.tempIn _)
  · exact hs.upReceive _ _ _ _ (fun y hy => hy.droopIn _)
  · exact (hs.upReceive _ _ _ _ (fun y hy => hy.probeReplyIn _ _)).runCheck
  · exact hs.upReceive _ _ _ _ (fun _ hy => hy)

theorem Kept.flitSlot (n : Nat) (m : Msg) : Kept s₀ (s.flitSlot n m) :=
  .ite hs (.ite (hs.upReceive _ _ _ _ (fun _ hy => hy.tempIn _))
      (.ite (hs.upReceive _ _ _ _ (fun _ hy => hy.droopIn _)) (.ite (hs.intakeFull _ _) ((hs.setLink _ _).intakeMark _))))

theorem Kept.flitIn (n : Nat) (f : BitVec 512) : Kept s₀ (s.flitIn n f) := by
  unfold State.flitIn
  extract_lets _ s1 s2
  have hs1 : Kept s₀ s1 := hs.putFlits _ _
  have hs2 : Kept s₀ s2 := .ite (hs1.satAdd _ _) hs1
  exact .ite hs (.ite (hs2.linkLoss _ _) (hs2.foldl _ _ (fun _ hy _ => hy.flitSlot _ _)))

/-! The mirror body. -/

theorem Kept.sMark : Kept s₀ s.sMark := hs.units

theorem Kept.takeA (b r : Nat) : Kept s₀ (s.takeA b r) := by
  unfold State.takeA
  refine ((hs.setRail _ _).setDom _ _).upto _ _ (fun _ _ hy => ?_)
  split
  · exact hy.setLane _ _
  · exact hy

theorem Kept.takeB (b n : Nat) : Kept s₀ (s.takeB b n) := .ite hs (hs.setLane _ _)
theorem Kept.takeCh (b n : Nat) : Kept s₀ (s.takeCh b n) := (hs.setAux _ _).wr _ _
theorem Kept.takeGrp (b k : Nat) : Kept s₀ (s.takeGrp b k) := hs.setAuxGrp _ _
theorem Kept.takeRv (b : Nat) : Kept s₀ (s.takeRv b) := hs.units
theorem Kept.takeD (b seq : Nat) : Kept s₀ (s.takeD b seq) := hs.upto _ _ (fun _ _ hy => hy.units)
theorem Kept.takeZone (b z : Nat) : Kept s₀ (s.takeZone b z) := hs.setZone _ _
theorem Kept.takeBroken (w : Nat) : Kept s₀ (s.takeBroken w) := .ite (hs.setSensor _ _) hs

theorem Kept.takeE (b : Nat) : Kept s₀ (s.takeE b) :=
  (hs.upto _ _ (fun _ _ hy => hy.takeZone _ _)).units.upto _ _ (fun _ _ hy => hy.takeBroken _)

theorem Kept.takeG (b : Nat) : Kept s₀ (s.takeG b) := hs.units
theorem Kept.takePkg (v : Nat) : Kept s₀ (s.takePkg v) := hs.units

theorem Kept.putWord (a v : Nat) : Kept s₀ (s.putWord a v) := by
  unfold State.putWord
  split
  · exact hs.foldl _ _ (fun _ hy _ => .ite (hy.wr _ _) hy)
  · exact hs

theorem Kept.takeS (target v : Nat) : Kept s₀ (s.takeS target v) := by
  unfold State.takeS
  dsimp only
  split
  · exact .ite (hs.takePkg _) (.ite (hs.putWord _ _) hs)
  · exact hs.setTile _ _
  · exact (hs.putWord _ _).setTile _ _
  · exact hs

theorem Kept.takeTile (v : Nat) : Kept s₀ (s.takeTile v) := (((hs.setTile _ _).wr _ _).wr _ _).units

theorem Kept.takeBody (b seq tiles : Nat) : Kept s₀ (s.takeBody b seq tiles) := by
  unfold State.takeBody
  extract_lets s1 s2 s3 s4 s5
  have hs1 : Kept s₀ s1 := hs.upto _ _ (fun _ _ hy => hy.takeA _ _)
  have hs2 : Kept s₀ s2 := hs1.upto _ _ (fun _ _ hy => hy.takeB _ _)
  have hs3 : Kept s₀ s3 := ((hs2.upto _ _ (fun _ _ hy => hy.takeCh _ _)).upto _ _ (fun _ _ hy => hy.takeGrp _ _)).takeRv _
  have hs4 : Kept s₀ s4 := ((hs3.takeD _ _).takeE _).takeG _
  have hs5 : Kept s₀ s5 := hs4.upto _ _ (fun _ _ hy => hy.takeS _ _)
  exact hs5.upto _ _ (fun _ _ hy => hy.takeTile _)

/-! Ownership. -/

theorem Kept.sweepStart : Kept s₀ s.sweepStart := hs.units
theorem Kept.outOfStep (cause : Nat) : Kept s₀ (s.outOfStep cause) := (hs.units.wr _ _).emit _ _ _ _ _ _
theorem Kept.handRefuse (reason src : Nat) : Kept s₀ (s.handRefuse reason src) := (hs.units.wr _ _).emit _ _ _ _ _ _

theorem Kept.handRequest (src : Nat) : Kept s₀ (s.handRequest src) := by
  unfold State.handRequest
  refine .ite hs ?_
  split
  · exact hs.handRefuse _ _
  · exact hs.units

theorem Kept.ttClear : Kept s₀ s.ttClear := ((hs.meTakeover.units.clearFields _ _).seReset _ _ _ _ _).seResetEnd

theorem Kept.standDown : Kept s₀ s.standDown := by
  unfold State.standDown
  extract_lets s1
  have hs1 : Kept s₀ s1 := hs.upto _ _ (fun _ _ hy => .ite ((hy.stopCore _ _).setCore _ _) (hy.stopCore _ _))
  exact ((hs1.cfQuiesce _).flStop _).ttClear.wr _ _

theorem Kept.lanesOff : Kept s₀ s.lanesOff := by
  unfold State.lanesOff
  extract_lets s1
  have hs1 : Kept s₀ s1 := (hs.foldl _ _ (fun _ hy _ => .ite hy (hy.drive _ _))).rvPinsOff.out _
  exact hs1.upto _ _ (fun _ _ hy => (Kept.ite (hy.setRail _ _) hy).setDom _ _)

theorem Kept.ownRelease (cause : Nat) : Kept s₀ (s.ownRelease cause) := by
  unfold State.ownRelease
  extract_lets s0 _ _ _ s1 s2 s3
  have hs0 : Kept s₀ s0 := hs.lanesOff
  have hs1 : Kept s₀ s1 := hs0.units
  have hs2 : Kept s₀ s2 := (hs1.setRole _).emit _ _ _ _ _ _
  have hs3 : Kept s₀ s3 := hs2.upto _ _ (fun _ _ hy => hy.setLink _ _)
  exact .ite hs hs3.standDown.flSettle

theorem Kept.i3cStart : Kept s₀ s.i3cStart := hs.upto _ _ (fun _ _ hy => .ite (hy.out _) hy)

theorem Kept.driveAll : Kept s₀ s.driveAll := by
  unfold State.driveAll
  extract_lets s' _ _ s1 s2
  have hs' : Kept s₀ s' := (hs.legsDrive.out _).i3cStart
  have hs1 : Kept s₀ s1 := hs'.units
  have hs2 : Kept s₀ s2 := hs1.upto _ _ (fun _ _ hy => hy.out _)
  exact hs2.upto _ _ (fun _ _ hy => .ite (hy.auxDrive _ _) (.ite ((hy.draw 70).auxDrive _ _) hy))

theorem Kept.syncAll : Kept s₀ s.syncAll := hs.upto _ _ (fun _ _ hy => .ite ((hy.setLink _ _).sendLink _ _) hy)

theorem Kept.railResume (r : Nat) : Kept s₀ (s.railResume r) := by
  unfold State.railResume
  dsimp only
  split
  · exact hs.setRail _ _
  · exact hs.setRail _ _
  · exact .ite (hs.startStep _) (.ite hs (hs.slewTo _ _ _))
  · exact .ite (hs.startStep _) (.ite hs (hs.slewTo _ _ _))
  · exact hs

theorem Kept.boostResume (d : Nat) : Kept s₀ (s.boostResume d) := hs.setDom _ _
theorem Kept.roundsResume : Kept s₀ s.roundsResume := hs.units.foldl _ _ (fun _ hy _ => hy.setRound _ _)
theorem Kept.locateAgain : Kept s₀ s.locateAgain := hs.units

theorem Kept.resume : Kept s₀ s.resume := by
  unfold State.resume
  extract_lets _ _ s0 s1 _ _
  have hs0 : Kept s₀ s0 := by
    refine hs.units.upto _ _ (fun _ _ hy => ?_)
    split
    · exact hy.setLane _ _
    · exact hy
  have hs1 : Kept s₀ s1 := (hs0.upto _ _ (fun _ _ hy => (hy.boostResume _).railResume _)).locateAgain
  exact hs1.roundsResume.units

theorem Kept.railHeld (r : Nat) : Kept s₀ (s.railHeld r) := by
  unfold State.railHeld
  extract_lets _ _ _ _ s1 s1' _ s2
  have hs1 : Kept s₀ s1 := (hs.setRail _ _).activateAll _
  have hs1' : Kept s₀ s1' := hs1.each _ _ (fun _ _ hy => hy.setLane _ _)
  have hs2 : Kept s₀ s2 := (hs1'.presetU _).setDom _ _
  exact .ite (hs.railOff _) ((hs2.wr _ _).slewTo _ _ _)

theorem Kept.auxHeld (n : Nat) : Kept s₀ (s.auxHeld n) := .ite (hs.setAux _ _) (hs.setAux _ _)
theorem Kept.zoneFresh (z : Nat) : Kept s₀ (s.zoneFresh z) := hs.setZone _ _

theorem Kept.partDefaults : Kept s₀ s.partDefaults := by
  unfold State.partDefaults
  extract_lets _ s1
  have hs1 : Kept s₀ s1 := hs.units.upto _ _ (fun _ _ hy => (((hy.wr _ _).wr _ _).wr _ _).wr _ _)
  split
  · exact (hs1.upto _ _ (fun _ _ hy => hy.wr _ _)).emit _ _ _ _ _ _
  · exact hs1

theorem Kept.unmirrored : Kept s₀ s.unmirrored := by
  unfold State.unmirrored
  extract_lets _ _ s0 s1 s2 s3 s4 _ _ s5
  have hs0 : Kept s₀ s0 := hs.units
  have hs1 : Kept s₀ s1 := hs0.upto _ _ (fun _ _ hy => .ite (hy.groupSuspect _) hy)
  have hs2 : Kept s₀ s2 := (hs1.upto _ _ (fun _ _ hy => hy.railHeld _)).upto _ _ (fun _ _ hy => hy.auxHeld _)
  have hs3 : Kept s₀ s3 := (hs2.auxStart.rvMode _).rvStart
  have hs4 : Kept s₀ s4 := (hs3.each _ _ (fun _ _ hy => hy.zoneFresh _)).partDefaults
  have hs5 : Kept s₀ s5 := .ite hs4 hs4.units
  exact hs5.upto _ _ (fun _ _ hy => hy.setLink _ _)

theorem Kept.shareTake : Kept s₀ s.shareTake := by
  unfold State.shareTake
  split
  · exact .ite hs hs.units
  · exact hs

theorem Kept.ownGain (takeover : Bool) (cause ns : Nat) : Kept s₀ (s.ownGain takeover cause ns) := by
  unfold State.ownGain
  extract_lets _ _ _ s1 s2 s3 y' s4 s5
  have hs1 : Kept s₀ s1 := (hs.units.setRole _).wr _ _
  have hs2 : Kept s₀ s2 := .ite (Kept.ite hs1.ttClear.resume hs1.ttClear.unmirrored).shareTake.wavesRestart hs1
  have hs3 : Kept s₀ s3 := hs2.driveAll.syncAll
  have hy' : Kept s₀ y' := (hs3.startLoaded _).upto _ _ (fun _ _ hy => .ite (hy.enterFloor _ _) hy)
  have hs4 : Kept s₀ s4 := .ite (((hy'.wr _ _).satAdd _ _).emit _ _ _ _ _ _) (hs3.startLoaded _)
  have hs5 : Kept s₀ s5 := .ite hs4.budgetMoved hs4
  exact (Kept.ite hs5.sweepStart hs5).flSettle

theorem Kept.claimBegin : Kept s₀ s.claimBegin := .ite hs.units hs

theorem Kept.claimCheck (ua cause : Nat) : Kept s₀ (s.claimCheck ua cause) := by
  unfold State.claimCheck
  extract_lets _ _ s1 _
  have hs1 : Kept s₀ s1 := (hs.units.wr _ _).emit _ _ _ _ _ _
  exact .ite hs (.ite (.ite ((hs1.wr _ _).emit _ _ _ _ _ _) hs1) (.ite (hs.units.emit _ _ _ _ _ _) (hs.ownGain _ _ _)))

theorem Kept.mirrorFrame : Kept s₀ s.mirrorFrame := by
  unfold State.mirrorFrame
  extract_lets _ s' _ _ _ _ _ _ s1 s2
  have hs' : Kept s₀ s' := hs.sMark.draw 71
  have hs1 : Kept s₀ s1 := (hs'.out _).units
  have hs2 : Kept s₀ s2 := .ite (hs1.outOfStep _).sweepStart hs1
  exact .ite (hs2.ownRelease _) hs2

theorem Kept.frameOut : Kept s₀ s.frameOut := .ite hs (.ite hs.units.mirrorFrame ((hs.units.draw 71).out _).units)

theorem Kept.peerSeen (v flags : Nat) : Kept s₀ (s.peerSeen v flags) :=
  .ite ((hs.wr _ _).wr _ _).units (.ite (((hs.wr _ _).wr _ _).units.emit _ _ _ _ _ _) ((hs.wr _ _).wr _ _).units)

theorem Kept.handFlags (flags : Nat) : Kept s₀ (s.handFlags flags) := .ite (.ite hs.units hs) hs.units

theorem Kept.mirrorTrip : Kept s₀ s.mirrorTrip := by
  unfold State.mirrorTrip
  refine .ite hs ?_
  split
  · exact hs.tripLatch _ _ _
  · exact hs

theorem Kept.frameGood (v : Nat) (swept : Bool) : Kept s₀ (s.frameGood v swept) := by
  unfold State.frameGood
  extract_lets _ _ _ _ s1 s2 _ _ _ _ _ _ s3 _ s4
  have hs1 : Kept s₀ s1 := hs.units
  have hs2 : Kept s₀ s2 := hs1.peerSeen _ _
  have hs3 : Kept s₀ s3 := .ite (.ite hs2.sweepStart.units hs2.units) (.ite (hs2.takeBody _ _ _).mirrorTrip.units hs2)
  have hs4 : Kept s₀ s4 := .ite (hs3.units.emit _ _ _ _ _ _) hs3
  exact hs4.handFlags _

theorem Kept.frameIn (l : List Nat) (swept : Bool) : Kept s₀ (s.frameIn l swept) := .ite hs (.ite (hs.frameGood _ _) (hs.units.satAdd _ _))

theorem Kept.twinLost (low : Bool) (cause : Nat) : Kept s₀ (s.twinLost low cause) := by
  unfold State.twinLost
  extract_lets _ s1 _ s2 _ _
  have hs1 : Kept s₀ s1 := hs.units
  have hs2 : Kept s₀ s2 := .ite (hs1.outOfStep _) hs1.units
  exact .ite hs (.ite hs2 ((hs2.units.wr _ _).emit _ _ _ _ _ _))

theorem Kept.twinUp : Kept s₀ s.twinUp := by
  unfold State.twinUp
  extract_lets _ s1 _ s2
  have hs1 : Kept s₀ s1 := hs.units
  have hs2 : Kept s₀ s2 := .ite (hs1.units.emit _ _ _ _ _ _) hs1
  exact .ite hs (.ite hs2.sweepStart hs2)

theorem Kept.twCtl (v : Nat) : Kept s₀ (s.twCtl v) :=
  hs.keyedWrite _ _ _ (fun _ hy => .ite ((Kept.ite hy.units hy).handRequest _) (.ite hy.units hy))

end Sys2Proof.Machine
end

section
namespace Sys2Proof.Machine
open Sys2Proof
set_option Elab.async false
variable {α β : Type} {s₀ s : State} (hs : Kept s₀ s)
include hs

/-! What each reset class takes from each island, the order in which islands leave reset, and hangs, supply excursions and power. -/

theorem Kept.noteReset (cls isl cause : Nat) : Kept s₀ (s.noteReset cls isl cause) := ((hs.wr _ _).wr _ _).wr _ _
theorem Kept.tilesGone : Kept s₀ s.tilesGone := hs.each _ _ (fun _ _ hy => (hy.closeTile _).giveBack _)
theorem Kept.dropFri : Kept s₀ s.dropFri := (hs.tilesGone.upto _ _ (fun _ _ hy => hy.setLink _ _)).units
theorem Kept.dropReg : Kept s₀ s.dropReg := (hs.each _ _ (fun _ _ hy => hy.auxDrive _ _)).rvPinsOff.units
theorem Kept.dropSlu : Kept s₀ s.dropSlu := (hs.tilesGone.upto _ _ (fun _ _ hy => hy.each _ _ (fun _ _ hy1 => hy1.boostFall _ _))).units

theorem Kept.dropPol : Kept s₀ s.dropPol := by
  refine (hs.upto _ _ (fun _ _ hy => .ite (hy.enterFloor _ _) hy)).ikiva ?_
  exact fun _ => ⟨rfl, fun _ => ⟨rfl, rfl⟩⟩

theorem Kept.dropFab (cls : Nat) : Kept s₀ (s.dropFab cls) := hs.units

theorem Kept.hostLoss : Kept s₀ s.hostLoss := by
  unfold State.hostLoss
  extract_lets s1 s2
  have hs1 : Kept s₀ s1 := .ite hs ((hs.cfQuiesce _).flStop _)
  have hs2 : Kept s₀ s2 := hs1.clearFields _ _
  exact .ite hs2 (hs2.wr _ _)

theorem Kept.dropHst : Kept s₀ s.dropHst := ((hs.haltEnd _).seReset _ _ _ _ _).units
theorem Kept.dropTwn : Kept s₀ s.dropTwn := hs.units

theorem Kept.dropState (n cls : Nat) : Kept s₀ (s.dropState n cls) := by
  unfold State.dropState
  split
  · exact hs.dropFri
  · exact hs.dropReg
  · exact hs.dropSlu
  · exact hs.dropPol
  · exact hs.dropFab _
  · exact hs.dropHst
  · exact hs.dropTwn

theorem Kept.cntDrop (n : Nat) : Kept s₀ (s.cntDrop n) := hs.units
theorem Kept.rvRestore : Kept s₀ s.rvRestore := hs.units

theorem Kept.clearIsland (n cls : Nat) : Kept s₀ (s.clearIsland n cls) := by
  unfold State.clearIsland
  extract_lets _ s1
  have hs1 : Kept s₀ s1 := (((hs.cntDrop _).dropState _ _).clearFields _ _).reloadConfig _
  split
  · exact hs1.clampAll
  · exact hs1.rvRestore
  · exact hs1.clampAll
  · exact .ite (hs1.outOfStep _) hs1
  · exact hs1

theorem Kept.holdReset (n : Nat) : Kept s₀ (s.holdReset n) := hs.units

theorem Kept.islandReset (n cause : Nat) : Kept s₀ (s.islandReset n cause) := by
  unfold State.islandReset
  extract_lets s0 s1 _
  have hs0 : Kept s₀ s0 := hs.emit _ _ _ _ _ _
  have hs1 : Kept s₀ s1 := (((Kept.ite hs0.hostLoss hs0).clearIsland _ _).holdReset _).noteReset _ _ _
  exact .ite hs hs1.units.roleSettle

theorem Kept.islandHold (n : Nat) : Kept s₀ (s.islandHold n) :=
  ((((Kept.ite hs.hostLoss hs).clearIsland _ _).noteReset _ _ _).emit _ _ _ _ _ _).units.roleSettle

theorem Kept.napForced (trig : Nat) : Kept s₀ (s.napForced trig) := by
  unfold State.napForced
  extract_lets _ _ s1 s2 _ s3
  have hs1 : Kept s₀ s1 := hs.each _ _ (fun _ _ hy => hy.upto _ _ (fun _ _ hy1 => .ite (hy1.railOff _) hy1))
  have hs2 : Kept s₀ s2 := hs1.upto _ _ (fun _ _ hy => .ite hy (hy.linkDown _))
  have hs3 : Kept s₀ s3 := hs2.units
  exact .ite hs3 (hs3.emit _ _ _ _ _ _)

theorem Kept.hang (n row : Nat) : Kept s₀ (s.hang n row) := by
  unfold State.hang
  extract_lets s1 _ _ s2 s3
  have hs1 : Kept s₀ s1 := (hs.setBit _ _).emit _ _ _ _ _ _
  have hs2 : Kept s₀ s2 := .ite (hs1.ownRelease _) hs1
  have hs3 : Kept s₀ s3 := .ite (hs2.islandHold _) (hs2.islandReset _ _)
  exact .ite hs (.ite (hs3.napForced _) hs3)

theorem Kept.wrAssert (cause wait : Nat) (reg : Bool) : Kept s₀ (s.wrAssert cause wait reg) := by
  unfold State.wrAssert
  extract_lets s1 _ s2 s3 _ _ s4
  have hs1 : Kept s₀ s1 := (hs.emit _ _ _ _ _ _).haltEnd _
  have hs2 : Kept s₀ s2 := (hs1.foldl _ _ (fun _ hy _ => (hy.clearIsland _ _).holdReset _)).obGate
  have hs3 : Kept s₀ s3 := .ite ((hs2.clearIsland _ _).holdReset _) hs2
  have hs4 : Kept s₀ s4 := hs3.units
  exact (Kept.ite hs4 (hs4.setRole _)).noteReset _ _ _

theorem Kept.wrRequest (cause : Nat) : Kept s₀ (s.wrRequest cause) :=
  .ite hs (.ite ((hs.units.emit _ _ _ _ _ _).handRequest _) hs.units.tailFlush)

theorem Kept.resetRefused (cls isl : Nat) : Kept s₀ (s.resetRefused cls isl) := hs.refuse.emit _ _ _ _ _ _

theorem Kept.islandAsk (n : Nat) : Kept s₀ (s.islandAsk n) :=
  .ite (hs.resetRefused _ _) (.ite hs (.ite (hs.resetRefused _ _) (hs.islandReset _ _)))

theorem Kept.hostReset (cause : Nat) : Kept s₀ (s.hostReset cause) :=
  .ite hs (((hs.emit _ _ _ _ _ _).seReset _ _ _ _ _).hostLoss.units.noteReset _ _ _)

theorem Kept.frReset (cause : Nat) : Kept s₀ (s.frReset cause) :=
  .ite hs (((hs.emit _ _ _ _ _ _).fabricReset.clearFields _ _).noteReset _ _ _)

theorem Kept.debugReset (cause : Nat) : Kept s₀ (s.debugReset cause) :=
  (((hs.haltEnd _).seReset _ _ _ _ _).units.clearFields _ _).noteReset _ _ _

theorem Kept.resetAct (v : Nat) : Kept s₀ (s.resetAct v) :=
  .ite (hs.islandAsk _) (.ite (hs.wrRequest _) (.ite (hs.hostReset _)
      (.ite (hs.frReset _) (.ite (.ite (hs.debugReset _) (hs.resetRefused _ _)) (.ite hs.units hs)))))

theorem Kept.resetReq (v : Nat) : Kept s₀ (s.resetReq v) := by
  unfold State.resetReq
  split
  · exact .ite ((((hs.serve _ _).snd_of_eq ‹_›).writeFields _ _).resetAct _) ((hs.serve _ _).snd_of_eq ‹_›).refuse
  · exact ((hs.serve _ _).snd_of_eq ‹_›)

theorem Kept.islandUp (n : Nat) : Kept s₀ (s.islandUp n) := by
  unfold State.islandUp
  split
  · exact (Kept.ite (hs.partDefaults.clampAll.shedBegin _ _) hs.partDefaults.clampAll).roleSettle
  · exact hs.roleSettle
  · exact .ite hs.linksTrain hs.wakeLinks
  · exact hs.upto _ _ (fun _ _ hy => (Kept.ite (hy.setVp _ _) hy).txDisOut _)
  · exact hs.seResetEnd
  · exact hs

theorem Kept.releaseNext : Kept s₀ s.releaseNext := by
  unfold State.releaseNext
  split
  · exact hs
  · exact .ite hs (hs.units.islandUp _)

theorem Kept.supplyDrop : Kept s₀ s.supplyDrop := by
  unfold State.supplyDrop
  extract_lets s1 s2
  have hs1 : Kept s₀ s1 := .ite hs (hs.ownRelease _)
  have hs2 : Kept s₀ s2 := ((hs1.haltEnd 3).foldl (List.range 7) _ (fun _ hy n => hy.clearIsland n _)).obGate
  exact hs2.units.roleSettle

theorem Kept.supplyRecord (n : Nat) : Kept s₀ (s.supplyRecord n) := (hs.draw 165).emit _ _ _ _ _ _
theorem Kept.flashRecord : Kept s₀ s.flashRecord := ((hs.draw 166).draw 167).emit _ _ _ _ _ _

theorem Kept.supplyFell (n : Nat) : Kept s₀ (s.supplyFell n) := by
  unfold State.supplyFell
  extract_lets _ s1 s2 _
  have hs1 : Kept s₀ s1 := hs.units.setBit _ _
  have hs2 : Kept s₀ s2 := hs1.foldl _ _ (fun _ hy _ => hy.clearIsland _ _)
  exact .ite hs1 (.ite hs2.units (hs1.supplyRecord _).supplyDrop)

theorem Kept.supplyBack : Kept s₀ s.supplyBack :=
  .ite ((hs.units.units.emit _ _ _ _ _ _).wrAssert _ _ _) (.ite (hs.units.wrRequest _) hs.units)

theorem Kept.powerFail : Kept s₀ s.powerFail := (Kept.ite (hs.scanDone _) hs.tailFlush).checkpoint.rvCheckpoint

theorem Kept.powerOff : Kept s₀ s.powerOff := by
  refine ((hs.ikiva ?_).units.clearFields _ _).rvRestore
  exact fun _ => ⟨rfl, fun _ => ⟨rfl, rfl⟩⟩

theorem Kept.coldStart (roleSel testen : Bool) : Kept s₀ (s.coldStart roleSel testen) := hs.powerOff.units.noteReset _ _ _
theorem Kept.aoRelease : Kept s₀ s.aoRelease := .ite hs.units hs
theorem Kept.reloadAll : Kept s₀ s.reloadAll := hs.foldl _ _ (fun _ hy _ => hy.reloadConfig _)

theorem Kept.bootDone (flashOk : Bool) : Kept s₀ (s.bootDone flashOk) := by
  unfold State.bootDone
  extract_lets _ _ _ s1 s2 s3 s4 s5
  have hs1 : Kept s₀ s1 := hs.units
  have hs2 : Kept s₀ s2 := .ite hs1.reloadAll hs1
  have hs3 : Kept s₀ s3 := by
    unfold s3
    split
    · exact hs2.wr _ _
    · exact hs2
  have hs4 : Kept s₀ s4 := .ite (hs3.wr _ _) hs3
  have hs5 : Kept s₀ s5 := hs4.emit _ _ _ _ _ _
  exact .ite hs (.ite (hs5.emit _ _ _ _ _ _) hs5.flashRecord)

theorem Kept.wake (trig : Nat) : Kept s₀ (s.wake trig) := .ite hs hs.units.tailFlush

theorem Kept.profileDone (err : Nat) : Kept s₀ (s.profileDone err) := by
  unfold State.profileDone
  extract_lets s1 _ _ bad _ s2 _ s3
  have hs1 : Kept s₀ s1 := hs.reloadConfig _
  have hs2 : Kept s₀ s2 := by
    unfold s2
    clear_value bad
    split
    · exact hs1.units.emit _ _ _ _ _ _
    · exact hs1.units.auxProfile.rvStart
  have hs3 : Kept s₀ s3 := .ite hs2 (.ite ((hs2.units.wr _ _).emit _ _ _ _ _ _) (.ite ((hs2.units.wr _ _).emit _ _ _ _ _ _) hs2))
  exact .ite hs hs3.roleSettle

/-! The commands of resets, supplies, clocks and pins, of package states and of bring-up. -/

theorem Kept.execColdStart (roleSel testen : Bool) : Answers s₀ (execColdStart roleSel testen s) := .next (hs.coldStart _ _)
theorem Kept.execAoResetRelease : Answers s₀ (execAoResetRelease s) := .next hs.aoRelease
theorem Kept.execAoBootStepsDone (flashOk : Bool) : Answers s₀ (execAoBootStepsDone flashOk s) := .next (hs.bootDone _).roleSettle
theorem Kept.execResetRelease : Answers s₀ (execResetRelease s) := .next hs.releaseNext
theorem Kept.execPowerOff : Answers s₀ (execPowerOff s) := .next hs.powerOff

theorem Kept.execRstNLow (low : Bool) : Answers s₀ (execRstNLow s low) :=
  .next (.ite hs.units (.ite (hs.units.wake _) (hs.units.wrRequest _)))

theorem Kept.execSupplyOutOfWindow (n : Fin 3) : Answers s₀ (execSupplyOutOfWindow n s) := .next (hs.supplyFell _)
theorem Kept.execSupplyRestored : Answers s₀ (execSupplyRestored s) := .next hs.supplyBack.roleSettle

theorem Kept.execVdd33AoLow : Answers s₀ (execVdd33AoLow s) :=
  .next (.ite (hs.units.setBit _ _).roleSettle ((hs.units.setBit _ _).units.supplyRecord _).powerFail.roleSettle)

theorem Kept.execVdd33AoBelow2v9 : Answers s₀ (execVdd33AoBelow2v9 s) := .next ((hs.units.setBit _ _).ownRelease _).units.roleSettle
theorem Kept.execVdd33AoHigh : Answers s₀ (execVdd33AoHigh s) := .next (hs.supplyFell _)
theorem Kept.execRefclkLoss : Answers s₀ (execRefclkLoss s) := .next (((hs.units.setBit _ _).draw 168).emit _ _ _ _ _ _).roleSettle
theorem Kept.execRefclkReturn : Answers s₀ (execRefclkReturn s) := .next hs.units.roleSettle

theorem Kept.execVxrefLoss : Answers s₀ (execVxrefLoss s) := by
  unfold Machine.execVxrefLoss
  extract_lets _ s1 _
  have hs1 : Kept s₀ s1 := (hs.units.setBit _ _).emit _ _ _ _ _ _
  exact .next (.ite hs1 ((hs1.draw 73).portsDown _ _))

theorem Kept.execVxrefReturn : Answers s₀ (execVxrefReturn s) :=
  .next (.ite hs.units (hs.units.upto _ _ (fun _ _ hy => .ite (hy.setVp _ _) hy)))

theorem Kept.execXt32Loss : Answers s₀ (execXt32Loss s) := .next ((hs.units.setBit _ _).emit _ _ _ _ _ _)
theorem Kept.execXt32Return : Answers s₀ (execXt32Return s) := .next hs.units

theorem Kept.execExternalTrip (low : Bool) : Answers s₀ (execExternalTrip s low) :=
  .next (.ite hs.units ((hs.units.wr _ _).emit _ _ _ _ _ _))

theorem Kept.execPfailNLow : Answers s₀ (execPfailNLow s) := .next hs.units.powerFail
theorem Kept.execShedInChange (high : Bool) : Answers s₀ (execShedInChange high s) := .next (.ite hs.units (hs.shedInput _))

theorem Kept.execDroopNPulse (n : Fin 16) : Answers s₀ (execDroopNPulse n s) :=
  .next (.ite hs (hs.units.upto _ _ (fun _ _ hy => .ite (hy.setDom _ _) hy)))

theorem Kept.execIslandHung (n : Fin 7) : Answers s₀ (execIslandHung n s) := .next (hs.hang _ _)
theorem Kept.execCrossingUnanswered (n : Fin 7) (row : Fin 20) : Answers s₀ (execCrossingUnanswered n row s) := .next (.ite (hs.hang _ _) hs)
theorem Kept.execResetReqWr (v : Word) : Answers s₀ (execResetReqWr v s) := .next (hs.resetReq _)
theorem Kept.execResetReqIr (v : Word) : Answers s₀ (execResetReqIr v s) := .next (hs.resetReq _)
theorem Kept.execResetReqHr (v : Word) : Answers s₀ (execResetReqHr v s) := .next (hs.resetReq _)
theorem Kept.execResetReqFr (v : Word) : Answers s₀ (execResetReqFr v s) := .next (hs.resetReq _)
theorem Kept.execResetReqDr (v : Word) : Answers s₀ (execResetReqDr v s) := .next (hs.resetReq _)
theorem Kept.execCancelWr (v : Word) : Answers s₀ (execCancelWr v s) := .next (hs.resetReq _)
theorem Kept.execHostTunnelDown : Answers s₀ (execHostTunnelDown s) := .next (hs.hostReset _)

theorem Kept.execHostTunnelUp (rate : Fin 3) (x8 : Bool) : Answers s₀ (execHostTunnelUp rate x8 s) :=
  .next (.ite hs (.ite hs.units.seResetEnd (hs.units.seResetEnd.emit _ _ _ _ _ _)))

theorem Kept.execTrstNLow : Answers s₀ (execTrstNLow s) := .next ((hs.draw 72).debugReset _)
theorem Kept.execDeferredWrProceed : Answers s₀ (execDeferredWrProceed s) := .next (.ite hs.units.tailFlush hs)
theorem Kept.execWrWaitEnd : Answers s₀ (execWrWaitEnd s) := .next (.ite (hs.wrAssert _ _ _) hs)
theorem Kept.execPkgCmdGo (v : Word) : Answers s₀ (execPkgCmdGo v s) := .next (hs.keyedWrite _ _ _ (fun _ hy => .ite (hy.pkgCommand _ _) hy))
theorem Kept.keepEnter : Kept s₀ s.keepEnter := ((hs.haltEnd _).foldl _ _ (fun _ hy _ => hy.clearIsland _ _)).obGate.units.pkgArrive _

theorem Kept.pkgDone : Kept s₀ s.pkgDone := by
  unfold State.pkgDone
  refine .ite hs ?_
  split
  · extract_lets s1 _
    have hs1 : Kept s₀ s1 := (hs.sendFstep _ _ _).pkgArrive _
    exact .ite hs (.ite (hs1.units.pkgBegin _) hs1.pkgContinue)
  · exact (hs.units.pkgArrive _).pkgContinue
  · exact hs.runCheck
  · exact .ite hs hs.keepEnter
  · extract_lets s1 _
    have hs1 : Kept s₀ s1 := (hs.foldl _ _ (fun _ hy _ => hy.upto _ _ (fun _ _ hy1 => .ite (hy1.railOff _) hy1))).upto _ _
        (fun _ _ hy => .ite hy (hy.linkDown _))
    exact .ite hs (hs1.units.pkgArrive _).pkgContinue
  · exact hs

theorem Kept.execPkgTransitionDone : Answers s₀ (execPkgTransitionDone s) := .next hs.pkgDone

theorem Kept.pkgTimeout : Kept s₀ s.pkgTimeout := by
  unfold State.pkgTimeout
  extract_lets _ _ s1 _ _ _ y' _
  have hs1 : Kept s₀ s1 := hs.emit _ _ _ _ _ _
  have hy' : Kept s₀ y' := hs1.units.wake _
  exact .ite hs (.ite (.ite (hs1.napForced _).units.pkgContinue hs1.units.napAdvance)
    (.ite (.ite (hs1.napForced _) hy'.units) (.ite (hs1.napForced _) hs1.units)))

theorem Kept.execPkgTransitionTimeout : Answers s₀ (execPkgTransitionTimeout s) := .next hs.pkgTimeout
theorem Kept.execWakeTimerExpiry : Answers s₀ (execWakeTimerExpiry s) := .next (.ite hs (hs.wake _))
theorem Kept.execSaveComplete (b : Fin 11) : Answers s₀ (execSaveComplete b s) := .next (hs.saveDone _)
theorem Kept.execProfileLoadDone (err : Word) : Answers s₀ (execProfileLoadDone err s) := .next (hs.profileDone _)
theorem Kept.autoStart : Kept s₀ s.autoStart := .ite ((Kept.ite hs ((hs.wr _ _).emit _ _ _ _ _ _)).units.pkgBegin _) hs
theorem Kept.execAutoRunStart : Answers s₀ (execAutoRunStart s) := .next hs.autoStart
theorem Kept.execWaitMaxExpiry : Answers s₀ (execWaitMaxExpiry s) := .next hs.units.autoStart
theorem Kept.execSuppliesLate (n : Fin 3) : Answers s₀ (execSuppliesLate n s) := .next (.ite (hs.emit _ _ _ _ _ _) hs)
theorem Kept.execPpsOutSecond : Answers s₀ (execPpsOutSecond s) := .next (.ite (hs.out _) hs)

/-! What a register reads. -/

theorem Kept.asStopped (isl : Nat) : Kept s₀ (s.asStopped isl) := .ite hs.units hs
theorem Kept.heldFields (isl : Nat) : Kept s₀ (s.heldFields isl) := .ite hs.units hs

/-! Control of the policy cores. -/

theorem Kept.dispatchRefused (c q h : Nat) : Kept s₀ (s.dispatchRefused c q h) := (hs.emit _ _ _ _ _ _).lostSweep

theorem Kept.urgentGo (c : Nat) : Kept s₀ (s.urgentGo c) := by
  unfold State.urgentGo
  split
  · exact hs
  · dsimp only
    split
    · exact hs
    · exact .ite (((hs.qPop _).snd_of_eq ‹_›).dispatchUrgent _ _ _ _) (((hs.qPop _).snd_of_eq ‹_›).dispatchRefused _ _ _)

omit hs in
/-- The launch constants that a launch gives its core are canonical. -/
theorem cells_wf (l : Launch) : Memory.wf l.cells = true := by
  have hb : Memory.wf (writeBytes [] 0x120000 (min 256 l.consts.length) (ofLe l.consts)) = true := writeBytes_wf rfl _ _ _
  unfold Launch.cells
  dsimp only
  split
  · exact writeBytes_wf hb _ _ _
  · exact hb

theorem Kept.normalGo (c : Nat) : Kept s₀ (s.normalGo c) := by
  unfold State.normalGo
  split
  · exact hs
  · dsimp only
    split
    · exact hs
    · have h1 := (hs.qPop _).snd_of_eq ‹_›
      refine .ite ((h1.dispatchNormal _ _ _ _).setCore _ _ (fun w => ⟨(w.2 c).1, ?_⟩)) (h1.dispatchRefused _ _ _)
      dsimp only
      split
      · exact cells_wf _
      · rfl

theorem Kept.execNormalDispatch (c : Fin 8) : Answers s₀ (execNormalDispatch c s) := .next (.ite (hs.normalGo _) hs)
theorem Kept.execUrgentDispatch (c : Fin 8) : Answers s₀ (execUrgentDispatch c s) := .next (.ite (hs.urgentGo _) hs)
theorem Kept.execBudgetOverrun (c : Fin 8) : Answers s₀ (execBudgetOverrun c s) := .next (.ite ((hs.noteMax _).coreFault _ _).lostSweep hs)
theorem Kept.execCoreException (c e : Fin 8) : Answers s₀ (execCoreException c e s) := .next (.ite (hs.coreFault _ _).lostSweep hs)
theorem Kept.execCoreRestart (c : Fin 8) : Answers s₀ (execCoreRestart c s) := .next (.ite (hs.startCore _ _).lostSweep hs)

theorem Kept.ikCtl (v : Nat) : Kept s₀ (s.ikCtl v) := by
  unfold State.ikCtl
  split
  · exact ((hs.serve _ _).snd_of_eq ‹_›)
  · extract_lets s2 s3 s4
    have hs2 : Kept s₀ s2 := (((hs.serve _ _).snd_of_eq ‹_›).writeFields _ _).upto _ _
        (fun _ _ hy => .ite ((hy.stopCore _ _).setCore _ _) hy)
    have hs3 : Kept s₀ s3 := hs2.upto _ _ (fun _ _ hy => .ite (hy.startCore _ _) hy)
    have hs4 : Kept s₀ s4 := .ite (hs3.saveBlock _) hs3
    exact .ite ((hs.serve _ _).snd_of_eq ‹_›).refuse (.ite hs4 hs4.lostSweep)

theorem Kept.execIkStop (v : Word) : Answers s₀ (execIkStop v s) := .next (hs.ikCtl _)
theorem Kept.execIkRestart (v : Word) : Answers s₀ (execIkRestart v s) := .next (hs.ikCtl _)
theorem Kept.execIkSave (v : Word) : Answers s₀ (execIkSave v s) := .next (hs.ikCtl _)

theorem Kept.execBudgetWrite (v : Word) : Answers s₀ (execBudgetWrite v s) := by
  unfold Machine.execBudgetWrite
  refine .next ?_
  split
  · exact ((hs.serve _ _).snd_of_eq ‹_›)
  · extract_lets _ _ _ _ s2 s3
    have hs2 : Kept s₀ s2 := ((hs.serve _ _).snd_of_eq ‹_›).wr _ _
    have hs3 : Kept s₀ s3 := .ite (hs2.emit _ _ _ _ _ _) hs2
    exact .ite (.ite (hs3.emit _ _ _ _ _ _) hs3) (((hs.serve _ _).snd_of_eq ‹_›).writeFields _ _)

theorem Kept.execImageLoad : Answers s₀ (execImageLoad s) := .next (.ite hs (hs.imageLoad.startLoaded _).lostSweep)

omit hs in
theorem rte_wf {k : IkCore} (w : Memory.wf k.data = true ∧ Memory.wf k.launch = true) :
    Memory.wf k.rte.data = true ∧ Memory.wf k.rte.launch = true := by
  unfold IkCore.rte
  split
  · exact w
  · exact ⟨w.1, rfl⟩

theorem Kept.execIkRte (c : Fin 8) : Answers s₀ (execIkRte c s) := by
  have hs2 : Kept s₀ (s.returned c) := ((hs.spend _ _).noteMax _).setCore _ _ (fun w => rte_wf (w.2 _))
  unfold Machine.execIkRte
  refine .ite (.next hs) (.ite ((hs.coreFault _ _).ran _ _) (.ite ((hs.coreFault _ _).ran _ _) (.next (.ite (hs2.urgentGo _) ?_))))
  split
  · exact (hs2.launchDone _ _).lostSweep
  · exact hs2

theorem Kept.queueOp (c rd : Nat) (exc : Option Nat) (f : State → Nat × State) (hf : ∀ y, Kept s₀ y → Kept s₀ (f y).2) :
    Kept s₀ (s.queueOp c rd exc f) := by
  unfold State.queueOp
  refine hs.issue _ _ _ _ _ (fun y hy => ?_)
  refine Kept.setBank (hf y hy) _ ?_
  exact bankOnly_setG _ rd _

theorem Kept.sendTileMsg (c t : Nat) (p0 p1 : DWord) : Kept s₀ (s.sendTileMsg c t p0 p1).2 := by
  unfold State.sendTileMsg
  dsimp only
  refine .iteSnd hs (.iteSnd hs (.iteSnd hs (.iteSnd ?_ ((hs.sendLink _ _).setTile _ _))))
  split
  · exact ((hs.sendLink _ _).closeTile _).checkRelease _
  · exact (hs.sendLink _ _).closeTile _

theorem Kept.sendDest (c dest : Nat) (m : QMsg) : Kept s₀ (s.sendDest c dest m).2 := by
  unfold State.sendDest
  dsimp only
  exact .iteSnd (hs.sendTileMsg _ _ _ _) (.iteSnd hs (.iteSnd (hs.sendQueue _ _) (.iteSnd (hs.sendGroup _ _) (hs.sendRemote _ _ _ _ _))))

theorem Kept.execIkSend (c : Fin 8) (rd rs1 rs2 : Fin 32) (mode : Fin 4) : Answers s₀ (execIkSend c rd rs1 rs2 mode s) :=
  (hs.queueOp _ _ _ _ (fun _ hy => .iteSnd hy (.iteSnd (hy.sendDest _ _ _) (hy.sendChan _ _ _ _)))).ran _ _

theorem Kept.recvPop (c q : Nat) : Kept s₀ (s.recvPop c q).2 :=
  .iteSnd ((hs.wr _ _).emit _ _ _ _ _ _) (.iteSnd ((hs.wr _ _).emit _ _ _ _ _ _) (hs.qPop _))

omit hs in
theorem setG_wf {k : IkCore} (r : Nat) (v : DWord) (w : Memory.wf k.data = true ∧ Memory.wf k.launch = true) :
    Memory.wf (k.setG r v).data = true ∧ Memory.wf (k.setG r v).launch = true :=
  (bankOnly_setG k r v).wf w

omit hs in
theorem loadMsg_wf {k : IkCore} (rd : Nat) (o : Option QMsg) (w : Memory.wf k.data = true ∧ Memory.wf k.launch = true) :
    Memory.wf (k.loadMsg rd o).data = true ∧ Memory.wf (k.loadMsg rd o).launch = true :=
  List.foldlRecOn (motive := fun k : IkCore => Memory.wf k.data = true ∧ Memory.wf k.launch = true) (List.range 4) _ w
    (fun _ h i _ => setG_wf (rd + i) _ h)

theorem Kept.execIkRecv (c : Fin 8) (rd rs1 : Fin 32) : Answers s₀ (execIkRecv c rd rs1 s) := by
  unfold Machine.execIkRecv
  refine (hs.issue _ _ _ _ _ (fun _ hy => ?_)).ran _ _
  exact ((hy.recvPop _ _).setCore _ _ (fun w => loadMsg_wf _ _ (w.2 _))).lostSweep

theorem Kept.execIkWaitq (c : Fin 8) (rd : Fin 32) : Answers s₀ (execIkWaitq c rd s) := by
  unfold Machine.execIkWaitq
  refine .ite (.next hs) (.ite ((hs.coreFault _ _).ran _ _) (.ite ((hs.coreFault _ _).ran _ _) (.next (.ite ?_ (hs.setCore _ _)))))
  obtain ⟨l, hl⟩ := noteMax_eq s c
  rw [hl]
  exact (hs.units (regs := l)).setCore c _

theorem Kept.execWaitqComplete (c : Fin 8) (n : BitVec 16) : Answers s₀ (execWaitqComplete c n s) := by
  unfold Machine.execWaitqComplete
  refine .ite (.next hs) ?_
  split
  · exact .next hs
  · refine .ite ((hs.coreFault _ _).ran _ _) (.next ?_)
    split
    · exact hs.clock.setCore _ _ (fun w => setG_wf _ _ (w.2 c))
    · exact hs.clock.setCore _ _ (fun w => setG_wf _ _ (w.2 c))

theorem Kept.execIkChopen (c : Fin 8) (rd rs1 : Fin 32) : Answers s₀ (execIkChopen c rd rs1 s) := by
  unfold Machine.execIkChopen
  refine (hs.queueOp _ _ _ _ (fun _ hy => ?_)).ran _ _
  split
  · exact hy
  · exact hy.chanOpen _ _ _

theorem Kept.execIkChclose (c : Fin 8) (rd rs1 : Fin 32) : Answers s₀ (execIkChclose c rd rs1 s) :=
  (hs.queueOp _ _ _ _ (fun _ hy => .iteSnd hy (hy.chanClose _ _))).ran _ _

theorem Kept.policyTake (kind : Nat) (ops : List Nat) : Kept s₀ (s.policyTake kind ops) := by
  unfold State.policyTake
  dsimp only
  split
  · exact (hs.wr _ _).gradeRequest _ _
  · exact ((((hs.wr _ _).wr _ _).wr _ _).wr _ _).wr _ _
  · exact (hs.wr _ _).checkRelease _
  · exact (hs.wr _ _).pauseUpdate _
  · exact (hs.wr _ _).wr _ _
  · exact hs.wr _ _
  · exact hs.capTake _ _ _

theorem Kept.policyWrite (kind : Nat) (ops : List Nat) : Kept s₀ (s.policyWrite kind ops) := .ite hs.units (hs.policyTake _ _)

theorem Kept.execCrossingRetry : Answers s₀ (execCrossingRetry s) := by
  unfold Machine.execCrossingRetry
  extract_lets _ _ s1 s2
  have hs1 : Kept s₀ s1 := hs.units
  have hs2 : Kept s₀ s2 := hs1.foldl _ _ (fun _ hy _ => hy.policyTake _ _)
  exact .next (.ite hs2.flSettle hs2)

theorem Kept.deviceOp (c rd duty : Nat) (ok : Bool) (act : State → State) (hf : ∀ y, Kept s₀ y → Kept s₀ (act y)) :
    Kept s₀ (s.deviceOp c rd duty ok act) := by
  unfold State.deviceOp
  refine hs.issue _ _ _ _ _ (fun y hy => ?_)
  have hy1 := hy.setBank c (bankOnly_setG (y.core c) rd (if ok then 0 else 7))
  exact .ite (hf _ hy1) hy1

theorem Kept.execIkGrade (c : Fin 8) (rd rs1 : Fin 32) (d : Fin 8) : Answers s₀ (execIkGrade c rd rs1 d s) :=
  (hs.deviceOp _ _ _ _ _ (fun _ hy => hy.policyWrite _ _)).ran _ _

theorem Kept.execIkAdmit (c : Fin 8) (rd rs1 rs2 : Fin 32) : Answers s₀ (execIkAdmit c rd rs1 rs2 s) :=
  (hs.deviceOp _ _ _ _ _ (fun _ hy => hy.policyWrite _ _)).ran _ _

theorem Kept.execIkBarx (c : Fin 8) (rd rs1 rs2 : Fin 32) : Answers s₀ (execIkBarx c rd rs1 rs2 s) :=
  (hs.deviceOp _ _ _ _ _ (fun _ hy => hy.policyWrite _ _)).ran _ _

theorem Kept.execIkPause (c : Fin 8) (rd rs1 rs2 : Fin 32) : Answers s₀ (execIkPause c rd rs1 rs2 s) :=
  (hs.deviceOp _ _ _ _ _ (fun _ hy => hy.policyWrite _ _)).ran _ _

theorem Kept.execIkPgrade (c : Fin 8) (rd rs1 rs2 : Fin 32) : Answers s₀ (execIkPgrade c rd rs1 rs2 s) :=
  (hs.deviceOp _ _ _ _ _ (fun _ hy => hy.policyWrite _ _)).ran _ _

theorem Kept.execIkRlim (c : Fin 8) (rd rs1 : Fin 32) (r : Fin 8) : Answers s₀ (execIkRlim c rd rs1 r s) :=
  (hs.deviceOp _ _ _ _ _ (fun _ hy => hy.policyWrite _ _)).ran _ _

theorem Kept.execIkLogev (c : Fin 8) (rd rs1 rs2 : Fin 32) : Answers s₀ (execIkLogev c rd rs1 rs2 s) := by
  unfold Machine.execIkLogev
  refine (hs.issue _ _ _ _ _ (fun _ hy => ?_)).ran _ _
  extract_lets _ _ y' z
  have hy' : Kept s₀ y' := hy.setBank _ (bankOnly_setG _ _ _)
  have hz : Kept s₀ z := hy'.units
  exact .ite hy' (.ite (.ite (hz.handRequest _) hz) hy'.units)

theorem Kept.execIkDrd (c : Fin 8) (rd rs1 : Fin 32) (mode : Fin 4) : Answers s₀ (execIkDrd c rd rs1 mode s) :=
  (hs.issue _ _ _ _ _ (fun _ hy => hy.setBank _ (bankOnly_setG _ _ _))).ran _ _

theorem Kept.pstateAsk (t : Nat) : Kept s₀ (s.pstateAsk t) := .ite hs (.ite hs.refuse (hs.pkgCommand _ _))

theorem Kept.execIkPstate (c : Fin 8) (rd rs1 : Fin 32) : Answers s₀ (execIkPstate c rd rs1 s) :=
  (hs.deviceOp _ _ _ _ _ (fun _ hy => hy.pstateAsk _)).ran _ _

/-! The Ledger's commands. -/

theorem Kept.execRecordArrival : Answers s₀ (execRecordArrival s) := .next hs.arrive1.flSettle
theorem Kept.execTokenRefill (code : BitVec 16) : Answers s₀ (execTokenRefill code s) := .next hs.units

theorem Kept.execSummarySecond : Answers s₀ (execSummarySecond s) := by
  unfold Machine.execSummarySecond
  extract_lets _ _ _ s1 s2
  have hs1 : Kept s₀ s1 := hs.units
  have hs2 : Kept s₀ s2 := .ite hs1 (hs1.emit _ _ _ _ _ _)
  exact .next (.ite hs2 (hs2.emit _ _ _ _ _ _))

theorem Kept.execLedgerFlushStart : Answers s₀ (execLedgerFlushStart s) := .next hs.flushGo
theorem Kept.execDataPassDone : Answers s₀ (execDataPassDone s) := .next (.ite hs.writeData.units hs)
theorem Kept.execReadbackDone (ok : Bool) : Answers s₀ (execReadbackDone ok s) := .next (.ite (.ite hs.units hs.verifyFail) hs)
theorem Kept.execMarkPassDone : Answers s₀ (execMarkPassDone s) := .next (.ite hs.markDone hs)

theorem Kept.execEraseDone (ms typ top : BitVec 16) (failed : Bool) : Answers s₀ (execEraseDone ms typ top failed s) :=
  .next (hs.eraseDone _ _ _ _)

theorem Kept.execLedgerScanDone (abandoned : Bool) : Answers s₀ (execLedgerScanDone abandoned s) := .next (.ite (hs.scanDone _) hs)

theorem Kept.execLgCursorWrite (kind : Fin 3) (v : DWord) : Answers s₀ (execLgCursorWrite kind v s) :=
  .next (hs.hostWrite _ _ _ (fun _ hy => .ite (.ite (hy.writeFields _ _) hy) ((Kept.ite (hy.writeFields _ _) hy).units.wr _ _)))

theorem Kept.execWindowFillDone : Answers s₀ (execWindowFillDone s) := .next (.ite hs ((hs.units.wr _ _).wr _ _))
theorem Kept.execLgClear (v : Word) : Answers s₀ (execLgClear v s) := .next (hs.lgCtl _)
theorem Kept.execLgFlush (v : Word) : Answers s₀ (execLgFlush v s) := .next (hs.lgCtl _)
theorem Kept.execLgSave (v : Word) : Answers s₀ (execLgSave v s) := .next (hs.lgCtl _)
theorem Kept.execStreamVecTimer : Answers s₀ (execStreamVecTimer s) := .next (.ite (hs.raiseVec _) hs)

theorem Kept.execLgRlWrite (i : Fin 1025) (hi : Bool) (v : Word) : Answers s₀ (execLgRlWrite i hi v s) :=
  .next (.ite (hs.hostWrite _ _ _ (fun _ hy => hy.rlRefill _)) (hs.hostWrite _ _ _ (fun _ hy => hy.rlRefill _)))

theorem Kept.execEnergyCheckpoint : Answers s₀ (execEnergyCheckpoint s) := .next hs.checkpoint
theorem Kept.execPfailNHigh : Answers s₀ (execPfailNHigh s) := .next hs.units

/-! The commands of observation, debug and Halt Sweeps. -/

theorem Kept.execObEnable (v : Word) : Answers s₀ (execObEnable v s) := .next (hs.obCtl _)
theorem Kept.execObDisable (v : Word) : Answers s₀ (execObDisable v s) := .next (hs.obCtl _)
theorem Kept.execObClear (v : Word) : Answers s₀ (execObClear v s) := .next (hs.obCtl _)
theorem Kept.execObUnfreeze (v : Word) : Answers s₀ (execObUnfreeze v s) := .next (hs.obCtl _)
theorem Kept.execObArm (v : Word) : Answers s₀ (execObArm v s) := .next (hs.obCtl _)
theorem Kept.execObFire (v : Word) : Answers s₀ (execObFire v s) := .next (hs.obCtl _)
theorem Kept.execTrigInEdge : Answers s₀ (execTrigInEdge s) := .next (.ite (hs.trigFire _ _) hs)

theorem Kept.execObGrpWrite (g : Fin 512) (j : Fin 4) (v : Word) : Answers s₀ (execObGrpWrite g j v s) :=
  .next (hs.hostWrite _ _ _ (fun _ hy => hy.cntClear _ _))

theorem Kept.obHaltWrite (v : Nat) : Kept s₀ (s.obHaltWrite v) := .ite (hs.obHalt _).flSettle (hs.obHalt _)
theorem Kept.execObHalt (v : Word) : Answers s₀ (execObHalt v s) := .next (hs.obHaltWrite _)
theorem Kept.tapIn (i : TapInstr) : Kept s₀ (s.tapIn i) := .ite hs.units hs
theorem Kept.execJtagHalt : Answers s₀ (execJtagHalt s) := .next ((hs.tapIn _).haltRequest _)
theorem Kept.execObRelease (v : Word) : Answers s₀ (execObRelease v s) := .next (hs.obHaltWrite _)
theorem Kept.execJtagRelease : Answers s₀ (execJtagRelease s) := .next ((hs.tapIn _).haltEnd _)
theorem Kept.execHaltMaxExpiry : Answers s₀ (execHaltMaxExpiry s) := .next (.ite hs (hs.haltEnd _))
theorem Kept.execHaltOrphan : Answers s₀ (execHaltOrphan s) := .next (.ite hs.units.budgetMoved hs)
theorem Kept.execExportTick : Answers s₀ (execExportTick s) := .next hs.expTick.flSettle

theorem Kept.execIntakeFullReport (n : Fin 16) : Answers s₀ (execIntakeFullReport n s) :=
  .next (.ite hs (((hs.setLink _ _).intakeMark _).emit _ _ _ _ _ _))

/-! The commands of the phase controller. -/

theorem Kept.acted (act : State → State) (hf : ∀ y, Kept s₀ y → Kept s₀ (act y)) : Kept s₀ (s.acted act) := .ite (hf _ hs) hs

theorem Kept.onSample (r : Nat) (isn : List (BitVec 16)) (act : State → State) (hf : ∀ y, Kept s₀ y → Kept s₀ (act y)) :
    Kept s₀ (s.onSample r isn act) :=
  .ite hs ((hs.sample _ _).acted _ hf)

theorem Kept.onVolts (r raw : Nat) (act : State → State) (hf : ∀ y, Kept s₀ y → Kept s₀ (act y)) : Kept s₀ (s.onVolts r raw act) :=
  .ite hs ((hs.noteVolts _ _).acted _ hf)

theorem Kept.execPsfltAssert (g : Fin 16) : Answers s₀ (execPsfltAssert g s) := .next (.ite hs (hs.groupSuspect _))

theorem Kept.execProfileSave (v : Word) : Answers s₀ (execProfileSave v s) :=
  .next (hs.hostWrite _ _ _ (fun _ hy => .ite (hy.saveBlock _) hy))

theorem Kept.execPhaseClr (v : Word) : Answers s₀ (execPhaseClr v s) :=
  .next (hs.keyedWrite _ _ _ (fun _ hy => .ite (((hy.setLane _ _).pmbus _ _ _).healthSince _) hy))

theorem Kept.execClearFault (r : Fin 8) (v : Word) : Answers s₀ (execClearFault r v s) :=
  .next (hs.keyedWrite _ _ _ (fun _ hy => .ite (hy.clearFault _) hy))

theorem Kept.execSwitchingCycle (n : Fin 256) (e : BitVec 12) (busv isn : BitVec 16) : Answers s₀ (execSwitchingCycle n e busv isn s) := by
  unfold Machine.execSwitchingCycle
  refine .next ?_
  split
  · exact hs
  · extract_lets _ s0 t _
    have hs0 : Kept s₀ s0 := .ite hs (hs.setLane _ _)
    have ht : Kept s₀ t := hs0.stopSettle _
    exact .ite hs0 (.ite (ht.dischargeCycle _ _ _) (.ite ht (.ite (ht.holdCycle _ _ _) (ht.switchCycle _ _ _ _ _))))

theorem Kept.execPhaseAdd (r : Fin 8) (isn : List (BitVec 16)) : Answers s₀ (execPhaseAdd r isn s) :=
  .next (hs.onSample _ _ _ (fun _ hy => .ite (hy.addPhase _) hy))

theorem Kept.execPhaseShed (r : Fin 8) (isn : List (BitVec 16)) : Answers s₀ (execPhaseShed r isn s) :=
  .next (hs.onSample _ _ _ (fun _ hy => .ite (hy.shedPhase _) hy))

theorem Kept.execPhaseImbalance (n : Fin 256) (isn : List (BitVec 16)) : Answers s₀ (execPhaseImbalance n isn s) := by
  unfold Machine.execPhaseImbalance
  refine .next ?_
  split
  · exact hs
  · exact hs.onSample _ _ _ (fun _ hy => .ite (hy.phaseFail _ _ _) hy)

theorem Kept.execRailCurrentLimit (r : Fin 8) (isn : List (BitVec 16)) : Answers s₀ (execRailCurrentLimit r isn s) :=
  .next (hs.onSample _ _ _ (fun _ hy => hy.limitReached _))

theorem Kept.execRailPowerGood (r : Fin 8) (raw : BitVec 12) : Answers s₀ (execRailPowerGood r raw s) :=
  .next (hs.onVolts _ _ _ (fun _ hy => .ite (hy.powerGood _) hy))

theorem Kept.execSsTimeout (r : Fin 8) : Answers s₀ (execSsTimeout r s) := .next (.ite (hs.regFault _ _ _) hs)

theorem Kept.execBurstEntry (r : Fin 8) (isn : List (BitVec 16)) : Answers s₀ (execBurstEntry r isn s) :=
  .next (hs.onSample _ _ _ (fun _ hy => .ite (hy.burstEnter _) hy))

theorem Kept.execBurstPulse (r : Fin 8) (raw : BitVec 12) : Answers s₀ (execBurstPulse r raw s) :=
  .next (hs.onVolts _ _ _ (fun _ hy => .ite (hy.burstFire _) hy))

theorem Kept.execBurstExit (r : Fin 8) (cause : Fin 4) (isn : List (BitVec 16)) (raw : BitVec 12) :
    Answers s₀ (execBurstExit r cause isn raw s) :=
  .next (hs.onSample _ _ _ (fun _ hy => hy.onVolts _ _ _ (fun _ hy1 => .ite (hy1.burstLeave _) hy1)))

theorem Kept.execFloodgateStrobe (r : Fin 8) : Answers s₀ (execFloodgateStrobe r s) :=
  .next (.ite (.ite (hs.setRail _ _) (hs.strobeHold _)) hs)

theorem Kept.execFloodgateHoldEnd (r : Fin 8) (isn : List (BitVec 16)) : Answers s₀ (execFloodgateHoldEnd r isn s) :=
  .next (hs.onSample _ _ _ (fun _ hy => .ite (hy.holdEnd _) hy))

theorem Kept.execDeadTimeChange (i : Fin 264) (ack : Bool) : Answers s₀ (execDeadTimeChange i ack s) :=
  .next (.ite hs (.ite (hs.deadRes _) (.ite hs (hs.deadMain _ _))))

theorem Kept.execPmbusPollRound (seg : Fin 4) (l : List StageRead) (alert : Bool) : Answers s₀ (execPmbusPollRound seg l s alert) :=
  .next (.ite (hs.pollRound _ _ _) hs)

theorem Kept.execAvsWrite (r : Fin 8) : Answers s₀ (execAvsWrite r s) := .next (.ite ((hs.avsWrite _).stopSettle _) hs)

theorem Kept.execVsnSenseFault (r : Fin 8) (raw : BitVec 12) : Answers s₀ (execVsnSenseFault r raw s) :=
  .next (.ite ((hs.emit _ _ _ _ _ _).regFault _ _ _) hs)

theorem Kept.execRailUndervoltage (r : Fin 8) (raw : BitVec 12) : Answers s₀ (execRailUndervoltage r raw s) :=
  .next (hs.onVolts _ _ _ (fun _ hy => .ite (hy.regFault _ _ _) hy))

theorem Kept.execRailOvervoltage (r : Fin 8) (raw : BitVec 12) : Answers s₀ (execRailOvervoltage r raw s) :=
  .next (hs.onVolts _ _ _ (fun _ hy => .ite ((hy.setRail _ _).each _ _ (fun _ _ hy1 => hy1.drive _ _)) hy))

theorem Kept.execOvDischargeDone (r : Fin 8) (raw : BitVec 12) : Answers s₀ (execOvDischargeDone r raw s) :=
  .next (hs.onVolts _ _ _ (fun _ hy => .ite (hy.regFault _ _ _) hy))

theorem Kept.execRailGrossOvercurrent (r : Fin 8) (isn : List (BitVec 16)) : Answers s₀ (execRailGrossOvercurrent r isn s) :=
  .next (hs.onSample _ _ _ (fun _ hy => .ite (hy.regFault _ _ _) hy))

theorem Kept.execGroupLocationDone (g : Fin 16) (l : List StageRead) (still : Bool) : Answers s₀ (execGroupLocationDone g l still s) :=
  .next (.ite (hs.groupLocated _ _ _) hs)

theorem Kept.execPhaseSenseFault (n : Fin 256) (isn : BitVec 16) : Answers s₀ (execPhaseSenseFault n isn s) :=
  .next (.ite (hs.phaseFail _ _ _) hs)

theorem Kept.execPmbusSegmentStuck (seg : Fin 4) (recovered : Bool) : Answers s₀ (execPmbusSegmentStuck seg recovered s) :=
  .next (.ite (hs.segStuck _ _) hs)

end Sys2Proof.Machine
end

section
namespace Sys2Proof.Machine
open Sys2Proof
set_option Elab.async false
variable {α β : Type} {s₀ s : State} (hs : Kept s₀ s)
include hs

/-! The commands of the reservoir. -/

theorem Kept.busReading (busMv : Option Nat) (busMa : ℤ) : Kept s₀ (s.busReading busMv busMa) := hs.units

theorem Kept.rvMeasure (busMa convW : ℤ) (stackMv : Nat) (stackDa : ℤ) : Kept s₀ (s.rvMeasure busMa convW stackMv stackDa) :=
  .ite hs.units (hs.units.satAdd _ _)

theorem Kept.rvCompute : Kept s₀ s.rvCompute := .ite hs.units.units (.ite (hs.units.units.emitHw _ _ _ _ _ _ _) hs.units)
theorem Kept.rgaReturn : Kept s₀ s.rgaReturn := hs.units.budgetMoved

theorem Kept.execResTick (busv : Option (BitVec 16)) (busi convW : ℤ) (rvstk : Nat) (rvis : ℤ) :
    Answers s₀ (execResTick busv busi convW rvstk rvis s) := by
  unfold Machine.execResTick
  extract_lets _ s1 s2 _ s3 s4
  have hs1 : Kept s₀ s1 := hs.busReading _ _
  have hs2 : Kept s₀ s2 := hs1.rvMeasure _ _ _ _
  have hs3 : Kept s₀ s3 := .ite ((hs2.emit _ _ _ _ _ _).rvFault _ _) hs2
  have hs4 : Kept s₀ s4 := hs3.rvCompute.legsDrive
  exact .next (.ite hs1 (.ite hs4 hs4.rgaReturn))

theorem Kept.execBleedStart : Answers s₀ (execBleedStart s) := .next (.ite hs (hs.units.rvBleed _))
theorem Kept.execBleedOff : Answers s₀ (execBleedOff s) := .next ((hs.foldl _ _ (fun _ hy _ => .ite hy.units hy)).rvBleed _)

theorem Kept.rvCellFaults : Kept s₀ s.rvCellFaults := by
  unfold State.rvCellFaults
  extract_lets _ _ _ s1 _ _ s2
  have hs1 : Kept s₀ s1 := .ite ((hs.emit _ _ _ _ _ _).rvFault _ _) hs
  have hs2 : Kept s₀ s2 := (hs1.wr _ _).emit _ _ _ _ _ _
  exact .ite hs (.ite (.ite (hs2.rvMode _) (hs2.rvCause _)) hs1)

theorem Kept.rvLeak : Kept s₀ s.rvLeak := by
  unfold State.rvLeak
  split
  · exact hs
  · dsimp only
    split
    · exact .ite hs (((hs.wr _ _).emit _ _ _ _ _ _).rvCause _)
    · exact hs

theorem Kept.rvSegment : Kept s₀ s.rvSegment := by
  unfold State.rvSegment
  refine .ite hs.units ?_
  split
  · exact hs.units
  · exact .ite (hs.upto _ _ (fun _ _ hy => hy.newCap _ _)).units (.ite hs.units hs)

theorem Kept.execReadingA (cells : List (BitVec 16)) (rvstk : Nat) (rvis : ℤ) : Answers s₀ (execReadingA cells rvstk rvis s) :=
  .next (.ite hs hs.units.rvCellFaults.rvLeak.rvSegment)

theorem Kept.execProbeOn : Answers s₀ (execProbeOn s) := .next (.ite (hs.units.out _) hs)

theorem Kept.declareTap (k : Nat) (d1 d2 : ℤ) : Kept s₀ (s.declareTap k d1 d2) :=
  .ite ((((hs.units.wr _ _).emit _ _ _ _ _ _).rvCause _).rvCause _) (((hs.units.wr _ _).emit _ _ _ _ _ _).rvCause _)

theorem Kept.execReadingB (cells : List (BitVec 16)) (rvstk : Nat) : Answers s₀ (execReadingB cells rvstk s) := by
  unfold Machine.execReadingB
  extract_lets _ s' _ _ _ _ _ _ _ _ _ _ _ s1 s2 s3 _ s4
  have hs' : Kept s₀ s' := .ite hs (hs.units.out _)
  have hs1 : Kept s₀ s1 := hs'.units
  have hs2 : Kept s₀ s2 := hs1.foldl _ _ (fun _ hy _ => .ite (hy.declareTap _ _ _) (.ite (hy.declareTap _ _ _) (hy.declareTap _ _ _)))
  have hs3 : Kept s₀ s3 := .ite (((hs2.wr _ _).emit _ _ _ _ _ _).rvCause _) hs2
  have hs4 : Kept s₀ s4 := .ite ((hs3.units.foldl _ _ (fun _ hy _ => hy.emit _ _ _ _ _ _)).rvClear _) hs3
  exact .next (.ite hs' hs4)

theorem Kept.execStackOvercurrent (rvis : ℤ) : Answers s₀ (execStackOvercurrent rvis s) := .next (.ite hs (hs.rvFault _ _))

theorem Kept.thermTake (was : State) (rs : List (Fin 3 × ℤ)) (j : Nat) : Kept s₀ (s.thermTake was rs j) := by
  unfold State.thermTake
  dsimp only
  split
  · exact .ite hs.units ((hs.units.wr _ _).emit _ _ _ _ _ _)
  · exact hs.units

theorem Kept.windowTold (which : Nat) (now_ : Bool) (lo hi : ℤ) (ch : Option (ℤ × ℤ)) : Kept s₀ (s.windowTold which now_ lo hi ch) := by
  unfold State.windowTold
  extract_lets s1 _
  have hs1 : Kept s₀ s1 := .ite hs (hs.wr _ _)
  split
  · exact .ite (hs1.emit _ _ _ _ _ _) (.ite (hs1.emit _ _ _ _ _ _) ((hs1.draw 80).emit _ _ _ _ _ _))
  · exact (hs1.draw 80).emit _ _ _ _ _ _

theorem Kept.execCthSample (vs : List (BitVec 16)) : Answers s₀ (execCthSample vs s) := by
  unfold Machine.execCthSample
  extract_lets _ s1 _ _ _ _ _ s2 s3 s4 _ s5 s6
  have hs1 : Kept s₀ s1 := hs.upto _ _ (fun _ _ hy => hy.thermTake _ _ _)
  have hs2 : Kept s₀ s2 := hs1.units
  have hs3 : Kept s₀ s3 := .ite hs2 (hs2.windowTold _ _ _ _ _)
  have hs4 : Kept s₀ s4 := .ite hs3 (hs3.windowTold _ _ _ _ _)
  have hs5 : Kept s₀ s5 := .ite hs4 (.ite (hs4.rvClear _) (hs4.rvCause _))
  have hs6 : Kept s₀ s6 := .ite (hs5.rvClear _) hs5
  exact .next (.ite hs (.ite hs6 (hs6.rvCause _)))

theorem Kept.execCauseClearTimer (c : Fin 12) : Answers s₀ (execCauseClearTimer c s) := by
  unfold Machine.execCauseClearTimer
  refine .next (.ite hs ?_)
  split
  · exact hs.rvClear _
  · exact .ite (hs.rvClear _) hs
  · exact .ite hs (hs.rvClear _)
  · exact hs.rvClear _
  · exact .ite (hs.units.rvClear _) hs
  · exact hs

theorem Kept.newModule : Kept s₀ s.newModule := by
  unfold State.newModule
  extract_lets _ s1 _ s2 s3 told s4 _ s5
  have hs1 : Kept s₀ s1 := hs.units
  have hs2 : Kept s₀ s2 := (hs1.wr _ _).wr _ _
  have hs3 : Kept s₀ s3 := hs2.upto _ _ (fun _ _ hy => (hy.wr _ _).wr _ _)
  have htold : Kept s₀ told := .ite hs3 ((hs3.wr _ _).emit _ _ _ _ _ _)
  have hs4 : Kept s₀ s4 := htold.rvCheckpoint.emit _ _ _ _ _ _
  have hs5 : Kept s₀ s5 := hs4.units
  exact .ite hs5 (.ite (hs5.rvMode _) (hs5.rvMode _))

theorem Kept.recheck : Kept s₀ s.recheck := .ite hs (.ite hs.units.rvSettle (hs.units.rvMode _))

theorem Kept.rvCtl (v : Nat) : Kept s₀ (s.rvCtl v) := by
  unfold State.rvCtl
  refine hs.keyedWrite _ _ _ (fun _ hy => ?_)
  extract_lets x1 x2
  have hx1 : Kept s₀ x1 := .ite hy.newModule hy
  have hx2 : Kept s₀ x2 := .ite hx1.recheck hx1
  exact .ite (hx2.saveBlock _) hx2

theorem Kept.execNewModule (v : Word) : Answers s₀ (execNewModule v s) := .next (hs.rvCtl _)
theorem Kept.execRecheck (v : Word) : Answers s₀ (execRecheck v s) := .next (hs.rvCtl _)
theorem Kept.execRvSave (v : Word) : Answers s₀ (execRvSave v s) := .next (hs.rvCtl _)

theorem Kept.execCheckDone : Answers s₀ (execCheckDone s) := by
  unfold Machine.execCheckDone
  refine .next (.ite hs ?_)
  split
  · exact (hs.emit _ _ _ _ _ _).rvCause _
  · exact hs.rvRun

theorem Kept.execPrechargeDone : Answers s₀ (execPrechargeDone s) := .next (.ite hs.rvRun hs)
theorem Kept.execPrechargeTimeout : Answers s₀ (execPrechargeTimeout s) := .next (.ite ((hs.units.emit _ _ _ _ _ _).rvCause _) hs)

theorem Kept.execEsrSample (step : ℤ) (dv : List (BitVec 16)) : Answers s₀ (execEsrSample step dv s) :=
  .next (.ite (hs.units.upto _ _ (fun _ _ hy => hy.newEsr _ _)) hs)

theorem Kept.execEsrUnmeasured : Answers s₀ (execEsrUnmeasured s) := .next (.ite hs (hs.emit _ _ _ _ _ _))
theorem Kept.execEnduranceCheckpoint : Answers s₀ (execEnduranceCheckpoint s) := .next (.ite hs hs.rvCheckpoint)

theorem Kept.execShedFlag : Answers s₀ (execShedFlag s) :=
  .next (.ite hs (.ite (hs.units.units.emit _ _ _ _ _ _) (.ite (hs.units.units.emit _ _ _ _ _ _) hs.units)))

/-! The security engine's commands. -/

theorem Kept.execSeCommit (v : Word) : Answers s₀ (execSeCommit v s) := .next (hs.seCtl _)

theorem Kept.execCommitDone (blown : Fin 65) (ok : Bool) : Answers s₀ (execCommitDone blown ok s) := by
  unfold Machine.execCommitDone
  refine .next ?_
  split
  · exact hs
  · exact .ite (hs.units.emit _ _ _ _ _ _) (hs.units.emit _ _ _ _ _ _)

theorem Kept.execSeVerify (v : Word) : Answers s₀ (execSeVerify v s) := .next (hs.seCtl _)

theorem Kept.execVerifyDone : Answers s₀ (execVerifyDone s) := by
  unfold Machine.execVerifyDone
  refine .next ?_
  split
  · exact hs
  · dsimp only
    split
    · exact hs.units.slotResult _ _
    · exact (hs.units.slotResult _ _).emit _ _ _ _ _ _

theorem Kept.execSeRelock (v : Word) : Answers s₀ (execSeRelock v s) := .next (hs.seCtl _)

theorem Kept.execSlotActiveWrite (v : Word) : Answers s₀ (execSlotActiveWrite v s) := by
  unfold Machine.execSlotActiveWrite
  refine .next ?_
  split
  · exact ((hs.serve _ _).snd_of_eq ‹_›)
  · extract_lets s2 _
    have hs2 : Kept s₀ s2 := ((hs.serve _ _).snd_of_eq ‹_›).rsvdCheck _ _
    exact .ite ((hs.serve _ _).snd_of_eq ‹_›).refuse (.ite (hs2.glErr _ _) (hs2.wr _ _).units)

theorem Kept.execChalRequest (v : Word) : Answers s₀ (execChalRequest v s) := .next (hs.seChal _)
theorem Kept.execChalSubmit (v : Word) : Answers s₀ (execChalSubmit v s) := .next (hs.seChal _)
theorem Kept.execChalCancel (v : Word) : Answers s₀ (execChalCancel v s) := .next (hs.seChal _)

theorem Kept.execChalTimeout : Answers s₀ (execChalTimeout s) := by
  unfold Machine.execChalTimeout
  refine .next ?_
  split
  · exact hs
  · exact .ite hs (hs.chalRefuse _ _)

theorem Kept.execResponseCheckDone (fuseOk : Bool) : Answers s₀ (execResponseCheckDone fuseOk s) := .next (hs.respDone _)

theorem Kept.execUpdGo (v : Word) : Answers s₀ (execUpdGo v s) :=
  .next (hs.keyedWrite _ _ _ (fun _ hy => .ite (.ite (hy.glErr _ _) hy.units) hy))

theorem Kept.execUpdProgramDone (ok : Bool) : Answers s₀ (execUpdProgramDone ok s) := by
  unfold Machine.execUpdProgramDone
  refine .next ?_
  split
  · exact hs
  · exact .ite hs (.ite (hs.units.slotResult _ _) (((hs.units.slotResult _ _).wr _ _).emit _ _ _ _ _ _))

theorem Kept.execMboxGo (v : Word) : Answers s₀ (execMboxGo v s) := by
  unfold Machine.execMboxGo
  refine .next ?_
  split
  · exact ((hs.serve _ _).snd_of_eq ‹_›)
  · extract_lets s2 _
    have hs2 : Kept s₀ s2 := ((hs.serve _ _).snd_of_eq ‹_›).writeFields _ _
    exact .ite (((hs.serve _ _).snd_of_eq ‹_›).rsvdCheck _ _) (.ite hs2.units hs2)

theorem Kept.execMboxResponse : Answers s₀ (execMboxResponse s) :=
  .next (.ite hs ((((hs.draw 52).units.upto _ _ (fun _ _ hy => hy.wr _ _)).wr _ _).raiseVec _))

theorem Kept.execProvWindowClose : Answers s₀ (execProvWindowClose s) := .next hs.provClose

/-! The tile endpoint and the die port that the manual specifies for a compute die. -/

theorem Kept.setEndp (t : Nat) (e : Endpoint) : Kept s₀ (s.setEndp t e) := hs.units
theorem Kept.setPort (n : Nat) (p : DiePort) : Kept s₀ (s.setPort n p) := hs.units

theorem Kept.putDie (n : Nat) (other : Bool) (r : DiePort × List (List Nat)) : Kept s₀ (s.putDie n other r) :=
  (hs.setPort _ _).foldl _ _ (fun _ hy _ => hy.outEnd _)

theorem Kept.portServe (n : Nat) : Kept s₀ (s.portServe n) := hs.putDie _ _ _
theorem Kept.upQueue (t : Nat) (m : Msg) : Kept s₀ (s.upQueue t m) := .ite ((hs.setEndp _ _).setPort _ _) (hs.setEndp _ _)
theorem Kept.upSend (t : Nat) (m : Msg) : Kept s₀ (s.upSend t m) := (hs.upQueue _ _).portServe _
theorem Kept.ask (t : Nat) (p : Pend) : Kept s₀ (s.ask t p) := (hs.setEndp _ _).upSend _ _
theorem Kept.declineGrant (t seq : Nat) : Kept s₀ (s.declineGrant t seq) := (hs.setEndp _ _).upSend _ _

theorem Kept.granted (t : Nat) (p : Pend) (cls grade freq : Nat) : Kept s₀ (s.granted t p cls grade freq) :=
  .ite (((hs.setEndp _ _).declineGrant _ _).ask _ _) (hs.setEndp _ _)

theorem Kept.nakIn (t : Nat) (m : Msg) : Kept s₀ (s.nakIn t m) := by
  unfold State.nakIn
  refine .ite (.ite hs (.ite hs (hs.setEndp _ _))) (.ite ?_ (.ite ?_ (hs.setEndp _ _)))
  · split
    · exact hs.setEndp _ _
    · exact .ite (hs.setEndp _ _) (.ite (hs.setEndp _ _) (.ite (hs.setEndp _ _) (.ite (hs.setEndp _ _) (hs.setEndp _ _))))
  · split
    · exact hs.setEndp _ _
    · exact hs

theorem Kept.syncIn (n : Nat) (other : Bool) : Kept s₀ (s.syncIn n other) :=
  ((hs.putDie _ _ _).each _ _ (fun _ _ hy => hy.foldl _ _ (fun _ hy1 _ => hy1.upQueue _ _))).portServe _

theorem Kept.portLoss (n : Nat) (other : Bool) : Kept s₀ (s.portLoss n other) :=
  .ite ((hs.setPort _ _).each _ _ (fun _ _ hy => hy.setEndp _ _)) (hs.setPort _ _)

theorem Kept.grantIn (t : Nat) (m : Msg) : Kept s₀ (s.grantIn t m) := by
  unfold State.grantIn
  dsimp only
  split
  · exact .ite (hs.granted _ _ _ _ _) (.ite (hs.declineGrant _ _) hs)
  · exact .ite (hs.declineGrant _ _) hs

theorem Kept.mgrantIn (t : Nat) (m : Msg) : Kept s₀ (s.mgrantIn t m) := by
  unfold State.mgrantIn
  extract_lets e g _ late
  have hlate : Kept s₀ late := by
    unfold late
    split
    · exact hs.declineGrant _ _
    · exact hs
  split
  · exact .ite (hs.granted _ _ _ _ _) hlate
  · exact hlate

theorem Kept.endTake (t : Nat) (m : Msg) : Kept s₀ (s.endTake t m) := by
  unfold State.endTake
  dsimp only
  split
  · exact hs.grantIn _ _
  · exact hs.mgrantIn _ _
  · exact hs.nakIn _ _
  · exact .ite (hs.setEndp _ _) hs
  · exact .ite (hs.setEndp _ _) hs
  · exact hs.setEndp _ _
  · exact .ite (hs.setEndp _ _) hs
  · exact .ite (hs.setEndp _ _) hs
  · exact .ite (hs.setEndp _ _) hs
  · exact hs.upSend _ _
  · exact .ite (hs.setEndp _ _) hs
  · exact hs

theorem Kept.endIn (t ty : Nat) (m : Msg) : Kept s₀ (s.endIn t ty m) := .ite (hs.endTake _ _) hs

theorem Kept.dieDeliver (n : Nat) (other : Bool) (m : Msg) : Kept s₀ (s.dieDeliver n other m) :=
  .ite (.ite (hs.syncIn _ _) hs) (hs.each _ _ (fun _ _ hy => hy.endIn _ _ _))

theorem Kept.portFlit (n : Nat) (other : Bool) (f : BitVec 512) : Kept s₀ (s.portFlit n other f) := by
  unfold State.portFlit
  extract_lets _ _ _ _ s1
  have hs1 : Kept s₀ s1 := hs.putDie _ _ _
  exact .ite (hs1.portLoss _ _) ((hs1.foldl _ _ (fun _ hy _ => hy.dieDeliver _ _ _)).portServe _)

/-! The commands of the Sluice on the KG8's side. -/

theorem Kept.execLinkTrainAttemptFail (n : Fin 16) : Answers s₀ (execLinkTrainAttemptFail n s) :=
  .next (.ite hs ((hs.setLink _ _).emit _ _ _ _ _ _).runCheck)

theorem Kept.execLinkRetry (n : Fin 16) : Answers s₀ (execLinkRetry n s) := .next (.ite hs (hs.linkTrain _))

theorem Kept.execLinkActive (n : Fin 16) (rate : Fin 3) (x8 : Bool) : Answers s₀ (execLinkActive n rate x8 s) := by
  unfold Machine.execLinkActive
  extract_lets _ _ s1 s2
  have hs1 : Kept s₀ s1 := hs.setLink _ _
  have hs2 : Kept s₀ s2 := .ite hs1 (hs1.emit _ _ _ _ _ _)
  exact .next (.ite hs ((hs2.sendLink _ _).enumCheck _).clampAll.runCheck)

theorem Kept.linkEnable (was n : Nat) : Kept s₀ (s.linkEnable was n) :=
  .ite hs (.ite (hs.linkTrain _) ((Kept.ite (hs.linkLoss _ _) hs).setLink _ _))

theorem Kept.execRetrain (v : Word) : Answers s₀ (execRetrain v s) := by
  unfold Machine.execRetrain
  refine .next (hs.hostWrite _ _ _ (fun _ hy => ?_))
  extract_lets y'
  have hy' : Kept s₀ y' := hy.upto _ _ (fun _ _ hy1 => hy1.linkEnable _ _)
  exact hy'.upto _ _ (fun _ _ hy1 => .ite (((hy1.linkLoss _ _).setLink _ _).linkTrain _) hy1)

theorem Kept.execFlitReceived (n : Fin 16) (f : BitVec 512) (side : Fin 3) : Answers s₀ (execFlitReceived n f s side) :=
  .next (.ite (hs.flitIn _ _) (hs.portFlit _ _ _))

theorem Kept.execLinkLoss (n : Fin 16) (cause : Fin 3) : Answers s₀ (execLinkLoss n cause s) := .next (.ite hs (hs.linkLoss _ _))
theorem Kept.execLinkLossReturn (n : Fin 16) : Answers s₀ (execLinkLossReturn n s) := .next ((hs.setLink _ _).giveBackAll _).napAdvance
theorem Kept.execIntentReceived (n : Fin 16) (m : Msg) : Answers s₀ (execIntentReceived n m s) := .next (hs.upHandle _ _)
theorem Kept.execReleaseReceived (n : Fin 16) (m : Msg) : Answers s₀ (execReleaseReceived n m s) := .next (hs.upHandle _ _)
theorem Kept.execOpenReceived (n : Fin 16) (m : Msg) : Answers s₀ (execOpenReceived n m s) := .next (hs.upHandle _ _)
theorem Kept.execStateReceived (n : Fin 16) (m : Msg) : Answers s₀ (execStateReceived n m s) := .next (hs.upHandle _ _)
theorem Kept.execTempReceived (n : Fin 16) (m : Msg) : Answers s₀ (execTempReceived n m s) := .next (hs.upHandle _ _)
theorem Kept.execDroopReceived (n : Fin 16) (m : Msg) : Answers s₀ (execDroopReceived n m s) := .next (hs.upHandle _ _)
theorem Kept.execProbereplyReceived (n : Fin 16) (m : Msg) : Answers s₀ (execProbereplyReceived n m s) := .next (hs.upHandle _ _)
theorem Kept.execProbeTimeout (t : Fin 16384) : Answers s₀ (execProbeTimeout t s) := .next (.ite (hs.nonconform _ _ _).runCheck hs)
theorem Kept.execReservationReturn (t : Fin 16384) : Answers s₀ (execReservationReturn t s) := .next (hs.giveBack _).napAdvance
theorem Kept.execBudgetRepeat (p : Fin 64) : Answers s₀ (execBudgetRepeat p s) := .next (.ite (hs.sendBudget _ _ _) hs)

theorem Kept.execProfileSaveSl (v : Word) : Answers s₀ (execProfileSaveSl v s) :=
  .next (hs.hostWrite _ _ _ (fun _ hy => (Kept.ite (hy.saveBlock _) hy).clampAll))

/-! The thermal commands. -/

theorem Kept.execZoneTick : Answers s₀ (execZoneTick s) := .next (.ite hs.zoneTick hs)
theorem Kept.senseOut (cls i : Nat) : Kept s₀ (s.senseOut cls i) := .ite hs (.ite (hs.out _) (.ite (hs.out _) hs))

theorem Kept.execSensorReading (cls : Fin 4) (i : BitVec 16) (ok : Bool) (v : BitVec 17) : Answers s₀ (execSensorReading cls i ok v s) := by
  unfold Machine.execSensorReading
  refine .next (.ite hs ?_)
  dsimp only
  split
  · exact (hs.senseOut _ _).sensorRead _ _ _
  · exact (hs.senseOut _ _).sensorRead _ _ _
  · exact (hs.senseOut _ _).sensorRead _ _ _

theorem Kept.execReadingSilent (t : Fin 16384) (j : Fin 4) : Answers s₀ (execReadingSilent t j s) := .next (.ite (hs.breakSensor _ _) hs)

theorem Kept.execReadingStuck (cls : Fin 4) (i : BitVec 16) : Answers s₀ (execReadingStuck cls i s) := by
  unfold Machine.execReadingStuck
  refine .next ?_
  split
  · exact .ite (hs.breakSensor _ _) hs
  · exact hs

theorem Kept.execReadingRestored (cls : Fin 4) (i : BitVec 16) : Answers s₀ (execReadingRestored cls i s) :=
  .next (.ite (.ite ((hs.setSensor _ _).emit _ _ _ _ _ _) (hs.setSensor _ _)) hs)

theorem Kept.execDieUnpinned (n : Fin 16) : Answers s₀ (execDieUnpinned n s) := .next (.ite ((hs.setZone _ _).emit _ _ _ _ _ _) hs)
theorem Kept.execStepTick : Answers s₀ (execStepTick s) := .next (.ite hs.stepTick hs)

theorem Kept.execOrderlyStopRecompute : Answers s₀ (execOrderlyStopRecompute s) := by
  unfold Machine.execOrderlyStopRecompute
  refine .next (.ite ?_ hs)
  split
  · exact (hs.pkgProj.snd_of_eq ‹_›).units
  · exact .ite (hs.pkgProj.snd_of_eq ‹_›).units (((hs.pkgProj.snd_of_eq ‹_›).units.emit _ _ _ _ _ _).tripLatch _ _ _)

theorem Kept.execDrainEnd : Answers s₀ (execDrainEnd s) := .next (.ite hs.drainAll.units.tailFlush hs)
theorem Kept.execFlushEnd : Answers s₀ (execFlushEnd s) := .next (.ite hs.units hs)
theorem Kept.execGrade0Reached : Answers s₀ (execGrade0Reached s) := .next (.ite (hs.tripLatch _ _ _) hs)

theorem Kept.execAoTripCompare (_j : Fin 16) (ok : Bool) (v : BitVec 10) : Answers s₀ (execAoTripCompare _j ok v s) :=
  .next (.ite (hs.tripLatch _ _ _) hs)

theorem Kept.threshAfter (old : State) : Kept s₀ (State.threshAfter old s) :=
  .ite hs (.ite ((Kept.ite hs.units hs).wr _ _).units (.ite hs.units hs))

theorem Kept.execThreshWrite (v : Word) : Answers s₀ (execThreshWrite v s) := .next (hs.hostWrite _ _ _ (fun _ hy => hy.threshAfter _))
theorem Kept.execThSave (v : Word) : Answers s₀ (execThSave v s) := .next (hs.hostWrite _ _ _ (fun _ hy => .ite (hy.saveBlock _) hy))

/-! The commands of the twin. -/

theorem Kept.execQuietExpiry (low : Bool) : Answers s₀ (execQuietExpiry low s) :=
  .next (.ite hs.units.roleSettle hs.units.roleSettle.claimBegin)

theorem Kept.execClaimCheck (ua : BitVec 16) (cause : Fin 5) : Answers s₀ (execClaimCheck ua cause s) := .next (hs.claimCheck _ _)
theorem Kept.execClaimBackoffExpiry : Answers s₀ (execClaimBackoffExpiry s) := .next (.ite hs.units hs)
theorem Kept.execOwnerContention (ua : BitVec 16) : Answers s₀ (execOwnerContention ua s) := .next (.ite ((hs.wr _ _).emit _ _ _ _ _ _) hs)
theorem Kept.execOwnershipRelease (cause : Fin 5) : Answers s₀ (execOwnershipRelease cause s) := .next (hs.ownRelease _)
theorem Kept.execBarredExpiry : Answers s₀ (execBarredExpiry s) := .next (.ite (hs.setRole _) hs)
theorem Kept.execTwinFrameTimer : Answers s₀ (execTwinFrameTimer s) := .next hs.frameOut
theorem Kept.execTwinFrameReceived (l : List Byte) (swept : Bool) : Answers s₀ (execTwinFrameReceived l swept s) := .next (hs.frameIn _ _)
theorem Kept.execOutOfStep : Answers s₀ (execOutOfStep s) := .next (.ite (hs.outOfStep _) hs.units)
theorem Kept.execTwHandover (v : Word) : Answers s₀ (execTwHandover v s) := .next (hs.twCtl _)
theorem Kept.execForceClaim (v : Word) : Answers s₀ (execForceClaim v s) := .next (hs.twCtl _)
theorem Kept.execHandoverReadyTimeout : Answers s₀ (execHandoverReadyTimeout s) := .next (.ite (hs.handRefuse _ _) hs)
theorem Kept.execTwinLinkLoss (low : Bool) : Answers s₀ (execTwinLinkLoss low s) := .next (hs.twinLost _ _)
theorem Kept.execTwinLinkTrained : Answers s₀ (execTwinLinkTrained s) := .next hs.twinUp
theorem Kept.execNetStuckLow : Answers s₀ (execNetStuckLow s) := .next (.ite ((hs.units.wr _ _).emit _ _ _ _ _ _) hs)
theorem Kept.execHaltedClaim : Answers s₀ (execHaltedClaim s) := .next (.ite (hs.units.haltEnd _).roleSettle.claimBegin hs)

/-! Host accesses to the register window by address. -/

omit hs in
theorem Answers.state {r : Res} (h : Answers s₀ r) (s : State) : Kept s₀ (r.state s) := by
  obtain ⟨t, rfl, ht⟩ := h
  exact ht

theorem Kept.handleWritten (a h : Nat) : Kept s₀ (s.handleWritten a h) := by
  unfold State.handleWritten
  extract_lets _ _ s1
  have hs1 : Kept s₀ s1 := .ite hs (((hs.wr _ _).wr _ _).glErr _ _)
  exact .ite hs (.ite hs1 ((hs1.wr _ _).glErr _ _))

theorem Kept.rvWritten : Kept s₀ s.rvWritten := .ite hs (.ite (hs.rvStart.rvClear _) hs.rvStart)

theorem Kept.portWritten (old : State) (p : Nat) : Kept s₀ (State.portWritten old s p) :=
  .ite (.ite hs.originate hs) (.ite ((Kept.ite (hs.setVp _ _) hs).txDisOut _) (((hs.draw 75).portDown _ _ _).txDisOut _))

theorem Kept.streamWritten (old : State) : Kept s₀ (State.streamWritten old s) := .ite hs (.ite hs.units.streamPump.flSettle hs.units)
theorem Kept.laneMapWritten (old : State) (w : Nat) : Kept s₀ (State.laneMapWritten old s w) := (hs.turnOff _).healthSince _

theorem Kept.pkgCfgWritten {old : State} (ho : Kept s₀ old) (a v : Nat) : Kept s₀ (State.pkgCfgWritten old s a v) := by
  unfold State.pkgCfgWritten
  split
  · exact ((ho.wr _ _).emit _ _ _ _ _ _).rsvdCheck _ _
  · exact hs

theorem Kept.grpWritten (old : State) (a g : Nat) : Kept s₀ (State.grpWritten old s a g) :=
  .ite (.ite hs.units hs) (.ite (.ite hs.units hs) ((((Kept.ite hs.units hs).wr _ _).wr _ _).glErr _ _))

/-- Every command that a write of its register by address is answers. -/
theorem Kept.writeRoutes : ∀ r ∈ writeRoutes, ∀ i v, Answers s₀ (r.2 i v s) := by
  rw [← List.forall_iff_forall_mem]
  exact ⟨
    fun _ _ => .next (hs.resetReq _), fun _ _ => hs.execPkgCmdGo _, fun _ _ => hs.execProfileSave _, fun _ _ => hs.execPhaseClr _,
    fun _ _ => hs.execClearFault _ _, fun _ _ => hs.execRetrain _, fun _ _ => hs.execProfileSaveSl _, fun _ _ => hs.execGradeReqWrite _ _,
    fun _ _ => hs.execPauseDutyChange _ _, fun _ _ => hs.execAdSave _, fun _ _ => .next (hs.axCtl _), fun _ _ => .next (hs.rvCtl _),
    fun _ _ => hs.execThreshWrite _, fun _ _ => hs.execThSave _, fun _ _ => .next (hs.bgCtl _), fun _ _ => hs.execPartCfgWrite _ _ _,
    fun _ _ => hs.execPartCfgWrite _ _ _, fun _ _ => hs.execQcfgWrite _ _, fun _ _ => .next (hs.ikCtl _), fun _ _ => hs.execBudgetWrite _,
    fun _ _ => hs.execRingDoorbell _ _, fun _ _ => .next (hs.ringCtl _ _), fun _ _ => hs.execRingCfgWrite _ _,
    fun _ _ => hs.execVecMaskWrite _ _, fun _ _ => hs.execCfSave _, fun _ _ => .next (hs.flCtl _ _), fun _ _ => hs.execFlInvGo _,
    fun _ _ => hs.execCtxWrite _ _ _, fun _ _ => hs.execCtxWrite _ _ _, fun _ _ => hs.execFlSave _, fun _ _ => hs.execTimeSetApply _,
    fun _ _ => hs.execVxSave _, fun _ _ => hs.execCeilInject _, fun _ _ => hs.execStaggerWrite _, fun _ _ => .next (hs.twCtl _),
    fun _ _ => hs.execLgCursorWrite _ _, fun _ _ => hs.execLgCursorWrite _ _, fun _ _ => .next (hs.lgCtl _),
    fun _ _ => hs.execLgRlWrite _ _ _, fun _ _ => hs.execLgRlWrite _ _ _, fun _ _ => hs.execLgRlWrite _ _ _,
    fun _ _ => .next (hs.seCtl _), fun _ _ => hs.execSlotActiveWrite _, fun _ _ => .next (hs.seChal _), fun _ _ => hs.execUpdGo _,
    fun _ _ => hs.execMboxGo _, fun _ _ => .next (hs.obCtl _), fun _ _ => hs.execObGrpWrite _ _ _, fun _ _ => hs.execObGrpWrite _ _ _,
    fun _ _ => hs.execObGrpWrite _ _ _, fun _ _ => hs.execObGrpWrite _ _ _, fun _ _ => .next (hs.obHaltWrite _)⟩

/-- What a write of a register does beyond its fields keeps the frame, from a state before it and a state after the fields. -/
theorem Kept.afterWrites {old : State} (ho : Kept s₀ old) : ∀ r ∈ afterWrites, ∀ a i v, Kept s₀ (r.2 a i v old s) := by
  rw [← List.forall_iff_forall_mem]
  refine ⟨
    fun _ _ _ => hs.handleWritten _ _, fun _ _ _ => hs.handleWritten _ _, fun _ _ _ => hs.handleWritten _ _,
    fun _ _ _ => hs.laneMapWritten _ _, fun _ _ _ => .ite (hs.minCheck _) hs, fun _ _ _ => hs.rvWritten, fun _ _ _ => hs.rvWritten,
    fun _ _ _ => hs.rvWritten, fun _ _ _ => hs.rvWritten, fun _ _ _ => hs.portWritten _ _, fun _ _ _ => hs.streamWritten _,
    fun _ _ _ => ?_, fun _ _ _ => hs.roleSettle, fun _ _ _ => .ite (hs.out _) hs,
    fun _ _ _ => hs.grpWritten _ _ _, fun _ _ _ => hs.grpWritten _ _ _, fun _ _ _ => hs.pkgCfgWritten ho _ _,
    fun _ _ _ => hs.pkgCfgWritten ho _ _, fun _ _ _ => hs.checkRelease _, fun _ _ _ => .ite hs (hs.wr _ _),
    fun _ _ _ => .ite hs.units hs, fun _ _ _ => hs.wr _ _, fun _ _ _ => hs.wr _ _, fun _ _ _ => hs.wr _ _, fun _ _ _ => hs.wr _ _,
    fun _ _ _ => hs.wr _ _⟩
  dsimp only
  exact hs.units.streamPump.flSettle

theorem Kept.hostWrite32 (a v : Nat) : Kept s₀ (s.hostWrite32 a v) := by
  unfold State.hostWrite32
  refine .ite hs (.ite ?_ ?_)
  · split
    · refine ((hs.serveIn _ _).snd_of_eq ‹_›).ikiva ?_
      exact fun w => ⟨writeBytes_wf w.1 _ _ _, w.2⟩
    · exact (hs.serveIn _ _).snd_of_eq ‹_›
  · split
    · exact hs.glErr _ _
    · split
      · exact (hs.writeRoutes _ (List.mem_of_find?_eq_some ‹_›) _ _).state _
      · split
        · exact (hs.serveIn _ _).snd_of_eq ‹_›
        · have h1 := (hs.serveIn _ _).snd_of_eq ‹_›
          refine .ite (h1.rsvdCheck _ _) ?_
          dsimp only
          split
          · exact (h1.writeFields _ _).afterWrites h1 _ (List.mem_of_find?_eq_some ‹_›) _ _ _
          · exact h1.writeFields _ _

theorem Kept.misaligned (a : Nat) : Kept s₀ (s.misaligned a) := .ite hs (hs.glErr _ _)

theorem Kept.hostWrite64 (a v : Nat) : Kept s₀ (s.hostWrite64 a v) :=
  have hboth : Kept s₀ ((s.hostWrite32 a (loWord v)).hostWrite32 (a + 4) (hiWord v)) := (hs.hostWrite32 _ _).hostWrite32 _ _
  .ite hboth (.ite ((hs.execLgCursorWrite _ _).state _) (.ite hboth (hs.misaligned _)))

theorem Kept.usedAt (was : State) (a : Nat) : Kept s₀ (s.usedAt was a) := .ite (hs.wr _ _) hs

theorem Kept.hostStore (a : Nat) (wide : Bool) (v : Nat) : Kept s₀ (s.hostStore a wide v) :=
  (Kept.ite (hs.misaligned _) (.ite (hs.hostWrite64 _ _) (hs.hostWrite32 _ _))).usedAt _ _

theorem Kept.reply (a v : Nat) : Kept s₀ (s.reply a v) := hs.out _

theorem Kept.pairRead (a : Nat) : Kept s₀ (s.pairRead a).2 := by
  unfold State.pairRead
  dsimp only
  refine .iteSnd hs.units (.iteSnd ?_ hs)
  split
  · exact hs.units
  · exact hs

theorem Kept.hostRead32 (a : Nat) : Kept s₀ (s.hostRead32 a) := by
  unfold State.hostRead32
  refine .ite hs (.ite ?_ ?_)
  · split
    · exact ((hs.serveIn _ _).snd_of_eq ‹_›).reply _ _
    · exact ((hs.serveIn _ _).snd_of_eq ‹_›).reply _ _
  · split
    · exact (hs.glErr _ _).reply _ _
    · refine .ite (hs.popRead _ _ _) ?_
      split
      · exact ((hs.serveIn _ _).snd_of_eq ‹_›).reply _ _
      · exact .ite (((hs.serveIn _ _).snd_of_eq ‹_›).reply _ _) ((((hs.serveIn _ _).snd_of_eq ‹_›).pairRead _).reply _ _)

theorem Kept.hostRead64 (a : Nat) : Kept s₀ (s.hostRead64 a) := by
  unfold State.hostRead64
  refine .ite hs (.ite ?_ ?_)
  · split
    · exact ((hs.serveIn _ _).snd_of_eq ‹_›).reply _ _
    · exact ((hs.serveIn _ _).snd_of_eq ‹_›).reply _ _
  · split
    · exact (hs.misaligned _).reply _ _
    · refine .ite (hs.popRead _ _ _) (.ite ((hs.misaligned _).reply _ _) ?_)
      split
      · exact ((hs.serveIn _ _).snd_of_eq ‹_›).reply _ _
      · exact ((hs.serveIn _ _).snd_of_eq ‹_›).reply _ _

theorem Kept.hostLoad (a : Nat) (wide : Bool) : Kept s₀ (s.hostLoad a wide) :=
  .ite (.ite hs ((hs.misaligned _).reply _ _)) (.ite (hs.hostRead64 _) (hs.hostRead32 _))

theorem Kept.execRegisterWrite (a : BitVec 26) (wide : Bool) (v : DWord) : Answers s₀ (execRegisterWrite a wide v s) :=
  .next (hs.hostStore _ _ _)

theorem Kept.execUnmappedRead (a : BitVec 26) : Answers s₀ (execUnmappedRead a s) := .next (hs.hostLoad _ _)
theorem Kept.execUnmappedWrite (a : BitVec 26) (v : Word) : Answers s₀ (execUnmappedWrite a v s) := .next (hs.hostStore _ _ _)

theorem Kept.execMisalignedAccess (a : BitVec 26) (sz : Fin 4) (write : Bool) (v : DWord) :
    Answers s₀ (execMisalignedAccess a sz write v s) :=
  .next (.ite (.ite (hs.misaligned _) (.ite hs ((hs.misaligned _).reply _ _))) (.ite (hs.hostStore _ _ _) (hs.hostLoad _ _)))

theorem Kept.execPairLowRead (a : BitVec 26) (wide : Bool) : Answers s₀ (execPairLowRead a wide s) := .next (hs.hostLoad _ _)
theorem Kept.execPairHighRead (a : BitVec 26) : Answers s₀ (execPairHighRead a s) := .next (hs.hostLoad _ _)

/-! The events of a tile endpoint and of a die port. -/

theorem Kept.execTileNeedsCurrent (t : Fin 16384) (cls : Byte) (lease : BitVec 12) (arrive : Bool) (grp : BitVec 12) (op : BitVec 16)
    (layer : BitVec 12) : Answers s₀ (execTileNeedsCurrent t cls lease arrive grp op layer s) :=
  .next (.ite (hs.ask _ _) hs)

theorem Kept.execTileRenew (t : Fin 16384) (cls : Byte) (lease : BitVec 12) : Answers s₀ (execTileRenew t cls lease s) :=
  .next (.ite (hs.ask _ _) hs)

theorem Kept.execTileNeedsLess (t : Fin 16384) (cls : Byte) : Answers s₀ (execTileNeedsLess t cls s) :=
  .next (.ite ((hs.setEndp _ _).upSend _ _) hs)

theorem Kept.execTileWithdraws (t : Fin 16384) : Answers s₀ (execTileWithdraws t s) := by
  unfold Machine.execTileWithdraws
  refine .next ?_
  split
  · exact .ite ((hs.setEndp _ _).upSend _ _) hs
  · exact hs

theorem Kept.execGrantReceived (t : Fin 16384) (m : Msg) : Answers s₀ (execGrantReceived t m s) := .next (hs.endIn _ _ _)
theorem Kept.execMgrantReceived (t : Fin 16384) (m : Msg) : Answers s₀ (execMgrantReceived t m s) := .next (hs.endIn _ _ _)
theorem Kept.execNakReceived (t : Fin 16384) (m : Msg) : Answers s₀ (execNakReceived t m s) := .next (hs.endIn _ _ _)
theorem Kept.execBudgetReceived (t : Fin 16384) (m : Msg) : Answers s₀ (execBudgetReceived t m s) := .next (hs.endIn _ _ _)
theorem Kept.execConfigReceived (t : Fin 16384) (m : Msg) : Answers s₀ (execConfigReceived t m s) := .next (hs.endIn _ _ _)
theorem Kept.execGroupReceived (t : Fin 16384) (m : Msg) : Answers s₀ (execGroupReceived t m s) := .next (hs.endIn _ _ _)
theorem Kept.execFstepReceived (t : Fin 16384) (m : Msg) : Answers s₀ (execFstepReceived t m s) := .next (hs.endIn _ _ _)
theorem Kept.execPauseReceived (t : Fin 16384) (m : Msg) : Answers s₀ (execPauseReceived t m s) := .next (hs.endIn _ _ _)
theorem Kept.execRefreshReceived (t : Fin 16384) (m : Msg) : Answers s₀ (execRefreshReceived t m s) := .next (hs.endIn _ _ _)
theorem Kept.execProbeReceived (t : Fin 16384) (m : Msg) : Answers s₀ (execProbeReceived t m s) := .next (hs.endIn _ _ _)
theorem Kept.execCloseReceived (t : Fin 16384) (m : Msg) : Answers s₀ (execCloseReceived t m s) := .next (hs.endIn _ _ _)
theorem Kept.execSyncReceived (n : Fin 16) (other : Bool) : Answers s₀ (execSyncReceived n other s) := .next (hs.syncIn _ _)
theorem Kept.execRampComplete (t : Fin 16384) : Answers s₀ (execRampComplete t s) := .next (.ite (hs.setEndp _ _) hs)
theorem Kept.execEndpointLeaseExpiry (t : Fin 16384) : Answers s₀ (execEndpointLeaseExpiry t s) := .next (.ite (hs.setEndp _ _) hs)

theorem Kept.execQfullBackoffExpiry (t : Fin 16384) (ty : Fin 8) : Answers s₀ (execQfullBackoffExpiry t s ty) :=
  .next (.ite ((hs.setEndp _ _).upSend _ _) hs)

theorem Kept.execHeldWaitExpiry (t : Fin 16384) : Answers s₀ (execHeldWaitExpiry t s) := .next (.ite (hs.setEndp _ _) hs)
theorem Kept.execOpenRetry (t : Fin 16384) : Answers s₀ (execOpenRetry t s) := .next (.ite (hs.upSend _ _) hs)

theorem Kept.execTempReport (t : Fin 16384) (j : Fin 4) (valid : Bool) (mdeg : Word) (change : Bool) :
    Answers s₀ (execTempReport t j valid mdeg change s) :=
  .next (.ite hs ((hs.setEndp _ _).upSend _ _))

theorem Kept.execDroopReport (t : Fin 16384) (count : Byte) (longest : BitVec 16) : Answers s₀ (execDroopReport t count longest s) :=
  .next (.ite ((hs.setEndp _ _).upSend _ _) hs)

theorem Kept.execClampAccept (n code : Fin 16) : Answers s₀ (execClampAccept n code s) := .next (hs.setPort _ _)
theorem Kept.execEndpointLinkLoss (n : Fin 16) (other : Bool) : Answers s₀ (execEndpointLinkLoss n other s) := .next (hs.portLoss _ _)

/-! The Ikiva instructions that act on a core's registers and memories only. -/

theorem Kept.execIkAdd (c : Fin 8) (rd rs1 rs2 : Fin 32) : Answers s₀ (execIkAdd c rd rs1 rs2 s) :=
  (hs.issueReg _ _ _ _ (fun k => bankOnly_setG k _ _)).ran _ _

theorem Kept.execIkSub (c : Fin 8) (rd rs1 rs2 : Fin 32) : Answers s₀ (execIkSub c rd rs1 rs2 s) :=
  (hs.issueReg _ _ _ _ (fun k => bankOnly_setG k _ _)).ran _ _

theorem Kept.execIkAnd (c : Fin 8) (rd rs1 rs2 : Fin 32) : Answers s₀ (execIkAnd c rd rs1 rs2 s) :=
  (hs.issueReg _ _ _ _ (fun k => bankOnly_setG k _ _)).ran _ _

theorem Kept.execIkOr (c : Fin 8) (rd rs1 rs2 : Fin 32) : Answers s₀ (execIkOr c rd rs1 rs2 s) :=
  (hs.issueReg _ _ _ _ (fun k => bankOnly_setG k _ _)).ran _ _

theorem Kept.execIkXor (c : Fin 8) (rd rs1 rs2 : Fin 32) : Answers s₀ (execIkXor c rd rs1 rs2 s) :=
  (hs.issueReg _ _ _ _ (fun k => bankOnly_setG k _ _)).ran _ _

theorem Kept.execIkSll (c : Fin 8) (rd rs1 rs2 : Fin 32) : Answers s₀ (execIkSll c rd rs1 rs2 s) :=
  (hs.issueReg _ _ _ _ (fun k => bankOnly_setG k _ _)).ran _ _

theorem Kept.execIkSrl (c : Fin 8) (rd rs1 rs2 : Fin 32) : Answers s₀ (execIkSrl c rd rs1 rs2 s) :=
  (hs.issueReg _ _ _ _ (fun k => bankOnly_setG k _ _)).ran _ _

theorem Kept.execIkSra (c : Fin 8) (rd rs1 rs2 : Fin 32) : Answers s₀ (execIkSra c rd rs1 rs2 s) :=
  (hs.issueReg _ _ _ _ (fun k => bankOnly_setG k _ _)).ran _ _

theorem Kept.execIkSlt (c : Fin 8) (rd rs1 rs2 : Fin 32) : Answers s₀ (execIkSlt c rd rs1 rs2 s) :=
  (hs.issueReg _ _ _ _ (fun k => bankOnly_setG k _ _)).ran _ _

theorem Kept.execIkSltu (c : Fin 8) (rd rs1 rs2 : Fin 32) : Answers s₀ (execIkSltu c rd rs1 rs2 s) :=
  (hs.issueReg _ _ _ _ (fun k => bankOnly_setG k _ _)).ran _ _

theorem Kept.execIkMin (c : Fin 8) (rd rs1 rs2 : Fin 32) : Answers s₀ (execIkMin c rd rs1 rs2 s) :=
  (hs.issueReg _ _ _ _ (fun k => bankOnly_setG k _ _)).ran _ _

theorem Kept.execIkMax (c : Fin 8) (rd rs1 rs2 : Fin 32) : Answers s₀ (execIkMax c rd rs1 rs2 s) :=
  (hs.issueReg _ _ _ _ (fun k => bankOnly_setG k _ _)).ran _ _

theorem Kept.execIkMinu (c : Fin 8) (rd rs1 rs2 : Fin 32) : Answers s₀ (execIkMinu c rd rs1 rs2 s) :=
  (hs.issueReg _ _ _ _ (fun k => bankOnly_setG k _ _)).ran _ _

theorem Kept.execIkMaxu (c : Fin 8) (rd rs1 rs2 : Fin 32) : Answers s₀ (execIkMaxu c rd rs1 rs2 s) :=
  (hs.issueReg _ _ _ _ (fun k => bankOnly_setG k _ _)).ran _ _

theorem Kept.execIkMul (c : Fin 8) (rd rs1 rs2 : Fin 32) : Answers s₀ (execIkMul c rd rs1 rs2 s) :=
  (hs.issueReg _ _ _ _ (fun k => bankOnly_setG k _ _)).ran _ _

theorem Kept.execIkMulh (c : Fin 8) (rd rs1 rs2 : Fin 32) : Answers s₀ (execIkMulh c rd rs1 rs2 s) :=
  (hs.issueReg _ _ _ _ (fun k => bankOnly_setG k _ _)).ran _ _

theorem Kept.execIkMulhu (c : Fin 8) (rd rs1 rs2 : Fin 32) : Answers s₀ (execIkMulhu c rd rs1 rs2 s) :=
  (hs.issueReg _ _ _ _ (fun k => bankOnly_setG k _ _)).ran _ _

theorem Kept.execIkDiv (c : Fin 8) (rd rs1 rs2 : Fin 32) : Answers s₀ (execIkDiv c rd rs1 rs2 s) :=
  (hs.issueReg _ _ _ _ (fun k => bankOnly_setG k _ _)).ran _ _

theorem Kept.execIkDivu (c : Fin 8) (rd rs1 rs2 : Fin 32) : Answers s₀ (execIkDivu c rd rs1 rs2 s) :=
  (hs.issueReg _ _ _ _ (fun k => bankOnly_setG k _ _)).ran _ _

theorem Kept.execIkRem (c : Fin 8) (rd rs1 rs2 : Fin 32) : Answers s₀ (execIkRem c rd rs1 rs2 s) :=
  (hs.issueReg _ _ _ _ (fun k => bankOnly_setG k _ _)).ran _ _

theorem Kept.execIkRemu (c : Fin 8) (rd rs1 rs2 : Fin 32) : Answers s₀ (execIkRemu c rd rs1 rs2 s) :=
  (hs.issueReg _ _ _ _ (fun k => bankOnly_setG k _ _)).ran _ _

theorem Kept.execIkCmp (c : Fin 8) (rs1 rs2 : Fin 32) : Answers s₀ (execIkCmp c rs1 rs2 s) :=
  (hs.issueReg _ _ _ _ (fun k => bankOnly_setFlags k _)).ran _ _

theorem Kept.execIkClz (c : Fin 8) (rd rs1 : Fin 32) : Answers s₀ (execIkClz c rd rs1 s) :=
  (hs.issueReg _ _ _ _ (fun k => bankOnly_setG k _ _)).ran _ _

theorem Kept.execIkPopc (c : Fin 8) (rd rs1 : Fin 32) : Answers s₀ (execIkPopc c rd rs1 s) :=
  (hs.issueReg _ _ _ _ (fun k => bankOnly_setG k _ _)).ran _ _

theorem Kept.execIkAddi (c : Fin 8) (rd rs1 : Fin 32) (imm : BitVec 15) : Answers s₀ (execIkAddi c rd rs1 imm s) :=
  (hs.issueReg _ _ _ _ (fun k => bankOnly_setG k _ _)).ran _ _

theorem Kept.execIkAndi (c : Fin 8) (rd rs1 : Fin 32) (imm : BitVec 15) : Answers s₀ (execIkAndi c rd rs1 imm s) :=
  (hs.issueReg _ _ _ _ (fun k => bankOnly_setG k _ _)).ran _ _

theorem Kept.execIkOri (c : Fin 8) (rd rs1 : Fin 32) (imm : BitVec 15) : Answers s₀ (execIkOri c rd rs1 imm s) :=
  (hs.issueReg _ _ _ _ (fun k => bankOnly_setG k _ _)).ran _ _

theorem Kept.execIkXori (c : Fin 8) (rd rs1 : Fin 32) (imm : BitVec 15) : Answers s₀ (execIkXori c rd rs1 imm s) :=
  (hs.issueReg _ _ _ _ (fun k => bankOnly_setG k _ _)).ran _ _

theorem Kept.execIkShi (c : Fin 8) (rd rs1 : Fin 32) (sel : Fin 4) (amt : Fin 64) : Answers s₀ (execIkShi c rd rs1 sel amt s) :=
  (hs.issueReg _ _ _ _ (fun k => bankOnly_setG k _ _)).ran _ _

theorem Kept.execIkSlti (c : Fin 8) (rd rs1 : Fin 32) (imm : BitVec 15) : Answers s₀ (execIkSlti c rd rs1 imm s) :=
  (hs.issueReg _ _ _ _ (fun k => bankOnly_setG k _ _)).ran _ _

theorem Kept.execIkSltiu (c : Fin 8) (rd rs1 : Fin 32) (imm : BitVec 15) : Answers s₀ (execIkSltiu c rd rs1 imm s) :=
  (hs.issueReg _ _ _ _ (fun k => bankOnly_setG k _ _)).ran _ _

theorem Kept.execIkCmpi (c : Fin 8) (rs1 : Fin 32) (imm : BitVec 15) : Answers s₀ (execIkCmpi c rs1 imm s) :=
  (hs.issueReg _ _ _ _ (fun k => bankOnly_setFlags k _)).ran _ _

theorem Kept.execIkLitl (c : Fin 8) (rd : Fin 32) (lit : Word) : Answers s₀ (execIkLitl c rd lit s) :=
  (hs.issue _ _ _ _ _ (fun _ hy => hy.setBank _ (bankOnly_setG _ _ _))).ran _ _

theorem Kept.execIkLith (c : Fin 8) (rd : Fin 32) (lit : Word) : Answers s₀ (execIkLith c rd lit s) :=
  (hs.issue _ _ _ _ _ (fun _ hy => hy.setBank _ (bankOnly_setG _ _ _))).ran _ _

theorem Kept.execIkLb (c : Fin 8) (rt rb : Fin 32) (off : BitVec 15) : Answers s₀ (execIkLb c rt rb off s) := (hs.load _ _ _ _ _ _).ran _ _
theorem Kept.execIkLbu (c : Fin 8) (rt rb : Fin 32) (off : BitVec 15) : Answers s₀ (execIkLbu c rt rb off s) := (hs.load _ _ _ _ _ _).ran _ _
theorem Kept.execIkLh (c : Fin 8) (rt rb : Fin 32) (off : BitVec 15) : Answers s₀ (execIkLh c rt rb off s) := (hs.load _ _ _ _ _ _).ran _ _
theorem Kept.execIkLhu (c : Fin 8) (rt rb : Fin 32) (off : BitVec 15) : Answers s₀ (execIkLhu c rt rb off s) := (hs.load _ _ _ _ _ _).ran _ _
theorem Kept.execIkLw (c : Fin 8) (rt rb : Fin 32) (off : BitVec 15) : Answers s₀ (execIkLw c rt rb off s) := (hs.load _ _ _ _ _ _).ran _ _
theorem Kept.execIkLwu (c : Fin 8) (rt rb : Fin 32) (off : BitVec 15) : Answers s₀ (execIkLwu c rt rb off s) := (hs.load _ _ _ _ _ _).ran _ _
theorem Kept.execIkLd (c : Fin 8) (rt rb : Fin 32) (off : BitVec 15) : Answers s₀ (execIkLd c rt rb off s) := (hs.load _ _ _ _ _ _).ran _ _
theorem Kept.execIkSb (c : Fin 8) (rt rb : Fin 32) (off : BitVec 15) : Answers s₀ (execIkSb c rt rb off s) := (hs.store _ _ _ _ _).ran _ _
theorem Kept.execIkSh (c : Fin 8) (rt rb : Fin 32) (off : BitVec 15) : Answers s₀ (execIkSh c rt rb off s) := (hs.store _ _ _ _ _).ran _ _
theorem Kept.execIkSw (c : Fin 8) (rt rb : Fin 32) (off : BitVec 15) : Answers s₀ (execIkSw c rt rb off s) := (hs.store _ _ _ _ _).ran _ _
theorem Kept.execIkSd (c : Fin 8) (rt rb : Fin 32) (off : BitVec 15) : Answers s₀ (execIkSd c rt rb off s) := (hs.store _ _ _ _ _).ran _ _
theorem Kept.execIkAclr (c ad : Fin 8) : Answers s₀ (execIkAclr c ad s) := (hs.issueReg _ _ _ _ (fun k => bankOnly_setAcc k _ _)).ran _ _

theorem Kept.execIkAld (c ad : Fin 8) (rs1 : Fin 32) : Answers s₀ (execIkAld c ad rs1 s) :=
  (hs.issueReg _ _ _ _ (fun k => bankOnly_setAcc k _ _)).ran _ _

theorem Kept.execIkAldi (c ad : Fin 8) (rs1 : Fin 32) : Answers s₀ (execIkAldi c ad rs1 s) :=
  (hs.issueReg _ _ _ _ (fun k => bankOnly_setAcc k _ _)).ran _ _

theorem Kept.execIkAldr (c ad : Fin 8) (rs1 rs2 : Fin 32) : Answers s₀ (execIkAldr c ad rs1 rs2 s) :=
  (hs.issueReg _ _ _ _ (fun k => bankOnly_setAcc k _ _)).ran _ _

theorem Kept.execIkAadd (c ad asr : Fin 8) : Answers s₀ (execIkAadd c ad asr s) :=
  (hs.issueReg _ _ _ _ (fun k => bankOnly_sat _ (bankOnly_setAcc k _ _))).ran _ _

theorem Kept.execIkAsub (c ad asr : Fin 8) : Answers s₀ (execIkAsub c ad asr s) :=
  (hs.issueReg _ _ _ _ (fun k => bankOnly_sat _ (bankOnly_setAcc k _ _))).ran _ _

theorem Kept.execIkAmov (c ad asr : Fin 8) : Answers s₀ (execIkAmov c ad asr s) :=
  (hs.issueReg _ _ _ _ (fun k => bankOnly_setAcc k _ _)).ran _ _

theorem Kept.execIkMulq (c ad : Fin 8) (rs1 rs2 : Fin 32) : Answers s₀ (execIkMulq c ad rs1 rs2 s) :=
  (hs.issueReg _ _ _ _ (fun k => bankOnly_setAcc k _ _)).ran _ _

theorem Kept.execIkMacq (c ad : Fin 8) (rs1 rs2 : Fin 32) : Answers s₀ (execIkMacq c ad rs1 rs2 s) :=
  (hs.issueReg _ _ _ _ (fun k => bankOnly_sat _ (bankOnly_setAcc k _ _))).ran _ _

theorem Kept.execIkMsuq (c ad : Fin 8) (rs1 rs2 : Fin 32) : Answers s₀ (execIkMsuq c ad rs1 rs2 s) :=
  (hs.issueReg _ _ _ _ (fun k => bankOnly_sat _ (bankOnly_setAcc k _ _))).ran _ _

theorem Kept.execIkAshr (c ad : Fin 8) (k : Fin 32) : Answers s₀ (execIkAshr c ad k s) :=
  (hs.issueReg _ _ _ _ (fun k => bankOnly_setAcc k _ _)).ran _ _

theorem Kept.execIkAshl (c ad : Fin 8) (k : Fin 32) : Answers s₀ (execIkAshl c ad k s) :=
  (hs.issueReg _ _ _ _ (fun k => bankOnly_sat _ (bankOnly_setAcc k _ _))).ran _ _

theorem Kept.execIkArd (c asr : Fin 8) (rd : Fin 32) : Answers s₀ (execIkArd c asr rd s) :=
  (hs.issueReg _ _ _ _ (fun k => bankOnly_sat _ (bankOnly_setG k _ _))).ran _ _

theorem Kept.execIkArdl (c asr : Fin 8) (rd : Fin 32) : Answers s₀ (execIkArdl c asr rd s) :=
  (hs.issueReg _ _ _ _ (fun k => bankOnly_setG k _ _)).ran _ _

theorem Kept.execIkArdh (c asr : Fin 8) (rd : Fin 32) : Answers s₀ (execIkArdh c asr rd s) :=
  (hs.issueReg _ _ _ _ (fun k => bankOnly_setG k _ _)).ran _ _

theorem Kept.execIkBeq (c : Fin 8) (ra rb : Fin 32) (off : BitVec 15) : Answers s₀ (execIkBeq c ra rb off s) :=
  (hs.jump _ _ _ _ bankOnly_refl).ran _ _

theorem Kept.execIkBne (c : Fin 8) (ra rb : Fin 32) (off : BitVec 15) : Answers s₀ (execIkBne c ra rb off s) :=
  (hs.jump _ _ _ _ bankOnly_refl).ran _ _

theorem Kept.execIkBlt (c : Fin 8) (ra rb : Fin 32) (off : BitVec 15) : Answers s₀ (execIkBlt c ra rb off s) :=
  (hs.jump _ _ _ _ bankOnly_refl).ran _ _

theorem Kept.execIkBge (c : Fin 8) (ra rb : Fin 32) (off : BitVec 15) : Answers s₀ (execIkBge c ra rb off s) :=
  (hs.jump _ _ _ _ bankOnly_refl).ran _ _

theorem Kept.execIkBltu (c : Fin 8) (ra rb : Fin 32) (off : BitVec 15) : Answers s₀ (execIkBltu c ra rb off s) :=
  (hs.jump _ _ _ _ bankOnly_refl).ran _ _

theorem Kept.execIkBgeu (c : Fin 8) (ra rb : Fin 32) (off : BitVec 15) : Answers s₀ (execIkBgeu c ra rb off s) :=
  (hs.jump _ _ _ _ bankOnly_refl).ran _ _

theorem Kept.execIkJal (c : Fin 8) (ra : Fin 32) (off : BitVec 15) : Answers s₀ (execIkJal c ra off s) :=
  (hs.jump _ _ _ _ (fun k => bankOnly_setG k _ _)).ran _ _

theorem Kept.execIkJalr (c : Fin 8) (rd rs1 : Fin 32) (imm : BitVec 15) : Answers s₀ (execIkJalr c rd rs1 imm s) :=
  (hs.jump _ _ _ _ (fun k => bankOnly_setG k _ _)).ran _ _

theorem Kept.execIkNop (c : Fin 8) : Answers s₀ (execIkNop c s) := (hs.issueReg _ _ _ _ bankOnly_refl).ran _ _

theorem Kept.execIkMfs (c : Fin 8) (rd n : Fin 32) : Answers s₀ (execIkMfs c rd n s) :=
  (hs.issueReg _ _ _ _ (fun k => bankOnly_setG k _ _)).ran _ _

theorem Kept.execIkMts (c : Fin 8) (n rs1 : Fin 32) : Answers s₀ (execIkMts c n rs1 s) := by
  unfold Machine.execIkMts
  refine (hs.issueReg _ _ _ _ (fun k => ?_)).ran _ _
  split
  · exact bankOnly_qsel _ _
  · split
    · exact bankOnly_setFlags _ _
    · exact bankOnly_refl _

theorem Kept.execIkMfm (c : Fin 8) (rd k : Fin 32) : Answers s₀ (execIkMfm c rd k s) :=
  (hs.issueReg _ _ _ _ (fun k => bankOnly_setG k _ _)).ran _ _

theorem Kept.execIkQsel (c : Fin 8) (set : Fin 4) : Answers s₀ (execIkQsel c set s) :=
  (hs.issueReg _ _ _ _ (fun k => bankOnly_qsel k _)).ran _ _

end Sys2Proof.Machine
end

section
namespace Sys2Proof.Machine
open Sys2Proof
set_option Elab.async false
variable {α β : Type} {s₀ s : State} (hs : Kept s₀ s)
include hs

/-! The idle step. -/

theorem Kept.idleTick : Kept s₀ (idleTick s) := hs.units.vxDrain

end Sys2Proof.Machine
end

section
/-! No command stops the block or touches its queue, and every step keeps the byte memories canonical: from the frame of every
command. -/

namespace Sys2Proof.Machine
open Sys2Proof
set_option Elab.async false

/-- Every command answers a state with the same queue, with canonical byte memories where they were. -/
theorem Kept.exec {s₀ s : State} (hs : Kept s₀ s) : ∀ c, Answers s₀ (exec c s)
  | .registerWrite _ _ _ => hs.execRegisterWrite _ _ _
  | .unmappedRead _ => hs.execUnmappedRead _
  | .unmappedWrite _ _ => hs.execUnmappedWrite _ _
  | .misalignedAccess _ _ _ _ => hs.execMisalignedAccess _ _ _ _
  | .pairLowRead _ _ => hs.execPairLowRead _ _
  | .pairHighRead _ => hs.execPairHighRead _
  | .coldStart _ _ => hs.execColdStart _ _
  | .aoResetRelease => hs.execAoResetRelease
  | .aoBootStepsDone _ => hs.execAoBootStepsDone _
  | .resetRelease => hs.execResetRelease
  | .powerOff => hs.execPowerOff
  | .rstNLow _ => hs.execRstNLow _
  | .supplyOutOfWindow _ => hs.execSupplyOutOfWindow _
  | .supplyRestored => hs.execSupplyRestored
  | .vdd33AoLow => hs.execVdd33AoLow
  | .vdd33AoBelow2v9 => hs.execVdd33AoBelow2v9
  | .vdd33AoHigh => hs.execVdd33AoHigh
  | .refclkLoss => hs.execRefclkLoss
  | .vxrefLoss => hs.execVxrefLoss
  | .xt32Loss => hs.execXt32Loss
  | .externalTrip _ => hs.execExternalTrip _
  | .pfailNLow => hs.execPfailNLow
  | .shedInChange _ => hs.execShedInChange _
  | .droopNPulse _ => hs.execDroopNPulse _
  | .psfltAssert _ => hs.execPsfltAssert _
  | .islandHung _ => hs.execIslandHung _
  | .crossingUnanswered _ _ => hs.execCrossingUnanswered _ _
  | .resetReqWr _ => hs.execResetReqWr _
  | .resetReqIr _ => hs.execResetReqIr _
  | .resetReqHr _ => hs.execResetReqHr _
  | .resetReqFr _ => hs.execResetReqFr _
  | .resetReqDr _ => hs.execResetReqDr _
  | .cancelWr _ => hs.execCancelWr _
  | .hostTunnelDown => hs.execHostTunnelDown
  | .trstNLow => hs.execTrstNLow
  | .deferredWrProceed => hs.execDeferredWrProceed
  | .wrWaitEnd => hs.execWrWaitEnd
  | .energyCheckpoint => hs.execEnergyCheckpoint
  | .pkgCmdGo _ => hs.execPkgCmdGo _
  | .pkgTransitionDone => hs.execPkgTransitionDone
  | .pkgTransitionTimeout => hs.execPkgTransitionTimeout
  | .wakeTimerExpiry => hs.execWakeTimerExpiry
  | .saveComplete _ => hs.execSaveComplete _
  | .profileLoadDone _ => hs.execProfileLoadDone _
  | .profileSave _ => hs.execProfileSave _
  | .phaseClr _ => hs.execPhaseClr _
  | .clearFault _ _ => hs.execClearFault _ _
  | .switchingCycle _ _ _ _ => hs.execSwitchingCycle _ _ _ _
  | .phaseAdd _ _ => hs.execPhaseAdd _ _
  | .phaseShed _ _ => hs.execPhaseShed _ _
  | .phaseImbalance _ _ => hs.execPhaseImbalance _ _
  | .railCurrentLimit _ _ => hs.execRailCurrentLimit _ _
  | .railPowerGood _ _ => hs.execRailPowerGood _ _
  | .ssTimeout _ => hs.execSsTimeout _
  | .burstEntry _ _ => hs.execBurstEntry _ _
  | .burstPulse _ _ => hs.execBurstPulse _ _
  | .burstExit _ _ _ _ => hs.execBurstExit _ _ _ _
  | .floodgateStrobe _ => hs.execFloodgateStrobe _
  | .floodgateHoldEnd _ _ => hs.execFloodgateHoldEnd _ _
  | .deadTimeChange _ _ => hs.execDeadTimeChange _ _
  | .pmbusPollRound _ _ _ => hs.execPmbusPollRound _ _ _
  | .avsWrite _ => hs.execAvsWrite _
  | .vsnSenseFault _ _ => hs.execVsnSenseFault _ _
  | .railUndervoltage _ _ => hs.execRailUndervoltage _ _
  | .railOvervoltage _ _ => hs.execRailOvervoltage _ _
  | .ovDischargeDone _ _ => hs.execOvDischargeDone _ _
  | .railGrossOvercurrent _ _ => hs.execRailGrossOvercurrent _ _
  | .groupLocationDone _ _ _ => hs.execGroupLocationDone _ _ _
  | .phaseSenseFault _ _ => hs.execPhaseSenseFault _ _
  | .pmbusSegmentStuck _ _ => hs.execPmbusSegmentStuck _ _
  | .linkTrainAttemptFail _ => hs.execLinkTrainAttemptFail _
  | .linkRetry _ => hs.execLinkRetry _
  | .linkActive _ _ _ => hs.execLinkActive _ _ _
  | .retrain _ => hs.execRetrain _
  | .flitReceived _ _ _ => hs.execFlitReceived _ _ _
  | .linkLoss _ _ => hs.execLinkLoss _ _
  | .linkLossReturn _ => hs.execLinkLossReturn _
  | .intentReceived _ _ => hs.execIntentReceived _ _
  | .releaseReceived _ _ => hs.execReleaseReceived _ _
  | .openReceived _ _ => hs.execOpenReceived _ _
  | .stateReceived _ _ => hs.execStateReceived _ _
  | .tempReceived _ _ => hs.execTempReceived _ _
  | .droopReceived _ _ => hs.execDroopReceived _ _
  | .probereplyReceived _ _ => hs.execProbereplyReceived _ _
  | .probeTimeout _ => hs.execProbeTimeout _
  | .reservationReturn _ => hs.execReservationReturn _
  | .budgetRepeat _ => hs.execBudgetRepeat _
  | .tileNeedsCurrent _ _ _ _ _ _ _ => hs.execTileNeedsCurrent _ _ _ _ _ _ _
  | .tileRenew _ _ _ => hs.execTileRenew _ _ _
  | .tileNeedsLess _ _ => hs.execTileNeedsLess _ _
  | .tileWithdraws _ => hs.execTileWithdraws _
  | .grantReceived _ _ => hs.execGrantReceived _ _
  | .mgrantReceived _ _ => hs.execMgrantReceived _ _
  | .nakReceived _ _ => hs.execNakReceived _ _
  | .budgetReceived _ _ => hs.execBudgetReceived _ _
  | .configReceived _ _ => hs.execConfigReceived _ _
  | .groupReceived _ _ => hs.execGroupReceived _ _
  | .fstepReceived _ _ => hs.execFstepReceived _ _
  | .pauseReceived _ _ => hs.execPauseReceived _ _
  | .refreshReceived _ _ => hs.execRefreshReceived _ _
  | .probeReceived _ _ => hs.execProbeReceived _ _
  | .closeReceived _ _ => hs.execCloseReceived _ _
  | .syncReceived _ _ => hs.execSyncReceived _ _
  | .rampComplete _ => hs.execRampComplete _
  | .endpointLeaseExpiry _ => hs.execEndpointLeaseExpiry _
  | .qfullBackoffExpiry _ _ => hs.execQfullBackoffExpiry _ _
  | .heldWaitExpiry _ => hs.execHeldWaitExpiry _
  | .openRetry _ => hs.execOpenRetry _
  | .tempReport _ _ _ _ _ => hs.execTempReport _ _ _ _ _
  | .droopReport _ _ _ => hs.execDroopReport _ _ _
  | .clampAccept _ _ => hs.execClampAccept _ _
  | .endpointLinkLoss _ _ => hs.execEndpointLinkLoss _ _
  | .waveStart _ => hs.execWaveStart _
  | .barrierTimeout _ => hs.execBarrierTimeout _
  | .predictTick _ => hs.execPredictTick _
  | .preboostStart _ _ => hs.execPreboostStart _ _
  | .preboostMaxhold _ _ => hs.execPreboostMaxhold _ _
  | .gradeReqWrite _ _ => hs.execGradeReqWrite _ _
  | .gradeSettled _ => hs.execGradeSettled _
  | .gradeDownFall _ => hs.execGradeDownFall _
  | .gradeSettleTimeout _ => hs.execGradeSettleTimeout _
  | .limitStep _ => hs.execLimitStep _
  | .pauseDutyChange _ _ => hs.execPauseDutyChange _ _
  | .floodgateDetect _ _ => hs.execFloodgateDetect _ _
  | .strobeWithdraw _ _ => hs.execStrobeWithdraw _ _
  | .floodgateRearm _ => hs.execFloodgateRearm _
  | .freezeEnd _ => hs.execFreezeEnd _
  | .axRun _ => hs.execAxRun _
  | .axStop _ => hs.execAxStop _
  | .axClear _ => hs.execAxClear _
  | .axRestart _ => hs.execAxRestart _
  | .auxReady _ => hs.execAuxReady _
  | .auxAdmitTick => hs.execAuxAdmitTick
  | .auxGood _ _ _ => hs.execAuxGood _ _ _
  | .auxSsTimeout _ _ => hs.execAuxSsTimeout _ _
  | .auxFast _ _ => hs.execAuxFast _ _
  | .auxOverload _ _ => hs.execAuxOverload _ _
  | .auxUv _ _ _ => hs.execAuxUv _ _ _
  | .auxSense _ _ _ => hs.execAuxSense _ _ _
  | .groupWarn _ _ => hs.execGroupWarn _ _
  | .sagBegin _ _ _ => hs.execSagBegin _ _ _
  | .sagEnd _ _ => hs.execSagEnd _ _
  | .sagMaxExpiry _ => hs.execSagMaxExpiry _
  | .reverseOffStep _ _ => hs.execReverseOffStep _ _
  | .resTick _ _ _ _ _ => hs.execResTick _ _ _ _ _
  | .bleedStart => hs.execBleedStart
  | .bleedOff => hs.execBleedOff
  | .readingA _ _ _ => hs.execReadingA _ _ _
  | .probeOn => hs.execProbeOn
  | .readingB _ _ => hs.execReadingB _ _
  | .stackOvercurrent _ => hs.execStackOvercurrent _
  | .cthSample _ => hs.execCthSample _
  | .causeClearTimer _ => hs.execCauseClearTimer _
  | .newModule _ => hs.execNewModule _
  | .recheck _ => hs.execRecheck _
  | .rvSave _ => hs.execRvSave _
  | .checkDone => hs.execCheckDone
  | .prechargeDone => hs.execPrechargeDone
  | .prechargeTimeout => hs.execPrechargeTimeout
  | .esrSample _ _ => hs.execEsrSample _ _
  | .esrUnmeasured => hs.execEsrUnmeasured
  | .enduranceCheckpoint => hs.execEnduranceCheckpoint
  | .shedFlag => hs.execShedFlag
  | .zoneTick => hs.execZoneTick
  | .sensorReading _ _ _ _ => hs.execSensorReading _ _ _ _
  | .readingSilent _ _ => hs.execReadingSilent _ _
  | .readingStuck _ _ => hs.execReadingStuck _ _
  | .readingRestored _ _ => hs.execReadingRestored _ _
  | .dieUnpinned _ => hs.execDieUnpinned _
  | .stepTick => hs.execStepTick
  | .orderlyStopRecompute => hs.execOrderlyStopRecompute
  | .drainEnd => hs.execDrainEnd
  | .flushEnd => hs.execFlushEnd
  | .grade0Reached => hs.execGrade0Reached
  | .aoTripCompare j _ _ => hs.execAoTripCompare j _ _
  | .threshWrite _ => hs.execThreshWrite _
  | .thSave _ => hs.execThSave _
  | .allocation => hs.execAllocation
  | .budgetDutyTick => hs.execBudgetDutyTick
  | .estimateTick => hs.execEstimateTick
  | .estClear _ => hs.execEstClear _
  | .bgSave _ => hs.execBgSave _
  | .partCfgWrite _ _ _ => hs.execPartCfgWrite _ _ _
  | .heldAskExpiry _ => hs.execHeldAskExpiry _
  | .rgaTimeout => hs.execRgaTimeout
  | .qcfgWrite _ _ => hs.execQcfgWrite _ _
  | .mePopRead _ _ => hs.execMePopRead _ _
  | .mePop64Read _ _ => hs.execMePop64Read _ _
  | .collectTimeout _ => hs.execCollectTimeout _
  | .collectRetry _ => hs.execCollectRetry _
  | .normalDispatch _ => hs.execNormalDispatch _
  | .urgentDispatch _ => hs.execUrgentDispatch _
  | .budgetOverrun _ => hs.execBudgetOverrun _
  | .coreException _ _ => hs.execCoreException _ _
  | .coreRestart _ => hs.execCoreRestart _
  | .ikStop _ => hs.execIkStop _
  | .ikRestart _ => hs.execIkRestart _
  | .ikSave _ => hs.execIkSave _
  | .budgetWrite _ => hs.execBudgetWrite _
  | .imageLoad => hs.execImageLoad
  | .ikAdd _ _ _ _ => hs.execIkAdd _ _ _ _
  | .ikSub _ _ _ _ => hs.execIkSub _ _ _ _
  | .ikAnd _ _ _ _ => hs.execIkAnd _ _ _ _
  | .ikOr _ _ _ _ => hs.execIkOr _ _ _ _
  | .ikXor _ _ _ _ => hs.execIkXor _ _ _ _
  | .ikSll _ _ _ _ => hs.execIkSll _ _ _ _
  | .ikSrl _ _ _ _ => hs.execIkSrl _ _ _ _
  | .ikSra _ _ _ _ => hs.execIkSra _ _ _ _
  | .ikSlt _ _ _ _ => hs.execIkSlt _ _ _ _
  | .ikSltu _ _ _ _ => hs.execIkSltu _ _ _ _
  | .ikMin _ _ _ _ => hs.execIkMin _ _ _ _
  | .ikMax _ _ _ _ => hs.execIkMax _ _ _ _
  | .ikMinu _ _ _ _ => hs.execIkMinu _ _ _ _
  | .ikMaxu _ _ _ _ => hs.execIkMaxu _ _ _ _
  | .ikMul _ _ _ _ => hs.execIkMul _ _ _ _
  | .ikMulh _ _ _ _ => hs.execIkMulh _ _ _ _
  | .ikMulhu _ _ _ _ => hs.execIkMulhu _ _ _ _
  | .ikDiv _ _ _ _ => hs.execIkDiv _ _ _ _
  | .ikDivu _ _ _ _ => hs.execIkDivu _ _ _ _
  | .ikRem _ _ _ _ => hs.execIkRem _ _ _ _
  | .ikRemu _ _ _ _ => hs.execIkRemu _ _ _ _
  | .ikCmp _ _ _ => hs.execIkCmp _ _ _
  | .ikClz _ _ _ => hs.execIkClz _ _ _
  | .ikPopc _ _ _ => hs.execIkPopc _ _ _
  | .ikAddi _ _ _ _ => hs.execIkAddi _ _ _ _
  | .ikAndi _ _ _ _ => hs.execIkAndi _ _ _ _
  | .ikOri _ _ _ _ => hs.execIkOri _ _ _ _
  | .ikXori _ _ _ _ => hs.execIkXori _ _ _ _
  | .ikShi _ _ _ _ _ => hs.execIkShi _ _ _ _ _
  | .ikSlti _ _ _ _ => hs.execIkSlti _ _ _ _
  | .ikSltiu _ _ _ _ => hs.execIkSltiu _ _ _ _
  | .ikCmpi _ _ _ => hs.execIkCmpi _ _ _
  | .ikLitl _ _ _ => hs.execIkLitl _ _ _
  | .ikLith _ _ _ => hs.execIkLith _ _ _
  | .ikLb _ _ _ _ => hs.execIkLb _ _ _ _
  | .ikLbu _ _ _ _ => hs.execIkLbu _ _ _ _
  | .ikLh _ _ _ _ => hs.execIkLh _ _ _ _
  | .ikLhu _ _ _ _ => hs.execIkLhu _ _ _ _
  | .ikLw _ _ _ _ => hs.execIkLw _ _ _ _
  | .ikLwu _ _ _ _ => hs.execIkLwu _ _ _ _
  | .ikLd _ _ _ _ => hs.execIkLd _ _ _ _
  | .ikSb _ _ _ _ => hs.execIkSb _ _ _ _
  | .ikSh _ _ _ _ => hs.execIkSh _ _ _ _
  | .ikSw _ _ _ _ => hs.execIkSw _ _ _ _
  | .ikSd _ _ _ _ => hs.execIkSd _ _ _ _
  | .ikAclr _ _ => hs.execIkAclr _ _
  | .ikAld _ _ _ => hs.execIkAld _ _ _
  | .ikAldi _ _ _ => hs.execIkAldi _ _ _
  | .ikAldr _ _ _ _ => hs.execIkAldr _ _ _ _
  | .ikAadd _ _ _ => hs.execIkAadd _ _ _
  | .ikAsub _ _ _ => hs.execIkAsub _ _ _
  | .ikAmov _ _ _ => hs.execIkAmov _ _ _
  | .ikMulq _ _ _ _ => hs.execIkMulq _ _ _ _
  | .ikMacq _ _ _ _ => hs.execIkMacq _ _ _ _
  | .ikMsuq _ _ _ _ => hs.execIkMsuq _ _ _ _
  | .ikAshr _ _ _ => hs.execIkAshr _ _ _
  | .ikAshl _ _ _ => hs.execIkAshl _ _ _
  | .ikArd _ _ _ => hs.execIkArd _ _ _
  | .ikArdl _ _ _ => hs.execIkArdl _ _ _
  | .ikArdh _ _ _ => hs.execIkArdh _ _ _
  | .ikBeq _ _ _ _ => hs.execIkBeq _ _ _ _
  | .ikBne _ _ _ _ => hs.execIkBne _ _ _ _
  | .ikBlt _ _ _ _ => hs.execIkBlt _ _ _ _
  | .ikBge _ _ _ _ => hs.execIkBge _ _ _ _
  | .ikBltu _ _ _ _ => hs.execIkBltu _ _ _ _
  | .ikBgeu _ _ _ _ => hs.execIkBgeu _ _ _ _
  | .ikJal _ _ _ => hs.execIkJal _ _ _
  | .ikJalr _ _ _ _ => hs.execIkJalr _ _ _ _
  | .ikNop _ => hs.execIkNop _
  | .ikRte _ => hs.execIkRte _
  | .ikMfs _ _ _ => hs.execIkMfs _ _ _
  | .ikMts _ _ _ => hs.execIkMts _ _ _
  | .ikMfm _ _ _ => hs.execIkMfm _ _ _
  | .ikSend _ _ _ _ _ => hs.execIkSend _ _ _ _ _
  | .ikRecv _ _ _ => hs.execIkRecv _ _ _
  | .ikWaitq _ _ => hs.execIkWaitq _ _
  | .waitqComplete _ _ => hs.execWaitqComplete _ _
  | .ikQsel _ _ => hs.execIkQsel _ _
  | .ikChopen _ _ _ => hs.execIkChopen _ _ _
  | .ikChclose _ _ _ => hs.execIkChclose _ _ _
  | .ikGrade _ _ _ _ => hs.execIkGrade _ _ _ _
  | .ikAdmit _ _ _ _ => hs.execIkAdmit _ _ _ _
  | .ikBarx _ _ _ _ => hs.execIkBarx _ _ _ _
  | .ikPause _ _ _ _ => hs.execIkPause _ _ _ _
  | .ikPgrade _ _ _ _ => hs.execIkPgrade _ _ _ _
  | .ikRlim _ _ _ _ => hs.execIkRlim _ _ _ _
  | .ikLogev _ _ _ _ => hs.execIkLogev _ _ _ _
  | .ikDrd _ _ _ _ => hs.execIkDrd _ _ _ _
  | .ikPstate _ _ _ => hs.execIkPstate _ _ _
  | .ringDoorbell _ _ => hs.execRingDoorbell _ _
  | .ringTurn => hs.execRingTurn
  | .descriptorFetched _ _ _ => hs.execDescriptorFetched _ _ _
  | .bufferFetched _ _ _ => hs.execBufferFetched _ _ _
  | .setcap => hs.execSetcap
  | .setfloor => hs.execSetfloor
  | .loadtbl => hs.execLoadtbl
  | .tablePublish _ => hs.execTablePublish _
  | .runpol => hs.execRunpol
  | .profile => hs.execProfile
  | .signal => hs.execSignal
  | .fence => hs.execFence
  | .chain => hs.execChain
  | .launchRetry => hs.execLaunchRetry
  | .launchTimeout _ _ => hs.execLaunchTimeout _ _
  | .ringAbort _ _ => hs.execRingAbort _ _
  | .ringResume _ _ => hs.execRingResume _ _
  | .ringCfgWrite _ _ => hs.execRingCfgWrite _ _
  | .vecMaskWrite _ _ => hs.execVecMaskWrite _ _
  | .cfSave _ => hs.execCfSave _
  | .flStart _ _ => hs.execFlStart _ _
  | .flResume _ _ => hs.execFlResume _ _
  | .flAbort _ _ => hs.execFlAbort _ _
  | .granuleArrived _ _ _ _ => hs.execGranuleArrived _ _ _ _
  | .walkReadDone _ _ _ => hs.execWalkReadDone _ _ _
  | .upstreamReadTimeout _ _ => hs.execUpstreamReadTimeout _ _
  | .holdExpiry _ => hs.execHoldExpiry _
  | .flInvGo _ => hs.execFlInvGo _
  | .invComplete => hs.execInvComplete
  | .ctxWrite _ _ _ => hs.execCtxWrite _ _ _
  | .flSave _ => hs.execFlSave _
  | .portUp _ _ => hs.execPortUp _ _
  | .portDown _ _ => hs.execPortDown _ _
  | .autonegRestart _ => hs.execAutonegRestart _
  | .helloTimer => hs.execHelloTimer
  | .helloReceived _ _ => hs.execHelloReceived _ _
  | .neighbourDead _ => hs.execNeighbourDead _
  | .treqTimer => hs.execTreqTimer
  | .treqReceived _ _ => hs.execTreqReceived _ _
  | .trspReceived _ _ => hs.execTrspReceived _ _
  | .holdover => hs.execHoldover
  | .lsaReceived _ _ => hs.execLsaReceived _ _
  | .lsaRefresh => hs.execLsaRefresh
  | .lsaAgeOut _ => hs.execLsaAgeOut _
  | .addressClaim => hs.execAddressClaim
  | .routeRecompute => hs.execRouteRecompute
  | .summaryTimer => hs.execSummaryTimer
  | .summaryReceived _ _ => hs.execSummaryReceived _ _
  | .summaryExpiry _ => hs.execSummaryExpiry _
  | .dgramReceived _ _ => hs.execDgramReceived _ _
  | .dgnakReceived _ _ => hs.execDgnakReceived _ _
  | .ppsEdge => hs.execPpsEdge
  | .ppsLost => hs.execPpsLost
  | .timeSetApply _ => hs.execTimeSetApply _
  | .vxSave _ => hs.execVxSave _
  | .ceilInject _ => hs.execCeilInject _
  | .ceilingReceived _ _ => hs.execCeilingReceived _ _
  | .reportSlot => hs.execReportSlot
  | .reportReceived _ _ => hs.execReportReceived _ _
  | .rootCompute => hs.execRootCompute
  | .allotReceived _ _ => hs.execAllotReceived _ _
  | .childMissing _ _ => hs.execChildMissing _ _
  | .childDrop _ => hs.execChildDrop _
  | .orphanTimeout => hs.execOrphanTimeout
  | .shedRefresh => hs.execShedRefresh
  | .shedReceived _ _ => hs.execShedReceived _ _
  | .shedCopy1 => hs.execShedCopy1
  | .shedExpiry => hs.execShedExpiry
  | .twinShareCopy _ _ _ _ => hs.execTwinShareCopy _ _ _ _
  | .staggerWrite _ => hs.execStaggerWrite _
  | .quietExpiry _ => hs.execQuietExpiry _
  | .claimCheck _ _ => hs.execClaimCheck _ _
  | .claimBackoffExpiry => hs.execClaimBackoffExpiry
  | .ownerContention _ => hs.execOwnerContention _
  | .ownershipRelease _ => hs.execOwnershipRelease _
  | .barredExpiry => hs.execBarredExpiry
  | .twinFrameTimer => hs.execTwinFrameTimer
  | .twinFrameReceived _ _ => hs.execTwinFrameReceived _ _
  | .outOfStep => hs.execOutOfStep
  | .twHandover _ => hs.execTwHandover _
  | .forceClaim _ => hs.execForceClaim _
  | .handoverReadyTimeout => hs.execHandoverReadyTimeout
  | .twinLinkLoss _ => hs.execTwinLinkLoss _
  | .recordArrival => hs.execRecordArrival
  | .tokenRefill _ => hs.execTokenRefill _
  | .summarySecond => hs.execSummarySecond
  | .ledgerFlushStart => hs.execLedgerFlushStart
  | .dataPassDone => hs.execDataPassDone
  | .readbackDone _ => hs.execReadbackDone _
  | .markPassDone => hs.execMarkPassDone
  | .eraseDone _ _ _ _ => hs.execEraseDone _ _ _ _
  | .ledgerScanDone _ => hs.execLedgerScanDone _
  | .lgCursorWrite _ _ => hs.execLgCursorWrite _ _
  | .windowFillDone => hs.execWindowFillDone
  | .lgClear _ => hs.execLgClear _
  | .lgFlush _ => hs.execLgFlush _
  | .lgSave _ => hs.execLgSave _
  | .streamVecTimer => hs.execStreamVecTimer
  | .lgRlWrite _ _ _ => hs.execLgRlWrite _ _ _
  | .seCommit _ => hs.execSeCommit _
  | .seVerify _ => hs.execSeVerify _
  | .seRelock _ => hs.execSeRelock _
  | .slotActiveWrite _ => hs.execSlotActiveWrite _
  | .chalRequest _ => hs.execChalRequest _
  | .chalSubmit _ => hs.execChalSubmit _
  | .chalCancel _ => hs.execChalCancel _
  | .chalTimeout => hs.execChalTimeout
  | .updGo _ => hs.execUpdGo _
  | .updProgramDone _ => hs.execUpdProgramDone _
  | .mboxGo _ => hs.execMboxGo _
  | .mboxResponse => hs.execMboxResponse
  | .provWindowClose => hs.execProvWindowClose
  | .obEnable _ => hs.execObEnable _
  | .obDisable _ => hs.execObDisable _
  | .obClear _ => hs.execObClear _
  | .obUnfreeze _ => hs.execObUnfreeze _
  | .obArm _ => hs.execObArm _
  | .obFire _ => hs.execObFire _
  | .trigInEdge => hs.execTrigInEdge
  | .obGrpWrite _ _ _ => hs.execObGrpWrite _ _ _
  | .obHalt _ => hs.execObHalt _
  | .jtagHalt => hs.execJtagHalt
  | .obRelease _ => hs.execObRelease _
  | .jtagRelease => hs.execJtagRelease
  | .haltMaxExpiry => hs.execHaltMaxExpiry
  | .haltedClaim => hs.execHaltedClaim
  | .haltOrphan => hs.execHaltOrphan
  | .exportTick => hs.execExportTick
  | .intakeFullReport _ => hs.execIntakeFullReport _
  | .autoRunStart => hs.execAutoRunStart
  | .waitMaxExpiry => hs.execWaitMaxExpiry
  | .suppliesLate _ => hs.execSuppliesLate _
  | .profileSaveSl _ => hs.execProfileSaveSl _
  | .adSave _ => hs.execAdSave _
  | .hostTunnelUp _ _ => hs.execHostTunnelUp _ _
  | .refclkReturn => hs.execRefclkReturn
  | .vxrefReturn => hs.execVxrefReturn
  | .xt32Return => hs.execXt32Return
  | .twinLinkTrained => hs.execTwinLinkTrained
  | .pfailNHigh => hs.execPfailNHigh
  | .netStuckLow => hs.execNetStuckLow
  | .commitDone _ _ => hs.execCommitDone _ _
  | .verifyDone => hs.execVerifyDone
  | .responseCheckDone _ => hs.execResponseCheckDone _
  | .ppsOutSecond => hs.execPpsOutSecond
  | .retireWaitEnd _ => hs.execRetireWaitEnd _
  | .crossingRetry => hs.execCrossingRetry

/-- A step takes the command at the front, and keeps canonical byte memories canonical. -/
theorem step_keeps (s : State) :
    ∃ t, step s = .next t ∧ t.pending = s.pending.tail ∧ (CanonicalBytes s → CanonicalBytes t) := by
  cases h : s.pending with
  | nil =>
    obtain ⟨hp, hw⟩ := (Kept.refl s).idleTick
    exact ⟨_, step_nil h, by rw [hp, h]; rfl, hw⟩
  | cons c rest =>
    obtain ⟨t, he, hp, hw⟩ := (Kept.refl (s.withPending rest)).exec c
    exact ⟨t, (step_cons h).trans he, hp, hw⟩

/-- Settles O57: from the frame of every command. -/
theorem noCommandStopsTheBlock : Obligations.NoCommandStopsTheBlock := by
  unfold Obligations.NoCommandStopsTheBlock
  constructor
  · intro c s
    obtain ⟨t, he, hp, -⟩ := (Kept.refl s).exec c
    exact ⟨t, he, hp⟩
  · intro s
    obtain ⟨t, hs, hp, -⟩ := step_keeps s
    exact ⟨t, hs, hp⟩

/-- Settles O58: from the frame of every command. -/
theorem byteMemoriesStayCanonical : Obligations.ByteMemoriesStayCanonical := by
  unfold Obligations.ByteMemoriesStayCanonical
  intro s t hst
  obtain ⟨t', hs, -, hw⟩ := step_keeps s
  cases hst.symm.trans hs
  exact hw

end Sys2Proof.Machine
end

section
/-! Writes of command registers: what a keyed one does (R8), and the bits of its command. -/

namespace Sys2Proof.Machine
open Sys2Proof
set_option Elab.async false

theorem keyedWrite_keyed {s : State} {a isl v : Nat} (ha : holderOf a = some isl) (h : Reaches s isl) (hk : keyOk v = true)
    (act : State → State) : s.keyedWrite a v act = act (s.writeFields a v) :=
  keyedWrite_served ha h ((keyOk_iff v).mp hk) act

/-- The bits of a field are those of the number that it reads. -/
theorem bitOf_of_bitsOf {v hi lo n : Nat} (h : bitsOf v hi lo = n) {i : Nat} (h1 : lo ≤ i) (h2 : i ≤ hi) : bitOf v i = bitOf n (i - lo) := by
  rw [← h, bitOf_bitsOf v (by omega), Nat.add_sub_cancel' h1]

end Sys2Proof.Machine
end

section
/-! The twin: claims, release, frames, handover, splits and the halted claim. -/

namespace Sys2Proof.Machine
open Sys2Proof
set_option Elab.async false

theorem twCtl_holder : holderOf Reg.TW_CTL = some 6 := by decide +kernel

/-! Claims (R704 to R712). -/

/-- A claim's check below 1.0 mA, before what the eighth adds. -/
def State.claimFailed (s : State) (ua : Nat) : State :=
  (({ s with tw.claim := if s.tw.attempts + 1 = 8 then 3 else 2, tw.attempts := s.tw.attempts + 1 } : State).wr Reg.TW_FELL_CONTENTION 1).emit
    7 0xC013 ua (s.tw.attempts + 1) 0

theorem claimCheck_low {s : State} {ua : Nat} (hc : s.tw.claim = 1) (hu : ua < 1000) (cause : Nat) : s.claimCheck ua cause =
    if s.tw.attempts + 1 = 8 then ((s.claimFailed ua).wr Reg.TW_FELL_INTERLOCK 1).emit 7 0xC016 1 else s.claimFailed ua :=
  (if_neg (not_not.mpr hc)).trans (if_pos hu)

theorem claimFailed_contention (s : State) (ua : Nat) : (s.claimFailed ua).rf Reg.TW_FELL_CONTENTION = 1 :=
  State.rf_wr_self _ Reg.TW_FELL_CONTENTION 1

theorem claimCheck_high {s : State} {ua : Nat} (hc : s.tw.claim = 1) (hu : 1000 ≤ ua) (hsup : s.suppliesOk = true) (hel : s.eligible = true)
    (cause : Nat) : s.claimCheck ua cause = s.ownGain s.tw.sawLow cause (s.tQuiet + 40) :=
  (if_neg (not_not.mpr hc)).trans ((if_neg (Nat.not_lt.mpr hu)).trans (if_neg (by rw [hsup, hel]; decide)))

theorem roleSettle_eligible {s : State} (hr : s.tw.role = 2) (he : s.eligible = true) : s.roleSettle = s := by
  simp [State.roleSettle, hr, he]

theorem claimBegin_ready {s : State} (hr : s.tw.role = 2) (he : s.eligible = true) (hc : s.tw.claim = 0) :
    s.claimBegin = { s with tw.claim := 1, edge.ownPinLow := true } :=
  if_pos ⟨hr, he, hc⟩

/-- A die that does not own after the quiet time: the net is released, and whether it read low is noted. -/
def State.quieted (s : State) (low : Bool) : State := { s with tw.sawLow := s.tw.sawLow || low, edge.ownPinLow := false }

theorem execQuietExpiry_waiting {s : State} (low : Bool) (hr : s.tw.role ≠ 3) : execQuietExpiry low s =
    .next (if (s.quieted low).roleSettle.ob.halted then (s.quieted low).roleSettle else (s.quieted low).roleSettle.claimBegin) := by
  simp only [execQuietExpiry, if_neg hr]
  rfl

theorem quietExpiry_claims {s : State} (low : Bool) (hr : s.tw.role = 2) (he : s.eligible = true) (hc : s.tw.claim = 0)
    (hh : s.ob.halted = false) :
    exec (.quietExpiry low) s = .next { s with tw.sawLow := s.tw.sawLow || low, tw.claim := 1, edge.ownPinLow := true } := by
  have hsettle : (s.quieted low).roleSettle = s.quieted low := roleSettle_eligible hr he
  refine (execQuietExpiry_waiting low (by omega)).trans (congrArg Host.Outcome.next ?_)
  rw [hsettle]
  exact (if_neg (by rw [State.quieted, hh]; decide)).trans (claimBegin_ready hr he hc)

/-- A role other than the one held is taken, with 0xC001. -/
theorem setRole_ne {s : State} {r : Nat} (h : s.tw.role ≠ r) :
    s.setRole r = ({ s with tw.role := r } : State).emit 7 0xC001 s.tw.role r (b01 s.edge.roleSel) :=
  if_neg h

/-! Frames (R716 to R722). -/

theorem length_leBytes (n v : Nat) : (leBytes n v).length = n := by
  induction n generalizing v with
  | zero => rfl
  | succ n ih => exact congrArg (· + 1) (ih _)

theorem length_twFrame (n v : Nat) : (twFrame n v).length = n + 4 := by
  rw [twFrame, List.length_append, length_leBytes, length_leBytes]

theorem frameOut_other {s : State} (hr : s.twnRuns = true) (h3 : s.tw.role ≠ 3) : ∃ l, l.length = 28 ∧ s.frameOut =
    { (({ s with tw.seq := (s.tw.seq + 1) % 2 ^ 32 } : State).draw 71).2.out (.twin 2 l) with
      tw.readyDue := false, tw.marked := [], tw.srecs := [] } :=
  ⟨_, length_twFrame 24 _, (if_neg (by rw [hr]; decide)).trans (if_neg h3)⟩

theorem frameOut_active {s : State} (hr : s.twnRuns = true) (h3 : s.tw.role = 3) :
    s.frameOut = ({ s with tw.seq := (s.tw.seq + 1) % 2 ^ 32 } : State).mirrorFrame :=
  (if_neg (by rw [hr]; decide)).trans (if_pos h3)

/-! Handover and the host's claim (R723 to R725). -/

theorem handRequest_free {s : State} (h3 : s.tw.role = 3) (h0 : s.tw.handover = 0) (hb : s.handBad = none) (src : Nat) :
    s.handRequest src = { s with tw.handover := 1, tw.handSrc := src } := by
  simp [State.handRequest, h3, h0, hb]

theorem handRequest_bad {s : State} (h3 : s.tw.role = 3) (h0 : s.tw.handover = 0) {r : Nat} (hb : s.handBad = some r) (src : Nat) :
    s.handRequest src = s.handRefuse r src := by
  simp [State.handRequest, h3, h0, hb]

theorem handBad_fields {s t : State} (h : FieldsOnly s t) : t.handBad = s.handBad := by
  obtain ⟨_, _, rfl⟩ := h
  rfl

/-- A keyed write of TW_CTL asks for a handover with bit 0 alone, and ends the interlock with bit 1 alone. -/
theorem twCtl_handover {s : State} {v : Nat} (h : Reaches s 6) (hk : keyOk v = true) (hv : bitsOf v 1 0 = 1) :
    s.twCtl v = (s.writeFields Reg.TW_CTL v).handRequest 0 := by
  have h0 : bitOf v 0 = true := bitOf_of_bitsOf hv (by decide) (by decide)
  have h1 : bitOf v 1 = false := bitOf_of_bitsOf hv (by decide) (by decide)
  simp [State.twCtl, keyedWrite_keyed twCtl_holder h hk, h0, h1]

theorem twCtl_force {s : State} {v : Nat} (h : Reaches s 6) (hk : keyOk v = true) (hv : bitsOf v 1 0 = 2) :
    s.twCtl v = { s.writeFields Reg.TW_CTL v with tw.attempts := 0, tw.claim := if s.tw.claim = 3 then 0 else s.tw.claim } := by
  have h0 : bitOf v 0 = false := bitOf_of_bitsOf hv (by decide) (by decide)
  have h1 : bitOf v 1 = true := bitOf_of_bitsOf hv (by decide) (by decide)
  obtain ⟨_, _, hw⟩ := fieldsOnly_writeFields s Reg.TW_CTL v
  simp [State.twCtl, keyedWrite_keyed twCtl_holder h hk, h0, h1, hw]

/-! Loss and training of the Twin Link (R712, R722). -/

/-- The die that waits loses the Twin Link with the net low: split, with 0xC014. -/
theorem twinLost_split {s : State} (hl : s.tw.linkUp = true) (h3 : s.tw.role ≠ 3) (hi : s.tw.inStep = false) (cause : Nat) :
    s.twinLost true cause = (({ s with
      tw.linkUp := false, tw.swept := false, tw.frames := 0, tw.peerFlags := 0, tw.readyDue := false, tw.stimAt := none, tw.good := 0
      tw.split := true, tw.splitAt := s.now, edge.ownPinLow := true } : State).wr Reg.TW_FELL_SPLIT 1).emit 6 0xC014 := by
  simp [State.twinLost, hl, h3, hi]

/-- The Twin Link of a die that waits trains: a split ends, with 0xC015. -/
theorem twinUp_waiting {s : State} (hr : s.inReset 6 = false) (hh : s.ob.halted = false) (hl : s.tw.linkUp = false) (h3 : s.tw.role ≠ 3) :
    let t : State := { s with tw.linkUp := true, tw.upAt := s.now, tw.good := 0, tw.frames := 0, tw.swept := false }
    s.twinUp = if s.tw.split then ({ t with tw.split := false } : State).emit 6 0xC015 ((s.now - s.tw.splitAt) / msec) else t := by
  cases hsp : s.tw.split <;> simp [State.twinUp, hr, hh, hl, h3, hsp]

/-- Settles O51: each clause by what its command does under the clause's conditions. -/
theorem twinCommandsComplete : Obligations.TwinCommandsComplete := by
  intro s v ua k
  refine ⟨fun low hr he hc hh => quietExpiry_claims low hr he hc hh, fun hc => ⟨fun hu h8 => ?low, fun hu h8 => ?eighth,
    fun hu hsup hel => congrArg Host.Outcome.next (claimCheck_high hc hu hsup hel _)⟩, fun hc => congrArg Host.Outcome.next (if_pos hc),
    fun hr hu => ⟨_, congrArg Host.Outcome.next (if_pos ⟨hr, hu⟩), rfl, State.rf_wr_self s Reg.TW_FELL_CONTENTION 1, rfl⟩,
    fun _ => rfl, fun hr => ⟨_, congrArg Host.Outcome.next (if_pos hr), ?barred⟩,
    fun hr => ⟨fun h3 => congrArg Host.Outcome.next (frameOut_active hr h3),
      fun h3 => ?status, fun l swept => ⟨fun hg => congrArg Host.Outcome.next ?good, fun hb => congrArg Host.Outcome.next ?bad⟩⟩,
    fun h3 hi => ⟨_, congrArg Host.Outcome.next (if_pos ⟨h3, hi⟩), rfl, rfl, rfl, State.rf_wr_self _ Reg.TW_FELL_LINK_LOST 1, rfl⟩,
    fun h hk => ⟨fun hv h3 h0 => ?handover, fun hv => congrArg Host.Outcome.next (twCtl_force h hk hv)⟩,
    fun h1 => ⟨_, congrArg Host.Outcome.next (if_pos h1), rfl, rfl, State.rf_wr_self _ Reg.TW_FELL_HANDOVER_REFUSED 1, rfl⟩,
    fun hl h3 hi => ⟨_, congrArg Host.Outcome.next (twinLost_split hl h3 hi 0), rfl, rfl, rfl, State.rf_wr_self _ Reg.TW_FELL_SPLIT 1, rfl⟩,
    fun hr hh hl h3 => ⟨_, congrArg Host.Outcome.next (twinUp_waiting hr hh hl h3), ?trained⟩,
    fun h3 he => ⟨_, congrArg Host.Outcome.next (if_pos ⟨h3, he⟩), rfl, State.rf_wr_self _ Reg.TW_FELL_INTERLOCK 1, rfl, rfl⟩,
    fun hh h3 he => congrArg Host.Outcome.next (if_pos (by simp [hh, h3, he]))⟩
  case low =>
    exact ⟨_, congrArg Host.Outcome.next ((claimCheck_low hc hu _).trans (if_neg h8)), if_neg h8, rfl, rfl, claimFailed_contention s _, rfl⟩
  case eighth =>
    refine ⟨_, congrArg Host.Outcome.next ((claimCheck_low hc hu _).trans (if_pos h8)), if_pos h8, h8, rfl, ?_,
      State.rf_wr_self _ Reg.TW_FELL_INTERLOCK 1, ?_⟩
    · exact (State.rf_wr_ne (s.claimFailed ua.toNat) (f := Reg.TW_FELL_INTERLOCK) 1 (by decide)).trans (claimFailed_contention s _)
    · have hn : p32 (s.tw.attempts + 1) = 8 := by rw [h8]; rfl
      change (s.raised ++ [⟨7, 0xC013, none, p32 ua.toNat, p32 (s.tw.attempts + 1), 0, 0, 8⟩]) ++ _ = _
      rw [hn, List.append_assoc]
      rfl
  case barred =>
    rw [setRole_ne (by split <;> omega)]
    exact ⟨rfl, rfl, rfl⟩
  case status =>
    obtain ⟨l, hl, he⟩ := frameOut_other hr h3
    exact ⟨_, congrArg Host.Outcome.next he, rfl, rfl, rfl, l, hl, rfl⟩
  case good => exact (if_neg (by rw [hr]; decide)).trans (if_pos hg)
  case bad => exact (if_neg (by rw [hr]; decide)).trans (if_neg hb)
  case handover =>
    have hfld := fieldsOnly_writeFields s Reg.TW_CTL v.toNat
    have hbad : (s.writeFields Reg.TW_CTL v.toNat).handBad = s.handBad := handBad_fields hfld
    obtain ⟨_, _, hw⟩ := hfld
    have h3' : (s.writeFields Reg.TW_CTL v.toNat).tw.role = 3 := by rw [hw]; exact h3
    have h0' : (s.writeFields Reg.TW_CTL v.toNat).tw.handover = 0 := by rw [hw]; exact h0
    exact ⟨fun hn => congrArg Host.Outcome.next ((twCtl_handover h hk hv).trans (handRequest_free h3' h0' (hbad.trans hn) 0)),
      fun r hr => congrArg Host.Outcome.next ((twCtl_handover h hk hv).trans (handRequest_bad h3' h0' (hbad.trans hr) 0))⟩
  case trained =>
    cases hsp : s.tw.split with
    | true => exact ⟨rfl, rfl, rfl, rfl, rfl⟩
    | false => exact ⟨rfl, hsp, rfl, rfl, rfl⟩

end Sys2Proof.Machine
end

section
/-! The commands of the Ledger. -/

namespace Sys2Proof.Machine
open Sys2Proof
set_option Elab.async false

theorem lgCtl_holder : holderOf Reg.LG_CTL = some 7 := by decide +kernel

theorem lgRl0_holder (i : Fin 1025) (hi : i.val ≠ 1024) : holderOf (Reg.LG_RL0 i) = some 7 :=
  holderOf_row (by decide) (by decide +kernel) (by decide +kernel) (show i.val < 1024 by omega) (by omega)

theorem lgCursorHi_holder : holderOf Reg.LG_CURSOR_HI = some 5 := by decide +kernel

/-- A keyed write of LG_CTL: a flush, a clear and a save, each by its bit. -/
theorem lgCtl_keyed {s : State} {v n : Nat} (h : Reaches s 7) (hk : keyOk v = true) (hv : bitsOf v 3 1 = n) : s.lgCtl v =
    (let a := if bitOf n 0 then (s.writeFields Reg.LG_CTL v).flushGo else s.writeFields Reg.LG_CTL v
     let b := if bitOf n 1 then a.clearAsk else a
     if bitOf n 2 then b.saveBlock 10 else b) := by
  have h1 : bitOf v 1 = bitOf n 0 := bitOf_of_bitsOf hv (by decide) (by decide)
  have h2 : bitOf v 2 = bitOf n 1 := bitOf_of_bitsOf hv (by decide) (by decide)
  have h3 : bitOf v 3 = bitOf n 2 := bitOf_of_bitsOf hv (by decide) (by decide)
  rw [State.lgCtl, keyedWrite_keyed lgCtl_holder h hk, h1, h2, h3]

theorem satU_satU (w n : Nat) : satU w (satU w n) = satU w n :=
  if_pos (satU_lt w n)

theorem emit_unless (s : State) (c : Prop) [Decidable c] (src code p0 p1 p2 p3 : Nat) : (if c then s else s.emit src code p0 p1 p2 p3) =
    { s with raised := s.raised ++ if c then [] else [⟨src, code, none, p32 p0, p32 p1, p32 p2, p32 p3, 8⟩] } := by
  split
  · rw [List.append_nil]
  · rfl

theorem markDone_plain {s : State} (hc : s.lg.clear = 0) :
    s.markDone = if s.writeMarks.lg.tail then s.writeMarks.tailGo else s.writeMarks.flushGo := by
  simp [State.markDone, hc]

/-- Settles O53: each clause by what its command does under the clause's conditions. -/
theorem ledgerCommandsComplete : Obligations.LedgerCommandsComplete := by
  intro s v
  refine ⟨fun hr => congrArg Host.Outcome.next ?arrival, fun _ => rfl,
    ⟨_, congrArg Host.Outcome.next ((emit_unless _ _ _ _ _ _ _ _).trans (by rw [emit_unless])), ?summary⟩, rfl, fun hp => ?data,
    fun hp => ⟨congrArg Host.Outcome.next (if_pos hp), congrArg Host.Outcome.next (if_pos hp)⟩,
    fun hp hc _ => congrArg Host.Outcome.next ((if_pos hp).trans (markDone_plain hc)), fun _ _ _ _ => rfl,
    fun _ hs => congrArg Host.Outcome.next (if_pos hs), fun h => ⟨fun hk => ⟨fun hv => congrArg Host.Outcome.next ?flush,
      fun hv => congrArg Host.Outcome.next ?clear, fun hv => congrArg Host.Outcome.next ?save⟩, fun i hi => ?rl⟩,
    fun h d => congrArg Host.Outcome.next (hostWrite_served lgCursorHi_holder h _ _),
    fun hf hr => ⟨_, congrArg Host.Outcome.next (if_neg ?fill), ?filled⟩,
    fun hs => congrArg Host.Outcome.next (if_pos hs), fun hs => ⟨_, rfl, rfl, rfl, rfl, ?ckpt, rfl, rfl⟩, ⟨_, rfl, rfl, rfl, rfl⟩⟩
  case arrival => simp [State.arrive1, hr]
  case summary =>
    refine ⟨rfl, rfl, rfl, rfl, rfl, s.lg.supp.foldl (fun (b : Nat × Nat) e => if b.2 < e.2 then e else b) (0, 0), ?_⟩
    have hn : p32 (satU 32 (s.lg.supp.map (·.2)).sum) = p32 (s.lg.supp.map (·.2)).sum := satU_satU 32 _
    rw [hn]
    rfl
  case data =>
    change execDataPassDone s = _
    simp only [execDataPassDone, if_pos hp]
  case flush => simp [lgCtl_keyed h hk hv, bitOf]
  case clear => simp [lgCtl_keyed h hk hv, bitOf]
  case save => simp [lgCtl_keyed h hk hv, bitOf]
  case rl =>
    refine ⟨_, congrArg Host.Outcome.next ((if_neg hi).trans (hostWrite_served (lgRl0_holder i hi) h _ _)), rfl, ?_⟩
    obtain ⟨_, _, hw⟩ := fieldsOnly_writeFields s (Reg.LG_RL0 i) v.toNat
    rw [hw]
    rfl
  case fill => simp [hf, hr]
  case filled =>
    refine ⟨rfl, ?_, rfl, rfl⟩
    rw [State.rf_wr_ne _ _ (by decide)]
    exact State.rf_wr_self _ Reg.LG_WIN_STAT_READY 1
  case ckpt => exact if_neg (by rw [hs]; decide)

end Sys2Proof.Machine
end

section
/-! The commands of the security unit. -/

namespace Sys2Proof.Machine
open Sys2Proof
set_option Elab.async false

theorem seCtl_holder : holderOf Reg.SE_CTL = some 5 := by decide +kernel
theorem seSlot_holder : holderOf Reg.SE_SLOT = some 5 := by decide +kernel
theorem seChalCtl_holder : holderOf Reg.SE_CHAL_CTL = some 5 := by decide +kernel
theorem seUpdCtl_holder : holderOf Reg.SE_UPD_CTL = some 5 := by decide +kernel
theorem seMboxCtl_holder : holderOf Reg.SE_MBOX_CTL = some 5 := by decide +kernel

/-! What a host's write leaves of the security unit, and of the flash. -/

/-- A host's write of a register leaves the security unit, but for what the provisioning window notes. -/
theorem FieldsOnly.security {s t : State} (h : FieldsOnly s t) : ∃ keys, t.se = { s.se with provKeys := keys } := by
  obtain ⟨_, keys, rfl⟩ := h
  exact ⟨keys, rfl⟩

theorem FieldsOnly.flash {s t : State} (h : FieldsOnly s t) : t.flash = s.flash := by
  obtain ⟨_, _, rfl⟩ := h
  rfl

theorem rsvdCheck_flash (s : State) (ga v : Nat) : (s.rsvdCheck ga v).flash = s.flash := by
  unfold State.rsvdCheck
  split
  · rfl
  · exact (fieldsOnly_glErrs s s ga _).flash

/-- A vector raised leaves every field that is not bit 1 of its register. -/
theorem rf_raiseVec (s : State) (v : Nat) {f : Fld} (h : f.lo < 32) (h1 : 1 ≠ f.lo) : (s.raiseVec v).rf f = s.rf f := by
  unfold State.raiseVec
  split
  · rfl
  · split
    · exact State.rf_wr_ne _ _ (key_ne_of_lo_ne (by decide : 1 < 32) h h1)
    · rfl

theorem raiseVec_se (s : State) (v : Nat) : (s.raiseVec v).se = s.se := by
  unfold State.raiseVec
  split
  · rfl
  · split <;> rfl

theorem raiseVec_free (s : State) (v : Nat) : (s.raiseVec v).free = s.free := by
  unfold State.raiseVec
  split
  · rfl
  · split <;> rfl

/-- A pass that writes registers leaves everything else. -/
theorem upto_regs {n : Nat} {f : Nat → State → State} (hf : ∀ i x, ∃ r, f i x = { x with regs := r }) (s : State) :
    ∃ r, s.upto n f = { s with regs := r } := by
  induction n with
  | zero => exact ⟨s.regs, rfl⟩
  | succ n ih =>
    obtain ⟨r, hr⟩ := ih
    rw [upto_succ, hr]
    exact (hf n _).imp fun r' h => h

/-! Writes of SE_CTL and SE_CHAL_CTL (R779, R789). -/

theorem seCtl_commit {s : State} {v slot e b : Nat} (h : Reaches s 5) (hk : keyOk v = true) (hv : bitsOf v 3 1 = 2)
    (hl : s.se.loaded = some (slot, e, b)) (hc : s.se.counter < e) (hn : s.se.commit = none) :
    s.seCtl v = { s.writeFields Reg.SE_CTL v with se.commit := some e } := by
  have h1 : bitOf v 1 = false := bitOf_of_bitsOf hv (by decide) (by decide)
  have h2 : bitOf v 2 = true := bitOf_of_bitsOf hv (by decide) (by decide)
  have h3 : bitOf v 3 = false := bitOf_of_bitsOf hv (by decide) (by decide)
  obtain ⟨_, hw⟩ := (fieldsOnly_writeFields s Reg.SE_CTL v).security
  simp [State.seCtl, keyedWrite_keyed seCtl_holder h hk, h1, h2, h3, hw, hl, hc, hn]

theorem seCtl_verify {s : State} {v : Nat} (h : Reaches s 5) (hk : keyOk v = true) (hv : bitsOf v 3 1 = 1)
    (hu : s.se.update = none) (hn : s.se.verify = none) :
    s.seCtl v = { s.writeFields Reg.SE_CTL v with se.verify := some (bitsOf v 8 8) } := by
  have h1 : bitOf v 1 = true := bitOf_of_bitsOf hv (by decide) (by decide)
  have h2 : bitOf v 2 = false := bitOf_of_bitsOf hv (by decide) (by decide)
  have h3 : bitOf v 3 = false := bitOf_of_bitsOf hv (by decide) (by decide)
  obtain ⟨_, hw⟩ := (fieldsOnly_writeFields s Reg.SE_CTL v).security
  simp [State.seCtl, keyedWrite_keyed seCtl_holder h hk, h1, h2, h3, hw, hu, hn]

theorem seCtl_relock {s : State} {v : Nat} (h : Reaches s 5) (hk : keyOk v = true) (hv : bitsOf v 3 1 = 4) :
    s.seCtl v = ((s.writeFields Reg.SE_CTL v).debugRelock 0).provClose := by
  have h1 : bitOf v 1 = false := bitOf_of_bitsOf hv (by decide) (by decide)
  have h2 : bitOf v 2 = false := bitOf_of_bitsOf hv (by decide) (by decide)
  have h3 : bitOf v 3 = true := bitOf_of_bitsOf hv (by decide) (by decide)
  simp [State.seCtl, keyedWrite_keyed seCtl_holder h hk, h1, h2, h3]

theorem seChal_request {s : State} {v : Nat} (h : Reaches s 5) (hk : keyOk v = true) (hv : bitsOf v 2 0 = 1)
    (hp : bitsOf v 14 12 ∈ [1, 3, 4, 5]) :
    s.seChal v = (s.writeFields Reg.SE_CHAL_CTL v).chalIssue (bitsOf v 14 12) (bitsOf v 18 16) (bitsOf v 23 20) := by
  have h0 : bitOf v 0 = true := bitOf_of_bitsOf hv (by decide) (by decide)
  have h1 : bitOf v 1 = false := bitOf_of_bitsOf hv (by decide) (by decide)
  have h2 : bitOf v 2 = false := bitOf_of_bitsOf hv (by decide) (by decide)
  rw [State.seChal, keyedWrite_keyed seChalCtl_holder h hk]
  simp only [List.mem_cons, List.not_mem_nil, or_false] at hp
  simp only [h0, h1, h2, if_true, if_pos hp, Bool.false_eq_true, false_and, if_false]
  split <;> rfl

theorem seChal_submit {s : State} {v : Nat} {c : Challenge} (h : Reaches s 5) (hk : keyOk v = true) (hv : bitsOf v 2 0 = 2)
    (hc : s.se.chal = some c) (hr : c.resp = none) :
    s.seChal v = (let x := s.writeFields Reg.SE_CHAL_CTL v
      { x with se.chal := some { c with resp := some ((List.range 50).flatMap (fun i => leBytes 4 (x.rf (Reg.SE_RESP_WORD i)))) } }) := by
  have h0 : bitOf v 0 = false := bitOf_of_bitsOf hv (by decide) (by decide)
  have h1 : bitOf v 1 = true := bitOf_of_bitsOf hv (by decide) (by decide)
  have h2 : bitOf v 2 = false := bitOf_of_bitsOf hv (by decide) (by decide)
  obtain ⟨_, hw⟩ := (fieldsOnly_writeFields s Reg.SE_CHAL_CTL v).security
  simp [State.seChal, keyedWrite_keyed seChalCtl_holder h hk, h0, h1, h2, hw, hc, hr]

theorem seChal_cancel {s : State} {v : Nat} (h : Reaches s 5) (hk : keyOk v = true) (hv : bitsOf v 2 0 = 4) :
    s.seChal v = (s.writeFields Reg.SE_CHAL_CTL v).chalRefuse 0 0 := by
  have h0 : bitOf v 0 = false := bitOf_of_bitsOf hv (by decide) (by decide)
  have h1 : bitOf v 1 = false := bitOf_of_bitsOf hv (by decide) (by decide)
  have h2 : bitOf v 2 = true := bitOf_of_bitsOf hv (by decide) (by decide)
  rw [State.seChal, keyedWrite_keyed seChalCtl_holder h hk]
  simp only [h0, h1, h2, Bool.false_eq_true, false_and, if_false, if_true]
  split <;> rfl

/-! The active slot, updates, the mailbox and challenges answered (R777, R781 to R796). -/

theorem slotActiveWrite_passed {s : State} {v : Word} (h : Reaches s 5) (hk : keyOk v.toNat = true)
    (hr : s.rf (if bitsOf v.toNat 8 8 = 0 then Reg.SE_SLOT_RESULT_A else Reg.SE_SLOT_RESULT_B) = 1) : exec (.slotActiveWrite v) s =
    .next { (s.rsvdCheck Reg.SE_SLOT v.toNat).wr Reg.SE_SLOT_ACTIVE (bitsOf v.toNat 8 8) with
      flash := mins (s.rsvdCheck Reg.SE_SLOT v.toNat).flash Reg.SE_SLOT_ACTIVE.key (bitsOf v.toNat 8 8) } := by
  change execSlotActiveWrite v s = _
  simp [execSlotActiveWrite, serve_write seSlot_holder h, hk, hr]

theorem updGo_starts {s : State} {v : Word} (h : Reaches s 5) (hk : keyOk v.toNat = true) (hv : bitOf v.toNat 1 = true)
    (hu : s.se.update = none) : exec (.updGo v) s = .next { s.writeFields Reg.SE_UPD_CTL v.toNat with
      se.update := some (bitsOf v.toNat 19 8), se.updSlot := (s.writeFields Reg.SE_UPD_CTL v.toNat).idleSlot } := by
  change execUpdGo v s = _
  obtain ⟨_, hw⟩ := (fieldsOnly_writeFields s Reg.SE_UPD_CTL v.toNat).security
  simp [execUpdGo, keyedWrite_keyed seUpdCtl_holder h hk, hv, hw, hu]

theorem mboxGo_submits {s : State} {v : Word} (h : Reaches s 5) (hv : bitOf v.toNat 15 = true) (hm : s.se.mbox = false) :
    exec (.mboxGo v) s = .next { s.writeFields Reg.SE_MBOX_CTL v.toNat with se.mbox := true } := by
  change execMboxGo v s = _
  simp [execMboxGo, serve_write seMboxCtl_holder h, hv, hm]

theorem respDone_good {s : State} {c : Challenge} {l : List Nat} {key : Nat} (hc : s.se.chal = some c) (hl : c.resp = some l)
    (hb : s.respBad c l = (none, key)) (fuseOk : Bool) : s.respDone fuseOk =
    ((({ s with se.chal := none } : State).chalStat 0 1).emit 7 0xE006 c.purpose key c.target).grantEffect c key fuseOk := by
  simp only [State.respDone, hc, hl, hb]

theorem respDone_bad {s : State} {c : Challenge} {l : List Nat} {e key : Nat} (hc : s.se.chal = some c) (hl : c.resp = some l)
    (hb : s.respBad c l = (some e, key)) (fuseOk : Bool) : s.respDone fuseOk = s.chalRefuse e key := by
  simp only [State.respDone, hc, hl, hb]

theorem mboxResponse_ends {s : State} (hm : s.se.mbox = true) (hr : s.inReset 5 = false) : Yields .mboxResponse s (fun t =>
    t.se.mbox = false ∧ t.se.chal = s.se.chal ∧ t.rf Reg.SE_MBOX_CTL_LEN ≤ 4096 ∧ t.free = s.free + 1) := by
  refine ⟨_, congrArg Host.Outcome.next (if_neg (by simp [hm, hr])), ?_⟩
  dsimp only
  generalize hg : (Config.spdm _ _ _).take 4096 = r
  have hlen : r.length ≤ 4096 := hg ▸ List.length_take_le _ _
  obtain ⟨_, hupto⟩ := upto_regs (n := 1024)
    (f := fun i x => x.wr (Reg.SE_MBOX_RSP_WORD i) (ofLe ((r.drop (4 * i)).take 4))) (fun _ _ => ⟨_, rfl⟩)
    ({ (s.draw 52).2 with se.mbox := false } : State)
  rw [hupto, raiseVec_se, raiseVec_free, rf_raiseVec _ _ (by decide) (by decide), State.rf_wr_self]
  exact ⟨rfl, rfl, (Nat.mod_le _ _).trans hlen, rfl⟩

/-- An update programmed while no tail flush runs: the image it leaves, the slot's result, and the fault of one that failed. -/
theorem updProgramDone_eq {s : State} {off : Nat} (hu : s.se.update = some off) (ht : s.lg.tail = false) (ok : Bool) :
    ∃ img, let x := ({ s with se.update := none, se.image := img, free := s.free + 4096 } : State).slotResult s.se.updSlot 0
      exec (.updProgramDone ok) s = .next (if ok then x else (x.wr Reg.SE_UPD_CTL_FAULT 1).emit 7 0xE00A 0 off) := by
  refine ⟨?_, ?_⟩
  rotate_left
  · change execUpdProgramDone ok s = _
    simp only [execUpdProgramDone, hu, ht]
    rfl

theorem updProgramDone_unknown {s : State} {off : Nat} (hu : s.se.update = some off) (ht : s.lg.tail = false) (ok : Bool) :
    Yields (.updProgramDone ok) s (fun t => t.se.update = none
      ∧ t.rf (if s.se.updSlot = 0 then Reg.SE_SLOT_RESULT_A else Reg.SE_SLOT_RESULT_B) = 0 ∧ t.lg = s.lg) := by
  obtain ⟨img, he⟩ := updProgramDone_eq hu ht ok
  have hself (x : State) : (x.slotResult s.se.updSlot 0).rf (if s.se.updSlot = 0 then Reg.SE_SLOT_RESULT_A else Reg.SE_SLOT_RESULT_B) = 0 :=
    (State.rf_wr_self x _ 0).trans (Nat.zero_mod _)
  refine ⟨_, he, ?_⟩
  cases ok with
  | true => exact ⟨rfl, hself _, rfl⟩
  | false =>
    refine ⟨rfl, (State.rf_wr_ne _ (f := Reg.SE_UPD_CTL_FAULT) 1 ?_).trans (hself _), rfl⟩
    split <;> decide

/-- Settles O54: each clause by what its command does under the clause's conditions. -/
theorem securityCommandsComplete : Obligations.SecurityCommandsComplete := by
  intro s v
  dsimp only
  refine ⟨fun hr => ⟨fun hk => ⟨⟨fun slot e b hv hl hc hn => congrArg Host.Outcome.next (seCtl_commit hr hk hv hl hc hn),
      fun hv hu hn => congrArg Host.Outcome.next (seCtl_verify hr hk hv hu hn),
      fun hv => congrArg Host.Outcome.next (seCtl_relock hr hk hv)⟩,
      fun hp => ⟨_, slotActiveWrite_passed hr hk hp, ?active, ?flash⟩,
      ⟨fun hv hp => congrArg Host.Outcome.next (seChal_request hr hk hv hp),
        fun c hc hn => ⟨fun hv => congrArg Host.Outcome.next (seChal_submit hr hk hv hc hn),
          fun hv => congrArg Host.Outcome.next (seChal_cancel hr hk hv)⟩⟩, fun hv hu => updGo_starts hr hk hv hu⟩,
      fun hv hm => mboxGo_submits hr hv hm⟩, fun hm hr => mboxResponse_ends hm hr,
    fun blown e hc => ⟨?blown, ?unblown⟩, ?verify, ?answer, fun off hu ht ok => updProgramDone_unknown hu ht ok,
    fun ho => ⟨_, congrArg Host.Outcome.next (if_pos ho), State.rf_wr_self _ Reg.SE_STAT_PROV_OPEN 0, rfl, rfl⟩⟩
  case active =>
    refine (State.rf_wr_self _ Reg.SE_SLOT_ACTIVE _).trans ?_
    exact Nat.mod_mod _ _
  case flash =>
    dsimp only
    rw [rsvdCheck_flash]
  case blown =>
    have he : exec (.commitDone blown true) s = .next (({ s with se.commit := none, se.counter := max s.se.counter e } : State).emit 7 0xE004
        s.se.counter e) := by
      change execCommitDone blown true s = _
      simp only [execCommitDone, hc]
      rfl
    exact ⟨_, he, rfl, rfl, rfl, rfl⟩
  case unblown =>
    have he : exec (.commitDone blown false) s = .next (({ s with se.commit := none, se.counter := max s.se.counter (min blown.val e) } :
        State).emit 7 0xE00A 1 (max s.se.counter (min blown.val e))) := by
      change execCommitDone blown false s = _
      simp only [execCommitDone, hc]
      rfl
    exact ⟨_, he, rfl, rfl, rfl, rfl⟩
  case verify =>
    intro slot hv
    have hbad : ({ s with se.verify := none } : State).imgBad slot = s.imgBad slot := rfl
    refine ⟨fun hb => ?_, fun b hb => ?_⟩
    · change execVerifyDone s = _
      simp only [execVerifyDone, hv, hbad, hb]
    · change execVerifyDone s = _
      simp only [execVerifyDone, hv, hbad, hb]
  case answer =>
    intro c hc
    refine ⟨fun hn => ?_, fun l key b hl => ⟨fun hb => congrArg Host.Outcome.next (respDone_good hc hl hb b),
      fun e hb => congrArg Host.Outcome.next (respDone_bad hc hl hb b)⟩⟩
    change execChalTimeout s = _
    simp [execChalTimeout, hc, hn]

end Sys2Proof.Machine
end

section
/-! Observation: the counters, the trigger, the Halt Sweep, and the reports of the links. -/

namespace Sys2Proof.Machine
open Sys2Proof
set_option Elab.async false

/-! The operations that the end of a Halt Sweep runs start no other one. -/

/-- A Halt Sweep is in force in `t` exactly when it is in `s`. -/
def SameHalt (s t : State) : Prop := t.ob.halted = s.ob.halted

section
variable {α β : Type} {s₀ s : State}

theorem SameHalt.ite {c : Prop} [Decidable c] {x y : State} (hx : SameHalt s₀ x) (hy : SameHalt s₀ y) : SameHalt s₀ (if c then x else y) := by
  split
  · exact hx
  · exact hy

theorem SameHalt.iteSnd {c : Prop} [Decidable c] {x y : β × State} (hx : SameHalt s₀ x.2) (hy : SameHalt s₀ y.2) :
    SameHalt s₀ (if c then x else y).2 := by
  split
  · exact hx
  · exact hy

theorem SameHalt.foldl (h : SameHalt s₀ s) (l : List α) (f : State → α → State) (hf : ∀ y, SameHalt s₀ y → ∀ a, SameHalt s₀ (f y a)) :
    SameHalt s₀ (l.foldl f s) :=
  List.foldlRecOn l f h (fun y hy a _ => hf y hy a)

theorem SameHalt.foldlFst {p : State × β} (h : SameHalt s₀ p.1) (l : List α) (f : State × β → α → State × β)
    (hf : ∀ p, SameHalt s₀ p.1 → ∀ a, SameHalt s₀ (f p a).1) : SameHalt s₀ (l.foldl f p).1 :=
  List.foldlRecOn (motive := fun p => SameHalt s₀ p.1) l f h (fun p hp a _ => hf p hp a)

variable (hs : SameHalt s₀ s)
include hs

/-- A change of the units that leaves whether a Halt Sweep is in force. -/
theorem SameHalt.units {now free regs flash outbox raised edge fuse ao isl me ob ik ph sl ad bg th tw rv fb cb ax lg se cf fl}
    (h : ob.halted = s.ob.halted := by rfl) :
    SameHalt s₀ { s with
      now := now, free := free, regs := regs, flash := flash, outbox := outbox, raised := raised, edge := edge, fuse := fuse, ao := ao
      isl := isl, me := me, ob := ob, ik := ik, ph := ph, sl := sl, ad := ad, bg := bg, th := th, tw := tw, rv := rv, fb := fb, cb := cb
      ax := ax, lg := lg, se := se, cf := cf, fl := fl } := h.trans hs

theorem SameHalt.wr (f : Fld) (v : Nat) : SameHalt s₀ (s.wr f v) := hs.units
theorem SameHalt.satAdd (f : Fld) (n : Nat) : SameHalt s₀ (s.satAdd f n) := hs.wr _ _
theorem SameHalt.emit (src code p0 p1 p2 p3 : Nat) : SameHalt s₀ (s.emit src code p0 p1 p2 p3) := hs.units
theorem SameHalt.out (o : Out) : SameHalt s₀ (s.out o) := hs.units

theorem SameHalt.draw (k : Nat) : SameHalt s₀ (s.draw k).2 := by
  unfold State.draw
  exact hs.units

theorem SameHalt.upto (n : Nat) (f : Nat → State → State) (hf : ∀ i y, SameHalt s₀ y → SameHalt s₀ (f i y)) : SameHalt s₀ (s.upto n f) :=
  hs.foldl _ _ (fun y hy i => hf i y hy)

theorem SameHalt.each (l : List Nat) (f : Nat → State → State) (hf : ∀ i y, SameHalt s₀ y → SameHalt s₀ (f i y)) : SameHalt s₀ (s.each l f) :=
  hs.foldl _ _ (fun y hy i => hf i y hy)

theorem SameHalt.obsAdd (n : Nat) : SameHalt s₀ (s.obsAdd n) := hs.units

theorem SameHalt.count (src : Nat) (t : ObsTags) : SameHalt s₀ (s.count src t) := by
  unfold State.count
  refine .ite (hs.upto _ _ (fun _ _ hy => ?_)) hs
  refine .ite ?_ hy
  split
  · exact hy.obsAdd _
  · exact (hy.draw 164).obsAdd _

theorem SameHalt.polFell (f : Fld) : SameHalt s₀ (s.polFell f) := .ite hs (hs.wr _ _)

theorem SameHalt.qDrop (q source : Nat) (chan : Bool) : SameHalt s₀ (s.qDrop q source chan) := by
  unfold State.qDrop
  extract_lets s1 _ s2
  have hs1 : SameHalt s₀ s1 := .ite hs ((hs.wr _ _).satAdd _ _)
  have hs2 : SameHalt s₀ s2 := .ite hs1 hs1.units
  exact (hs2.emit _ _ _ _ _ _).count _ _

theorem SameHalt.qAccept (q : Nat) (m : QMsg) : SameHalt s₀ (s.qAccept q m) := hs.units.count _ _

theorem SameHalt.sendQueue (q : Nat) (m : QMsg) : SameHalt s₀ (s.sendQueue q m).2 :=
  .iteSnd hs (.iteSnd hs (.iteSnd (hs.qAccept _ _) (hs.qDrop _ _ _)))

theorem SameHalt.hwDeliver (code p0 p1 p2 : Nat) : SameHalt s₀ (s.hwDeliver code p0 p1 p2) :=
  .ite (hs.qAccept _ _) (((hs.qDrop _ _ _).polFell _).units.emit _ _ _ _ _ _)

theorem SameHalt.hwEvent (bit : Option Nat) (code p0 p1 p2 : Nat) : SameHalt s₀ (s.hwEvent bit code p0 p1 p2) :=
  .ite hs (.ite hs.units (hs.hwDeliver _ _ _ _))

theorem SameHalt.emitHw (bit : Option Nat) (src code p0 p1 p2 p3 : Nat) : SameHalt s₀ (s.emitHw bit src code p0 p1 p2 p3) :=
  (hs.emit _ _ _ _ _ _).hwEvent _ _ _ _ _

theorem SameHalt.setDom (d : Nat) (x : Dom) : SameHalt s₀ (s.setDom d x) := hs.units
theorem SameHalt.setLink (n : Nat) (x : Link) : SameHalt s₀ (s.setLink n x) := hs.units
theorem SameHalt.setTile (t : Nat) (x : Tile) : SameHalt s₀ (s.setTile t x) := hs.units

theorem SameHalt.putFlits (n : Nat) (r : FlitLink × List (List Nat)) : SameHalt s₀ (s.putFlits n r) :=
  (hs.setLink _ _).foldl _ _ (fun _ hy _ => hy.out _)

theorem SameHalt.down (n : Nat) (m : Msg) : SameHalt s₀ (s.down n m) := hs.putFlits _ _
theorem SameHalt.sendLink (n : Nat) (m : Msg) : SameHalt s₀ (s.sendLink n m) := .ite (hs.down _ _) hs
theorem SameHalt.sendTileOn (n t ty : Nat) (fs : List (Nat × Nat × Nat)) : SameHalt s₀ (s.sendTileOn n t ty fs) := hs.sendLink _ _

theorem SameHalt.sendAll (ty mode target : Nat) (fs : List (Nat × Nat × Nat)) : SameHalt s₀ (s.sendAll ty mode target fs) :=
  hs.upto _ _ (fun _ _ hy => hy.sendLink _ _)

theorem SameHalt.nak (n t seq code echo detail : Nat) : SameHalt s₀ (s.nak n t seq code echo detail) := hs.sendTileOn _ _ _ _
theorem SameHalt.tileStat (t v : Nat) : SameHalt s₀ (s.tileStat t v) := hs.wr _ _
theorem SameHalt.noteTile (t : Nat) : SameHalt s₀ (s.noteTile t) := ((hs.tileStat _ _).wr _ _).units
theorem SameHalt.putTile (t : Nat) (x : Tile) : SameHalt s₀ (s.putTile t x) := (hs.setTile _ _).noteTile _
theorem SameHalt.sendBudget (p clears headroom : Nat) : SameHalt s₀ (s.sendBudget p clears headroom) := hs.sendAll _ _ _ _
theorem SameHalt.noteOver : SameHalt s₀ s.noteOver := hs.upto _ _ (fun _ _ hy => .ite ((hy.units.wr _ _).emitHw _ _ _ _ _ _ _) (.ite
    hy.units hy))

theorem SameHalt.noteShort : SameHalt s₀ s.noteShort :=
  hs.upto _ _ (fun _ _ hy => .ite ((hy.units.wr _ _).emit _ _ _ _ _ _) (.ite hy.units (.ite (hy.wr _ _) hy)))

theorem SameHalt.budgetNotice (p old : Nat) : SameHalt s₀ (s.budgetNotice p old) := .ite (hs.sendBudget _ _ _) hs

theorem SameHalt.allocate : SameHalt s₀ s.allocate := by
  unfold State.allocate
  extract_lets _ _ _ _ _ _ s1 s2
  have hs1 : SameHalt s₀ s1 := hs.units
  have hs2 : SameHalt s₀ s2 := .ite ((hs1.wr _ _).emit _ _ _ _ _ _) (.ite (hs1.emit _ _ _ _ _ _) hs1)
  exact (hs2.upto _ _ (fun _ _ hy => hy.budgetNotice _ _)).noteOver.noteShort

theorem SameHalt.noteSource : SameHalt s₀ s.noteSource := .ite hs (hs.units.emitHw _ _ _ _ _ _ _)
theorem SameHalt.budgetMoved : SameHalt s₀ s.budgetMoved := .ite hs.noteSource.allocate hs.noteSource

theorem SameHalt.refuseBudget (t : Nat) (p : Pend) (code : Nat) : SameHalt s₀ (s.refuseBudget t p code) :=
  (((hs.nak _ _ _ _ _ _).emit _ _ _ _ _ _).count _ _).putTile _ _

theorem SameHalt.unlist (t seq : Nat) : SameHalt s₀ (s.unlist t seq) := hs.setDom _ _

theorem SameHalt.dropIntent (t seq : Nat) : SameHalt s₀ (s.dropIntent t seq) := by
  unfold State.dropIntent
  refine SameHalt.putTile ?_ _ _
  dsimp only
  split
  · exact .ite (hs.unlist _ _).units (hs.unlist _ _)
  · exact hs.unlist _ _

theorem SameHalt.judgeEntry (e : Entry) : SameHalt s₀ (s.judgeEntry e).1 := by
  unfold State.judgeEntry
  dsimp only
  refine hs.foldlFst _ _ (fun _ hp _ => ?_)
  split
  · exact hp
  · split
    · exact (hp.dropIntent _ _).refuseBudget _ _ _
    · exact (hp.putTile _ _).units

theorem SameHalt.release (g : Nat) : SameHalt s₀ (s.release g) := by
  unfold State.release
  refine hs.units.upto _ _ (fun _ _ hy => ?_)
  refine .ite (hy.setDom _ _) (((hy.foldlFst _ _ (fun _ hp _ => ?_)).setDom _ _).setDom _ _)
  dsimp only
  exact hp.judgeEntry _

theorem SameHalt.checkRelease (g : Nat) : SameHalt s₀ (s.checkRelease g) := .ite (hs.release _) hs
theorem SameHalt.setVp (p : Nat) (x : VxPort) : SameHalt s₀ (s.setVp p x) := hs.units
theorem SameHalt.enterHoldover (p cause : Nat) : SameHalt s₀ (s.enterHoldover p cause) := .ite hs ((hs.units.wr _ _).emit _ _ _ _ _ _)

theorem SameHalt.timeParent : SameHalt s₀ s.timeParent := by
  unfold State.timeParent
  refine SameHalt.units ?_
  split
  · exact .ite (hs.enterHoldover _ _) hs
  · exact hs

theorem SameHalt.setCore (c : Nat) (k : IkCore) : SameHalt s₀ (s.setCore c k) := hs.units

theorem SameHalt.notice (code rseq : Nat) : SameHalt s₀ (s.notice code rseq) :=
  .ite hs (.ite (hs.satAdd _ _) (.ite hs.units.units (hs.units.sendQueue _ _)))

theorem SameHalt.meRelease : SameHalt s₀ s.meRelease := by
  unfold State.meRelease
  refine hs.units.foldl _ _ (fun _ hy _ => ?_)
  split
  · exact hy.hwDeliver _ _ _ _
  · exact hy.sendQueue _ _

theorem SameHalt.fabResume : SameHalt s₀ s.fabResume := by
  unfold State.fabResume
  refine (SameHalt.upto ?_ _ _ (fun _ _ hy => .ite hy (hy.setVp _ _))).timeParent
  split
  · exact hs.enterHoldover _ _
  · exact hs

theorem SameHalt.wavesRestart : SameHalt s₀ s.wavesRestart := hs.upto _ _ (fun _ _ hy => hy.setDom _ _)

theorem SameHalt.haltShift (d : Nat) : SameHalt s₀ (s.haltShift d) := hs.units

end

/-- The release of a Halt Sweep ends it. -/
theorem haltRelease_over {s : State} (h : s.ob.halted = true) (cause : Nat) : (s.haltRelease cause).ob.halted = false := by
  unfold State.haltRelease
  extract_lets ms _ s1 s2 s3 s4 s5
  have hs1 : SameHalt s1 s1 := rfl
  have hs3 : SameHalt s1 s3 := ((hs1.wr _ _).emit _ _ _ _ _ _).upto _ _ (fun _ _ hy => .ite (hy.setCore _ _) hy)
  have hs4 : SameHalt s1 s4 := (SameHalt.ite hs3 hs3.fabResume).wavesRestart.meRelease
  have hs5 : SameHalt s1 s5 := hs4.each _ _ (fun _ _ hy => hy.checkRelease _)
  rw [if_neg (by rw [h]; decide)]
  exact (hs5.notice 0xE011 0).budgetMoved

end Sys2Proof.Machine
end

section
/-! The commands of observation. -/

namespace Sys2Proof.Machine
open Sys2Proof
set_option Elab.async false

/-! Fields that a host's write of another register leaves (R18 to R24). -/

/-- A bit of GL_STATUS. -/
def Fld.IsStatus (e : Fld) : Prop := e.addr = Reg.GL_STATUS ∧ e.lo < 32

theorem isStatus_of_ite {c : Prop} [Decidable c] {b e : Fld} (hb : b.IsStatus) (h : (if c then none else some b) = some e) : e.IsStatus := by
  obtain ⟨-, h⟩ := Option.ite_none_left_eq_some.mp h
  cases h
  exact hb

/-- What a write of a field reports is a bit of GL_STATUS. -/
theorem writeField_error {s : State} {a i j v : Nat} {f : FDesc} {e : Fld} (h : (writeField s a i j f v).2 = some e) : e.IsStatus := by
  have hrsvd : Reg.GL_STATUS_RSVD_WRITE.IsStatus := ⟨rfl, by decide⟩
  have hlock : Reg.GL_STATUS_LOCK_REJECT.IsStatus := ⟨rfl, by decide⟩
  have hput (h : (s.putRanged i f v).2 = some e) : e.IsStatus := isStatus_of_ite hrsvd h
  unfold writeField at h
  dsimp only at h
  split at h
  · cases h
  · cases h
  · exact isStatus_of_ite hrsvd h
  · exact isStatus_of_ite hrsvd h
  · exact hput h
  · cases h
  · split at h
    · exact isStatus_of_ite hlock h
    · exact hput h
  · split at h
    · split at h
      · exact hput h
      · exact isStatus_of_ite hlock h
    · exact hput h

/-- The fields of every register start below bit 32. -/
theorem regTable_lo : regTable.all (fun d => d.fields.all (fun f => decide (f.lo < 32))) = true := by decide +kernel

theorem rf_glErrs (s was : State) (ga : Nat) {errs : List Fld} (herrs : ∀ e ∈ errs, e.IsStatus) {g : Fld}
    (hlo : g.lo < 32) (h1 : Reg.GL_STATUS ≠ g.addr) (h2 : Reg.GL_ERR_OFFSET ≠ g.addr) : (s.glErrs was ga errs).rf g = s.rf g := by
  have hset : ∀ (l : List Fld) (x : State), (∀ e ∈ l, e.IsStatus) →
      (l.foldl (fun x f => x.wr f 1) x).rf g = x.rf g := by
    intro l
    induction l with
    | nil => exact fun _ _ => rfl
    | cons e l ih =>
      intro x hl
      obtain ⟨he, hl⟩ := List.forall_mem_cons.mp hl
      exact (ih _ hl).trans (State.rf_wr_ne _ _ (key_ne_of_addr_ne he.2 hlo (he.1 ▸ h1)))
  unfold State.glErrs
  refine (hset _ _ herrs).trans ?_
  split
  · exact State.rf_wr_ne _ _ (key_ne_of_addr_ne (by decide : 0 < 32) hlo h2)
  · rfl

theorem rf_fieldSet (s : State) {a i j w : Nat} {f : FDesc} {g : Fld} (hf : f.lo < 32) (hlo : g.lo < 32) (h : a ≠ g.addr) :
    (s.fieldSet a i j f w).rf g = s.rf g := by
  have hwr : (s.wr (f.fld a i j) w).rf g = s.rf g := State.rf_wr_ne _ _ (key_ne_of_addr_ne hf hlo h)
  unfold State.fieldSet State.noteProv
  dsimp only
  split
  · split <;> exact hwr
  · exact hwr

/-- A host's write leaves the fields of every other register, but for those of GL_STATUS and GL_ERR_OFFSET. -/
theorem rf_writeFields (s : State) (ga v : Nat) {g : Fld} (hlo : g.lo < 32) (h : canonAddr ga ≠ g.addr) (h1 : Reg.GL_STATUS ≠ g.addr)
    (h2 : Reg.GL_ERR_OFFSET ≠ g.addr) : (s.writeFields ga v).rf g = s.rf g := by
  have hrsvd : Reg.GL_STATUS_RSVD_WRITE.IsStatus := ⟨rfl, by decide⟩
  unfold State.writeFields
  split
  case h_1 => rfl
  case h_2 d i j hd =>
    have hfields : ∀ f ∈ lockFirst (canonAddr ga) d.fields, f.lo < 32 := by
      intro f hf
      have hmem : f ∈ d.fields := by
        rcases List.mem_append.mp hf with hf | hf <;> exact (List.mem_filter.mp hf).1
      exact of_decide_eq_true (List.all_eq_true.mp (List.all_eq_true.mp regTable_lo d (findIn_mem hd).1) f hmem)
    dsimp only
    generalize hr : List.foldl _ _ _ = r
    have hkeep : r.1.rf g = s.rf g ∧ ∀ e ∈ r.2, e.IsStatus := by
      rw [← hr]
      refine List.foldlRecOn (motive := fun (x : State × List Fld) => x.1.rf g = s.rf g ∧ ∀ e ∈ x.2, e.IsStatus) _ _ ⟨rfl, by simp⟩
        fun x hx f hf => ⟨?_, fun e he => ?_⟩
      · dsimp only
        split
        · exact (rf_fieldSet _ (hfields f hf) hlo h).trans hx.1
        · exact hx.1
      · rcases List.mem_append.mp he with he | he
        · exact hx.2 e he
        · exact writeField_error (Option.mem_toList.mp he)
    refine (rf_glErrs _ _ _ (fun e he => ?_) hlo h1 h2).trans hkeep.1
    rcases List.mem_append.mp he with he | he
    · exact hkeep.2 e he
    · split at he
      · cases he
      · cases List.mem_singleton.mp he
        exact hrsvd

/-- Entries that a filter keeps read as they did. -/
theorem mget_filter {β : Type} (d : β) (l : List (Nat × β)) (p : Nat × β → Bool) {k : Nat} (hk : ∀ v, p (k, v) = true) :
    mget d (l.filter p) k = mget d l k := by
  induction l with
  | nil => rfl
  | cons e l ih =>
    obtain ⟨k', v⟩ := e
    by_cases hp : p (k', v) = true
    · rw [List.filter_cons_of_pos hp]
      simp only [mget, ih]
    · rw [List.filter_cons_of_neg hp, ih]
      refine (if_neg ?_).symm
      rintro rfl
      exact hp (hk v)

theorem obCtl_holder : holderOf Reg.OB_CTL = some 5 := by decide +kernel
theorem obHalt_holder : holderOf Reg.OB_HALT = some 5 := by decide +kernel

theorem obGrp_holder (g : Fin 512) (j : Fin 4) : holderOf (Reg.OB_GRP0 g + 4 * j) = some 5 := by
  have h (k : Fin 4) : holderOf (0x681000 + 4 * k.val + 16 * g.val) = some 5 :=
    holderOf_row (by decide) (by revert k; decide +kernel) (by revert k; decide +kernel) g.isLt (by omega)
  have e : Reg.OB_GRP0 g + 4 * j = 0x681000 + 4 * j.val + 16 * g.val := by
    unfold Reg.OB_GRP0
    omega
  rw [e]
  exact h j

/-! Writes of OB_CTL and OB_HALT (R799 to R815). -/

/-- A keyed write of OB_CTL: each command by its bit. -/
theorem obCtl_keyed {s : State} {v n : Nat} (h : Reaches s 5) (hk : keyOk v = true) (hv : bitsOf v 5 0 = n) : s.obCtl v =
    (let x := s.writeFields Reg.OB_CTL v
     let a := if bitOf n 0 && !x.rb Reg.OB_STAT_ENABLED then ({ x with ob.cnt := [] } : State).wr Reg.OB_STAT_ENABLED 1 else x
     let b := if bitOf n 1 then a.obGate else a
     let c : State := if bitOf n 2 then { b with ob.cnt := [] } else b
     let d := if bitOf n 3 then c.wr Reg.OB_STAT_FROZEN 0 else c
     let e := if bitOf n 4 then d.wr Reg.OB_STAT_ARMED 1 else d
     if bitOf n 5 then e.trigFire 2 0 else e) := by
  have hb (i : Nat) (hi : i ≤ 5) : bitOf v i = bitOf n i := bitOf_of_bitsOf hv (Nat.zero_le i) hi
  rw [State.obCtl, keyedWrite_keyed obCtl_holder h hk, hb 0 (by decide), hb 1 (by decide), hb 2 (by decide), hb 3 (by decide),
    hb 4 (by decide), hb 5 (by decide)]

theorem obGate_enabled (s : State) : s.obGate.rf Reg.OB_STAT_ENABLED = 0 := State.rf_wr_self _ Reg.OB_STAT_ENABLED 0

/-- OB_STAT lies below the configuration of the counter groups, which a disable resets. -/
theorem obGate_frozen (s : State) : s.obGate.rf Reg.OB_STAT_FROZEN = s.rf Reg.OB_STAT_FROZEN := by
  have hbelow : decide (Reg.OB_GRP0 0 ≤ Reg.OB_STAT_FROZEN.key / 32) = false := by decide
  unfold State.obGate
  rw [State.rf_wr_ne _ _ (by decide)]
  refine mget_filter _ _ _ (fun v => ?_)
  rw [hbelow]
  rfl

theorem obHalt_request {s : State} {v : Nat} (h : Reaches s 5) (hk : keyOk v = true) (hv : bitsOf v 1 0 = 1) :
    s.obHalt v = (s.writeFields Reg.OB_HALT v).haltRequest 1 := by
  have h0 : bitOf v 0 = true := bitOf_of_bitsOf hv (by decide) (by decide)
  have h1 : bitOf v 1 = false := bitOf_of_bitsOf hv (by decide) (by decide)
  simp [State.obHalt, keyedWrite_keyed obHalt_holder h hk, h0, h1]

theorem obHalt_release {s : State} {v : Nat} (h : Reaches s 5) (hk : keyOk v = true) (hv : bitsOf v 1 0 = 2) :
    s.obHalt v = (s.writeFields Reg.OB_HALT v).haltRelease 0 := by
  have h0 : bitOf v 0 = false := bitOf_of_bitsOf hv (by decide) (by decide)
  have h1 : bitOf v 1 = true := bitOf_of_bitsOf hv (by decide) (by decide)
  simp [State.obHalt, keyedWrite_keyed obHalt_holder h hk, h0, h1]

theorem FieldsOnly.ob {s t : State} (h : FieldsOnly s t) : t.ob = s.ob := by
  obtain ⟨_, _, rfl⟩ := h
  rfl

theorem obHaltWrite_release {s : State} {v : Nat} (h : Reaches s 5) (hk : keyOk v = true) (hv : bitsOf v 1 0 = 2) (hh : s.ob.halted = true) :
    s.obHaltWrite v = ((s.writeFields Reg.OB_HALT v).haltRelease 0).flSettle := by
  have hover : ((s.writeFields Reg.OB_HALT v).haltRelease 0).ob.halted = false :=
    haltRelease_over (by rw [(fieldsOnly_writeFields s Reg.OB_HALT v).ob, hh]) 0
  rw [State.obHaltWrite, obHalt_release h hk hv]
  exact if_pos (by rw [hh, hover]; rfl)

theorem obGrpWrite_clears {s : State} (h : Reaches s 5) (g : Fin 512) (j : Fin 4) (v : Word) : exec (.obGrpWrite g j v) s =
    .next ((s.writeFields (Reg.OB_GRP0 g.val + 4 * j.val) v.toNat).cntClear g 1) :=
  congrArg Host.Outcome.next (hostWrite_served (obGrp_holder g j) h _ _)

/-! The trigger and the requests to halt (R804 to R814). -/

theorem notice_quiet {s : State} (h : s.rb Reg.OB_NOTIFY_VALID = false) (code rseq : Nat) : s.notice code rseq = s :=
  if_pos (by rw [h]; rfl)

/-- The state of a trigger that has fired at a pin, before the freeze. -/
def State.firedPin (s : State) : State := ((s.wr Reg.OB_STAT_ARMED 0).wr Reg.OB_FELL_TRIGGER 1).emit 7 0xE012 0 0

/-- The armed trigger fires at a pin, with no HALT and no notice. -/
theorem trigFire_pin {s : State} (ha : s.rb Reg.OB_STAT_ARMED = true) (hh : s.rb Reg.OB_TRIG_CFG2_HALT = false)
    (hn : s.rb Reg.OB_NOTIFY_VALID = false) :
    s.trigFire 0 0 = if s.firedPin.rb Reg.OB_STAT_FROZEN then s.firedPin else s.firedPin.wr Reg.OB_STAT_FROZEN 1 := by
  have hrb {f : Fld} (h1 : Reg.OB_STAT_ARMED.key ≠ f.key) (h2 : Reg.OB_FELL_TRIGGER.key ≠ f.key) : s.firedPin.rf f = s.rf f :=
    (State.rf_wr_ne (s.wr Reg.OB_STAT_ARMED 0) 1 h2).trans (State.rf_wr_ne s 0 h1)
  have hrb' {f : Fld} (h : Reg.OB_STAT_FROZEN.key ≠ f.key) : (s.firedPin.wr Reg.OB_STAT_FROZEN 1).rf f = s.firedPin.rf f :=
    State.rf_wr_ne _ _ h
  have hquiet : (s.firedPin.wr Reg.OB_STAT_FROZEN 1).rb Reg.OB_NOTIFY_VALID = false := by
    rw [State.rb, hrb' (by decide), hrb (by decide) (by decide)]
    exact hn
  have hstart : s.trigFire 0 0 = (let t := if s.firedPin.rb Reg.OB_STAT_FROZEN then s.firedPin
        else (s.firedPin.wr Reg.OB_STAT_FROZEN 1).notice 0xE012 0
      if t.rb Reg.OB_TRIG_CFG2_HALT then t.haltRequest 2 else t) :=
    if_neg (by rw [ha]; decide)
  rw [hstart, notice_quiet hquiet]
  refine if_neg ?_
  split
  · rw [State.rb, hrb (by decide) (by decide)]
    exact Bool.eq_false_iff.mp hh
  · rw [State.rb, hrb' (by decide), hrb (by decide) (by decide)]
    exact Bool.eq_false_iff.mp hh

theorem haltRequest_open {s : State} (hd : s.debugOpen = true) (hp : s.isl.pkg ≠ 3) (hh : s.ob.halted = false) (source : Nat) :
    s.haltRequest source = s.haltBegin source := by
  simp [State.haltRequest, hd, hp, hh]

theorem haltRequest_locked {s : State} (hd : s.debugOpen = false) (source : Nat) :
    s.haltRequest source = (s.wr Reg.OB_FELL_HALT_REFUSED 1).emit 5 0xE013 0 := by
  simp [State.haltRequest, hd]

theorem tapIn_halt_open {s : State} (hd : s.debugOpen = true) : s.tapIn .halt = { s with ob.tap := .halt } :=
  if_pos (by rw [State.tapTakes, hd, Bool.or_true])

theorem tapIn_halt_locked {s : State} (hd : s.debugOpen = false) : s.tapIn .halt = s :=
  if_neg (by rw [State.tapTakes, hd]; decide)

theorem tapIn_release (s : State) : s.tapIn .release = { s with ob.tap := if s.debugOpen then .release else s.ob.tap } := by
  cases hd : s.debugOpen with
  | true => exact if_pos (by rw [State.tapTakes, hd, Bool.or_true])
  | false => exact if_neg (by rw [State.tapTakes, hd]; decide)

theorem haltEnd_halted {s : State} (hh : s.ob.halted = true) (cause : Nat) : s.haltEnd cause = (s.haltRelease cause).flSettle :=
  if_pos hh

/-! Full intakes (R835). -/

theorem link_setLink_self (s : State) (n : Nat) (x : Link) : (s.setLink n x).link n = x := mget_mput_self _ _ _ _

theorem link_setLink_ne (s : State) {n m : Nat} (x : Link) (h : m ≠ n) : (s.setLink n x).link m = s.link m :=
  mget_mput_ne _ _ _ (Ne.symm h)

theorem busyLinks_setLink (s : State) (n : Nat) {x : Link} (hx : x.intake = (s.link n).intake) : (s.setLink n x).busyLinks = s.busyLinks := by
  have hlink (m : Nat) : ((s.setLink n x).link m).intake = (s.link m).intake := by
    by_cases hm : m = n
    · rw [hm, link_setLink_self, hx]
    · rw [link_setLink_ne s x hm]
  simp only [State.busyLinks, hlink]

/-- A link whose count begins anew is marked at once while its intake is still full. -/
theorem intakeMark_setLink (s : State) (n : Nat) {x : Link} (hx : x.intake = (s.link n).intake) (hf : x.msFull = false) :
    (s.setLink n x).intakeMark n = if 256 ≤ (s.link n).intake.length then
      (s.setLink n x).setLink n { x with msFull := true, msBusy := s.busyLinks } else s.setLink n x := by
  simp only [State.intakeMark, link_setLink_self, busyLinks_setLink s n hx, hx, hf, Bool.not_false, Bool.and_true, decide_eq_true_eq]

/-- Settles O55: each clause by what its command does under the clause's conditions. -/
theorem observationCommandsComplete : Obligations.ObservationCommandsComplete := by
  intro s v
  dsimp only
  refine ⟨fun h => ⟨fun hk => ⟨⟨fun hv he => congrArg Host.Outcome.next ?enable, fun hv => ⟨(s.writeFields Reg.OB_CTL v.toNat).obGate,
    congrArg Host.Outcome.next ?disable, rfl,
        obGate_enabled _, obGate_frozen _⟩,
      fun hv => congrArg Host.Outcome.next ?clear, fun hv => congrArg Host.Outcome.next ?unfreeze, fun hv => congrArg Host.Outcome.next ?arm,
      fun hv => congrArg Host.Outcome.next ?fire⟩, fun hv hh => congrArg Host.Outcome.next ?halt,
      fun hv hh => congrArg Host.Outcome.next (obHaltWrite_release h hk hv hh)⟩, fun g j => obGrpWrite_clears h g j v⟩,
    fun ht ha hh hn => ⟨_, congrArg Host.Outcome.next ((if_pos ht).trans (trigFire_pin ha hh hn)), ?fired⟩,
    fun hd hp hh => congrArg Host.Outcome.next ?jtag, fun hd => ⟨(s.wr Reg.OB_FELL_HALT_REFUSED 1).emit 5 0xE013 0,
      congrArg Host.Outcome.next ?locked,
      rfl, State.rf_wr_self s Reg.OB_FELL_HALT_REFUSED 1, rfl⟩,
    fun hh => ⟨congrArg Host.Outcome.next ?released, fun hm => congrArg Host.Outcome.next ((if_neg hm).trans (haltEnd_halted hh 2)),
      congrArg Host.Outcome.next (if_pos hh)⟩, rfl, fun n hr hf => ?report⟩
  case enable =>
    have hsame : (s.writeFields Reg.OB_CTL v.toNat).rb Reg.OB_STAT_ENABLED = false := by
      rw [State.rb, rf_writeFields s Reg.OB_CTL v.toNat (by decide) (by decide) (by decide) (by decide)]
      exact he
    simp [obCtl_keyed h hk hv, bitOf, hsame]
  case disable => simp [obCtl_keyed h hk hv, bitOf]
  case clear => simp [obCtl_keyed h hk hv, bitOf]
  case unfreeze => simp [obCtl_keyed h hk hv, bitOf]
  case arm => simp [obCtl_keyed h hk hv, bitOf]
  case fire => simp [obCtl_keyed h hk hv, bitOf]
  case halt =>
    rw [State.obHaltWrite, obHalt_request h hk hv, hh]
    exact if_neg (by simp)
  case fired =>
    have harmed : s.firedPin.rf Reg.OB_STAT_ARMED = 0 :=
      (State.rf_wr_ne _ (f := Reg.OB_FELL_TRIGGER) 1 (by decide)).trans (State.rf_wr_self s Reg.OB_STAT_ARMED 0)
    have htrig : s.firedPin.rf Reg.OB_FELL_TRIGGER = 1 := State.rf_wr_self _ Reg.OB_FELL_TRIGGER 1
    split
    · exact ⟨harmed, htrig, bne_iff_ne.mp ‹_›, rfl, rfl, rfl⟩
    · refine ⟨(State.rf_wr_ne _ _ (by decide)).trans harmed, (State.rf_wr_ne _ _ (by decide)).trans htrig, ?_, rfl, rfl, rfl⟩
      rw [State.rf_wr_self]
      decide
  case jtag =>
    rw [tapIn_halt_open hd]
    exact haltRequest_open (s := { s with ob.tap := .halt }) hd hp hh 0
  case locked =>
    rw [tapIn_halt_locked hd]
    exact haltRequest_locked hd 0
  case released =>
    rw [tapIn_release]
    exact haltEnd_halted (s := { s with ob.tap := if s.debugOpen then .release else s.ob.tap }) hh 0
  case report =>
    have hmark := intakeMark_setLink s n (x := { s.link n with msFulls := 0, msFull := false, msBusy := 0 }) rfl rfl
    refine ⟨_, congrArg Host.Outcome.next ((if_neg (by simp [hr, hf])).trans
      (congrArg (fun x : State => x.emit 2 0x3008 n (s.link n).msFulls (s.link n).msBusy) hmark)), ?_⟩
    dsimp only
    have hself (x : State) (y : Link) : ((x.setLink n y).emit 2 0x3008 n (s.link n).msFulls (s.link n).msBusy).link n = y :=
      link_setLink_self x n y
    by_cases h : 256 ≤ (s.link n).intake.length
    · simp only [if_pos h, hself, decide_eq_true h]
      exact ⟨trivial, trivial, trivial, fun m hm => (link_setLink_ne _ _ hm).trans (link_setLink_ne _ _ hm), rfl, rfl⟩
    · simp only [if_neg h, hself, decide_eq_false h]
      exact ⟨trivial, trivial, trivial, fun m hm => link_setLink_ne _ _ hm, rfl, rfl⟩

end Sys2Proof.Machine
end

section
/-! The commands of Flume. -/

namespace Sys2Proof.Machine
open Sys2Proof
set_option Elab.async false

theorem flChCtl_holder (n : Fin 16) : holderOf (Reg.FL_CH_CTL n) = some 3 :=
  holderOf_row (by decide) (by decide +kernel) (by decide +kernel) n.isLt (by omega)

theorem flInv_holder : holderOf Reg.FL_INV = some 3 := by decide +kernel

theorem flCtx0_holder (x : Fin 65) : holderOf (Reg.FL_CTX0 x) = some 3 :=
  holderOf_row (by decide) (by decide +kernel) (by decide +kernel) x.isLt (by omega)

theorem flCtx1_holder (x : Fin 65) : holderOf (Reg.FL_CTX1 x) = some 3 :=
  holderOf_row (by decide) (by decide +kernel) (by decide +kernel) x.isLt (by omega)

theorem flCfg_holder : holderOf Reg.FL_CFG = some 3 := by decide +kernel

theorem FieldsOnly.fl {s t : State} (h : FieldsOnly s t) : t.fl = s.fl := by
  obtain ⟨_, _, rfl⟩ := h
  rfl

/-! Writes of a channel's control register (R594 to R599). -/

/-- A write of a channel's control register leaves its other registers. -/
theorem rf_flChCtl (s : State) (n v : Nat) {g : Fld} {a : Nat} (hg : g.addr = a + 64 * n) (ha : 0x482000 ≤ a ∧ a ≠ 0x482018)
    (hlo : g.lo < 32) :
    (s.writeFields (Reg.FL_CH_CTL n) v).rf g = s.rf g := by
  have hctl : canonAddr (Reg.FL_CH_CTL n) = 0x482018 + 64 * n := if_neg (by unfold Reg.FL_CH_CTL; omega)
  refine rf_writeFields s _ v hlo ?_ ?_ ?_
  · omega
  · unfold Reg.GL_STATUS
    omega
  · unfold Reg.GL_ERR_OFFSET
    omega

theorem rf_flChCtl_len (s : State) (n v : Nat) :
    (s.writeFields (Reg.FL_CH_CTL n) v).rf (Reg.FL_CH_LEN_LEN n) = s.rf (Reg.FL_CH_LEN_LEN n) :=
  rf_flChCtl s n v (a := 0x482010) rfl (by decide) (show 0 < 32 by decide)

/-- A keyed write of a channel's control register: a start, a resume and an abort, each by its bit. -/
theorem flCtl_keyed {s : State} {n : Fin 16} {v k : Nat} (h : Reaches s 3) (hk : keyOk v = true) (hv : bitsOf v 2 0 = k) : s.flCtl n v =
    (let x := s.writeFields (Reg.FL_CH_CTL n) v
     let a := if bitOf k 0 then x.chHostStart n else x
     let b := if bitOf k 1 then a.chResume n else a
     (if bitOf k 2 then b.chAbort n else b).flSettle) := by
  have hb (i : Nat) (hi : i ≤ 2) : bitOf v i = bitOf k i := bitOf_of_bitsOf hv (Nat.zero_le i) hi
  rw [State.flCtl, keyedWrite_keyed (flChCtl_holder n) h hk, hb 0 (by decide), hb 1 (by decide), hb 2 (by decide)]

theorem flCtl_start {s : State} {n : Fin 16} {v : Nat} (h : Reaches s 3) (hk : keyOk v = true) (hv : bitsOf v 2 0 = 1) :
    s.flCtl n v = ((s.writeFields (Reg.FL_CH_CTL n) v).chHostStart n).flSettle := by
  simp [flCtl_keyed h hk hv, bitOf]

theorem flCtl_resume {s : State} {n : Fin 16} {v : Nat} (h : Reaches s 3) (hk : keyOk v = true) (hv : bitsOf v 2 0 = 2) :
    s.flCtl n v = ((s.writeFields (Reg.FL_CH_CTL n) v).chResume n).flSettle := by
  simp [flCtl_keyed h hk hv, bitOf]

theorem flCtl_abort {s : State} {n : Fin 16} {v : Nat} (h : Reaches s 3) (hk : keyOk v = true) (hv : bitsOf v 2 0 = 4) :
    s.flCtl n v = ((s.writeFields (Reg.FL_CH_CTL n) v).chAbort n).flSettle := by
  simp [flCtl_keyed h hk hv, bitOf]

theorem fch_writeFields (s : State) (ga v n : Nat) : (s.writeFields ga v).fch n = s.fch n := by
  rw [State.fch, (fieldsOnly_writeFields s ga v).fl]
  rfl

theorem chHostStart_idle {s : State} {n : Nat} (hn : 8 ≤ n) (h1 : (s.fch n).st ≠ 1) (h2 : (s.fch n).st ≠ 2)
    (hpos : 0 < s.rf (Reg.FL_CH_LEN_LEN n)) (h8 : s.rf (Reg.FL_CH_LEN_LEN n) % 8 = 0)
    (hend : 8 * s.rf (Reg.FL_CH_TSRAM_OFFSET n) + s.rf (Reg.FL_CH_LEN_LEN n) ≤ 1048576) : s.chHostStart n = s.chStart n {
      ctx := s.rf (Reg.FL_CH_CFG_CONTEXT n), iova := 8 * s.rf (Reg.FL_CH_IOVA_LO_IOVA n) + s.rf (Reg.FL_CH_IOVA_HI_IOVA n) * 2 ^ 32
      tsram := 8 * s.rf (Reg.FL_CH_TSRAM_OFFSET n), len := s.rf (Reg.FL_CH_LEN_LEN n), toHost := s.rb (Reg.FL_CH_CFG_DIR n) } :=
  if_neg (by omega)

theorem chHostStart_empty {s : State} {n : Nat} (h : s.rf (Reg.FL_CH_LEN_LEN n) = 0) : s.chHostStart n = s.wr Reg.FL_FELL_REJECT 1 :=
  if_pos (by simp [h])

theorem chResume_halted {s : State} {n : Nat} (h : (s.fch n).st = 2) :
    s.chResume n = (s.setFch n { s.fch n with st := 1 }).emit 3 0xA011 n (s.fch n).done :=
  if_neg (not_not.mpr h)

theorem chAbort_host {s : State} {n : Nat} (hn : 8 ≤ n) (h : (s.fch n).st = 2) :
    s.chAbort n = (s.setFch n { s.fch n with st := 4, walk := none }).emit 3 0xA012 n (s.fch n).done 0 :=
  (if_neg (not_not.mpr h)).trans ((if_neg (by omega)).trans (if_neg (by omega)))

/-! Contexts, granules and timeouts (R604 to R615). -/

theorem ctxWrite_disabled {s : State} {x : Fin 65} (h : Reaches s 3) (hd : s.rb (Reg.FL_CTX0_ENABLE x) = false) (hi : Bool) (v : Word) :
    exec (.ctxWrite x hi v) s = .next (s.writeFields (if hi then Reg.FL_CTX1 x else Reg.FL_CTX0 x) v.toNat) := by
  have hheld : holderOf (if hi then Reg.FL_CTX1 x else Reg.FL_CTX0 x) = some 3 := by
    cases hi
    · exact flCtx0_holder x
    · exact flCtx1_holder x
  exact congrArg Host.Outcome.next ((hostWrite_served hheld h _ _).trans (if_neg (by rw [hd]; decide)))

/-- Granule `k` of the channel is on its way. -/
def FlCh.Live (c : FlCh) (k : Nat) : Prop := (c.st = 1 ∨ c.st = 2) ∧ k < c.issued ∧ c.written ≤ k ∧ ∀ e ∈ c.arrived, e.1 ≠ k

theorem live_iff (c : FlCh) (k : Nat) : ((c.st == 1 || c.st == 2) && decide (k < c.issued) && decide (c.written ≤ k)
    && !c.arrived.any (fun e => e.1 == k)) = true ↔ c.Live k := by
  simp [FlCh.Live, and_assoc]

theorem execGranuleArrived_live {s : State} {n : Fin 16} {k : Fin 16384} (hr : s.inReset 3 = false) (hl : (s.fch n).Live k)
    (bytes : List Byte) (ok : Bool) : execGranuleArrived n k bytes ok s = .next (if !ok then
      (s.chFault n k (if (s.fch n).toHost then 7 else 6) ((s.fch n).iova + 64 * k) none false).flSettle
      else (s.setFch n { s.fch n with arrived := (s.fch n).arrived ++ [(k.val, arrivedBytes bytes 64)] }).flSettle) :=
  congrArg Host.Outcome.next (if_neg (by rw [hr, (live_iff _ _).mpr hl]; decide))

theorem execUpstreamReadTimeout_channel {s : State} (hr : s.polRuns = true) (n : Fin 16) (k : Fin 16384) :
    execUpstreamReadTimeout (n.castLE (by decide)) k s = .next (if (s.fch n).walk.isSome then s.chWalk n 0 false
      else if !(s.fch n).toHost && ((s.fch n).st == 1 || (s.fch n).st == 2) && decide (k.val < (s.fch n).issued)
        && decide ((s.fch n).written ≤ k.val) && !(s.fch n).arrived.any (fun e => e.1 == k.val) then
        s.chFault n k 6 ((s.fch n).iova + 64 * k) none false
      else s).flSettle :=
  congrArg Host.Outcome.next ((if_neg (by rw [hr]; decide)).trans (if_pos n.isLt))

/-- Settles O48: each clause by what its command does under the clause's conditions. -/
theorem flumeCommandsComplete : Obligations.FlumeCommandsComplete := by
  intro s n v k bytes
  dsimp only
  refine ⟨fun h => ⟨fun hk => ⟨fun hv hn h1 h2 hpos h8 hend => congrArg Host.Outcome.next ((flCtl_start h hk hv).trans ?start),
      fun hv h0 => congrArg Host.Outcome.next ((flCtl_start h hk hv).trans ?empty),
      fun hv h2 => congrArg Host.Outcome.next ((flCtl_resume h hk hv).trans ?resume),
      fun hv h2 hn => congrArg Host.Outcome.next ((flCtl_abort h hk hv).trans ?abort)⟩,
    congrArg Host.Outcome.next ((hostWrite_served flInv_holder h _ _).trans ?inv),
    fun x hd => ⟨ctxWrite_disabled h hd false v, ctxWrite_disabled h hd true v⟩,
    fun hv => congrArg Host.Outcome.next ((hostWrite_served flCfg_holder h _ _).trans (if_pos hv))⟩,
    fun hr => ⟨fun hl => ⟨(execGranuleArrived_live hr hl bytes true).trans (congrArg Host.Outcome.next (if_neg (by decide))),
        (execGranuleArrived_live hr hl bytes false).trans (congrArg Host.Outcome.next (if_pos (by decide)))⟩,
      fun u e ok => congrArg Host.Outcome.next (if_neg (by rw [hr]; decide))⟩,
    fun hr => ⟨⟨_, congrArg Host.Outcome.next (if_pos hr), rfl⟩,
      fun hw => (execUpstreamReadTimeout_channel hr n k).trans (congrArg (fun x : State => Host.Outcome.next x.flSettle) (if_pos hw)),
      fun hw hh hl => (execUpstreamReadTimeout_channel hr n k).trans (congrArg (fun x : State => Host.Outcome.next x.flSettle) ?fault),
      fun m hm => congrArg Host.Outcome.next (if_pos (by rw [hr, hm]; rfl))⟩⟩
  case start =>
    have hlen := rf_flChCtl_len s n v.toNat
    have hts := rf_flChCtl s n v.toNat (g := Reg.FL_CH_TSRAM_OFFSET n) (a := 0x48200C) rfl (by decide) (show 3 < 32 by decide)
    have hctx := rf_flChCtl s n v.toNat (g := Reg.FL_CH_CFG_CONTEXT n) (a := 0x482000) rfl (by decide) (show 22 < 32 by decide)
    have hdir := rf_flChCtl s n v.toNat (g := Reg.FL_CH_CFG_DIR n) (a := 0x482000) rfl (by decide) (show 21 < 32 by decide)
    have hiova := rf_flChCtl s n v.toNat (g := Reg.FL_CH_IOVA_LO_IOVA n) (a := 0x482004) rfl (by decide) (show 3 < 32 by decide)
    have hiovaHi := rf_flChCtl s n v.toNat (g := Reg.FL_CH_IOVA_HI_IOVA n) (a := 0x482008) rfl (by decide) (show 0 < 32 by decide)
    rw [chHostStart_idle hn (by rw [fch_writeFields]; exact h1) (by rw [fch_writeFields]; exact h2) (by rw [hlen]; exact hpos)
      (by rw [hlen]; exact h8) (by rw [hlen, hts]; exact hend), State.rb, hlen, hts, hctx, hdir, hiova, hiovaHi]
    rfl
  case empty => rw [chHostStart_empty ((rf_flChCtl_len s n v.toNat).trans h0)]
  case resume =>
    rw [chResume_halted (by rw [fch_writeFields]; exact h2), fch_writeFields]
  case abort =>
    rw [chAbort_host hn (by rw [fch_writeFields]; exact h2), fch_writeFields]
  case inv => rfl
  case fault =>
    rw [hw]
    refine (if_neg (by decide)).trans (if_pos ?_)
    rw [hh, Bool.not_false, Bool.true_and]
    exact (live_iff _ _).mpr hl

end Sys2Proof.Machine
end

section
/-! The commands of the Catchment. -/

namespace Sys2Proof.Machine
open Sys2Proof
set_option Elab.async false

theorem vxCbCtl_holder : holderOf Reg.VX_CB_CTL = some 4 := by decide +kernel
theorem vxStagger_holder : holderOf Reg.VX_STAGGER = some 4 := by decide +kernel

/-! Frames (R625, R626). -/

/-- A good frame of its type on a port that is up is acted on. -/
theorem vxTake_good {s : State} {p ty : Nat} {l : List Byte} (hr : s.fabRuns = true) (hl : (s.vp p).link = 2) (hb : vxBad (vxFrame l) = false)
    (ht : (vxFrame l).ty.toNat = ty) (act : VxFrame → State → State) : s.vxTake p ty l act = act (vxFrame l) s := by
  refine (if_neg (by rw [hr, hl]; decide)).trans ((if_neg (by rw [hb]; decide)).trans (if_pos ht))

/-- A frame that fails its checks only counts an error. -/
theorem vxTake_bad {s : State} {p : Nat} {l : List Byte} (hr : s.fabRuns = true) (hl : (s.vp p).link = 2) (hb : vxBad (vxFrame l) = true)
    (ty : Nat) (act : VxFrame → State → State) : s.vxTake p ty l act = s.satAdd (Reg.VX_PORT_ERR_ERRORS p) 1 :=
  (if_neg (by rw [hr, hl]; decide)).trans (if_pos hb)

/-! The ceiling (R675 to R682). -/

theorem injectRule_legal {s : State} {c o per : Nat} (h0 : 0 < o) (h1 : o < c) (hp : per = 1 ∨ per = 2) (ha : s.myAddr ≠ 0) :
    s.injectRule c o per = 0 := by
  refine (if_neg (by rw [decide_eq_true h0, decide_eq_true h1]; decide)).trans ((if_neg ?_).trans (if_neg ha))
  omega

theorem injectRule_order {s : State} {c o : Nat} (h : ¬ (0 < o ∧ o < c)) (per : Nat) : s.injectRule c o per = 1 :=
  if_pos (by simp only [Bool.not_eq_true', Bool.and_eq_false_iff, decide_eq_false_iff_not]; omega)

/-- A keyed INJECT, by the rule that it breaks. -/
theorem ceilInject_keyed {s : State} {v : Word} (h : Reaches s 4) (hk : keyOk v.toNat = true) (hv : bitOf v.toNat 0 = true) :
    let w := s.writeFields Reg.VX_CB_CTL v.toNat
    let c := s.rf Reg.VX_CEIL_SET_CEIL
    let o := s.rf Reg.VX_ORPH_SET_ORPH_TOTAL
    exec (.ceilInject v) s = .next (if w.injectRule c o (bitsOf v.toNat 9 8) ≠ 0 then
        (w.wr Reg.VX_CB_FELL_REJECT 1).emit 4 0xB021 c o (w.injectRule c o (bitsOf v.toNat 9 8))
      else (w.holdCeil s.myId (s.rf Reg.VX_CVER_VERSION + 1) c o (bitsOf v.toNat 9 8)).floodCeil
        (w.holdCeil s.myId (s.rf Reg.VX_CVER_VERSION + 1) c o (bitsOf v.toNat 9 8)).catchPorts) := by
  have hrf {g : Fld} (hlo : g.lo < 32) (ha : canonAddr Reg.VX_CB_CTL ≠ g.addr) (h1 : Reg.GL_STATUS ≠ g.addr) (h2 : Reg.GL_ERR_OFFSET ≠ g.addr) :
      (s.writeFields Reg.VX_CB_CTL v.toNat).rf g = s.rf g := rf_writeFields s _ _ hlo ha h1 h2
  have hid : (s.writeFields Reg.VX_CB_CTL v.toNat).myId = s.myId := by
    obtain ⟨_, _, hw⟩ := fieldsOnly_writeFields s Reg.VX_CB_CTL v.toNat
    rw [hw]
    rfl
  refine congrArg Host.Outcome.next ((keyedWrite_keyed vxCbCtl_holder h hk _).trans ?_)
  dsimp only
  rw [hrf (by decide) (by decide) (by decide) (by decide), hrf (g := Reg.VX_ORPH_SET_ORPH_TOTAL) (by decide) (by decide) (by decide) (by decide),
    hrf (g := Reg.VX_CVER_VERSION) (by decide) (by decide) (by decide) (by decide), hid]
  exact if_neg (by rw [hv]; decide)

theorem myAddr_cbCtl (s : State) (v : Nat) : (s.writeFields Reg.VX_CB_CTL v).myAddr = s.myAddr :=
  rf_writeFields s _ v (by decide) (by decide) (by decide) (by decide)

/-! Children and the root (R685 to R689). -/

theorem child_setChild_self (s : State) (p : Nat) (x : Child) : (s.setChild p x).child p = x := mget_mput_self _ _ _ _

theorem child_setChild_ne (s : State) {p q : Nat} (x : Child) (h : q ≠ p) : (s.setChild p x).child q = s.child q :=
  mget_mput_ne _ _ _ (Ne.symm h)

theorem holdDown_reporting {s : State} {p : Nat} (hr : (s.child p).reports = true) (hd : (s.child p).heldDown = false) (cause : Nat) :
    s.holdDown p cause = ((s.setChild p { s.child p with heldDown := true }).wr Reg.VX_CB_FELL_HELD_DOWN 1).emit 4 0xB025 p cause
      (s.child p).allot :=
  if_pos (by rw [hr, hd]; rfl)

theorem rootCompute_unheld {s : State} (hr : s.fabRuns = true) (hc : s.fb.chops = 0) (hv : s.rf Reg.VX_CVER_VERSION = 0)
    (hm : s.cb.rootMaj = false) :
    exec .rootCompute s = .next (({ s.formReport with cb.rootMaj := false, cb.excess := false } : State).allotNone 0) := by
  have hver : s.formReport.rf Reg.VX_CVER_VERSION = 0 := hv
  change execRootCompute s = _
  simp [execRootCompute, hr, hc, hver, hm]

/-! The twin's copy of the share and the stagger slot (R693 to R696). -/

theorem staggerWrite_served {s : State} (h : Reaches s 4) (v : Word) :
    let w := s.writeFields Reg.VX_STAGGER v.toNat
    Yields (.staggerWrite v) s (fun t => t.cb.slot = w.rf Reg.VX_STAGGER_SLOT
      ∧ t.raised = w.raised ++ [⟨4, 0xB032, none, p32 s.cb.slot, p32 (w.rf Reg.VX_STAGGER_SLOT), 0, 0, 8⟩]) :=
  ⟨_, congrArg Host.Outcome.next (hostWrite_served vxStagger_holder h _ _), rfl, rfl⟩

theorem twinShareCopy_owner {s : State} (hr : s.fabRuns = true) (hl : s.tw.linkUp = true) (ho : s.owner = true) (w k : Word) (b : Byte) (o : Bool) :
    exec (.twinShareCopy w k b o) s =
      .next (s.out (.twin 3 [s.shareW, if s.cb.shed then s.cb.shedLevel else 0, s.cb.slot, b01 s.cb.orphan])) :=
  congrArg Host.Outcome.next ((if_neg (by rw [hl]; decide)).trans ((if_pos ho).trans (if_pos hr)))

theorem twinShareCopy_standby {s : State} (hl : s.tw.linkUp = true) (ho : s.owner = false) (w k : Word) (b : Byte) (o : Bool) :
    exec (.twinShareCopy w k b o) s = .next { s with
      tw.shareCopy := some (w.toNat, s.now), cb.orphan := o, cb.slot := b.toNat
      cb.shedLevel := if s.cb.shed then s.cb.shedLevel else k.toNat } :=
  congrArg Host.Outcome.next ((if_neg (by rw [hl]; decide)).trans (if_neg (by rw [ho]; decide)))

theorem childMissing_here {s : State} {p : Fin 6} (hr : s.fabRuns = true) (hc : (s.child p).reports = true) (hd : (s.child p).heldDown = false) :
    exec (.childMissing p false) s = .next (((s.setChild p { s.child p with heldDown := true }).wr Reg.VX_CB_FELL_HELD_DOWN 1).emit 4 0xB025 p 2
      (s.child p).allot) :=
  congrArg Host.Outcome.next ((if_pos hr).trans (holdDown_reporting hc hd 2))

theorem childDrop_heldDown {s : State} {p : Fin 6} (hr : s.fabRuns = true) (hd : (s.child p).heldDown = true) :
    exec (.childDrop p) s = .next ((s.setChild p {}).emit 4 0xB026 p (s.child p).floor (s.child p).pkgs) :=
  congrArg Host.Outcome.next (if_pos (by rw [hr, hd]; rfl))

theorem usec_val : usec = 1000 := rfl
theorem tenUsec_val : 10 * usec = 10000 := rfl

/-- A SHED frame while none is in force, with hops left and its time to come. -/
theorem shedReceived_first {s : State} {p : Fin 6} {l : List Byte} {u : Nat} (hr : s.fabRuns = true) (hl : (s.vp p).link = 2)
    (hb : vxBad (vxFrame l) = false) (ht : (vxFrame l).ty.toNat = 0x23) (hc : s.catchPorts.contains p.val = true)
    (he : s.now + fbody (vxFrame l) 8 4 * usec - 10 * usec = u) (hn : s.cb.shed = false) (hu : s.now < u) (ho : 1 < (vxFrame l).ttl.toNat) :
    let ports := s.catchPorts.filter (fun q => q != p.val)
    let n := (u - s.now) / usec
    let y := (({ s with cb.shedUntil := u } : State).shedBegin (fbody (vxFrame l) 0 8) true).vxForward ports (vxFrame l)
      (shedBody (fbody (vxFrame l) 0 8) n 0)
    exec (.shedReceived p l) s = .next { y with
      cb.copies := y.cb.copies ++ [(ports, fwdOut (vxFrame l) (shedBody (fbody (vxFrame l) 0 8) n 1))] } := by
  refine congrArg Host.Outcome.next ((vxTake_good hr hl hb ht _).trans ?_)
  dsimp only
  rw [he, hc]
  generalize (u - s.now) / usec = n
  refine (if_neg (by decide)).trans ((if_pos (by rw [hn, decide_eq_true hu]; rfl)).trans ?_)
  rw [if_pos hu, if_neg (Nat.not_le.mpr ho)]
  rfl

theorem msec_val : msec = 1000000 := rfl
theorem orphanTimeout_owner {s : State} (hr : s.inReset 4 = false) (ho : s.owner = true) (hn : s.cb.orphan = false) {a : Nat}
    (ha : s.cb.allotAt = some a) : exec .orphanTimeout s =
        .next (((({ s with cb.orphan := true, cb.orphanTold := true, cb.orphanAt := s.now } : State).wr Reg.VX_CB_FELL_ORPHAN 1).emit 4 0xB023
          ((s.now - a) / msec) (s.rf Reg.VX_CB_CFG_ORPHAN)).budgetMoved) := by
  refine congrArg Host.Outcome.next ((if_pos (by rw [hr, ho, hn]; rfl)).trans ?_)
  rw [ha]

/-- A REPORT of a neighbour that has sent none before makes it a child with its sums. -/
def State.firstReport (s : State) (p : Fin 6) (f : VxFrame) : State :=
  s.setChild p { s.child p with
    reports := true, heldDown := false, demand := fbody f 4 4, floor := fbody f 8 4, pkgs := fbody f 12 3, late := none }

/-- Settles O50: each clause by what its command does under the clause's conditions. -/
theorem catchmentCommandsComplete : Obligations.CatchmentCommandsComplete := by
  intro s p l v
  dsimp only
  refine ⟨fun h => ⟨fun hk hv => ⟨fun h0 h1 hp ha => (ceilInject_keyed h hk hv).trans (congrArg Host.Outcome.next ?inject),
      fun hn => (ceilInject_keyed h hk hv).trans (congrArg Host.Outcome.next ?reject)⟩,
      staggerWrite_served h v⟩,
    fun ⟨hr, hl, hb, ht, hc⟩ hlt => congrArg Host.Outcome.next ((vxTake_good hr hl hb ht _).trans ?ceiling),
    fun ⟨hr, hl, hb, ht, hc⟩ hn => ⟨s.firstReport p (vxFrame l), congrArg Host.Outcome.next ((vxTake_good hr hl hb ht _).trans ?report), ?child⟩,
    fun ⟨hr, hl, hb, ht, hc⟩ hp => congrArg Host.Outcome.next ((vxTake_good hr hl hb ht _).trans ?allot),
    fun ⟨hr, hl, hb, ht, hc⟩ hn hu ho => ?shed,
    fun hr => ⟨fun q hp h1 h63 hc => ?slot, fun hc hv hm => rootCompute_unheld hr hc hv hm,
      fun hc hd => ⟨_, childMissing_here hr hc hd, ?missing⟩,
      fun hd => ⟨_, childDrop_heldDown hr hd, ?drop⟩,
      fun ports o rest hc => ?copy, twinShareCopy_owner hr⟩,
    fun hl ho w k b o => ⟨_, twinShareCopy_standby hl ho w k b o, rfl, rfl, rfl, rfl, rfl⟩,
    fun hr ho hn a ha => ?orphan, fun hs => congrArg Host.Outcome.next (if_pos hs),
    fun hs => congrArg Host.Outcome.next (if_neg (by rw [hs]; decide))⟩
  case inject => exact if_neg (not_not.mpr (injectRule_legal h0 h1 hp ((myAddr_cbCtl s v.toNat).symm ▸ ha)))
  case reject => simp only [injectRule_order hn, ne_eq, one_ne_zero, not_false_eq_true, if_true]
  case ceiling =>
    dsimp only
    rw [hc]
    exact if_pos (Or.inl hlt)
  case report =>
    dsimp only
    rw [hc, if_neg (by decide), if_neg (by rw [hn]; simp)]
    rfl
  case child =>
    simp only [State.firstReport, child_setChild_self, true_and]
    exact fun q hq => child_setChild_ne s _ hq
  case allot =>
    rw [hc]
    exact if_neg (by simp [hp])
  case shed =>
    have hu' : s.now + fbody (vxFrame l) 8 4 * usec - 10 * usec = s.now + fbody (vxFrame l) 8 4 * 1000 - 10000 := by
      rw [tenUsec_val, usec_val]
    exact (shedReceived_first hr hl hb ht hc hu' hn hu ho).trans (by rw [usec_val])
  case slot =>
    change execReportSlot s = _
    simp only [execReportSlot, hp, hr, hc, h1, h63]
    rfl
  case missing =>
    have hchild (x : Child) : (((s.setChild p x).wr Reg.VX_CB_FELL_HELD_DOWN 1).emit 4 0xB025 p 2 (s.child p).allot).child p = x :=
      child_setChild_self s p x
    have hfell (t : State) (i c x y z : Nat) : ((t.wr Reg.VX_CB_FELL_HELD_DOWN 1).emit i c x y z).rf Reg.VX_CB_FELL_HELD_DOWN = 1 :=
      State.rf_wr_self t _ 1
    exact ⟨by rw [hchild], by rw [hchild], hfell _ _ _ _ _ _, rfl⟩
  case drop =>
    refine ⟨child_setChild_self s p {}, fun q hq => child_setChild_ne s {} hq, rfl⟩
  case copy =>
    change execShedCopy1 s = _
    simp only [execShedCopy1, hc]
    exact congrArg Host.Outcome.next (if_pos hr)
  case orphan => exact (orphanTimeout_owner hr ho hn ha).trans (by rw [msec_val])

end Sys2Proof.Machine
end

section
/-! The commands of the fabric. -/

namespace Sys2Proof.Machine
open Sys2Proof
set_option Elab.async false

theorem vxTimeCtl_holder : holderOf Reg.VX_TIME_CTL = some 4 := by decide +kernel
theorem vxCtl_holder : holderOf Reg.VX_CTL = some 4 := by decide +kernel

/-! Ports (R625, R626, R669). -/

theorem bitOf_setBitsOf_zero (v n : Nat) : bitOf (setBitsOf v n n 0) n = false := by
  have hb : bitsOf v n n = v / 2 ^ n % 2 := by
    rw [bitsOf, Nat.add_sub_cancel_left, Nat.pow_one]
  have hval : setBitsOf v n n 0 = (v / 2 ^ n - v / 2 ^ n % 2) * 2 ^ n + v % 2 ^ n := by
    have hdiv := Nat.div_add_mod' v (2 ^ n)
    rw [setBitsOf, hb, Nat.zero_mod, Nat.zero_mul, Nat.add_zero, Nat.sub_mul]
    have hle : v / 2 ^ n % 2 * 2 ^ n ≤ v / 2 ^ n * 2 ^ n := Nat.mul_le_mul_right _ (Nat.mod_le _ _)
    omega
  have hlt := Nat.mod_lt v (Nat.two_pow_pos n)
  rw [bitOf_eq_testBit, Nat.testBit_eq_decide_div_mod_eq, hval, Nat.add_comm, Nat.add_mul_div_right _ _ (Nat.two_pow_pos n),
    Nat.div_eq_of_lt hlt]
  exact decide_eq_false (by omega)

/-! What sending leaves alone: PPS_IN's standing and VX_FELL.TIME. -/

structure SendsOnly (s t : State) : Prop where
  last : t.fb.ppsLast = s.fb.ppsLast
  run : t.fb.ppsRun = s.fb.ppsRun
  valid : t.fb.ppsValid = s.fb.ppsValid
  time : t.rf Reg.VX_FELL_TIME = s.rf Reg.VX_FELL_TIME

theorem SendsOnly.refl (s : State) : SendsOnly s s := ⟨rfl, rfl, rfl, rfl⟩

theorem SendsOnly.trans {s t u : State} (h : SendsOnly s t) (h' : SendsOnly t u) : SendsOnly s u :=
  ⟨h'.last.trans h.last, h'.run.trans h.run, h'.valid.trans h.valid, h'.time.trans h.time⟩

theorem sendsOnly_egressPut (s : State) (p : Nat) (o : VxOut) : SendsOnly s (s.egressPut p o) := by
  unfold State.egressPut
  dsimp only
  split
  · exact SendsOnly.refl s
  · split
    · exact ⟨rfl, rfl, rfl, rfl⟩
    · exact ⟨rfl, rfl, rfl, State.rf_wr_ne _ _ (key_ne_of_lo_ne (Nat.zero_lt_succ 31) (by decide) Nat.zero_ne_one)⟩

theorem sendsOnly_vxSend (s : State) (ports : List Nat) (ty cls dst : Nat) (body : List Nat) : SendsOnly s (s.vxSend ports ty cls dst body) := by
  unfold State.vxSend
  dsimp only
  split
  · exact SendsOnly.refl s
  · exact List.foldlRecOn (motive := SendsOnly s) ports _ ⟨rfl, rfl, rfl, rfl⟩ fun t ht q _ => ht.trans (sendsOnly_egressPut t q _)

theorem sendsOnly_originate (s : State) : SendsOnly s s.originate := by
  unfold State.originate
  split
  · exact SendsOnly.refl s
  · dsimp only
    refine SendsOnly.trans ?_ (sendsOnly_vxSend _ _ _ _ _ _)
    exact ⟨rfl, rfl, rfl, rfl⟩

theorem fellTime_told (t : State) (i c x y z : Nat) : ((t.wr Reg.VX_FELL_TIME 1).emit i c x y z).rf Reg.VX_FELL_TIME = 1 :=
  State.rf_wr_self t _ 1

/-! Neighbours and time (R637 to R639, R658 to R665). -/

theorem vp_timeParent (s : State) (p : Nat) : s.timeParent.vp p = s.vp p := by
  unfold State.timeParent State.enterHoldover State.vp
  dsimp only
  repeat' split
  all_goals rfl

theorem holdover_of_parent {s : State} {q : Nat} (hr : s.fabRuns = true) (hp : s.fb.parent = some q) (hh : s.fb.holdover = false) :
    exec .holdover s = .next ((({ s with fb.holdover := true } : State).wr Reg.VX_FELL_TIME 1).emit 4 0xB00B q 1) := by
  change execHoldover s = _
  simp only [execHoldover, hp, hr, State.enterHoldover, hh]
  rfl

/-- A port with the identity, address and hop counts that a HELLO gives its neighbour, which is not up yet. -/
def VxPort.named (x : VxPort) (f : VxFrame) : VxPort := { x with
  nbr := 0, nbId := fbody f 0 8, nbAddr := fbody f 8 4, nbFlags := fbody f 13 1, nbThops := fbody f 14 1, nbChops := fbody f 15 1 }

theorem adopt_below_twoway {s : State} {p : Nat} (h : (s.vp p).nbr < 2) : s.adopt p = s := if_neg (by omega)

theorem helloStep_down {s : State} {p : Nat} (h : (s.vp p).nbr = 0) (seen flags : Nat) :
    s.helloStep p seen flags = s.setVp p { s.vp p with nbr := 1, synced := false } := by
  unfold State.helloStep
  simp only [h]

/-- The first HELLO of a new neighbour, where this node knows of no group yet. -/
theorem helloReceived_new {s : State} {p : Fin 6} {l : List Byte} (hr : s.fabRuns = true) (hl : (s.vp p).link = 2)
    (hb : vxBad (vxFrame l) = false) (ht : (vxFrame l).ty.toNat = 0x01) (hg : s.groupBase = none) (hn : (s.vp p).nbr = 0) :
    exec (.helloReceived p l) s = .next ((s.setVp p ((s.vp p).named (vxFrame l))).setVp p
      { (s.vp p).named (vxFrame l) with nbr := 1, synced := false }).timeParent := by
  refine congrArg Host.Outcome.next ((vxTake_good hr hl hb ht _).trans ?_)
  have hmoved (a : Nat) : ¬ (0 = 3 ∧ (s.vp p).nbAddr ≠ a) := by omega
  have hnone (a b : Prop) : ¬ (a ∧ s.groupBase.isSome = true ∧ b) := by simp [hg]
  simp only [hn, hmoved, hnone, ne_eq, not_true_eq_false, false_and, if_false, decide_false, Bool.not_false, if_true]
  rw [adopt_below_twoway (by rw [vp_setVp_self]; exact Nat.zero_lt_two), helloStep_down (by rw [vp_setVp_self]), vp_setVp_self]
  rfl

/-! The database, notices and PPS_IN (R641, R655, R665). -/

theorem repNotices_quiet (s : State) (n c i e x y z w : Nat) :
    (((s.satAdd (Reg.VX_REP2_NOTICES n) c).wr (Reg.VX_REP2_LAST_CODE n) i).emit e x y z w).rb Reg.VX_NOTICE_Q_VALID
      = s.rb Reg.VX_NOTICE_Q_VALID := by
  have haddr : Reg.VX_REP2 n ≠ Reg.VX_NOTICE_Q := by
    simp only [Reg.VX_REP2, Reg.VX_NOTICE_Q]
    omega
  have hcode : (Reg.VX_REP2_LAST_CODE n).key ≠ Reg.VX_NOTICE_Q_VALID.key := key_ne_of_addr_ne (show 24 < 32 by decide) (by decide) haddr
  have hnote : (Reg.VX_REP2_NOTICES n).key ≠ Reg.VX_NOTICE_Q_VALID.key := key_ne_of_addr_ne (show 0 < 32 by decide) (by decide) haddr
  exact congrArg (· != 0) ((State.rf_wr_ne _ i hcode).trans (State.rf_wr_ne s _ hnote))

/-- The count of edges of PPS_IN 1 s apart after one more. -/
def State.ppsNext (s : State) : Nat := match s.fb.ppsLast with
  | some e => if 999800000 ≤ s.now - e ∧ s.now - e ≤ 1000200000 then min 3 (s.fb.ppsRun + 1) else 1
  | none => 1

/-- A rising edge of PPS_IN counts, in its place or not. -/
def State.ppsCounted (s : State) : State := { s with
  fb.ppsLast := some s.now
  fb.ppsRun := s.ppsNext
  fb.ppsValid := s.fb.ppsValid || decide (3 ≤ s.ppsNext)
  fb.ppsSince := if s.fb.ppsValid && (s.fb.ppsValid || decide (3 ≤ s.ppsNext)) then s.fb.ppsSince else s.now }

/-- A valid edge sets the time that waits for it, or aligns a root's phase. -/
def State.ppsAligned (s : State) : State := match s.fb.setDue with
  | some t => if s.fb.ppsValid then ({ s with fb.setDue := none } : State).setWeir t else s
  | none =>
    if s.fb.ppsValid && (s.isGroot || s.isCroot) then s.setWeir ((s.weirNs + 500000000) / 1000000000 * 1000000000) else s

theorem sendsOnly_ppsAligned (s : State) : SendsOnly s s.ppsAligned := by
  unfold State.ppsAligned
  repeat' split
  all_goals exact ⟨rfl, rfl, rfl, rfl⟩

theorem ppsEdge_running {s : State} (hr : s.fabRuns = true) : exec .ppsEdge s =
    .next (if s.ppsCounted.fb.ppsValid == s.fb.ppsValid then s.ppsCounted.ppsAligned else s.ppsCounted.ppsAligned.originate) := by
  have hsat (n : Nat) : satU 2 n = min 3 n := by
    unfold satU
    split <;> omega
  refine congrArg Host.Outcome.next ((if_neg (by rw [hr]; decide)).trans ?_)
  unfold State.ppsCounted State.ppsNext
  cases s.fb.ppsLast with
  | none => rfl
  | some e =>
    simp only [hsat, ← Bool.decide_and, decide_eq_true_eq]
    rfl

theorem ppsEdge_counts {s : State} (hr : s.fabRuns = true) : ∃ t, exec .ppsEdge s = .next t ∧ SendsOnly s.ppsCounted t := by
  refine ⟨_, ppsEdge_running hr, ?_⟩
  split
  · exact sendsOnly_ppsAligned _
  · exact (sendsOnly_ppsAligned _).trans (sendsOnly_originate _)

theorem ppsLost_valid {s : State} (hr : s.fabRuns = true) (hv : s.fb.ppsValid = true) :
    exec .ppsLost s = .next ((({ s with fb.ppsValid := false, fb.ppsRun := 0 } : State).wr Reg.VX_FELL_TIME 1).emit 4 0xB00C
      ((s.now - s.fb.ppsSince) / second)).originate :=
  congrArg Host.Outcome.next (if_pos (by rw [hr, hv]; rfl))

theorem timeSetApply_keyed {s : State} {v : Word} (h : Reaches s 4) (hk : keyOk v.toNat = true) (hv : bitOf v.toNat 0 = true) :
    let w := s.writeFields Reg.VX_TIME_CTL v.toNat
    let t := w.rf Reg.VX_TIME_SET_LO_SET + 2 ^ 32 * w.rf Reg.VX_TIME_SET_HI_SET
    exec (.timeSetApply v) s = .next (if !s.isCroot then w.wr Reg.VX_FELL_REJECT 1
      else if s.fb.ppsValid then { w with fb.setDue := some t } else { w with fb.ofs := ((t : Int) - s.now) * 65536 }) := by
  refine congrArg Host.Outcome.next ((keyedWrite_keyed vxTimeCtl_holder h hk _).trans ((if_neg (by rw [hv]; decide)).trans ?_))
  obtain ⟨_, _, hw⟩ := fieldsOnly_writeFields s Reg.VX_TIME_CTL v.toNat
  rw [hw]
  rfl

/-- The SUMMARY of a frame that came from a foreign neighbour on a port. -/
def State.summaryOf (s : State) (p : Nat) (f : VxFrame) : Summary := {
  origin := fbody f 0 4, part := fbody f 10 1, parts := fbody f 11 1, age := fbody f 8 2, since := s.now, sseq := fbody f 4 4, port := some p
  croot := fbody f 16 8, crkey := fbody f 24 1, crprio := fbody f 25 1
  entries := ((List.range (fbody f 12 2)).map (fun i =>
    (fbody f (28 + 8 * i) 1, fbody f (29 + 8 * i) 2 % 512, fbody f (31 + 8 * i) 1))).take 4096 }

/-- Settles O49: each clause by what its command does under the clause's conditions. -/
theorem fabricCommandsComplete : Obligations.FabricCommandsComplete := by
  intro s p l v
  dsimp only
  refine ⟨fun fec hr he hx hl => ⟨_, congrArg Host.Outcome.next (if_pos (by rw [hr, he, hx, bne_iff_ne.mpr hl]; rfl)), ?up⟩,
    fun c hr hl hc => congrArg Host.Outcome.next (?down),
    fun hr hn => congrArg Host.Outcome.next (if_neg (by rw [hr, beq_eq_false_iff_ne.mpr hn]; decide)),
    fun hr he hm hl => congrArg Host.Outcome.next (if_pos (by rw [hr, he, hm, bne_iff_ne.mpr hl]; rfl)),
    fun ⟨hr, hl, hb, ht⟩ hg hn => ?hello, fun c hc hr hl hb => ?bad,
    fun ⟨hr, hl, hb, ht⟩ => congrArg Host.Outcome.next (vxTake_good hr hl hb ht _),
    fun ⟨hr, hl, hb, ht⟩ => ?trsp,
    fun ⟨hr, hl, hb, ht⟩ hn hi hs he hf => congrArg Host.Outcome.next ((vxTake_good hr hl hb ht _).trans ?lsa),
    fun ⟨hr, hl, hb, ht⟩ hf hc hs ho hg he => ⟨s.summaryOf p (vxFrame l), rfl, rfl, rfl, rfl,
      congrArg Host.Outcome.next ((vxTake_good hr hl hb ht _).trans ?summary)⟩,
    fun ⟨hr, hl, hb, ht⟩ hf => congrArg Host.Outcome.next ((vxTake_good hr hl hb ht _).trans (if_neg (by rw [hf]; decide))),
    fun ⟨hr, hl, hb, ht⟩ hf => ⟨fun hd => congrArg Host.Outcome.next ((vxTake_good hr hl hb ht _).trans ?route),
      fun hd ha hq n hn => congrArg Host.Outcome.next ((vxTake_good hr hl hb ht _).trans ?notice)⟩,
    fun hr => ⟨congrArg Host.Outcome.next (if_pos hr), congrArg Host.Outcome.next (if_pos hr),
      fun d hd => congrArg Host.Outcome.next (if_pos (by rw [hr, bne_iff_ne.mpr hd]; rfl)),
      fun ha => congrArg Host.Outcome.next (if_pos (by rw [hr, ha]; rfl)), congrArg Host.Outcome.next (if_pos hr),
      fun hb ha => congrArg Host.Outcome.next (if_pos (by rw [hr, hb, bne_iff_ne.mpr ha]; rfl)), fun o => congrArg Host.Outcome.next (if_pos hr),
      fun q hq => ⟨?treq, fun hh => ⟨_, holdover_of_parent hr hq hh, rfl, fellTime_told _ _ _ _ _ _, hq, rfl⟩⟩, ?edge,
      fun hv => ?lost⟩,
    fun h => ⟨fun hk hv => ?time, fun hv => congrArg Host.Outcome.next ?save⟩⟩
  case up => exact ⟨vp_setVp_self _ _ _, fun q hq => vp_setVp_ne _ _ hq, bitOf_setBitsOf_zero _ _, rfl⟩
  case down =>
    match c, hc with
    | 0, _ => exact if_neg (by simp [hr, hl])
    | 1, _ => exact if_neg (by simp [hr, hl])
    | 2, hc => exact if_neg (by simp [hr, hl, hc rfl])
  case hello =>
    refine ⟨_, helloReceived_new hr hl hb ht hg hn, ?_⟩
    dsimp only
    rw [vp_timeParent, vp_setVp_self]
    exact ⟨rfl, rfl, rfl, hl⟩
  case bad =>
    simp only [List.mem_cons, List.not_mem_nil, or_false] at hc
    obtain rfl | rfl | rfl | rfl | rfl | rfl | rfl := hc <;> exact congrArg Host.Outcome.next (vxTake_bad hr hl hb _ _)
  case trsp =>
    split
    case isTrue h => exact congrArg Host.Outcome.next ((vxTake_good hr hl hb ht _).trans (if_pos h))
    case isFalse h => exact congrArg Host.Outcome.next ((vxTake_good hr hl hb ht _).trans (if_neg h))
  case lsa =>
    dsimp only
    rw [if_neg (by simp [hs]; omega), if_neg hi]
    cases hfind : s.fb.lsas.find? (fun e => e.1 == fbody (vxFrame l) 0 8) with
    | none => exact (if_neg (by simp)).trans (if_neg (by rw [decide_eq_false (Nat.not_le.mpr hf)]; decide))
    | some e => exact (if_neg (by simp [he e hfind])).trans (if_neg (by simp))
  case summary =>
    have hcls : ((vxFrame l).cls == 0x0A) = true := beq_iff_eq.mpr hc
    simp only [hf, hcls, hs, hg, beq_eq_false_iff_ne.mpr ho, List.find?_nil, List.filter_nil, List.map_nil, List.sum_nil, List.length_map,
      List.length_range, Nat.zero_add, Nat.sub_zero, List.nil_append, Nat.not_lt.mpr he, Bool.not_true, Bool.and_false, Bool.or_false,
      Bool.false_and, Bool.false_eq_true, if_false, if_true]
    rfl
  case route =>
    dsimp only
    rw [hf, if_neg (by decide), if_neg fun h => hd h.1]
  case notice =>
    dsimp only
    rw [hf, if_neg (by decide), if_pos ⟨hd, ha⟩, hn]
    exact if_neg (by rw [List.foldl_cons, List.foldl_nil, repNotices_quiet, hq]; decide)
  case treq =>
    change execTreqTimer s = _
    simp only [execTreqTimer, hq, hr]
    rfl
  case edge =>
    obtain ⟨t, ht, hk⟩ := ppsEdge_counts hr
    exact ⟨t, ht, hk.last, hk.run, hk.valid⟩
  case lost =>
    have hk := sendsOnly_originate ((({ s with fb.ppsValid := false, fb.ppsRun := 0 } : State).wr Reg.VX_FELL_TIME 1).emit 4 0xB00C
      ((s.now - s.fb.ppsSince) / second))
    exact ⟨_, ppsLost_valid hr hv, hk.valid, hk.run, hk.time.trans (fellTime_told _ _ _ _ _ _)⟩
  case time =>
    refine ⟨fun hc => ?_, fun hc hp => ?_, fun hc hp => ?_⟩ <;> refine (timeSetApply_keyed h hk hv).trans (congrArg Host.Outcome.next ?_)
    · exact if_pos (by rw [hc]; rfl)
    · exact (if_neg (by rw [hc]; decide)).trans (if_pos hp)
    · exact (if_neg (by rw [hc]; decide)).trans (if_neg (by rw [hp]; decide))
  case save => exact (hostWrite_served vxCtl_holder h _ _).trans (if_pos hv)

end Sys2Proof.Machine
end

section
/-! The commands of the front end. -/

namespace Sys2Proof.Machine
open Sys2Proof
set_option Elab.async false

theorem cfCtl_holder : holderOf Reg.CF_CTL = some 3 := by decide +kernel

section
variable (r : Fin 1024)
theorem cfRingTail_holder : holderOf (Reg.CF_RING_TAIL r) = some 3 :=
  holderOf_row (by decide) (by decide +kernel) (by decide +kernel) r.isLt (by omega)
theorem cfRingCtl_holder : holderOf (Reg.CF_RING_CTL r) = some 3 :=
  holderOf_row (by decide) (by decide +kernel) (by decide +kernel) r.isLt (by omega)
theorem cfRingCfg_holder : holderOf (Reg.CF_RING_CFG r) = some 3 :=
  holderOf_row (by decide) (by decide +kernel) (by decide +kernel) r.isLt (by omega)
end

theorem cfVec_holder (n : Fin 256) : holderOf (Reg.CF_VEC n) = some 5 :=
  holderOf_row (by decide) (by decide +kernel) (by decide +kernel) n.isLt (by omega)

/-! The front end's registers (R559, R561, R563, R588). -/

theorem ringCtl_keyed {s : State} {r : Fin 1024} {v : Word} (h : Reaches s 3) (hk : keyOk v.toNat = true) :
    let w := s.writeFields (Reg.CF_RING_CTL r) v.toNat
    (bitsOf v.toNat 1 0 = 2 → s.ringCtl r v.toNat = (w.ringAbort r).flSettle)
      ∧ (bitsOf v.toNat 1 0 = 1 → s.ringCtl r v.toNat = (w.setRing r { w.ring r with stopped := false }).cfPrefetch.flSettle) := by
  have hact := keyedWrite_keyed (cfRingCtl_holder r) h hk
  have hbit {n i : Nat} (hv : bitsOf v.toNat 1 0 = n) (hi : i ≤ 1) : bitOf v.toNat i = bitOf n i := bitOf_of_bitsOf hv (Nat.zero_le i) hi
  refine ⟨fun hv => (hact _).trans ?_, fun hv => (hact _).trans ?_⟩
  · simp only [hbit hv (Nat.le_refl 1), hbit hv (Nat.zero_le 1), show bitOf 2 1 = true by decide, show bitOf 2 0 = false by decide,
      Bool.false_eq_true, if_false, if_true]
  · simp only [hbit hv (Nat.le_refl 1), hbit hv (Nat.zero_le 1), show bitOf 1 1 = false by decide, show bitOf 1 0 = true by decide,
      Bool.false_eq_true, if_false, if_true]

theorem vecMaskWrite_served {s : State} {n : Fin 256} (h : Reaches s 5) (v : Word) :
    let w := s.writeFields (Reg.CF_VEC n) v.toNat
    exec (.vecMaskWrite n v) s = .next (if w.rf (Reg.CF_VEC_MASK n) = 0 ∧ w.rf (Reg.CF_VEC_PENDING n) ≠ 0 then
      (w.wr (Reg.CF_VEC_PENDING n) 0).out (.irq n) else w) := by
  refine congrArg Host.Outcome.next ((hostWrite_served (cfVec_holder n) h _ _).trans ?_)
  simp only [State.rb, Bool.not_eq_true', bne_eq_false_iff_eq, bne_iff_ne, Bool.and_eq_true]

theorem ringCfgWrite_on {s : State} {r : Fin 1024} {v : Word} (h : Reaches s 3) (hv : bitOf v.toNat 31 = true) :
    (s.owner = true → s.rb (Reg.CF_RING_CFG_ENABLE r) = true →
        exec (.ringCfgWrite r v) s = .next (s.writeFields (Reg.CF_RING_CFG r) v.toNat).cfPrefetch.flSettle)
      ∧ (s.owner = false → exec (.ringCfgWrite r v) s = .next (s.rsvdCheck (Reg.CF_RING_CFG r) v.toNat).refuse) := by
  have hserve := serve_write (cfRingCfg_holder r) h
  change (_ → _ → execRingCfgWrite r v s = _) ∧ (_ → execRingCfgWrite r v s = _)
  refine ⟨fun ho he => ?_, fun ho => ?_⟩
  · simp only [execRingCfgWrite, hserve, hv, ho, he, Bool.not_true, Bool.and_false, Bool.false_eq_true, if_false, if_true]
  · simp only [execRingCfgWrite, hserve, hv, ho, Bool.not_false, Bool.and_true, if_true]

/-! Commands (R568, R583, R584). -/

/-- The state in which a command of the ring in turn has started, and its cost is taken from the turn. -/
def State.cmdStarted (s : State) (r left : Nat) (d : CfDesc) (i : Nat) (c : CfCmd) : State :=
  { s.setDesc r (some (d.setCmd i (fun y => { y with started := true }))) with
    cf.turn := some (r, left - if c.paid then 0 else 8 + c.bytes.length / 16) }

theorem cfStart_starts {s : State} {ty r left : Nat} {d : CfDesc} {i : Nat} {c : CfCmd} (h : Starts s ty r left d i c)
    (act : State → Nat → Nat → CfCmd → State) :
    s.cfStart ty act = ((((parseOn 4097 (act (s.cmdStarted r left d i c) r i c).cfSettle).turnTidy r).bufFetch r).cfSettle) := by
  obtain ⟨ho, hp, hh, ht, hd, hs, hc, hty⟩ := h
  unfold State.cfStart
  rw [if_neg (by rw [ho, hp, hh]; decide)]
  simp only [ht, hd, hs, hc, hty]
  exact if_neg (not_not.mpr rfl)

/-- A command whose effect under its conditions is the one stated. -/
theorem runsCommand_of {q : Instr} {s : State} {ty : Nat} {act f : State → Nat → Nat → CfCmd → State} {P : Nat → CfCmd → Prop}
    (hq : exec q s = .next (s.cfStart ty act).flSettle)
    (hf : ∀ r left d i c, c.ty = ty → P r c → act (s.cmdStarted r left d i c) r i c = f (s.cmdStarted r left d i c) r i c) :
    RunsCommand q s ty P f := by
  intro r left d i c hs hP
  rw [hq, cfStart_starts hs, hf r left d i c hs.2.2.2.2.2.2.2 hP]
  rfl

/-! Launches, tables and the partition table (R570 to R580). -/

theorem capSend_denied {x : State} {r : Nat} (h : x.ringOwner r ≠ 0) (i : Nat) (c : CfCmd) : x.capSend r i c = x.cmdDone r i 3 := if_pos h

theorem capSend_operator {x : State} {r : Nat} (h : x.ringOwner r = 0) (hf : x.inReset 0 = false) (i : Nat) (c : CfCmd) :
    x.capSend r i c = x.capTake r i c :=
  (if_neg (not_not.mpr h)).trans (if_neg (by rw [hf]; decide))

theorem capTake_setcap {c : CfCmd} (h : c.ty = 1) (hf : c.le 9 1 = 0) (x : State) (r i : Nat) : x.capTake r i c =
    let p := c.le 8 1
    let t := x.tableWrite p (fun y => (y.writeFields (Reg.BG_PART_CFG0 p) (c.le 12 2 * 2 ^ 16 + x.rf (Reg.BG_PART_CFG0_FLOOR p))).writeFields
      (Reg.BG_PART_CFG1 p) (x.rf (Reg.BG_PART_CFG1_ENABLE p) * 2 ^ 31 + x.rf (Reg.BG_PART_CFG1_WEIGHT p)))
    t.2.cmdDone r i (if t.1 then 0 else 5) := by
  simp only [State.capTake, h, hf, show bitOf 0 2 = false by decide, show bitOf 0 1 = false by decide, Bool.false_eq_true, if_false, if_true]

theorem capTake_setfloor {c : CfCmd} (h : c.ty = 2) (x : State) (r i : Nat) : x.capTake r i c =
    let p := c.le 8 1
    let t := x.tableWrite p (fun y => y.writeFields (Reg.BG_PART_CFG0 p) (x.rf (Reg.BG_PART_CFG0_CEILING p) * 2 ^ 16 + c.le 12 2))
    t.2.cmdDone r i (if t.1 then 0 else 5) := by
  simp only [State.capTake, h, show ¬ (2 = 1) by decide, if_false]

theorem twoUsec_val : 2 * usec = 2000 := rfl

theorem ringTurn_due {s : State} (ho : s.owner = true) (hp : s.polRuns = true) (hh : s.isl.hostDown = false) (ht : s.cf.turn = none) {k : Nat}
    (hk : s.turnOrder.find? s.turnDue = some k) : exec .ringTurn s =
      .next ((((parseOn 4097 { s with cf.turn := some (k, 2 * usec), cf.last := k }).turnTidy k).bufFetch k).cfPrefetch).flSettle := by
  refine congrArg Host.Outcome.next ((if_neg (by rw [ho, hp, hh, ht]; decide)).trans ?_)
  rw [hk]

theorem ringOwner_cmdStarted (s : State) (r left : Nat) (d : CfDesc) (i : Nat) (c : CfCmd) (k : Nat) :
    (s.cmdStarted r left d i c).ringOwner k = s.ringOwner k := rfl

theorem hCheck_cmdStarted (s : State) (r left : Nat) (d : CfDesc) (i : Nat) (c : CfCmd) (k h kind last : Nat) :
    (s.cmdStarted r left d i c).hCheck k h kind last = s.hCheck k h kind last := rfl

theorem holdsDuty_cmdStarted (s : State) (r left : Nat) (d : CfDesc) (i : Nat) (c : CfCmd) (k duty : Nat) :
    (s.cmdStarted r left d i c).holdsDuty k duty = s.holdsDuty k duty := rfl

theorem runsCommand_setcap {s : State} {ty : Nat} {q : Instr} (hq : exec q s = .next (s.cfStart ty State.capSend).flSettle) :
    RunsCommand q s ty (fun r _ => s.ringOwner r ≠ 0) (fun x r i _ => x.cmdDone r i 3) :=
  runsCommand_of hq fun _ _ _ _ _ _ hP => capSend_denied (by rw [ringOwner_cmdStarted]; exact hP) _ _

/-- Settles O47: each clause by what its command does under the clause's conditions. -/
theorem frontEndCommandsComplete : Obligations.FrontEndCommandsComplete := by
  intro s r v
  dsimp only
  refine ⟨fun h => ⟨congrArg Host.Outcome.next (hostWrite_served (cfRingTail_holder r) h _ _),
      fun hv => congrArg Host.Outcome.next ((hostWrite_served cfCtl_holder h _ _).trans (if_pos hv)),
      fun hk => ⟨fun hv => congrArg Host.Outcome.next ((ringCtl_keyed h hk).1 hv),
        fun hv => congrArg Host.Outcome.next ((ringCtl_keyed h hk).2 hv)⟩,
      fun ho he hv => (ringCfgWrite_on h hv).1 ho he, fun ho hv => (ringCfgWrite_on h hv).2 ho⟩,
    fun h n => vecMaskWrite_served h v, fun ho hp hh ht k hk => (ringTurn_due ho hp hh ht hk).trans (by rw [twoUsec_val]),
    fun bytes a d hd => ⟨fun ha hc hb => ?desc, fun ha => ?buf⟩,
    runsCommand_setcap rfl, runsCommand_setcap rfl,
    runsCommand_of rfl fun _ _ _ _ _ hty ⟨ho, hf, hl⟩ =>
      (capSend_operator (by rw [ringOwner_cmdStarted]; exact ho) (by exact hf) _ _).trans (capTake_setcap hty hl _ _ _),
    runsCommand_of rfl fun _ _ _ _ _ hty ⟨ho, hf⟩ =>
      (capSend_operator (by rw [ringOwner_cmdStarted]; exact ho) (by exact hf) _ _).trans (capTake_setfloor hty _ _ _),
    runsCommand_of rfl fun r left d i c _ ⟨hb, ht⟩ => ?load, runsCommand_of rfl fun _ _ _ _ _ _ _ => rfl,
    fun k hk => runsCommand_of rfl fun r left d i c _ ⟨hh, ho⟩ => ?profile, runsCommand_of rfl fun r left d i c _ h3 => ?signal,
    runsCommand_of rfl fun _ _ _ _ _ _ _ => rfl, runsCommand_of rfl fun r left d i c _ _ => ?chain,
    fun n k i h hp hl hc => ?publish, fun hp => ⟨congrArg Host.Outcome.next (if_pos hp), fun i n l hl => ?giveUp⟩, fun h => rfl⟩
  case desc =>
    change execDescriptorFetched r bytes true s = _
    simp only [execDescriptorFetched, ha, hd, hb, hc, Bool.not_true, Bool.false_eq_true, if_false]
  case buf =>
    change execBufferFetched r bytes true s = _
    simp only [execBufferFetched, ha, hd, Bool.not_true, Bool.false_eq_true, if_false]
  case load => simp only [hCheck_cmdStarted, hb, ht, ne_eq, not_true_eq_false, if_false]
  case profile =>
    have hown : ¬ (s.ringOwner r ≠ 0 ∧ c.le 16 1 + 1 ≠ s.ringOwner r) := fun hn => ho.elim hn.1 hn.2
    simp only [ringOwner_cmdStarted, holdsDuty_cmdStarted, hown, hh, hk, ne_eq, not_true_eq_false, if_false, if_true]
  case signal =>
    rw [h3]
    rfl
  case chain =>
    cases ((s.cmdStarted r left d i c).ring r).desc <;> rfl
  case publish =>
    change execTablePublish n s = _
    simp only [execTablePublish, hl, hp, hc, Bool.not_true, Bool.or_self, Bool.false_eq_true, if_false]
  case giveUp =>
    change execLaunchTimeout r i s = _
    simp only [execLaunchTimeout, hl, hp, Bool.not_true, Bool.false_eq_true, if_false]

end Sys2Proof.Machine
end
